-- ==== Sys2Proof/Word.lean ====
section
/-! DEFINITION. Words of the machine: bytes, 32-bit register words, 40-bit accumulators, and the plainest arithmetic on
them (signed reading, saturation, bounded parts of a number). -/

namespace Sys2Proof

abbrev Byte := BitVec 8
/-- A register word; every register is 32 bits wide (R4). -/
abbrev Word := BitVec 32
/-- A core accumulator, 40 bits (R372). -/
abbrev Acc40 := BitVec 40

/-- The w-bit two's-complement reading of a number. -/
def signed (w v : Nat) : Int :=
  if 2 ^ (w - 1) ≤ v % 2 ^ w then (v % 2 ^ w : Nat) - (2 ^ w : Nat) else (v % 2 ^ w : Nat)

/-- The w-bit two's-complement code of an integer. -/
def code (w : Nat) (i : Int) : Nat := (i % (2 ^ w : Nat)).toNat

/-- Saturation of an integer to the signed w-bit range. -/
def satS (w : Nat) (i : Int) : Int := max (-((2 ^ (w - 1) : Nat) : Int)) (min (((2 ^ (w - 1) : Nat) : Int) - 1) i)

/-- Saturation of an integer to the unsigned w-bit range. -/
def satU (w : Nat) (i : Int) : Nat := (max 0 (min (((2 ^ w : Nat) : Int) - 1) i)).toNat

/-- Integer division by 2^n rounded to nearest, halves away from minus infinity. -/
def shrRound (n : Nat) (i : Int) : Int := if n = 0 then i else (i + (2 ^ (n - 1) : Nat)) / (2 ^ n : Nat)

/-- Bit n of a number. -/
def bitOf (v n : Nat) : Bool := v.testBit n

/-- A Boolean as a one-bit number. -/
def b2n (b : Bool) : Nat := if b then 1 else 0

/-- The part of a number from bit lo up to bit hi. -/
def bits (v hi lo : Nat) : Nat := v / 2 ^ lo % 2 ^ (hi + 1 - lo)

/-- The number with the part from bit lo up to bit hi replaced. -/
def setBits (v hi lo x : Nat) : Nat :=
  v / 2 ^ (hi + 1) * 2 ^ (hi + 1) + x % 2 ^ (hi + 1 - lo) * 2 ^ lo + v % 2 ^ lo

/-- The members i below n of a bit mask. -/
def maskMembers (mask n : Nat) : List Nat := (List.range n).filter mask.testBit

/-- Replace the n-th element of a list, leaving a list that has none unchanged. -/
def setNth {α : Type} (l : List α) (n : Nat) (v : α) : List α := l.set n v

/-- Modify the n-th element of a list. -/
def modNth {α : Type} (l : List α) (n : Nat) (f : α → α) : List α := l.modify n f

/-- A 32-bit word from four bytes, least significant first. -/
def le32 : List Byte → Word
  | [a, b, c, d] => d ++ c ++ b ++ a
  | _ => 0

end Sys2Proof
end

