-- ==== Sys2Proof/Types.lean ====
section
/-! DEFINITION. Plain data that both the commands and the state speak of: link frames, complex samples and bits of a lane. -/

namespace Sys2Proof

/-- A link frame: the header fields of R132 and the payload bytes. -/
structure Frame where
  typ : Nat := 0
  vc : Nat := 0
  flags : Nat := 0
  hops : Nat := 0
  dst : Nat := 0
  src : Nat := 0
  seq : Nat := 0
  ts : Nat := 0
  payload : List Byte := []
deriving DecidableEq, Repr

/-- A complex sample as integers. -/
structure Cplx where
  re : Int := 0
  im : Int := 0
deriving DecidableEq, Repr, Inhabited

/-- A lane of a port and the bits received on it. -/
structure LaneBits where
  lane : Nat
  bits : List Bool
deriving DecidableEq, Repr

/-- The little-endian bytes of a number. -/
def leBytes : Nat → Nat → List Byte
  | 0, _ => []
  | n + 1, v => BitVec.ofNat 8 v :: leBytes n (v / 256)

/-- The number with the given little-endian bytes. -/
def ofLe : List Byte → Nat
  | [] => 0
  | b :: l => b.toNat + 256 * ofLe l

end Sys2Proof
end

