-- ==== Sys2Proof/Syntax.lean ====
section
/-! DEFINITION. The commands of the block: one constructor for each row of the table of operations and events, those with operands first.  Operands that the table does not fix
(DESIGN CHOICE, log entry 32): `agent` is the agent that makes an access (R443: 0 to 33 cores, 34 and 35 the hosts MP-A and MP-B); `issuer` the core that pushed
a command of a command table; `core`, `port`, `lane`, `path` and the like name a member of a group; words and fields are numbers as the registers hold them.
Core instructions carry the core that issues them and the fields of their word. -/

namespace Sys2Proof

/-- The commands of the block. -/
inductive Instr where
  /-- SLOT_BOUNDARY (R15, R16, R19): the next slot boundary of a leader core's grid passes. -/
  | slotBoundary (leader : Nat)
  /-- SYMBOL_BOUNDARY (R19, R22, R27): the nominal start of the next symbol of a carrier. -/
  | symbolBoundary (carrier : Nat)
  /-- STAGING_CUTOFF (R15, R16): the staging cut-off of a leader core passes. -/
  | stagingCutoff (leader : Nat)
  /-- SHD_COMMIT (R28, R33): an agent writes SHD_CTRL.COMMIT = 1 of a block. -/
  | shdCommit (agent : Nat) (blk : Nat)
  /-- SHD_DISCARD (R33): an agent writes SHD_CTRL.DISCARD = 1 of a block. -/
  | shdDiscard (agent : Nat) (blk : Nat)
  /-- REGISTER_WRITE (R4, R29): an agent writes a word to a register of the block windows. -/
  | registerWrite (agent : Nat) (addr : Nat) (value : Nat)
  /-- RESULT_DEADLINE (R10): a bulk result of a block for a slot was not written by its deadline. -/
  | resultDeadline (blk : Nat) (frame : Nat) (slot : Nat)
  /-- CMD_NOP (R18): the command NOP of a block with a command table executes and does nothing. -/
  | cmdNop (blk : Nat) (issuer : Nat) (carrier : Nat) (trig : Nat) (payload : List Word)
  /-- COMMIT (R22, R28): the command COMMIT arms the block's shadow at its trigger symbol. -/
  | commit (blk : Nat) (issuer : Nat) (carrier : Nat) (trig : Nat) (payload : List Word)
  /-- PUSH_COMPLETE (R423): the push that waits at a full crossing reaches its block. -/
  | pushComplete (core : Nat)
  /-- MODE_REQ (R47, R48, R71): an agent writes MODE_REQ.TARGET. -/
  | modeReq (agent : Nat) (target : Nat)
  /-- REST_REQ (R53): an agent writes REST_REQ.BUDGET. -/
  | restReq (agent : Nat) (budget : Nat)
  /-- REST_WAKE (R72): an agent writes REST_CTRL.WAKE = 1. -/
  | restWake (agent : Nat)
  /-- MICRO_REST_EXIT (R50): a converter leaves micro-rest 0.5 µs before its next work. -/
  | microRestExit (conv : Nat)
  /-- WAKE_START (R64, R67, R68): the wake table runs, with REFCLK there or not; `upsets` lists retained bytes that an upset changed, `ue` the addresses of
  uncorrectable words. -/
  | wakeStart (refclk : Bool) (upsets : List (Nat × Byte)) (ue : List Nat)
  /-- PAD_RELEASE (R61): an agent writes 1 to bits of PAD_CTRL.RELEASE, and leaves its other fields as they are. -/
  | padRelease (agent : Nat) (mask : Nat)
  /-- SUPPLY_DIP (R78): a rail dips below its threshold; `aon`: the always-on rail among them. -/
  | supplyDip (aon : Bool)
  /-- SW_RESET (R82): an agent writes SW_RESET.KEY. -/
  | swReset (agent : Nat) (key : Nat)
  /-- RESET_SEQUENCE (R85 to R87): the sequence after the release of reset, with REFCLK there or not. -/
  | resetSequence (refclk : Bool)
  /-- REFCLK_PRESENT (R68, R86): REFCLK appears after a sequence waited for it; `upsets` and `ue` as for a wake. -/
  | refclkPresent (upsets : List (Nat × Byte)) (ue : List Nat)
  /-- BOOT_GO (R90): an agent writes BOOT_CTRL.GO = 1. -/
  | bootGo (agent : Nat)
  /-- PORT_ENABLE (R107): an agent writes PORT_CTRL.EN = 1. -/
  | portEnable (agent : Nat) (port : Nat)
  /-- PORT_DISABLE (R121): an agent writes PORT_CTRL.EN = 0. -/
  | portDisable (agent : Nat) (port : Nat)
  /-- RETRAIN (R121): an agent writes PORT_CTRL.RETRAIN = 1 and leaves EN as it is. -/
  | retrain (agent : Nat) (port : Nat)
  /-- CAIRN_RECEIVED (R98 to R107): a cairn set arrives, with the line bits of each lane, the skew between lanes in UI and the fill of the elastic buffer above
  its centre; `full`: the fill reached an end. -/
  | cairnReceived (port : Nat) (lines : List (List Bool)) (skew : Nat) (fill : Int) (full : Bool)
  /-- READY (R107): READY comes from the partner. -/
  | ready (port : Nat)
  /-- CAIRN_MISSING (R104): a cairn is absent or bad on a lane. -/
  | cairnMissing (port : Nat) (lane : Nat)
  /-- LOS_TIMEOUT (R119): loss of signal has lasted 1 µs. -/
  | losTimeout (port : Nat)
  /-- TRAIN_TIMEOUT (R108): training has not reached UP in time. -/
  | trainTimeout (port : Nat)
  /-- SIGNAL_RETURN (R120): signal has been there on all lanes for PLUG_DEBOUNCE. -/
  | signalReturn (port : Nat)
  /-- TX_SLEEP (R110): an agent asks in SLEEP_CTRL for sleep of the outgoing direction. -/
  | txSleep (agent : Nat) (port : Nat)
  /-- RX_SLEEP (R110): an agent asks in SLEEP_CTRL for sleep of the incoming direction. -/
  | rxSleep (agent : Nat) (port : Nat)
  /-- TX_WAKE (R112): an agent asks in SLEEP_CTRL for a wake of the outgoing direction. -/
  | txWake (agent : Nat) (port : Nat)
  /-- RX_WAKE (R112): an agent asks in SLEEP_CTRL for a wake of the incoming direction. -/
  | rxWake (agent : Nat) (port : Nat)
  /-- SLEEP_REQ (R110): the partner asks to put its outgoing direction to sleep. -/
  | sleepReq (port : Nat)
  /-- SLEEP_ACK (R110): the partner agrees to the sleep asked for. -/
  | sleepAck (port : Nat)
  /-- SLEEP_ASK (R110): the partner asks this part to put its outgoing direction to sleep. -/
  | sleepAsk (port : Nat)
  /-- WAKE_REQ (R112): the partner asks for a wake of the direction towards it. -/
  | wakeReq (port : Nat)
  /-- DEEP_REQ (R117): the partner asks for the deep state. -/
  | deepReq (port : Nat)
  /-- DEEP_ACK (R117): the partner agrees to the deep state. -/
  | deepAck (port : Nat)
  /-- SLEEP_ACK_TIMEOUT (R110, R115): no answer came to a request within 10 µs. -/
  | sleepAckTimeout (port : Nat)
  /-- WAKE_PATTERN_DETECTED (R112): an idle receiver sees the wake pattern. -/
  | wakePatternDetected (port : Nat)
  /-- DIR_WAKE_FAIL (R114): no cairn came within 10 µs of the end of the wake pattern. -/
  | dirWakeFail (port : Nat)
  /-- DEEP_EXIT_TIMEOUT (R117): a deep exit reaches no lock within 180 µs. -/
  | deepExitTimeout (port : Nat)
  /-- INJ_BIT (R125, R569): an agent arms one inverted transmitted bit on a lane. -/
  | injBit (agent : Nat) (port : Nat) (lane : Nat)
  /-- INJ_STUFF (R125, R569): an agent arms one reported stuffing violation on a lane. -/
  | injStuff (agent : Nat) (port : Nat) (lane : Nat)
  /-- INJ_CAIRN_MISS (R125, R569): an agent arms four cairns taken as missing on a lane. -/
  | injCairnMiss (agent : Nat) (port : Nat) (lane : Nat)
  /-- FRAME_HEADER_RECEIVED (R132, R138, R139): the 128 bits of a header arrive. -/
  | frameHeaderReceived (port : Nat) (header : Nat)
  /-- FRAME_TAIL_RECEIVED (R140, R141): the tail of the frame in progress passes, after its payload. -/
  | frameTailReceived (port : Nat) (payload : List Byte) (tail : Nat)
  /-- OUTPUT_FRAME_END (R143): an output finishes its frame and chooses the next. -/
  | outputFrameEnd (output : Nat)
  /-- CREDIT (R145): cumulative credits per VC arrive on a port. -/
  | credit (port : Nat) (cum : List Nat)
  /-- CREDIT_SEND (R145): a receiver announces its freed credits. -/
  | creditSend (port : Nat)
  /-- MREQ (R147): a memory request is served and answered with an MRSP. -/
  | mreq (port : Nat) (src : Nat) (seq : Nat) (payload : List Byte)
  /-- BULK_WRITE (R149): a bulk frame with OP WRITE. -/
  | bulkWrite (port : Nat) (src : Nat) (seq : Nat) (addr : Nat) (xid : Nat) (data : List Byte)
  /-- BULK_WRITE_ACK (R149): a bulk frame with OP WRITE_ACK. -/
  | bulkWriteAck (port : Nat) (src : Nat) (seq : Nat) (addr : Nat) (xid : Nat) (data : List Byte)
  /-- BOND_STATE (R154): the partner announces the active members of a bond and the cairn sets until the change. -/
  | bondState (port : Nat) (mask : Nat) (dist : Nat)
  /-- RING_BREAK (R163): a break of the ring at a device is announced on a port. -/
  | ringBreak (port : Nat) (addr : Nat)
  /-- PSUM (R158, R160): a partial-sum frame arrives as a term of a key. -/
  | psum (port : Nat) (frame : Frame) (poison : Bool)
  /-- LOCAL_BLOCK_READY (R158, R332, R338): the own block of a key is ready: a part of an uplink symbol, or of the Gram stream. -/
  | localBlockReady (carrier : Nat) (sym : Nat) (part : Nat) (gram : Bool)
  /-- CAPTURE (R174): an agent writes CAP_CTRL.CAPTURE = 1 of a host's bank. -/
  | capture (agent : Nat) (host : Nat)
  /-- TB_WRAP (R173): a time base passes from 0xFFFF_FFFF to 0. -/
  | tbWrap (base : Nat)
  /-- TB_HALF (R173): a time base passes 0x8000_0000. -/
  | tbHalf (base : Nat)
  /-- TB_STEP (R175): an agent writes a signed step in ns, as a 32-bit word. -/
  | tbStep (agent : Nat) (base : Nat) (step : Nat)
  /-- TB_TALLY_SET (R175): an agent replaces a base's wrap tally. -/
  | tbTallySet (agent : Nat) (base : Nat) (tally : Nat)
  /-- TB_DISC_MODE (R179, R194): an agent writes TB_DISC.MODE and leaves the other fields as they are. -/
  | tbDiscMode (agent : Nat) (base : Nat) (mode : Nat)
  /-- SYNC_SEND (R178): a master sends a SYNC of a base on a port. -/
  | syncSend (base : Nat) (port : Nat)
  /-- SYNC (R176 to R178): a SYNC arrives with the master's stamp t1 in 1/16 ns, servo state and stratum. -/
  | sync (base : Nat) (port : Nat) (exch : Nat) (t1 : Nat) (state : Nat) (stratum : Nat)
  /-- DELAY_REQ (R178): a DELAY_REQ arrives. -/
  | delayReq (base : Nat) (port : Nat) (exch : Nat)
  /-- DELAY_RESP (R178, R179): a DELAY_RESP arrives with the master's stamp t4 in 1/16 ns. -/
  | delayResp (base : Nat) (port : Nat) (exch : Nat) (t4 : Nat)
  /-- TL_ARM (R181): an agent writes TL_CTRL.ARM = 1. -/
  | tlArm (agent : Nat)
  /-- TL_CLEAR (R181): an agent writes TL_CTRL.CLEAR = 1. -/
  | tlClear (agent : Nat)
  /-- SYNC_IN_EDGE (R187): an edge of SYNC_IN, measured in ps against the grid; `mark`: its pulse marks a frame. -/
  | syncInEdge (raw : Int) (mark : Bool)
  /-- NL_DETECT (R189 to R192): the network-listen receiver correlates the samples of both aerials at the ADC rate up to an instant, and those before them that its filters
  still hold. -/
  | nlDetect (beforeA : List Nat) (beforeB : List Nat) (samplesA : List Nat) (samplesB : List Nat) (instant : Nat)
  /-- NL_WINDOW_END (R190): a TRACK window ends, with its detection, which may stand in the samples of both aerials up to its end, as a miss or as a skip. -/
  | nlWindowEnd (samplesA : List Nat) (samplesB : List Nat)
  /-- RX_SYM (R218, R220 to R222): the command captures symbols of the named paths. -/
  | rxSym (issuer : Nat) (carrier : Nat) (trig : Nat) (payload : List Word)
  /-- GAIN_SET (R219): the command sets the attenuation of the named paths. -/
  | gainSet (issuer : Nat) (carrier : Nat) (trig : Nat) (payload : List Word)
  /-- RX_SYMBOL_END (R197, R207, R211 to R224): a symbol of a path and carrier ends, with the ADC codes before, of and behind it; `fault`: a memory of RXP failed in it. -/
  | rxSymbolEnd (path : Nat) (carrier : Nat) (before : List Int) (codes : List Int) (behind : List Int) (fault : Bool)
  /-- LAYER_BLOCK_RECEIVED (R234): a VC1 layer-data block arrives. -/
  | layerBlockReceived (data : List Byte)
  /-- LAYER_FETCH (R235, R236): the mapper fetches the blocks of a carrier's next symbol. -/
  | layerFetch (carrier : Nat)
  /-- LAYER_MAP (R238): the command maps a layer's data. -/
  | layerMap (issuer : Nat) (carrier : Nat) (trig : Nat) (payload : List Word)
  /-- TX_SYM (R261): the command makes the named paths transmit the carrier. -/
  | txSym (issuer : Nat) (carrier : Nat) (trig : Nat) (payload : List Word)
  /-- FAULT_CLR (R257): an agent writes P_CTRL.FAULT_CLR = 1 of TXP. -/
  | faultClr (agent : Nat) (path : Nat)
  /-- MLOG_POP (R267): an agent reads MLOG_ENTRY3. -/
  | mlogPop (agent : Nat)
  /-- DPD_SWAP (R277, R278): the command swaps the coefficient banks of the named paths. -/
  | dpdSwap (issuer : Nat) (carrier : Nat) (trig : Nat) (payload : List Word)
  /-- SWAP (R277): an agent writes P_CTRL.SWAP = 1 of DPD. -/
  | swap (agent : Nat) (path : Nat)
  /-- ORX_CAPTURE_END (R284 to R290): a capture window ends, with its peak code, the observed samples, the drive and the neighbours' drives. -/
  | orxCaptureEnd (orx : Nat) (peak : Nat) (observed : List Cplx) (drive : List Cplx) (neighbours : List (List Cplx))
  /-- CTX_OPEN (R301): an agent opens a context; `nports` is the field NPORTS. -/
  | ctxOpen (agent : Nat) (user : Nat) (carrier : Nat) (nports : Nat)
  /-- CTX_CLOSE (R302): an agent closes a context. -/
  | ctxClose (agent : Nat) (index : Nat)
  /-- ENGINE_BOUNDARY (R296, R305 to R310): an engine boundary passes; `late` names the jobs of the batch that are not complete. -/
  | engineBoundary (late : List Nat)
  /-- SND (R303): the command captures the named sounding ports. -/
  | snd (issuer : Nat) (carrier : Nat) (trig : Nat) (payload : List Word)
  /-- DL_SCHED (R318, R320): the command assigns a downlink layer. -/
  | dlSched (issuer : Nat) (carrier : Nat) (trig : Nat) (payload : List Word)
  /-- UL_SCHED (R319, R320): the command assigns an uplink layer. -/
  | ulSched (issuer : Nat) (carrier : Nat) (trig : Nat) (payload : List Word)
  /-- WEIGHT_INSTANT (R322, R324, R345): the weight instant of an engine slot passes; `late` names the sounding jobs that are not complete. -/
  | weightInstant (late : List Nat)
  /-- WEIGHT_DEADLINE (R330): a weight deadline passes; `late` names the (carrier, group) pairs that are not complete. -/
  | weightDeadline (uplink : Bool) (late : List (Nat × Nat))
  /-- CORE_FRAME (R335): a VC5 core frame arrives. -/
  | coreFrame (payload : List Byte) (poison : Bool)
  /-- TRIM_LOG_POP (R349): an agent reads TRIM_LOG. -/
  | trimLogPop (agent : Nat)
  /-- RA_OCC (R351, R352): the command opens a random-access occasion. -/
  | raOcc (issuer : Nat) (carrier : Nat) (trig : Nat) (payload : List Word)
  /-- OCCASION_QUEUED (R361): the last window of an occasion ends, with the samples of each search slot and path. -/
  | occasionQueued (data : List (List (List Cplx)))
  /-- CORE_RESET (R391, R393): an agent writes C_CTRL.RESET = 1 and leaves VETO as it is. -/
  | coreReset (agent : Nat) (core : Nat)
  /-- CORE_RESET_DONE (R393): the wipe of a core's data memory ends. -/
  | coreResetDone (core : Nat)
  /-- CORE_STOP (R391): an agent writes C_CTRL.STOP = 1 and leaves VETO as it is. -/
  | coreStop (agent : Nat) (core : Nat)
  /-- CORE_START (R391): an agent writes C_CTRL.START = 1 and leaves VETO as it is. -/
  | coreStart (agent : Nat) (core : Nat)
  /-- CORE_STEP (R391): an agent writes C_CTRL.STEP = 1 and leaves VETO as it is. -/
  | coreStep (agent : Nat) (core : Nat)
  /-- CORE_KICK (R388): an agent writes C_CTRL.KICK = 1 and leaves VETO as it is. -/
  | coreKick (agent : Nat) (core : Nat)
  /-- CORE_SOFT (R382): an agent writes C_CTRL.SOFT = 1 and leaves VETO as it is. -/
  | coreSoft (agent : Nat) (core : Nat)
  /-- ACCESS_COMPLETE (R369): the non-local access that holds a core completes. -/
  | accessComplete (core : Nat)
  /-- INTERRUPT_ENTRY (R383): a pending source of a core is taken. -/
  | interruptEntry (core : Nat)
  /-- ADD (R404): rd := ra + rb. -/
  | iAdd (core : Nat) (rd : Nat) (ra : Nat) (rb : Nat)
  /-- SUB (R404): rd := ra - rb. -/
  | iSub (core : Nat) (rd : Nat) (ra : Nat) (rb : Nat)
  /-- AND (R404): bitwise AND. -/
  | iAnd (core : Nat) (rd : Nat) (ra : Nat) (rb : Nat)
  /-- OR (R404): bitwise OR. -/
  | iOr (core : Nat) (rd : Nat) (ra : Nat) (rb : Nat)
  /-- XOR (R404): bitwise XOR. -/
  | iXor (core : Nat) (rd : Nat) (ra : Nat) (rb : Nat)
  /-- SHL (R404): shift left. -/
  | iShl (core : Nat) (rd : Nat) (ra : Nat) (rb : Nat)
  /-- SHR (R404): logical shift right. -/
  | iShr (core : Nat) (rd : Nat) (ra : Nat) (rb : Nat)
  /-- ASR (R404): arithmetic shift right. -/
  | iAsr (core : Nat) (rd : Nat) (ra : Nat) (rb : Nat)
  /-- MIN (R404): signed minimum. -/
  | iMin (core : Nat) (rd : Nat) (ra : Nat) (rb : Nat)
  /-- MAX (R404): signed maximum. -/
  | iMax (core : Nat) (rd : Nat) (ra : Nat) (rb : Nat)
  /-- ABS (R404): absolute value. -/
  | iAbs (core : Nat) (rd : Nat) (ra : Nat) (rb : Nat)
  /-- CMP (R404): flags of ra - rb. -/
  | iCmp (core : Nat) (rd : Nat) (ra : Nat) (rb : Nat)
  /-- TST (R404): flags of ra AND rb. -/
  | iTst (core : Nat) (rd : Nat) (ra : Nat) (rb : Nat)
  /-- MUL16 (R404): exact product of the low halves. -/
  | iMul16 (core : Nat) (rd : Nat) (ra : Nat) (rb : Nat)
  /-- NORM (R404): count of redundant sign bits. -/
  | iNorm (core : Nat) (rd : Nat) (ra : Nat) (rb : Nat)
  /-- CADD (R404): packed complex sum. -/
  | iCadd (core : Nat) (rd : Nat) (ra : Nat) (rb : Nat)
  /-- CSUB (R404): packed complex difference. -/
  | iCsub (core : Nat) (rd : Nat) (ra : Nat) (rb : Nat)
  /-- CONJ (R404): packed conjugate. -/
  | iConj (core : Nat) (rd : Nat) (ra : Nat) (rb : Nat)
  /-- ASET (R404): accumulator from a register. -/
  | iAset (core : Nat) (rd : Nat) (ra : Nat) (rb : Nat)
  /-- AADD (R404): sum of accumulators. -/
  | iAadd (core : Nat) (rd : Nat) (ra : Nat) (rb : Nat)
  /-- ASUB (R404): difference of accumulators. -/
  | iAsub (core : Nat) (rd : Nat) (ra : Nat) (rb : Nat)
  /-- ASHR (R404): accumulator shift. -/
  | iAshr (core : Nat) (rd : Nat) (ra : Nat) (rb : Nat)
  /-- ANEG (R404): accumulator negation. -/
  | iAneg (core : Nat) (rd : Nat) (ra : Nat) (rb : Nat)
  /-- MOVR (R402, R405): copy of a register, by 6-bit codes. -/
  | iMovr (core : Nat) (dst : Nat) (src : Nat)
  /-- ADDI (R406): signed immediate; IMM14 as its 14 bits. -/
  | iAddi (core : Nat) (rd : Nat) (ra : Nat) (imm : Nat)
  /-- ANDI (R406): zero-extended immediate; IMM14 as its 14 bits. -/
  | iAndi (core : Nat) (rd : Nat) (ra : Nat) (imm : Nat)
  /-- ORI (R406): zero-extended immediate; IMM14 as its 14 bits. -/
  | iOri (core : Nat) (rd : Nat) (ra : Nat) (imm : Nat)
  /-- XORI (R406): zero-extended immediate; IMM14 as its 14 bits. -/
  | iXori (core : Nat) (rd : Nat) (ra : Nat) (imm : Nat)
  /-- SHLI (R406): shift left; IMM14 as its 14 bits. -/
  | iShli (core : Nat) (rd : Nat) (ra : Nat) (imm : Nat)
  /-- SHRI (R406): logical shift right; IMM14 as its 14 bits. -/
  | iShri (core : Nat) (rd : Nat) (ra : Nat) (imm : Nat)
  /-- ASRI (R406): arithmetic shift right; IMM14 as its 14 bits. -/
  | iAsri (core : Nat) (rd : Nat) (ra : Nat) (imm : Nat)
  /-- CMPI (R406): flags of ra minus the signed immediate; IMM14 as its 14 bits. -/
  | iCmpi (core : Nat) (rd : Nat) (ra : Nat) (imm : Nat)
  /-- LUI (R406): the immediate to the upper half. -/
  | iLui (core : Nat) (dst : Nat) (imm : Nat)
  /-- LLI (R406): the immediate to the lower half. -/
  | iLli (core : Nat) (dst : Nat) (imm : Nat)
  /-- PADDI (R406): a signed immediate added to a pointer. -/
  | iPaddi (core : Nat) (p : Nat) (imm : Nat)
  /-- MOVI (R406): the sign-extended immediate. -/
  | iMovi (core : Nat) (dst : Nat) (imm : Nat)
  /-- CMAC (R407, R408): complex product accumulated in pair k, operands by their 10-bit specs. -/
  | iCmac (core : Nat) (k : Nat) (cj : Bool) (ng : Bool) (x : Nat) (y : Nat)
  /-- RMAC2 (R407, R408): two real products accumulated in pair k, operands by their 10-bit specs. -/
  | iRmac2 (core : Nat) (k : Nat) (cj : Bool) (ng : Bool) (x : Nat) (y : Nat)
  /-- CMUL (R407, R408): complex product in pair k, operands by their 10-bit specs. -/
  | iCmul (core : Nat) (k : Nat) (cj : Bool) (ng : Bool) (x : Nat) (y : Nat)
  /-- RMUL2 (R407, R408): two real products in pair k, operands by their 10-bit specs. -/
  | iRmul2 (core : Nat) (k : Nat) (cj : Bool) (ng : Bool) (x : Nat) (y : Nat)
  /-- LOAD (R409): width code, sign extension, register, pointer, mode and argument. -/
  | iLoad (core : Nat) (w : Nat) (sx : Bool) (g : Nat) (p : Nat) (mode : Nat) (arg : Nat)
  /-- STORE (R409): width code, register, pointer, mode and argument. -/
  | iStore (core : Nat) (w : Nat) (g : Nat) (p : Nat) (mode : Nat) (arg : Nat)
  /-- DUAL_ACCESS (R410): two 32-bit accesses, each with its direction, register, pointer and update. -/
  | iDualAccess (core : Nat) (xst : Bool) (yst : Bool) (gx : Nat) (px : Nat) (ux : Nat) (gy : Nat) (py : Nat) (uy : Nat)
  /-- MVW (R411): an accumulator scaled and saturated to a register. -/
  | iMvw (core : Nat) (rd : Nat) (a : Nat)
  /-- MVP (R411): an accumulator pair as a packed value. -/
  | iMvp (core : Nat) (rd : Nat) (a : Nat)
  /-- BLKEND (R386): closes a block and sets the next block shift. -/
  | iBlkend (core : Nat)
  /-- BRANCH (R412, R413): a conditional branch with two delay slots; the offset as its 22 bits. -/
  | iBranch (core : Nat) (cond : Nat) (off : Nat)
  /-- CALL (R413): LINK is written and the core branches. -/
  | iCall (core : Nat) (cond : Nat) (off : Nat)
  /-- RETURN (R413): a jump to LINK. -/
  | iReturn (core : Nat) (cond : Nat)
  /-- JUMP_REGISTER (R413): a jump to the address in a register. -/
  | iJumpRegister (core : Nat) (cond : Nat) (g : Nat)
  /-- RPT (R381, R414): the next instruction is repeated COUNT times. -/
  | iRpt (core : Nat) (count : Nat)
  /-- RPTR (R414): a repeat with its count in a register. -/
  | iRptr (core : Nat) (g : Nat)
  /-- LOOP (R415, R416): a loop level is armed with a count. -/
  | iLoop (core : Nat) (lvl : Nat) (endw : Nat) (count : Nat)
  /-- LOOPR (R415, R416): a loop level is armed with its count in a register. -/
  | iLoopr (core : Nat) (lvl : Nat) (endw : Nat) (g : Nat)
  /-- SEND (R417, R447 to R450): a message to an agent's inbox, with one status. -/
  | iSend (core : Nat) (gs : Nat) (ga : Nat) (gb : Nat)
  /-- RECV (R417, R451): the oldest message, or EMPTY. -/
  | iRecv (core : Nat) (gs : Nat) (ga : Nat)
  /-- RECVW (R417, R419): the oldest message, waiting for one. -/
  | iRecvw (core : Nat) (gs : Nat) (ga : Nat)
  /-- RING (R417, R452): rings an agent's doorbell. -/
  | iRing (core : Nat) (gs : Nat) (gb : Nat)
  /-- ACQ (R417, R458, R459): acquires a semaphore, waiting in its queue. -/
  | iAcq (core : Nat) (gs : Nat) (n : Nat)
  /-- TRYACQ (R417, R457): acquires a semaphore only if it is free. -/
  | iTryacq (core : Nat) (gs : Nat) (n : Nat)
  /-- REL (R417, R460): releases a semaphore. -/
  | iRel (core : Nat) (gs : Nat) (n : Nat)
  /-- BAR (R417, R420): arrives at a barrier and waits for its other members. -/
  | iBar (core : Nat) (gs : Nat) (n : Nat)
  /-- PUSH (R18 to R21, R422, R423): a command image to a block's table; `full`: the command crossing has no room. -/
  | iPush (core : Nat) (blk : Nat) (lsel : Nat) (gs : Nat) (gh : Nat) (p : Nat) (full : Bool)
  /-- SEAL (R15, R424, R599): seals the leader's staging tables. -/
  | iSeal (core : Nat) (lsel : Nat) (gs : Nat)
  /-- WSLOT (R425): waits for the next slot boundary of a leader's grid. -/
  | iWslot (core : Nat) (lsel : Nat)
  /-- WSYM (R425): waits for the start of a symbol. -/
  | iWsym (core : Nat) (gs : Nat) (sym : Nat) (lsel : Nat)
  /-- TTGT (R425): SLOT_STATUS of the leader. -/
  | iTtgt (core : Nat) (g : Nat) (lsel : Nat)
  /-- TNOW (R425): the present frame, slot and symbol. -/
  | iTnow (core : Nat) (g : Nat) (lsel : Nat)
  /-- NOP (R426): does nothing. -/
  | iNop (core : Nat)
  /-- RETI (R383, R426): PC and SR come back from the save slot of the current level. -/
  | iReti (core : Nat)
  /-- KICK (R388, R426): the watchdog count becomes 0. -/
  | iKick (core : Nat)
  /-- STOP (R391, R426): the core stops. -/
  | iStop (core : Nat)
  /-- EI (R426): maskable interrupts are enabled. -/
  | iEi (core : Nat)
  /-- DI (R426): maskable interrupts are disabled. -/
  | iDi (core : Nat)
  /-- VETO (R426): the core's rest veto is set or cleared. -/
  | iVeto (core : Nat) (v : Bool)
  /-- BRK (R426): the core stops at itself; ILLEGAL in Deployed. -/
  | iBrk (core : Nat)
  /-- WAIT_TIMEOUT (R462): an agent's WAIT_TMO expires. -/
  | waitTimeout (agent : Nat)
  /-- ARB_REQUEST (R432, R433, R436): a request of a requester reaches ARB, at a cycle of the arbiter. -/
  | arbRequest (id : Nat) (addr : Nat) (write : Bool) (realTime : Bool) (beats : Nat) (cycle : Nat)
  /-- BURST_BOUNDARY (R434, R435, R440): a bank reaches a burst boundary. -/
  | burstBoundary (bank : Nat) (cycle : Nat)
  /-- STARVE (R439): the ages of a bank's waiting requests pass their thresholds. -/
  | starve (bank : Nat) (cycle : Nat)
  /-- POST_CMD (R437): an agent writes POST_CMD of an agent's copy. -/
  | postCmd (agent : Nat) (owner : Nat) (word : Nat)
  /-- POST_COMPLETE (R438): a posted transfer in flight of an agent completes. -/
  | postComplete (agent : Nat) (index : Nat)
  /-- COMP_POP (R438, R445): an agent reads COMP_POP of an agent's copy. -/
  | compPop (agent : Nat) (owner : Nat)
  /-- LFSR_SEED (R442): an agent writes the seed of the lottery. -/
  | lfsrSeed (agent : Nat) (seed : Nat)
  /-- HOST_SEND (R447 to R450, R467): a host writes SEND_CMD. -/
  | hostSend (agent : Nat) (host : Nat) (word : Nat)
  /-- HOST_RECV (R451, R467): RECV_META of a host's copy is read. -/
  | hostRecv (agent : Nat) (host : Nat)
  /-- DB_RING (R452, R467): a host writes DB_RING. -/
  | dbRing (agent : Nat) (host : Nat) (target : Nat)
  /-- HOST_RESTART (R454, R467): a host writes HOST_CTRL.RESTART = 1. -/
  | hostRestart (agent : Nat) (host : Nat)
  /-- POOL_REGISTER (R455): an agent sets VALID of a pool with its SIZE. -/
  | poolRegister (agent : Nat) (owner : Nat) (pool : Nat) (size : Nat)
  /-- POOL_RELEASE (R456): an agent writes RELEASE = 1 of a pool. -/
  | poolRelease (agent : Nat) (owner : Nat) (pool : Nat)
  /-- HOST_ACQ (R458, R459, R472): a host acquires a semaphore with WAIT = 1. -/
  | hostAcq (agent : Nat) (host : Nat) (sem : Nat)
  /-- HOST_TRYACQ (R457, R472): a host acquires a semaphore with WAIT = 0. -/
  | hostTryacq (agent : Nat) (host : Nat) (sem : Nat)
  /-- HOST_REL (R460, R472): a host releases a semaphore. -/
  | hostRel (agent : Nat) (host : Nat) (sem : Nat)
  /-- BREAK (R461): an agent writes BREAK; only a host may. -/
  | breakSem (agent : Nat) (sem : Nat)
  /-- CAL_FULL (R480): an agent writes CAL_CTRL.FULL = 1. -/
  | calFull (agent : Nat)
  /-- CAL_RUN (R482): the command runs an in-service calibration. -/
  | calRun (issuer : Nat) (carrier : Nat) (trig : Nat) (payload : List Word)
  /-- CAL_RESULT (R479, R483 to R485): a path-run completes with its values, or fails with a code. -/
  | calResult (kind : Nat) (path : Nat) (fail : Nat) (value : List Int)
  /-- RELOAD (R475, R479): an agent writes CAL_CTRL.RELOAD = 1. -/
  | reload (agent : Nat)
  /-- PLAN_SWITCH (R491, R492): an agent writes PLAN_SWITCH. -/
  | planSwitch (agent : Nat) (word : Nat)
  /-- SYNTH_CAL_DONE (R490): a full synthesiser calibration completes with its band, trim and residual. -/
  | synthCalDone (band : Nat) (trim : Nat) (residual : Nat)
  /-- CANCEL (R491): an agent writes CLK_CTRL.CANCEL = 1. -/
  | cancel (agent : Nat)
  /-- CLK_SAVE (R490): an agent writes CLK_CTRL.SAVE = 1. -/
  | clkSave (agent : Nat)
  /-- CLK_CAL (R490): an agent writes CLK_CTRL.CAL = 1. -/
  | clkCal (agent : Nat)
  /-- BIAS_WRITE (R500 to R502): an agent writes BIASn. -/
  | biasWrite (agent : Nat) (dac : Nat) (word : Nat)
  /-- BIAS_HOLD_RELEASE (R501): a hold of a bias DAC ends. -/
  | biasHoldRelease (dac : Nat)
  /-- COEX_REQ_EDGE (R503): COEX_REQn is asserted before a run, or deasserted at its end. -/
  | coexReqEdge (port : Nat) (rise : Bool)
  /-- COEX_GNT_SAMPLE (R504): COEX_GNTn is sampled 1.0 µs before a symbol of a carrier. -/
  | coexGntSample (port : Nat) (carrier : Nat) (level : Bool)
  /-- REG_SAVE (R505): an agent writes REG_CTRL.SAVE = 1. -/
  | regSave (agent : Nat)
  /-- SENSOR_READING (R517 to R527): a sensor is read; the value in 1/16 °C. -/
  | sensorReading (sensor : Nat) (value : Int)
  /-- FAIL_CLR (R526): an agent writes S_CTRL.FAIL_CLR = 1 and leaves the other fields as they are. -/
  | failClr (agent : Nat) (sensor : Nat)
  /-- AON_SENSOR_READING (R528, R529): the AON comparator reads its sensor; the value in 1/16 °C. -/
  | aonSensorReading (value : Int)
  /-- THM_INJ_SHDN (R531): an agent writes THM_INJ.SHDN = 1 for a sensor. -/
  | thmInjShdn (agent : Nat) (sensor : Nat)
  /-- THM_INJ_FAIL (R531): an agent writes THM_INJ.FAIL = 1 for a sensor. -/
  | thmInjFail (agent : Nat) (sensor : Nat)
  /-- THM_INJ_OFS (R531): an agent writes THM_INJ.OFS for a sensor, as its 8 bits. -/
  | thmInjOfs (agent : Nat) (sensor : Nat) (ofs : Nat)
  /-- HK_CONVERSION_DONE (R535 to R542): a conversion completes with its codes (the second of a pair or a chopped one). -/
  | hkConversionDone (conv : Nat) (codeA : Int) (codeB : Int)
  /-- HARVEST (R538): an agent reads HARVESTk. -/
  | harvest (agent : Nat) (acc : Nat)
  /-- URGENT_REQUEST (R542): a requester asks for an urgent conversion. -/
  | urgentRequest (source : Nat)
  /-- HK_INJ (R541): an agent writes HK_INJ.OFS, as its 8 bits. -/
  | hkInj (agent : Nat) (ofs : Nat)
  /-- NVM_CMD (R555): an agent writes NVM_CMD. -/
  | nvmCmd (agent : Nat) (record : Nat) (length : Nat)
  /-- LC_REQ (R558, R559): an agent writes LC_REQ. -/
  | lcReq (agent : Nat) (key : Nat) (target : Nat)
  /-- NVM_INJ_TORN (R564): an agent writes NVM_INJ.TORN = 1. -/
  | nvmInjTorn (agent : Nat)
  /-- INJ_ARM (R569): an agent writes INJ_ARM. -/
  | injArm (agent : Nat) (key : Nat) (time : Nat)
  /-- DISARM (R569): an agent writes INJ_STATUS.DISARM = 1. -/
  | disarm (agent : Nat)
  /-- INJ_CMD (R569, R570): an agent writes INJ_CMD. -/
  | injCmd (agent : Nat) (word : Nat)
  /-- OC_MONITOR_TICK (R566): an overcurrent monitor asks for its conversion. -/
  | ocMonitorTick (monitor : Nat)
  /-- SPI_WRITE (R590): a write transaction delivers words into the buffer. -/
  | spiWrite (addr : Nat) (data : List Byte)
  /-- SPI_READ (R590): a read transaction of `count` words. -/
  | spiRead (addr : Nat) (count : Nat)
  /-- MGMT_WRITE (R592): a write transaction on the management bus to a 7-bit address. -/
  | mgmtWrite (device : Nat) (addr : Nat) (data : List Byte)
  /-- MGMT_READ (R592): a read transaction of `count` words on the management bus. -/
  | mgmtRead (device : Nat) (addr : Nat) (count : Nat)
  /-- EXTEST (R593): the boundary register drives the pads; `pads` are the levels captured. -/
  | extest (pads : Nat)
  /-- SAMPLE_PRELOAD (R593): the pads are sampled and the boundary register takes what is shifted in. -/
  | samplePreload (pads : Nat) (shift : Nat)
  /-- DBGACC (R560, R593): one access as MP-B; BYPASS in Deployed. -/
  | dbgacc (write : Bool) (addr : Nat) (bytes : Nat) (data : Nat)
  /-- SIGNAL_CHANGE (R119, R120): the lanes with signal become those of `present`. -/
  | signalChange (port : Nat) (present : Nat)
  /-- CHECKER_LOCK (R123): bits arrive at the pattern checker of a lane, which locks when the last 64 of them are correct. -/
  | checkerLock (port : Nat) (lane : LaneBits)
  /-- PAT_ERR (R123): a wrong bit arrives at a locked checker, `gap` correct bits after the last wrong one. -/
  | patErr (port : Nat) (lane : Nat) (gap : Nat)
  /-- RESERVED_ENCODING (R401): a core issues a word whose class or operation is reserved. -/
  | reservedEncoding (core : Nat) (word : Nat)
  /-- MODE_TRANSITION_APPLY (R47, R49): a pending mode transition takes effect. -/
  | modeTransitionApply
  /-- BASECAMP_EXIT_DONE (R49): 120 µs after Base camp was left. -/
  | basecampExitDone
  /-- PREPARE_START (R55): the prepare phase of a rest entry starts. -/
  | prepareStart
  /-- PARTICIPANT_ANSWER (R55, R56): the participant that was asked agrees or refuses. -/
  | participantAnswer
  /-- PREP_TIMEOUT (R55): the participant that was asked has not answered in time. -/
  | prepTimeout
  /-- REST_ENTRY_COMPLETE (R55, R59 to R63): a committed rest entry completes. -/
  | restEntryComplete
  /-- LEDGE_DECISION (R51): 2.0 µs before a slot boundary the groups without work are found. -/
  | ledgeDecision
  /-- LEDGE_EXIT (R51): groups leave Ledge 2.0 µs before their next slot with work. -/
  | ledgeExit
  /-- MGMT_ADDR_MATCH (R65): the matcher sees MGMT_ADDR on the management bus. -/
  | mgmtAddrMatch
  /-- WAKE_REFCLK_TIMEOUT (R68): REFCLK has not come within 10 ms of a wake. -/
  | wakeRefclkTimeout
  /-- POR_RELEASE (R78): the power-on reset releases. -/
  | porRelease
  /-- RESET_PIN (R82, R83): RESET_N is held low. -/
  | resetPin
  /-- RESET_APPLY (R83, R84): the reset is applied once the NVM word in flight is written. -/
  | resetApply
  /-- BOOT_VERIFY_DONE (R89, R90, R562): the verification of an image ends. -/
  | bootVerifyDone
  /-- BULK_ACK (R149): a bulk ACK is dropped without a count. -/
  | bulkAck
  /-- PSUM_HOLD_INSTANT (R159): the hold instant of the first waiting key passes. -/
  | psumHoldInstant
  /-- EXCHANGE_TIMEOUT (R178): the exchange open longest is not complete 1 ms after t2. -/
  | exchangeTimeout
  /-- SYNC_MISS (R178, R179): the SYNC expected first has not come by its instant. -/
  | syncMiss
  /-- TL_STARTED (R182, R600): the followed base reaches the armed start. -/
  | tlStarted
  /-- TIMELINE_RESUME (R49, R182): RUN resumes from COAST. -/
  | timelineResume
  /-- ALT_MEASURE (R184): TIM measures the ALT base against the timeline. -/
  | altMeasure
  /-- GRID_MS_BOUNDARY (R186): a 1 ms boundary of the grid passes. -/
  | gridMsBoundary
  /-- SYNC_LOSS (R188): no edge has come within 1.5 ms. -/
  | syncLoss
  /-- PWR_LOOP_UPDATE (R253): the power measurements update TRIM. -/
  | pwrLoopUpdate
  /-- STAT_READY (R288): the statistics of the ADAPT capture that ends first are complete. -/
  | statReady
  /-- RA_DONE (R357 to R360): the result of an occasion is written and sent. -/
  | raDone
  /-- WDT_WARN (R388): the watchdog that is due first reaches WARN. -/
  | wdtWarn
  /-- WDT_EXPIRE (R388, R389): the watchdog that is due first reaches EXPIRE. -/
  | wdtExpire
  /-- RING_WAKE_DONE (R453): the domain of the core rung first has come up. -/
  | ringWakeDone
  /-- SETTLING_WINDOW_END (R493, R494): a settling window ends. -/
  | settlingWindowEnd
  /-- UNLOCK (R494): the synthesiser loses lock. -/
  | unlock
  /-- SYNTH_LOCK (R490, R493): the synthesiser gains lock. -/
  | synthLock
  /-- TX_RX_TURNROUND (R498): the next turnround from transmission to reception. -/
  | txRxTurnround
  /-- RX_TX_TURNROUND (R498): the next turnround from reception to transmission. -/
  | rxTxTurnround
  /-- ESCALATE_DWELL (R521): the escalate condition has held for ESC_DWELL. -/
  | escalateDwell
  /-- RELAX_DWELL (R521): the relax condition has held for RELAX. -/
  | relaxDwell
  /-- SHUTDOWN_POWER_OFF (R527): the shutdown switches the domains off. -/
  | shutdownPowerOff
  /-- PLAUS_START (R540): both converters convert channel 39. -/
  | plausStart
  /-- HARVEST_PERIOD_END (R539): a harvest period ends. -/
  | harvestPeriodEnd
  /-- NVM_WORD_WRITE_DONE (R552, R556): an NVM word write completes. -/
  | nvmWordWriteDone
  /-- LC_AUTH_DONE (R559): the check of a Returned request ends. -/
  | lcAuthDone
  /-- INJ_WINDOW_END (R569): the injection window ends. -/
  | injWindowEnd
  /-- SPI_STATUS (R590): a status transaction. -/
  | spiStatus
  /-- SPI_WORD_APPLY (R590): the oldest buffered word is applied. -/
  | spiWordApply
  /-- IDCODE (R593): the identity code is captured. -/
  | idcode
  /-- BYPASS (R593): the bypass register is selected. -/
  | bypass
  /-- CORES_COMPLETE (R333): the head finishes the cores and multicasts them. -/
  | coresComplete
  /-- WIPE_COMPLETE (R47, R87, R598): the SRAM wipe of a Test to Base camp transition completes. -/
  | wipeComplete
deriving DecidableEq, Repr

end Sys2Proof
end

