-- ==== Sys2Proof/Machine/Crypto.lean ====
section
/-! DEFINITION. The check functions the image and life-cycle rules name (R559, R561): SHA-256 and ECDSA over P-256, after FIPS 180-4 and
FIPS 186-4 (the spec cites the standards; log entry 22). -/

namespace Sys2Proof.Machine

/-! ## SHA-256 -/

/-- Number with the given big-endian bytes. -/
def ofBe (l : List Byte) : Nat := l.foldl (fun n b => 256 * n + b.toNat) 0

/-- Big-endian bytes of a number. -/
def beBytes (n v : Nat) : List Byte := (leBytes n v).reverse

/-- The largest number of b more bits below r whose k-th power is at most v, bit by bit from the highest. -/
def rootBits (k v : Nat) : Nat → Nat → Nat
  | 0, r => r
  | b + 1, r => rootBits k v b (if (r + 2 ^ b) ^ k ≤ v then r + 2 ^ b else r)

/-- The first 32 fraction bits of the k-th root of a prime below 512. -/
def rootFraction (k p : Nat) : Word := BitVec.ofNat 32 (rootBits k (p * 2 ^ (32 * k)) 37 0)

/-- The primes below 312, 64 of them. -/
def shaPrimes : List Nat := (List.range 312).filter (fun p => 2 ≤ p && (List.range 18).all (fun d => d < 2 || p ≤ d || p % d != 0))

/-- Two rotations of a word and a third term, added bit by bit. -/
def shaMix (x : Word) (m n : Nat) (y : Word) : Word := y ^^^ x.rotateRight m ^^^ x.rotateRight n

/-- One round on the window of sixteen message words and the eight working words, with the round's constant: the window moves on by the word that follows it. -/
def shaRound (s : List Word × List Word) (k : Word) : List Word × List Word :=
  let w := fun i => s.1.getD i 0
  let v := fun i => s.2.getD i 0
  let next := w 0 + shaMix (w 1) 7 18 (w 1 >>> 3) + w 9 + shaMix (w 14) 17 19 (w 14 >>> 10)
  let up := v 7 + k + w 0 + shaMix (v 4) 6 11 ((v 4).rotateRight 25) + (v 6 ^^^ (v 4 &&& (v 5 ^^^ v 6)))
  let top := up + shaMix (v 0) 2 13 ((v 0).rotateRight 22) + (v 0 &&& v 1 ||| v 2 &&& (v 0 ||| v 1))
  (s.1.drop 1 ++ [next], top :: (s.2.take 3 ++ (v 3 + up) :: (s.2.drop 4).take 3))

/-- A hash after one block of sixteen words. -/
def shaBlock (h block : List Word) : List Word :=
  List.zipWith (· + ·) h ((shaPrimes.map (rootFraction 3)).foldl shaRound (block, h)).2

/-- The big-endian words of n bytes. -/
def beWords (n : Nat) (l : List Byte) : List Word := (List.range (n / 4)).map (fun i => BitVec.ofNat 32 (ofBe ((l.drop (4 * i)).take 4)))

/-- A message with its padding: a one bit, zeros, and its length in bits in the last eight bytes of a block. -/
def shaPadded (l : List Byte) : List Byte := l ++ 0x80 :: List.replicate ((119 - l.length % 64) % 64) 0 ++ beBytes 8 (8 * l.length)

/-- The SHA-256 digest of bytes, 32 bytes. -/
def sha256 (l : List Byte) : List Byte :=
  let m := shaPadded l
  let start := (shaPrimes.take 8).map (rootFraction 2)
  ((List.range (m.length / 64)).foldl (fun h i => shaBlock h (beWords 64 (m.drop (64 * i)))) start).flatMap (fun w => beBytes 4 w.toNat)

/-! ## ECDSA P-256 -/

def p256P : Nat := 0xFFFFFFFF00000001000000000000000000000000FFFFFFFFFFFFFFFFFFFFFFFF
def p256N : Nat := 0xFFFFFFFF00000000FFFFFFFFFFFFFFFFBCE6FAADA7179E84F3B9CAC2FC632551
def p256B : Nat := 0x5AC635D8AA3A93E7B3EBBD55769886BC651D06B0CC53B0F63BCE3C3E27D2604B
def p256G : Nat × Nat := (0x6B17D1F2E12C4247F8BCE6E563A440F277037D812DEB33A0F4A13945D898C296,
  0x4FE342E2FE1A7F9B8EE7EB4A7C0F9E162BCE33576B315ECECBB6406837BF51F5)

/-- b^e mod m, over the lowest k bits of e. -/
def powMod (m b e : Nat) : Nat → Nat
  | 0 => 1 % m
  | k + 1 => let r := powMod m b e k; if e.testBit k then r * powSq m b k % m else r
where
  /-- b^(2^k) mod m. -/
  powSq (m b : Nat) : Nat → Nat
    | 0 => b % m
    | k + 1 => let r := powSq m b k; r * r % m

/-- Inverse modulo a prime. -/
def invMod (m a : Nat) : Nat := powMod m a (m - 2) 256

/-- Addition on the curve; none is the point at infinity. -/
def ecAdd (x y : Option (Nat × Nat)) : Option (Nat × Nat) :=
  match x, y with
  | none, q => q
  | q, none => q
  | some (x1, y1), some (x2, y2) =>
    let p := p256P
    if x1 = x2 ∧ (y1 + y2) % p = 0 then none
    else
      let l := if x1 = x2 then (3 * x1 * x1 + p - 3) * invMod p (2 * y1) % p
               else (y2 + p - y1) * invMod p ((x2 + p - x1) % p) % p
      let x3 := (l * l + 2 * p - x1 - x2) % p
      some (x3, (l * ((x1 + p - x3) % p) + p - y1) % p)

/-- k times a point, over the lowest n bits of k, from the highest down. -/
def ecMul (k : Nat) (q : Nat × Nat) : Nat → Option (Nat × Nat) → Option (Nat × Nat)
  | 0, acc => acc
  | n + 1, acc =>
    let d := ecAdd acc acc
    ecMul k q n (if k.testBit n then ecAdd d (some q) else d)

/-- Whether the signature r‖s verifies over a digest with the key X‖Y, all big-endian. -/
def ecdsaOk (key sig digest : List Byte) : Bool :=
  let x := ofBe (key.take 32)
  let y := ofBe (key.drop 32)
  let r := ofBe (sig.take 32)
  let t := ofBe (sig.drop 32)
  let onCurve := x < p256P && y < p256P && (y * y) % p256P == (x * x * x + (p256P - 3) * x + p256B) % p256P
  if 1 ≤ r && r < p256N && 1 ≤ t && t < p256N && onCurve then
    let w := invMod p256N t
    let u1 := ofBe digest * w % p256N
    let u2 := r * w % p256N
    match ecAdd (ecMul u1 p256G 256 none) (ecMul u2 (x, y) 256 none) with
    | some (x1, _) => x1 % p256N == r
    | none => false
  else false

end Sys2Proof.Machine
end

