-- ==== Sys2Proof/Config.lean ====
section
/-! DEFINITION. The free values: constants without a body for every value the spec leaves open or states only within a
tolerance.  Nothing can be proved about the value of one of them; a statement about a free value holds for every value. -/

namespace Sys2Proof.Config

/-- FREQ of a servo after an exchange, from its present value, the servo's integral term, the offset in 1/16 ns, KP and KI:
R179 names the two terms and gives no units of their sum (log entry 20). -/
opaque servoFreq : Int → Int → Int → Nat → Nat → Int

/-- One FFT bin before saturation (R215 states it within 3 LSB of the exact expression): index k, the N window samples, SHIFT,
ADVANCE and ADV_COMP (log entry 21). -/
opaque fftBin : Int → List Cplx → Nat → Nat → Bool → Cplx

/-- A sample of a carrier's stream before its saturation (R197 to R204 state the filters within tolerances; log entry 21): from the ADC codes before, of and behind the symbol,
the parameters of the mixer, the decimation and the correctors, and the sample's place in the symbol. -/
opaque rxSample : List Int → List Int → List Int → List Int → Int → Cplx

/-- A level num/den as dB in units of 1/16 dB (the spec gives no rounding; log entry 21): 10 log10 of a power ratio. -/
opaque dbPower : Nat → Nat → Int

/-- Whether the wideband power exceeds the carriers' summed powers by the blocker threshold (R213): POWER, the RMS values of the
carriers, the compensation gain's attenuation, THRESH (log entry 21). -/
opaque blockerOver : Int → List Int → Nat → Nat → Bool

/-- Whether the k-th POR or BOR that finds an NVM word in flight tears it (R556 says that it may; log entry 24). -/
opaque tearsWord : Nat → Bool

/-- Mean power of an observed capture at the antenna port in 0.01 dBm (R285 gives no rounding, and R280 gives the correction as a gain, a delay and an equaliser; log entry
21): the observed samples, OBS_ATT, and the tap values in use with their divisor. -/
opaque orxPower : List Cplx → Nat → List Int → Int

/-- Rms of the observed drive in 1/16 dBFS (R285; log entry 21). -/
opaque orxDrive : List Cplx → Int

/-- Statistics of an ADAPT capture (R286): from the observed samples, the drive, the neighbours' drives, the coefficient bank, OBS_ATT, the tap values in use with their divisor,
and G_d + G_chain in 0.01 dB: the scale, the energy E, and the values c_i and R_ij after their rounding (R288; the gain factor is irrational; log entry 21). -/
opaque orxStats : List Cplx → List Cplx → List (List Cplx) → List Nat → Nat → List Int → Int → Int × Nat × List Cplx

/-- Excess of a path in a mask segment in 1/16 dB, rounded up, so that it is above 0 just where the mask is violated (R289 gives no rounding; log entry 21): from the averaged
captures, each with the tap values in use, the occupied bands of the enabled carriers (offset and half width), the segment (F_LO, F_HI, LIMIT), and MARGIN. -/
opaque maskExcess : List (List Cplx × List Int) → List (Int × Int) → Int × Int × Nat → Nat → Int

/-- TRIM after a power measurement, in 0.01 dB, before its clamp (R253 gives no rounding of its terms; log entry 21): P_MEAS, L_OBS, G_d,
G_chain, TRIM and LOOP_K. -/
opaque pwrTrim : Int → Int → Int → Int → Int → Nat → Int

/-- G_chain in 0.01 dBm: bilinear over the table of a path, from the drain voltages V0 to V3, the 32 entries, the temperature in 1/16 °C and the drain voltage in mV as
numerator and divisor (R252 gives no rounding; log entry 21). -/
opaque gChain : List Int → List Int → Int → Nat → Nat → Int

/-- Temperature of a thermistor in 1/16 °C by linear interpolation, from its 33 points and the code (R601 gives no rounding; log entry 21). -/
opaque thermistor : List Int → Nat → Int

/-- The sounding estimate of one port (R304): from the bins of each antenna and symbol (none: not valid), the descriptor words and RBG, per
group its EXP and the 64 mantissas, and QUAL, before their limits.  The reference sequences and the means are irrational (log entry 21). -/
opaque sndEst : List (Option (List (List Cplx))) → Nat → Nat → Nat → List (Int × List Cplx) × Int

/-- A downlink vector k_a h_l(a) of one group, as 16-bit mantissas and exponent (R327, R329): from the estimate, its exponent, the
reciprocity entries (gain, phase, delay, each times a common divisor, and that divisor) and the group (log entry 21). -/
opaque dlVector : List Cplx → Int → List (Int × Int × Int × Nat) → Nat → List Cplx × Int

/-- Whether a weight column fits the weight buffer, from its size and the column's place: the layout of the buffer belongs to BFM (R331; log entry 25). -/
opaque wgtFits : Nat → Nat → Bool

/-- The core M of one group (R328, R329): ALGO, RHO, direction (true: uplink), the qualities of the layers and the Gram entries; M by
columns with its exponent, or none where a pivot is not positive.  The order of the operations of R329 is not given entry by entry (log entry 21). -/
opaque core : Nat → Nat → Bool → List Int → List Cplx → Option (List Cplx × Int)

/-- delta of R507 in 0.01 dB: the least amount, not below 0, by which the summed powers 10^(q/10) of the paths exceed P_TOTAL, rounded up; q and P_TOTAL in
0.01 dBm (a comparison of sums of irrational powers; log entry 21). -/
opaque totalDelta : List Int → Int → Nat

/-- Energy of one bin from one layer of one sampled group (R342): the steering words, the weights before their final rounding and their exponent,
and per symbol the number of REs and GAIN of the layer in 0.25 dB (log entry 21). -/
opaque expEnergy : List Nat → List Cplx → Int → List (Nat × Int) → Nat

/-- Effective channel of a group over its DMRS symbols and its SINR in 0.5 dB (R339): from the sums y, C_INIT, DPORT, the DMRS symbols and
the group (log entry 21). -/
opaque dmrsEst : List (Nat × List Cplx) → Nat → Nat → Nat → Nat → Cplx × Int

/-- The soft bits of one resource element (R340): y, the effective channel, the SINR, the constellation code, the element and LLR_Q, before their
clamp, by the number of the bit (log entry 21). -/
opaque llr : Cplx → Cplx → Int → Nat → Nat → Nat → Nat → Int

/-- Sample m of the iFFT output of a symbol before its saturation (R244 states it within 3 LSB of the exact expression): bins, N, SHIFT and m (log entry 21). -/
opaque ifft : List Cplx → Nat → Nat → Nat → Cplx

/-- Sample n of an overlap region: the head times r(n) of its own symbol's W (whole from W on) plus the tail times 1 - r(n) of the W of the symbol before, which is 0 from
that W on (R23, R245, which give no rounding; log entry 21): both W, n, head and tail. -/
opaque overlapSample : Nat → Nat → Nat → Cplx → Cplx → Cplx

/-- A sample of the composite before its saturation (R247 states the interpolation within tolerances; log entry 21): per carrier its symbols, each with its start on the
timeline, and N, spacing code, offset from the centre as the numerator of a 48-bit phase word, and the TX_EQ corrector in use (gain, phase, delay and their divisor); and
the ADC rate, the frame number at the origin of the timeline and the number of the sample since that origin. -/
opaque compositeSample : List (List (Nat × List Cplx) × List Int) → List Int → Cplx

/-- Sample i of the composite after the CFR, before its saturation (R249 to R251; the pulse is stated by its response; log entry 21): the samples before the symbol, those of
the symbol; THRESH, passes, EVM_LIM and REF_LEVEL; E_prev if there is one; per carrier its weight, offset and half its occupied band; the mask segments; and i. -/
opaque cfr : List Cplx → List Cplx → List Nat → Option Nat → List (List Int) → List (Int × Int × Nat) → Nat → Cplx

/-- A sample behind the path gain G_d in 0.01 dB (R252 gives no rounding; log entry 21). -/
opaque applyGain : Int → Cplx → Cplx

/-- A sum of stage 11 that does not fit 48 bits (R272 sums in 48 bits and does not say what a larger sum leaves; log entry 21). -/
opaque sum48 : Int → Int

/-- A code of stage 12 before its saturation (R255, R273 and R601 state the filter within tolerances; log entry 21): the samples of stage 11 before the symbol and in it; the ADC
rate, the centre word, the frame number at the origin of the timeline, the number of the code since that origin, and the TX_IL trims in use with their divisor.  It holds
nothing outside f_ctr ± 0.407 F_c (R273). -/
opaque dacCode : List Cplx → List Cplx → List Int → Int

/-- A code on the edge of a muted symbol (R258 gives no shape of the ramp; log entry 21): MUTE_RAMP, the distance from the edge in 1/384 ns, and the code. -/
opaque muteEdge : Nat → Nat → Int → Int

/-- Place of a stored layer block in the layer store, in units of 64 bytes, and the 64 bytes of its index (R231 gives neither; log entry 85): for the n-th free value. -/
opaque lstorePlace : Nat → Nat
opaque lstoreIndex : Nat → List Byte

/-- The L sequence elements of a path, summed over its repetitions (R354; the filter is stated within tolerances): the stage-5 samples of the window at F_fft; and N_CP, N_REP,
N_dft, FREQ_OFS, L, F_fft, F_ra, NRB and the spacing (log entry 21). -/
opaque raElements : List Cplx → List Nat → List Cplx

/-- A reciprocity measurement from the ORX_TAP values, the carriers with their NCO words, Fs and the tone responses of both legs: gain and phase of carrier c at 2c and 2c + 1, and the
delay at 8 (R481 states the fit over real numbers; log entry 87). -/
opaque recipFit : List Int → List (Int × Int) → Nat → List Int → Nat → Int

/-- The stored expectation of |r| of a path and carrier in 0.01 dB (R481 names it, and no record holds it; log entry 87). -/
opaque recipExpected : Nat → Nat → Int

/-- |c(τ)|² of one beam and root (R357 states it within a tolerance): the beam's elements, u, L and τ (log entry 21). -/
opaque raPower : List Cplx → Nat → Nat → Nat → Nat

/-- Band, trim and residual that a full synthesiser calibration at reset measures (R86, R490), per use.  Free. -/
opaque fullCal : Nat → Nat × Nat × Nat

/-- Temperature grade of the part, 0 E or 1 F (R2, R577): its place in the factory area is not given (log entry 23).  Free. -/
opaque gradeF : Bool

/-- Whether a halved or quantised measurement of TIM rounds up (R178, R187 give no rounding; log entry 21). -/
opaque roundsUp : Int → Bool

/-- Rate of SYNC_IN against REFCLK in 2^-32, for the n-th free value (R183 names it and does not say how it is measured; log entry 84).  Free. -/
opaque syncRate : Nat → Int

/-- Error of the n-th stamp at the balls in 1/16 ns, before it is held to the limits of R180 (log entry 84).  Free. -/
opaque stampErr : Nat → Int

/-- Measured deskew delay in UI of the lane that carries header word 0, for the n-th free value, before it is held to the skew of its port (R180; log entry 84).  Free. -/
opaque deskew : Nat → Nat

/-- Base band of a listening input at 30.72 MS/s: from NL_NCO, the samples before and the samples at the ADC rate (R189 gives no filter; log entry 84). -/
opaque nlBase : Nat → List Nat → List Nat → List Cplx

/-- The correlation peak of a listening input (R189, R190 give no normalisation; log entry 84): from the words of the reference and the base band, the normalised peak
in 2^-16, the sample at which the preamble starts, and how long before the last sample that was, in 1/16 ns. -/
opaque nlPeak : List Nat → List Cplx → Nat × Nat × Nat

/-- What a register of a given width shows for a measured value that it cannot hold (log entry 30).  Free. -/
opaque overWide : Int → Nat → Nat

/-- What the equaliser of a lane has reached, for the n-th free value: its peaking setting (0) and eye margin (1) (R109, R130; log entry 83).  Free. -/
opaque laneEq : Nat → Nat → Nat → Nat

/-- The register from which the pattern generator of a lane starts (R122 gives none; log entry 83).  Free. -/
opaque prbsSeed : Nat → Nat → Nat

end Sys2Proof.Config
end

