-- ==== Sys2Proof/Machine/RegTypes.lean ====
section
/-! DEFINITION. How the register index is written down: access codes (R4), a field, a register or an array of registers of
one block window (R576), and a named field with its byte address. -/

namespace Sys2Proof.Machine

/-- The access codes of R4; RWS fields name their boundary kind, symbol or slot (R27). -/
inductive Access where
  | rw | ro | w1c | w1s | wo | rws | rwsSlot | rwx | rwl | rwt
deriving DecidableEq, Repr

/-- One field of a register: its bits hi down to lo, its access code, its value after reset, and whether its Reset column reads
NVM: such a field holds 0 until step 3 of R85 loads it (log entry 3). -/
structure FieldSpec where
  hi : Nat
  lo : Nat
  acc : Access
  reset : Nat
  nvm : Bool
deriving DecidableEq, Repr

/-- A register at a window offset, or an array of them with up to two indices (stride and count of each). -/
structure RegSpec where
  off : Nat
  s1 : Nat
  n1 : Nat
  s2 : Nat
  n2 : Nat
  fields : List FieldSpec
deriving DecidableEq, Repr

/-- A field of the register at a byte address. -/
structure Fld where
  addr : Nat
  hi : Nat
  lo : Nat
deriving DecidableEq, Repr

/-- Base address of block window n (R573). -/
def blockBase (n : Nat) : Nat := 0x10000000 + 0x10000 * n

end Sys2Proof.Machine
end

