-- ==== Sys2Proof/Machine/Fields.lean ====
section
/-! DEFINITION. Named fields of the registers (R576): `F.<BLOCK>.<REGISTER>_<FIELD>` is a field with its byte address, and
`F.<BLOCK>.EVT_<NAME>` a bit of EVT_STATUS.  Array registers take their indices; the blocks LNK0 to LNK5 take the port. -/

namespace Sys2Proof.Machine

def F.common.SHD_CTRL_DISCARD (b : Nat) : Fld := ⟨blockBase b + 0xC, 1, 1⟩
def F.common.SHD_CTRL_COMMIT (b : Nat) : Fld := ⟨blockBase b + 0xC, 0, 0⟩
def F.common.SHD_STATUS_DIRTY (b : Nat) : Fld := ⟨blockBase b + 0x10, 18, 18⟩
def F.common.SHD_STATUS_ARMED_SLOT (b : Nat) : Fld := ⟨blockBase b + 0x10, 17, 17⟩
def F.common.SHD_STATUS_ARMED_SYM (b : Nat) : Fld := ⟨blockBase b + 0x10, 16, 16⟩
def F.common.SHD_STATUS_APPLY_CNT (b : Nat) : Fld := ⟨blockBase b + 0x10, 15, 0⟩
def F.common.CMDQ_STATUS_LIVE_USED (b : Nat) : Fld := ⟨blockBase b + 0x14, 25, 16⟩
def F.common.CMDQ_STATUS_STAGE_USED (b : Nat) : Fld := ⟨blockBase b + 0x14, 9, 0⟩
def F.common.CMDQ_REFUSE_CNT_LATE_CNT (b : Nat) : Fld := ⟨blockBase b + 0x18, 31, 16⟩
def F.common.CMDQ_REFUSE_CNT_QUOTA_CNT (b : Nat) : Fld := ⟨blockBase b + 0x18, 15, 0⟩
def F.SYS.EVT_BOOT_REJECT : Fld := ⟨0x10000000, 4, 4⟩
def F.SYS.EVT_BOOT_DONE : Fld := ⟨0x10000000, 3, 3⟩
def F.SYS.EVT_RESET_DONE : Fld := ⟨0x10000000, 2, 2⟩
def F.SYS.EVT_ACCESS_ERR : Fld := ⟨0x10000000, 5, 5⟩
def F.SYS.EVT_SLOT_MISS : Fld := ⟨0x10000000, 1, 1⟩
def F.SYS.EVT_DET_VOID : Fld := ⟨0x10000000, 0, 0⟩
def A.SYS.SYS_ID : Nat := 0x10000020
def F.SYS.SYS_ID_PART : Fld := ⟨0x10000020, 31, 16⟩
def F.SYS.SYS_ID_FAMILY : Fld := ⟨0x10000020, 15, 8⟩
def A.SYS.SYS_REV : Nat := 0x10000024
def F.SYS.SYS_REV_GRADE : Fld := ⟨0x10000024, 31, 28⟩
def F.SYS.SYS_REV_MAJOR : Fld := ⟨0x10000024, 23, 16⟩
def F.SYS.SYS_REV_MINOR : Fld := ⟨0x10000024, 15, 8⟩
def F.SYS.SYS_REV_ROM : Fld := ⟨0x10000024, 7, 0⟩
def A.SYS.ACC_ERR : Nat := 0x10000030
def F.SYS.ACC_ERR_CNT : Fld := ⟨0x10000030, 31, 16⟩
def A.SYS.ACC_ERR_ADDR : Nat := 0x10000034
def F.SYS.ACC_ERR_ADDR_ADDR : Fld := ⟨0x10000034, 31, 0⟩
def A.SYS.ACC_ERR_INFO : Nat := 0x10000038
def F.SYS.ACC_ERR_INFO_AGENT : Fld := ⟨0x10000038, 29, 24⟩
def F.SYS.ACC_ERR_INFO_WRITE : Fld := ⟨0x10000038, 8, 8⟩
def F.SYS.ACC_ERR_INFO_CAUSE : Fld := ⟨0x10000038, 3, 0⟩
def A.SYS.RESET_CAUSE : Nat := 0x10000040
def F.SYS.RESET_CAUSE_RESET_CNT : Fld := ⟨0x10000040, 31, 24⟩
def F.SYS.RESET_CAUSE_LCT : Fld := ⟨0x10000040, 5, 5⟩
def F.SYS.RESET_CAUSE_WDT : Fld := ⟨0x10000040, 4, 4⟩
def F.SYS.RESET_CAUSE_SW : Fld := ⟨0x10000040, 3, 3⟩
def F.SYS.RESET_CAUSE_PIN : Fld := ⟨0x10000040, 2, 2⟩
def F.SYS.RESET_CAUSE_BOR : Fld := ⟨0x10000040, 1, 1⟩
def F.SYS.RESET_CAUSE_POR : Fld := ⟨0x10000040, 0, 0⟩
def A.SYS.SW_RESET : Nat := 0x10000044
def F.SYS.SW_RESET_KEY : Fld := ⟨0x10000044, 7, 0⟩
def A.SYS.BOOT_STATUS : Nat := 0x10000048
def F.SYS.BOOT_STATUS_WIPE : Fld := ⟨0x10000048, 31, 31⟩
def F.SYS.BOOT_STATUS_NVM_BAD : Fld := ⟨0x10000048, 30, 30⟩
def F.SYS.BOOT_STATUS_SOURCE : Fld := ⟨0x10000048, 29, 29⟩
def F.SYS.BOOT_STATUS_REJECT_CNT : Fld := ⟨0x10000048, 23, 16⟩
def F.SYS.BOOT_STATUS_REJECT_CODE : Fld := ⟨0x10000048, 11, 8⟩
def F.SYS.BOOT_STATUS_ROM_STATE : Fld := ⟨0x10000048, 3, 0⟩
def A.SYS.BOOT_IMG_ADDR : Nat := 0x1000004C
def F.SYS.BOOT_IMG_ADDR_ADDR : Fld := ⟨0x1000004C, 31, 0⟩
def A.SYS.BOOT_IMG_LEN : Nat := 0x10000050
def F.SYS.BOOT_IMG_LEN_LEN : Fld := ⟨0x10000050, 21, 0⟩
def A.SYS.BOOT_CTRL : Nat := 0x10000054
def F.SYS.BOOT_CTRL_GO : Fld := ⟨0x10000054, 0, 0⟩
def A.SYS.GRID_CFG (i : Nat) : Nat := 0x10000200 + 0x4 * i
def F.SYS.GRID_CFG_EN (i : Nat) : Fld := ⟨0x10000200 + 0x4 * i, 7, 7⟩
def F.SYS.GRID_CFG_LEADER (i : Nat) : Fld := ⟨0x10000200 + 0x4 * i, 4, 4⟩
def F.SYS.GRID_CFG_SCS (i : Nat) : Fld := ⟨0x10000200 + 0x4 * i, 1, 0⟩
def A.SYS.STAGE_CFG : Nat := 0x10000210
def F.SYS.STAGE_CFG_LIVE_LEAD : Fld := ⟨0x10000210, 23, 16⟩
def F.SYS.STAGE_CFG_STAGE_GUARD : Fld := ⟨0x10000210, 7, 0⟩
def A.SYS.CMDQ_QUOTA0 : Nat := 0x10000220
def F.SYS.CMDQ_QUOTA0_TC3 : Fld := ⟨0x10000220, 31, 24⟩
def F.SYS.CMDQ_QUOTA0_TC2 : Fld := ⟨0x10000220, 23, 16⟩
def F.SYS.CMDQ_QUOTA0_TC1 : Fld := ⟨0x10000220, 15, 8⟩
def F.SYS.CMDQ_QUOTA0_TC0 : Fld := ⟨0x10000220, 7, 0⟩
def A.SYS.CMDQ_QUOTA1 : Nat := 0x10000224
def F.SYS.CMDQ_QUOTA1_TC7 : Fld := ⟨0x10000224, 31, 24⟩
def F.SYS.CMDQ_QUOTA1_TC6 : Fld := ⟨0x10000224, 23, 16⟩
def F.SYS.CMDQ_QUOTA1_TC5 : Fld := ⟨0x10000224, 15, 8⟩
def F.SYS.CMDQ_QUOTA1_TC4 : Fld := ⟨0x10000224, 7, 0⟩
def A.SYS.CMDQ_QUOTA2 : Nat := 0x10000228
def F.SYS.CMDQ_QUOTA2_TC11 : Fld := ⟨0x10000228, 31, 24⟩
def F.SYS.CMDQ_QUOTA2_TC10 : Fld := ⟨0x10000228, 23, 16⟩
def F.SYS.CMDQ_QUOTA2_TC9 : Fld := ⟨0x10000228, 15, 8⟩
def F.SYS.CMDQ_QUOTA2_TC8 : Fld := ⟨0x10000228, 7, 0⟩
def A.SYS.CMDQ_QUOTA3 : Nat := 0x1000022C
def F.SYS.CMDQ_QUOTA3_TC15 : Fld := ⟨0x1000022C, 31, 24⟩
def F.SYS.CMDQ_QUOTA3_TC14 : Fld := ⟨0x1000022C, 23, 16⟩
def F.SYS.CMDQ_QUOTA3_TC13 : Fld := ⟨0x1000022C, 15, 8⟩
def F.SYS.CMDQ_QUOTA3_TC12 : Fld := ⟨0x1000022C, 7, 0⟩
def A.SYS.CMDQ_QUOTA4 : Nat := 0x10000230
def F.SYS.CMDQ_QUOTA4_TC19 : Fld := ⟨0x10000230, 31, 24⟩
def F.SYS.CMDQ_QUOTA4_TC18 : Fld := ⟨0x10000230, 23, 16⟩
def F.SYS.CMDQ_QUOTA4_TC17 : Fld := ⟨0x10000230, 15, 8⟩
def F.SYS.CMDQ_QUOTA4_TC16 : Fld := ⟨0x10000230, 7, 0⟩
def A.SYS.CMDQ_QUOTA5 : Nat := 0x10000234
def F.SYS.CMDQ_QUOTA5_TC23 : Fld := ⟨0x10000234, 31, 24⟩
def F.SYS.CMDQ_QUOTA5_TC22 : Fld := ⟨0x10000234, 23, 16⟩
def F.SYS.CMDQ_QUOTA5_TC21 : Fld := ⟨0x10000234, 15, 8⟩
def F.SYS.CMDQ_QUOTA5_TC20 : Fld := ⟨0x10000234, 7, 0⟩
def A.SYS.CMDQ_QUOTA6 : Nat := 0x10000238
def F.SYS.CMDQ_QUOTA6_TC27 : Fld := ⟨0x10000238, 31, 24⟩
def F.SYS.CMDQ_QUOTA6_TC26 : Fld := ⟨0x10000238, 23, 16⟩
def F.SYS.CMDQ_QUOTA6_TC25 : Fld := ⟨0x10000238, 15, 8⟩
def F.SYS.CMDQ_QUOTA6_TC24 : Fld := ⟨0x10000238, 7, 0⟩
def A.SYS.CMDQ_QUOTA7 : Nat := 0x1000023C
def F.SYS.CMDQ_QUOTA7_TC31 : Fld := ⟨0x1000023C, 31, 24⟩
def F.SYS.CMDQ_QUOTA7_TC30 : Fld := ⟨0x1000023C, 23, 16⟩
def F.SYS.CMDQ_QUOTA7_TC29 : Fld := ⟨0x1000023C, 15, 8⟩
def F.SYS.CMDQ_QUOTA7_TC28 : Fld := ⟨0x1000023C, 7, 0⟩
def A.SYS.CMDQ_QUOTA8 : Nat := 0x10000240
def F.SYS.CMDQ_QUOTA8_LC1 : Fld := ⟨0x10000240, 15, 8⟩
def F.SYS.CMDQ_QUOTA8_LC0 : Fld := ⟨0x10000240, 7, 0⟩
def A.SYS.SLOT_STATUS_LC0 : Nat := 0x10000250
def F.SYS.SLOT_STATUS_LC0_SEALED : Fld := ⟨0x10000250, 31, 31⟩
def F.SYS.SLOT_STATUS_LC0_FRAME : Fld := ⟨0x10000250, 25, 16⟩
def F.SYS.SLOT_STATUS_LC0_SLOT : Fld := ⟨0x10000250, 5, 0⟩
def A.SYS.SLOT_STATUS_LC1 : Nat := 0x10000254
def F.SYS.SLOT_STATUS_LC1_SEALED : Fld := ⟨0x10000254, 31, 31⟩
def F.SYS.SLOT_STATUS_LC1_FRAME : Fld := ⟨0x10000254, 25, 16⟩
def F.SYS.SLOT_STATUS_LC1_SLOT : Fld := ⟨0x10000254, 5, 0⟩
def A.SYS.SLOT_MISS_CNT : Nat := 0x10000258
def F.SYS.SLOT_MISS_CNT_LC1_MISS : Fld := ⟨0x10000258, 31, 16⟩
def F.SYS.SLOT_MISS_CNT_LC0_MISS : Fld := ⟨0x10000258, 15, 0⟩
def A.SYS.DET_STATUS : Nat := 0x10000260
def F.SYS.DET_STATUS_RESULT_OVF : Fld := ⟨0x10000260, 4, 4⟩
def F.SYS.DET_STATUS_THROTTLE : Fld := ⟨0x10000260, 3, 3⟩
def F.SYS.DET_STATUS_CHAIN_LATE : Fld := ⟨0x10000260, 2, 2⟩
def F.SYS.DET_STATUS_LIVE_LATE : Fld := ⟨0x10000260, 1, 1⟩
def F.SYS.DET_STATUS_SLOT_MISS : Fld := ⟨0x10000260, 0, 0⟩
def F.PWR.EVT_WAKE_FAIL : Fld := ⟨0x10010000, 7, 7⟩
def F.PWR.EVT_BOOT_FAIL : Fld := ⟨0x10010000, 6, 6⟩
def F.PWR.EVT_RET_LOST : Fld := ⟨0x10010000, 5, 5⟩
def F.PWR.EVT_WAKE_DONE : Fld := ⟨0x10010000, 4, 4⟩
def F.PWR.EVT_REST_ENTERED : Fld := ⟨0x10010000, 3, 3⟩
def F.PWR.EVT_REST_REFUSED : Fld := ⟨0x10010000, 2, 2⟩
def F.PWR.EVT_MODE_REFUSED : Fld := ⟨0x10010000, 1, 1⟩
def F.PWR.EVT_MODE_DONE : Fld := ⟨0x10010000, 0, 0⟩
def A.PWR.MODE_REQ : Nat := 0x10010100
def F.PWR.MODE_REQ_TARGET : Fld := ⟨0x10010100, 2, 0⟩
def A.PWR.MODE_STATUS : Nat := 0x10010104
def F.PWR.MODE_STATUS_REASON : Fld := ⟨0x10010104, 11, 8⟩
def F.PWR.MODE_STATUS_PENDING : Fld := ⟨0x10010104, 7, 7⟩
def F.PWR.MODE_STATUS_MODE : Fld := ⟨0x10010104, 2, 0⟩
def A.PWR.REST_REQ : Nat := 0x10010110
def F.PWR.REST_REQ_BUDGET : Fld := ⟨0x10010110, 23, 0⟩
def A.PWR.REST_CFG : Nat := 0x10010114
def F.PWR.REST_CFG_PREP_TIMEOUT : Fld := ⟨0x10010114, 25, 16⟩
def F.PWR.REST_CFG_ALLOW_BIVOUAC : Fld := ⟨0x10010114, 6, 6⟩
def F.PWR.REST_CFG_ALLOW_BASECAMP : Fld := ⟨0x10010114, 5, 5⟩
def F.PWR.REST_CFG_ALLOW_LEDGE : Fld := ⟨0x10010114, 4, 4⟩
def F.PWR.REST_CFG_LEDGE_AUTO : Fld := ⟨0x10010114, 1, 1⟩
def F.PWR.REST_CFG_MICRO_EN : Fld := ⟨0x10010114, 0, 0⟩
def A.PWR.REST_STATUS : Nat := 0x10010118
def F.PWR.REST_STATUS_STATE : Fld := ⟨0x10010118, 31, 28⟩
def F.PWR.REST_STATUS_DEPTH : Fld := ⟨0x10010118, 25, 24⟩
def F.PWR.REST_STATUS_REFUSE_BLOCK : Fld := ⟨0x10010118, 20, 16⟩
def F.PWR.REST_STATUS_REFUSE_CODE : Fld := ⟨0x10010118, 11, 8⟩
def F.PWR.REST_STATUS_REFUSE_CNT : Fld := ⟨0x10010118, 7, 0⟩
def A.PWR.REST_CTRL : Nat := 0x1001011C
def F.PWR.REST_CTRL_WAKE : Fld := ⟨0x1001011C, 0, 0⟩
def A.PWR.WAKE_CFG : Nat := 0x10010120
def F.PWR.WAKE_CFG_TARGET : Fld := ⟨0x10010120, 30, 28⟩
def F.PWR.WAKE_CFG_BOOT_EN : Fld := ⟨0x10010120, 24, 24⟩
def F.PWR.WAKE_CFG_BOOT_BANK : Fld := ⟨0x10010120, 22, 16⟩
def F.PWR.WAKE_CFG_WAKE_LINK : Fld := ⟨0x10010120, 13, 8⟩
def F.PWR.WAKE_CFG_MGMT_ADDR : Fld := ⟨0x10010120, 6, 0⟩
def A.PWR.WAKE_CAUSE : Nat := 0x10010124
def F.PWR.WAKE_CAUSE_REFCLK_LATE : Fld := ⟨0x10010124, 9, 9⟩
def F.PWR.WAKE_CAUSE_BOOT_OK : Fld := ⟨0x10010124, 8, 8⟩
def F.PWR.WAKE_CAUSE_HOST : Fld := ⟨0x10010124, 2, 2⟩
def F.PWR.WAKE_CAUSE_THERMAL : Fld := ⟨0x10010124, 1, 1⟩
def F.PWR.WAKE_CAUSE_MGMT : Fld := ⟨0x10010124, 0, 0⟩
def A.PWR.RET_CTX_SEL0 : Nat := 0x10010130
def F.PWR.RET_CTX_SEL0_SEL : Fld := ⟨0x10010130, 31, 0⟩
def A.PWR.RET_CTX_SEL1 : Nat := 0x10010134
def F.PWR.RET_CTX_SEL1_SEL : Fld := ⟨0x10010134, 31, 0⟩
def A.PWR.RET_CTX_SEL2 : Nat := 0x10010138
def F.PWR.RET_CTX_SEL2_SEL : Fld := ⟨0x10010138, 31, 0⟩
def A.PWR.RET_MSG_SEL : Nat := 0x1001013C
def F.PWR.RET_MSG_SEL_SEL : Fld := ⟨0x1001013C, 15, 0⟩
def A.PWR.RET_LOST_CTX0 : Nat := 0x10010140
def F.PWR.RET_LOST_CTX0_LOST : Fld := ⟨0x10010140, 31, 0⟩
def A.PWR.RET_LOST_CTX1 : Nat := 0x10010144
def F.PWR.RET_LOST_CTX1_LOST : Fld := ⟨0x10010144, 31, 0⟩
def A.PWR.RET_LOST_CTX2 : Nat := 0x10010148
def F.PWR.RET_LOST_CTX2_LOST : Fld := ⟨0x10010148, 31, 0⟩
def A.PWR.RET_LOST_MSG : Nat := 0x1001014C
def F.PWR.RET_LOST_MSG_LOST : Fld := ⟨0x1001014C, 15, 0⟩
def A.PWR.PAD_CTRL : Nat := 0x10010150
def F.PWR.PAD_CTRL_HOLD : Fld := ⟨0x10010150, 21, 16⟩
def F.PWR.PAD_CTRL_RELEASE : Fld := ⟨0x10010150, 13, 8⟩
def F.PWR.PAD_CTRL_FLOAT : Fld := ⟨0x10010150, 5, 0⟩
def A.PWR.LEDGE_STATUS : Nat := 0x10010160
def F.PWR.LEDGE_STATUS_TX_LEDGE : Fld := ⟨0x10010160, 15, 8⟩
def F.PWR.LEDGE_STATUS_RX_LEDGE : Fld := ⟨0x10010160, 7, 0⟩
def F.CLK.EVT_SYNTH_FAIL : Fld := ⟨0x10020000, 5, 5⟩
def F.CLK.EVT_CAL_DONE : Fld := ⟨0x10020000, 4, 4⟩
def F.CLK.EVT_SWITCH_REFUSED : Fld := ⟨0x10020000, 3, 3⟩
def F.CLK.EVT_SWITCH_DONE : Fld := ⟨0x10020000, 2, 2⟩
def F.CLK.EVT_UNLOCK : Fld := ⟨0x10020000, 1, 1⟩
def F.CLK.EVT_LOCKED : Fld := ⟨0x10020000, 0, 0⟩
def A.CLK.CLK_STATUS : Nat := 0x10020100
def F.CLK.CLK_STATUS_STATE : Fld := ⟨0x10020100, 31, 28⟩
def F.CLK.CLK_STATUS_ARMED : Fld := ⟨0x10020100, 27, 27⟩
def F.CLK.CLK_STATUS_CODE : Fld := ⟨0x10020100, 23, 20⟩
def F.CLK.CLK_STATUS_PLAN : Fld := ⟨0x10020100, 3, 0⟩
def A.CLK.PLAN_SWITCH : Nat := 0x10020104
def F.CLK.PLAN_SWITCH_FULL : Fld := ⟨0x10020104, 31, 31⟩
def F.CLK.PLAN_SWITCH_PLAN : Fld := ⟨0x10020104, 30, 27⟩
def F.CLK.PLAN_SWITCH_FRAME : Fld := ⟨0x10020104, 26, 17⟩
def F.CLK.PLAN_SWITCH_SLOT : Fld := ⟨0x10020104, 16, 11⟩
def A.CLK.CLK_CFG : Nat := 0x10020108
def F.CLK.CLK_CFG_AUTO_CAL : Fld := ⟨0x10020108, 4, 4⟩
def F.CLK.CLK_CFG_DEFAULT : Fld := ⟨0x10020108, 3, 0⟩
def A.CLK.CLK_CTRL : Nat := 0x1002010C
def F.CLK.CLK_CTRL_CANCEL : Fld := ⟨0x1002010C, 2, 2⟩
def F.CLK.CLK_CTRL_SAVE : Fld := ⟨0x1002010C, 1, 1⟩
def F.CLK.CLK_CTRL_CAL : Fld := ⟨0x1002010C, 0, 0⟩
def A.CLK.CLK_CNT : Nat := 0x10020110
def F.CLK.CLK_CNT_UNLOCK_CNT : Fld := ⟨0x10020110, 31, 16⟩
def F.CLK.CLK_CNT_CAL_CNT : Fld := ⟨0x10020110, 15, 0⟩
def A.CLK.PLAN_FS (i : Nat) : Nat := 0x10020200 + 0x10 * i
def F.CLK.PLAN_FS_VALID (i : Nat) : Fld := ⟨0x10020200 + 0x10 * i, 31, 31⟩
def F.CLK.PLAN_FS_FS_KHZ (i : Nat) : Fld := ⟨0x10020200 + 0x10 * i, 23, 0⟩
def A.CLK.PLAN_CAL0 (i : Nat) : Nat := 0x10020204 + 0x10 * i
def F.CLK.PLAN_CAL0_CAL_VALID (i : Nat) : Fld := ⟨0x10020204 + 0x10 * i, 31, 31⟩
def F.CLK.PLAN_CAL0_VCO_BAND (i : Nat) : Fld := ⟨0x10020204 + 0x10 * i, 15, 8⟩
def F.CLK.PLAN_CAL0_LOOP_TRIM (i : Nat) : Fld := ⟨0x10020204 + 0x10 * i, 7, 0⟩
def A.CLK.PLAN_CAL1 (i : Nat) : Nat := 0x10020208 + 0x10 * i
def F.CLK.PLAN_CAL1_PHASE_RES (i : Nat) : Fld := ⟨0x10020208 + 0x10 * i, 31, 0⟩
def F.TIM.EVT_TIME_DROP : Fld := ⟨0x10030000, 19, 19⟩
def F.TIM.EVT_SYNC_FRAME_ERR : Fld := ⟨0x10030000, 18, 18⟩
def F.TIM.EVT_SYNC_LOSS : Fld := ⟨0x10030000, 17, 17⟩
def F.TIM.EVT_TL_STEER_LIMIT : Fld := ⟨0x10030000, 16, 16⟩
def F.TIM.EVT_TL_OFFSET : Fld := ⟨0x10030000, 15, 15⟩
def F.TIM.EVT_TL_SWITCH : Fld := ⟨0x10030000, 14, 14⟩
def F.TIM.EVT_TL_START_LATE : Fld := ⟨0x10030000, 13, 13⟩
def F.TIM.EVT_TL_STARTED : Fld := ⟨0x10030000, 12, 12⟩
def F.TIM.EVT_STATE_CHG (i : Nat) : Fld := ⟨0x10030000, 8 + i, 8 + i⟩
def F.TIM.EVT_HALF (i : Nat) : Fld := ⟨0x10030000, 4 + i, 4 + i⟩
def F.TIM.EVT_WRAP (i : Nat) : Fld := ⟨0x10030000, 0 + i, 0 + i⟩
def A.TIM.TB_NS (i : Nat) : Nat := 0x10030100 + 0x40 * i
def F.TIM.TB_NS_NS (i : Nat) : Fld := ⟨0x10030100 + 0x40 * i, 31, 0⟩
def A.TIM.TB_STATUS (i : Nat) : Nat := 0x10030104 + 0x40 * i
def F.TIM.TB_STATUS_STATE (i : Nat) : Fld := ⟨0x10030104 + 0x40 * i, 31, 28⟩
def F.TIM.TB_STATUS_STRATUM (i : Nat) : Fld := ⟨0x10030104 + 0x40 * i, 27, 24⟩
def F.TIM.TB_STATUS_MASTER_STATE (i : Nat) : Fld := ⟨0x10030104 + 0x40 * i, 23, 22⟩
def F.TIM.TB_STATUS_MISS (i : Nat) : Fld := ⟨0x10030104 + 0x40 * i, 15, 8⟩
def F.TIM.TB_STATUS_TALLY (i : Nat) : Fld := ⟨0x10030104 + 0x40 * i, 7, 0⟩
def A.TIM.TB_FREQ (i : Nat) : Nat := 0x10030108 + 0x40 * i
def F.TIM.TB_FREQ_FREQ (i : Nat) : Fld := ⟨0x10030108 + 0x40 * i, 31, 0⟩
def A.TIM.TB_STEP (i : Nat) : Nat := 0x1003010C + 0x40 * i
def F.TIM.TB_STEP_STEP (i : Nat) : Fld := ⟨0x1003010C + 0x40 * i, 31, 0⟩
def A.TIM.TB_DISC (i : Nat) : Nat := 0x10030110 + 0x40 * i
def F.TIM.TB_DISC_MODE (i : Nat) : Fld := ⟨0x10030110 + 0x40 * i, 31, 30⟩
def F.TIM.TB_DISC_PORT (i : Nat) : Fld := ⟨0x10030110 + 0x40 * i, 29, 27⟩
def F.TIM.TB_DISC_SYNC_RATE (i : Nat) : Fld := ⟨0x10030110 + 0x40 * i, 26, 24⟩
def F.TIM.TB_DISC_MASTER_MASK (i : Nat) : Fld := ⟨0x10030110 + 0x40 * i, 21, 16⟩
def F.TIM.TB_DISC_ASYM (i : Nat) : Fld := ⟨0x10030110 + 0x40 * i, 15, 0⟩
def A.TIM.TB_SERVO (i : Nat) : Nat := 0x10030114 + 0x40 * i
def F.TIM.TB_SERVO_LOCK_THRESH (i : Nat) : Fld := ⟨0x10030114 + 0x40 * i, 31, 24⟩
def F.TIM.TB_SERVO_LOCK_COUNT (i : Nat) : Fld := ⟨0x10030114 + 0x40 * i, 23, 16⟩
def F.TIM.TB_SERVO_KP (i : Nat) : Fld := ⟨0x10030114 + 0x40 * i, 15, 12⟩
def F.TIM.TB_SERVO_KI (i : Nat) : Fld := ⟨0x10030114 + 0x40 * i, 11, 8⟩
def F.TIM.TB_SERVO_HOLD_MISS (i : Nat) : Fld := ⟨0x10030114 + 0x40 * i, 7, 0⟩
def A.TIM.TB_OFFSET (i : Nat) : Nat := 0x10030118 + 0x40 * i
def F.TIM.TB_OFFSET_OFFSET (i : Nat) : Fld := ⟨0x10030118 + 0x40 * i, 31, 0⟩
def A.TIM.TB_DELAY (i : Nat) : Nat := 0x1003011C + 0x40 * i
def F.TIM.TB_DELAY_DELAY (i : Nat) : Fld := ⟨0x1003011C + 0x40 * i, 31, 0⟩
def A.TIM.TB_TALLY_SET (i : Nat) : Nat := 0x10030120 + 0x40 * i
def F.TIM.TB_TALLY_SET_TALLY (i : Nat) : Fld := ⟨0x10030120 + 0x40 * i, 7, 0⟩
def A.TIM.TL_CFG : Nat := 0x10030300
def F.TIM.TL_CFG_SLEW : Fld := ⟨0x10030300, 31, 24⟩
def F.TIM.TL_CFG_ALARM : Fld := ⟨0x10030300, 23, 16⟩
def F.TIM.TL_CFG_ALT : Fld := ⟨0x10030300, 9, 8⟩
def F.TIM.TL_CFG_SEL : Fld := ⟨0x10030300, 5, 4⟩
def F.TIM.TL_CFG_AUTO : Fld := ⟨0x10030300, 2, 2⟩
def F.TIM.TL_CFG_FOLLOW : Fld := ⟨0x10030300, 0, 0⟩
def A.TIM.TL_START : Nat := 0x10030304
def F.TIM.TL_START_START_NS : Fld := ⟨0x10030304, 31, 0⟩
def A.TIM.TL_START_EXT : Nat := 0x10030308
def F.TIM.TL_START_EXT_FRAME : Fld := ⟨0x10030308, 25, 16⟩
def F.TIM.TL_START_EXT_TALLY : Fld := ⟨0x10030308, 7, 0⟩
def A.TIM.TL_CTRL : Nat := 0x1003030C
def F.TIM.TL_CTRL_CLEAR : Fld := ⟨0x1003030C, 1, 1⟩
def F.TIM.TL_CTRL_ARM : Fld := ⟨0x1003030C, 0, 0⟩
def A.TIM.TL_STATUS : Nat := 0x10030310
def F.TIM.TL_STATUS_STATE : Fld := ⟨0x10030310, 31, 28⟩
def F.TIM.TL_STATUS_SLEWING : Fld := ⟨0x10030310, 27, 27⟩
def F.TIM.TL_STATUS_FOLLOWED : Fld := ⟨0x10030310, 26, 25⟩
def F.TIM.TL_STATUS_SYNC_LOCK : Fld := ⟨0x10030310, 24, 24⟩
def F.TIM.TL_STATUS_FRAME : Fld := ⟨0x10030310, 9, 0⟩
def A.TIM.TL_PHASE : Nat := 0x10030314
def F.TIM.TL_PHASE_PHASE : Fld := ⟨0x10030314, 31, 0⟩
def A.TIM.TL_ALT_OFFSET : Nat := 0x10030318
def F.TIM.TL_ALT_OFFSET_ALT_OFFSET : Fld := ⟨0x10030318, 31, 0⟩
def A.TIM.TL_STEER : Nat := 0x1003031C
def F.TIM.TL_STEER_STEER : Fld := ⟨0x1003031C, 31, 0⟩
def A.TIM.SYNC_CFG : Nat := 0x10030320
def F.TIM.SYNC_CFG_IN_DELAY : Fld := ⟨0x10030320, 31, 16⟩
def F.TIM.SYNC_CFG_CAPTURE : Fld := ⟨0x10030320, 15, 8⟩
def F.TIM.SYNC_CFG_OUT_EN : Fld := ⟨0x10030320, 0, 0⟩
def A.TIM.SYNC_STATUS : Nat := 0x10030324
def F.TIM.SYNC_STATUS_PHASE : Fld := ⟨0x10030324, 31, 16⟩
def F.TIM.SYNC_STATUS_LOSS_CNT : Fld := ⟨0x10030324, 7, 0⟩
def A.TIM.TIME_DROP_CNT : Nat := 0x10030328
def F.TIM.TIME_DROP_CNT_CNT : Fld := ⟨0x10030328, 15, 0⟩
def A.TIM.CAP_CTRL (i : Nat) : Nat := 0x10030400 + 0x20 * i
def F.TIM.CAP_CTRL_CAPTURE (i : Nat) : Fld := ⟨0x10030400 + 0x20 * i, 0, 0⟩
def A.TIM.CAP_NS (i : Nat) (j : Nat) : Nat := 0x10030404 + 0x20 * i + 0x4 * j
def F.TIM.CAP_NS_NS (i : Nat) (j : Nat) : Fld := ⟨0x10030404 + 0x20 * i + 0x4 * j, 31, 0⟩
def A.TIM.CAP_TALLY (i : Nat) : Nat := 0x10030414 + 0x20 * i
def F.TIM.CAP_TALLY_TB3 (i : Nat) : Fld := ⟨0x10030414 + 0x20 * i, 31, 24⟩
def F.TIM.CAP_TALLY_TB2 (i : Nat) : Fld := ⟨0x10030414 + 0x20 * i, 23, 16⟩
def F.TIM.CAP_TALLY_TB1 (i : Nat) : Fld := ⟨0x10030414 + 0x20 * i, 15, 8⟩
def F.TIM.CAP_TALLY_TB0 (i : Nat) : Fld := ⟨0x10030414 + 0x20 * i, 7, 0⟩
def F.LNK.EVT_PAT_ERR (p : Nat) : Fld := ⟨0x10040000 + 0x10000 * p, 10, 10⟩
def F.LNK.EVT_DIR_WAKE_FAIL (p : Nat) : Fld := ⟨0x10040000 + 0x10000 * p, 9, 9⟩
def F.LNK.EVT_SLEEP_REFUSED (p : Nat) : Fld := ⟨0x10040000 + 0x10000 * p, 8, 8⟩
def F.LNK.EVT_DIR_CHANGE (p : Nat) : Fld := ⟨0x10040000 + 0x10000 * p, 7, 7⟩
def F.LNK.EVT_ELASTIC_OVF (p : Nat) : Fld := ⟨0x10040000 + 0x10000 * p, 6, 6⟩
def F.LNK.EVT_SCR_SLIP (p : Nat) : Fld := ⟨0x10040000 + 0x10000 * p, 5, 5⟩
def F.LNK.EVT_STUFF_VIOL (p : Nat) : Fld := ⟨0x10040000 + 0x10000 * p, 4, 4⟩
def F.LNK.EVT_SIGNAL_RETURN (p : Nat) : Fld := ⟨0x10040000 + 0x10000 * p, 3, 3⟩
def F.LNK.EVT_TRAIN_FAIL (p : Nat) : Fld := ⟨0x10040000 + 0x10000 * p, 2, 2⟩
def F.LNK.EVT_PORT_DOWN (p : Nat) : Fld := ⟨0x10040000 + 0x10000 * p, 1, 1⟩
def F.LNK.EVT_PORT_UP (p : Nat) : Fld := ⟨0x10040000 + 0x10000 * p, 0, 0⟩
def A.LNK.PORT_CTRL (p : Nat) : Nat := 0x10040100 + 0x10000 * p
def F.LNK.PORT_CTRL_RETRAIN (p : Nat) : Fld := ⟨0x10040100 + 0x10000 * p, 1, 1⟩
def F.LNK.PORT_CTRL_EN (p : Nat) : Fld := ⟨0x10040100 + 0x10000 * p, 0, 0⟩
def A.LNK.PORT_CFG (p : Nat) : Nat := 0x10040104 + 0x10000 * p
def F.LNK.PORT_CFG_TRAIN_TIMEOUT (p : Nat) : Fld := ⟨0x10040104 + 0x10000 * p, 19, 16⟩
def F.LNK.PORT_CFG_EQ_FREEZE (p : Nat) : Fld := ⟨0x10040104 + 0x10000 * p, 8, 8⟩
def F.LNK.PORT_CFG_AUTO_RETRAIN (p : Nat) : Fld := ⟨0x10040104 + 0x10000 * p, 4, 4⟩
def F.LNK.PORT_CFG_M32 (p : Nat) : Fld := ⟨0x10040104 + 0x10000 * p, 3, 3⟩
def F.LNK.PORT_CFG_RATE (p : Nat) : Fld := ⟨0x10040104 + 0x10000 * p, 1, 0⟩
def A.LNK.PORT_STATUS (p : Nat) : Nat := 0x10040108 + 0x10000 * p
def F.LNK.PORT_STATUS_CAIRN_LOCK (p : Nat) : Fld := ⟨0x10040108 + 0x10000 * p, 31, 24⟩
def F.LNK.PORT_STATUS_LOS (p : Nat) : Fld := ⟨0x10040108 + 0x10000 * p, 23, 16⟩
def F.LNK.PORT_STATUS_DOWN_CAUSE (p : Nat) : Fld := ⟨0x10040108 + 0x10000 * p, 15, 12⟩
def F.LNK.PORT_STATUS_RX_DIR (p : Nat) : Fld := ⟨0x10040108 + 0x10000 * p, 11, 10⟩
def F.LNK.PORT_STATUS_TX_DIR (p : Nat) : Fld := ⟨0x10040108 + 0x10000 * p, 9, 8⟩
def F.LNK.PORT_STATUS_STATE (p : Nat) : Fld := ⟨0x10040108 + 0x10000 * p, 3, 0⟩
def A.LNK.SLEEP_CFG (p : Nat) : Nat := 0x10040110 + 0x10000 * p
def F.LNK.SLEEP_CFG_PLUG_DEBOUNCE (p : Nat) : Fld := ⟨0x10040110 + 0x10000 * p, 23, 16⟩
def F.LNK.SLEEP_CFG_ALLOW_PARTNER (p : Nat) : Fld := ⟨0x10040110 + 0x10000 * p, 4, 4⟩
def F.LNK.SLEEP_CFG_AUTO_WAKE (p : Nat) : Fld := ⟨0x10040110 + 0x10000 * p, 3, 3⟩
def F.LNK.SLEEP_CFG_BC_KEEP_RX (p : Nat) : Fld := ⟨0x10040110 + 0x10000 * p, 1, 1⟩
def F.LNK.SLEEP_CFG_BC_KEEP_TX (p : Nat) : Fld := ⟨0x10040110 + 0x10000 * p, 0, 0⟩
def A.LNK.SLEEP_CTRL (p : Nat) : Nat := 0x10040114 + 0x10000 * p
def F.LNK.SLEEP_CTRL_RX_WAKE (p : Nat) : Fld := ⟨0x10040114 + 0x10000 * p, 3, 3⟩
def F.LNK.SLEEP_CTRL_TX_WAKE (p : Nat) : Fld := ⟨0x10040114 + 0x10000 * p, 2, 2⟩
def F.LNK.SLEEP_CTRL_RX_SLEEP (p : Nat) : Fld := ⟨0x10040114 + 0x10000 * p, 1, 1⟩
def F.LNK.SLEEP_CTRL_TX_SLEEP (p : Nat) : Fld := ⟨0x10040114 + 0x10000 * p, 0, 0⟩
def A.LNK.SLEEP_STATUS (p : Nat) : Nat := 0x10040118 + 0x10000 * p
def F.LNK.SLEEP_STATUS_CODE (p : Nat) : Fld := ⟨0x10040118 + 0x10000 * p, 3, 0⟩
def A.LNK.ERR_CNT0 (p : Nat) : Nat := 0x10040120 + 0x10000 * p
def F.LNK.ERR_CNT0_STUFF_VIOL_CNT (p : Nat) : Fld := ⟨0x10040120 + 0x10000 * p, 31, 16⟩
def F.LNK.ERR_CNT0_SCR_SLIP_CNT (p : Nat) : Fld := ⟨0x10040120 + 0x10000 * p, 15, 0⟩
def A.LNK.ERR_CNT1 (p : Nat) : Nat := 0x10040124 + 0x10000 * p
def F.LNK.ERR_CNT1_DOWN_CNT (p : Nat) : Fld := ⟨0x10040124 + 0x10000 * p, 31, 16⟩
def F.LNK.ERR_CNT1_CAIRN_MISS_CNT (p : Nat) : Fld := ⟨0x10040124 + 0x10000 * p, 15, 0⟩
def A.LNK.COMP_CNT (p : Nat) : Nat := 0x10040128 + 0x10000 * p
def F.LNK.COMP_CNT_INSERT_CNT (p : Nat) : Fld := ⟨0x10040128 + 0x10000 * p, 31, 16⟩
def F.LNK.COMP_CNT_DELETE_CNT (p : Nat) : Fld := ⟨0x10040128 + 0x10000 * p, 15, 0⟩
def A.LNK.LANE_SEED (p : Nat) (i : Nat) : Nat := 0x10040200 + 0x10000 * p + 0x20 * i
def F.LNK.LANE_SEED_SEED (p : Nat) (i : Nat) : Fld := ⟨0x10040200 + 0x10000 * p + 0x20 * i, 30, 0⟩
def A.LNK.LANE_TXFFE (p : Nat) (i : Nat) : Nat := 0x10040204 + 0x10000 * p + 0x20 * i
def F.LNK.LANE_TXFFE_POST (p : Nat) (i : Nat) : Fld := ⟨0x10040204 + 0x10000 * p + 0x20 * i, 12, 8⟩
def F.LNK.LANE_TXFFE_PRE (p : Nat) (i : Nat) : Fld := ⟨0x10040204 + 0x10000 * p + 0x20 * i, 4, 0⟩
def A.LNK.LANE_EQ (p : Nat) (i : Nat) : Nat := 0x10040208 + 0x10000 * p + 0x20 * i
def F.LNK.LANE_EQ_CTLE (p : Nat) (i : Nat) : Fld := ⟨0x10040208 + 0x10000 * p + 0x20 * i, 27, 24⟩
def F.LNK.LANE_EQ_EYE_MARGIN (p : Nat) (i : Nat) : Fld := ⟨0x10040208 + 0x10000 * p + 0x20 * i, 23, 16⟩
def A.LNK.LANE_PAT_CFG (p : Nat) (i : Nat) : Nat := 0x1004020C + 0x10000 * p + 0x20 * i
def F.LNK.LANE_PAT_CFG_LOOP (p : Nat) (i : Nat) : Fld := ⟨0x1004020C + 0x10000 * p + 0x20 * i, 7, 6⟩
def F.LNK.LANE_PAT_CFG_CHK_EN (p : Nat) (i : Nat) : Fld := ⟨0x1004020C + 0x10000 * p + 0x20 * i, 5, 5⟩
def F.LNK.LANE_PAT_CFG_GEN_EN (p : Nat) (i : Nat) : Fld := ⟨0x1004020C + 0x10000 * p + 0x20 * i, 4, 4⟩
def F.LNK.LANE_PAT_CFG_PAT (p : Nat) (i : Nat) : Fld := ⟨0x1004020C + 0x10000 * p + 0x20 * i, 2, 0⟩
def A.LNK.LANE_PAT_USER_LO (p : Nat) (i : Nat) : Nat := 0x10040210 + 0x10000 * p + 0x20 * i
def F.LNK.LANE_PAT_USER_LO_USER_LO (p : Nat) (i : Nat) : Fld := ⟨0x10040210 + 0x10000 * p + 0x20 * i, 31, 0⟩
def A.LNK.LANE_PAT_USER_HI (p : Nat) (i : Nat) : Nat := 0x10040214 + 0x10000 * p + 0x20 * i
def F.LNK.LANE_PAT_USER_HI_USER_HI (p : Nat) (i : Nat) : Fld := ⟨0x10040214 + 0x10000 * p + 0x20 * i, 31, 0⟩
def A.LNK.LANE_PAT_ERR (p : Nat) (i : Nat) : Nat := 0x10040218 + 0x10000 * p + 0x20 * i
def F.LNK.LANE_PAT_ERR_LOCK (p : Nat) (i : Nat) : Fld := ⟨0x10040218 + 0x10000 * p + 0x20 * i, 31, 31⟩
def F.LNK.LANE_PAT_ERR_ERR_CNT (p : Nat) (i : Nat) : Fld := ⟨0x10040218 + 0x10000 * p + 0x20 * i, 30, 0⟩
def A.LNK.LANE_INJ (p : Nat) (i : Nat) : Nat := 0x1004021C + 0x10000 * p + 0x20 * i
def F.LNK.LANE_INJ_INJ (p : Nat) (i : Nat) : Fld := ⟨0x1004021C + 0x10000 * p + 0x20 * i, 2, 0⟩
def A.LNK.VC_BUF0 (p : Nat) : Nat := 0x10040300 + 0x10000 * p
def F.LNK.VC_BUF0_VC3 (p : Nat) : Fld := ⟨0x10040300 + 0x10000 * p, 31, 24⟩
def F.LNK.VC_BUF0_VC2 (p : Nat) : Fld := ⟨0x10040300 + 0x10000 * p, 23, 16⟩
def F.LNK.VC_BUF0_VC1 (p : Nat) : Fld := ⟨0x10040300 + 0x10000 * p, 15, 8⟩
def F.LNK.VC_BUF0_VC0 (p : Nat) : Fld := ⟨0x10040300 + 0x10000 * p, 7, 0⟩
def A.LNK.VC_BUF1 (p : Nat) : Nat := 0x10040304 + 0x10000 * p
def F.LNK.VC_BUF1_VC7 (p : Nat) : Fld := ⟨0x10040304 + 0x10000 * p, 31, 24⟩
def F.LNK.VC_BUF1_VC6 (p : Nat) : Fld := ⟨0x10040304 + 0x10000 * p, 23, 16⟩
def F.LNK.VC_BUF1_VC5 (p : Nat) : Fld := ⟨0x10040304 + 0x10000 * p, 15, 8⟩
def F.LNK.VC_BUF1_VC4 (p : Nat) : Fld := ⟨0x10040304 + 0x10000 * p, 7, 0⟩
def A.LNK.CREDIT_STATUS (p : Nat) : Nat := 0x10040308 + 0x10000 * p
def F.LNK.CREDIT_STATUS_FULL_FRAME (p : Nat) : Fld := ⟨0x10040308 + 0x10000 * p, 7, 0⟩
def F.RTE.EVT_BOND_CHANGE : Fld := ⟨0x100A0000, 11, 11⟩
def F.RTE.EVT_RING_SPLIT : Fld := ⟨0x100A0000, 10, 10⟩
def F.RTE.EVT_PS_SAT : Fld := ⟨0x100A0000, 9, 9⟩
def F.RTE.EVT_PS_OVF : Fld := ⟨0x100A0000, 8, 8⟩
def F.RTE.EVT_PS_MISMATCH : Fld := ⟨0x100A0000, 7, 7⟩
def F.RTE.EVT_PS_LATE : Fld := ⟨0x100A0000, 6, 6⟩
def F.RTE.EVT_PS_DEGRADED : Fld := ⟨0x100A0000, 5, 5⟩
def F.RTE.EVT_POISON_RX : Fld := ⟨0x100A0000, 4, 4⟩
def F.RTE.EVT_LOOP_DROP : Fld := ⟨0x100A0000, 3, 3⟩
def F.RTE.EVT_NOROUTE : Fld := ⟨0x100A0000, 2, 2⟩
def F.RTE.EVT_MALFORMED : Fld := ⟨0x100A0000, 1, 1⟩
def F.RTE.EVT_HCRC_ERR : Fld := ⟨0x100A0000, 0, 0⟩
def A.RTE.DEV_CFG : Nat := 0x100A0100
def F.RTE.DEV_CFG_HOP_LIMIT : Fld := ⟨0x100A0100, 17, 12⟩
def F.RTE.DEV_CFG_DEV_ADDR : Fld := ⟨0x100A0100, 11, 0⟩
def A.RTE.TS_CFG : Nat := 0x100A0104
def F.RTE.TS_CFG_TS_BASE : Fld := ⟨0x100A0104, 9, 8⟩
def F.RTE.TS_CFG_BCAST_MASK : Fld := ⟨0x100A0104, 5, 0⟩
def A.RTE.MGMT_CFG : Nat := 0x100A0108
def F.RTE.MGMT_CFG_EVT_EN : Fld := ⟨0x100A0108, 12, 12⟩
def F.RTE.MGMT_CFG_EVT_DST : Fld := ⟨0x100A0108, 11, 0⟩
def A.RTE.BOND_CFG : Nat := 0x100A0110
def F.RTE.BOND_CFG_BOND_EN : Fld := ⟨0x100A0110, 2, 0⟩
def A.RTE.BOND_STATUS : Nat := 0x100A0114
def F.RTE.BOND_STATUS_ACTIVE : Fld := ⟨0x100A0114, 5, 0⟩
def A.RTE.TOPO_CFG : Nat := 0x100A0120
def F.RTE.TOPO_CFG_RING_AUTO : Fld := ⟨0x100A0120, 4, 4⟩
def F.RTE.TOPO_CFG_TOPO : Fld := ⟨0x100A0120, 1, 0⟩
def A.RTE.PS_CFG : Nat := 0x100A0130
def F.RTE.PS_CFG_EN : Fld := ⟨0x100A0130, 31, 31⟩
def F.RTE.PS_CFG_HEAD : Fld := ⟨0x100A0130, 30, 30⟩
def F.RTE.PS_CFG_OUT : Fld := ⟨0x100A0130, 29, 27⟩
def F.RTE.PS_CFG_ALT_OUT : Fld := ⟨0x100A0130, 26, 24⟩
def F.RTE.PS_CFG_ALT_IN_MASK : Fld := ⟨0x100A0130, 17, 12⟩
def F.RTE.PS_CFG_IN_MASK : Fld := ⟨0x100A0130, 5, 0⟩
def A.RTE.PS_EXPECT : Nat := 0x100A0134
def F.RTE.PS_EXPECT_PS_HEAD : Fld := ⟨0x100A0134, 27, 16⟩
def F.RTE.PS_EXPECT_EXPECT : Fld := ⟨0x100A0134, 11, 0⟩
def A.RTE.PS_HOLD : Nat := 0x100A0138
def F.RTE.PS_HOLD_HOLD_GRAM : Fld := ⟨0x100A0138, 31, 16⟩
def F.RTE.PS_HOLD_HOLD_UL : Fld := ⟨0x100A0138, 15, 0⟩
def A.RTE.PS_STATUS : Nat := 0x100A013C
def F.RTE.PS_STATUS_SPLIT : Fld := ⟨0x100A013C, 31, 31⟩
def F.RTE.PS_STATUS_LAST_NCONTRIB : Fld := ⟨0x100A013C, 11, 0⟩
def A.RTE.PS_CNT0 : Nat := 0x100A0140
def F.RTE.PS_CNT0_DEGR_CNT : Fld := ⟨0x100A0140, 31, 16⟩
def F.RTE.PS_CNT0_LATE_CNT : Fld := ⟨0x100A0140, 15, 0⟩
def A.RTE.PS_CNT1 : Nat := 0x100A0144
def F.RTE.PS_CNT1_SAT_CNT : Fld := ⟨0x100A0144, 31, 16⟩
def F.RTE.PS_CNT1_OVF_CNT : Fld := ⟨0x100A0144, 15, 0⟩
def A.RTE.PS_CNT2 : Nat := 0x100A0148
def F.RTE.PS_CNT2_MISMATCH_CNT : Fld := ⟨0x100A0148, 15, 0⟩
def A.RTE.FRM_CNT0 : Nat := 0x100A0150
def F.RTE.FRM_CNT0_HCRC_CNT : Fld := ⟨0x100A0150, 31, 16⟩
def F.RTE.FRM_CNT0_MALFORMED_CNT : Fld := ⟨0x100A0150, 15, 0⟩
def A.RTE.FRM_CNT1 : Nat := 0x100A0154
def F.RTE.FRM_CNT1_NOROUTE_CNT : Fld := ⟨0x100A0154, 31, 16⟩
def F.RTE.FRM_CNT1_LOOP_CNT : Fld := ⟨0x100A0154, 15, 0⟩
def A.RTE.FRM_CNT2 : Nat := 0x100A0158
def F.RTE.FRM_CNT2_POISON_RX_CNT : Fld := ⟨0x100A0158, 31, 16⟩
def F.RTE.FRM_CNT2_POISON_FWD_CNT : Fld := ⟨0x100A0158, 15, 0⟩
def A.RTE.ROUTE_TABLE (i : Nat) : Nat := 0x100A4000 + 0x4 * i
def F.RTE.ROUTE_TABLE_VALID (i : Nat) : Fld := ⟨0x100A4000 + 0x4 * i, 31, 31⟩
def F.RTE.ROUTE_TABLE_FAILOVER (i : Nat) : Fld := ⟨0x100A4000 + 0x4 * i, 30, 30⟩
def F.RTE.ROUTE_TABLE_ALT (i : Nat) : Fld := ⟨0x100A4000 + 0x4 * i, 5, 3⟩
def F.RTE.ROUTE_TABLE_PRI (i : Nat) : Fld := ⟨0x100A4000 + 0x4 * i, 2, 0⟩
def A.RTE.MCAST_TABLE (i : Nat) : Nat := 0x100A8000 + 0x4 * i
def F.RTE.MCAST_TABLE_VALID (i : Nat) : Fld := ⟨0x100A8000 + 0x4 * i, 31, 31⟩
def F.RTE.MCAST_TABLE_LOCAL (i : Nat) : Fld := ⟨0x100A8000 + 0x4 * i, 6, 6⟩
def F.RTE.MCAST_TABLE_PORTS (i : Nat) : Fld := ⟨0x100A8000 + 0x4 * i, 5, 0⟩
def F.ARB.EVT_COMP_B : Fld := ⟨0x100B0000, 7, 7⟩
def F.ARB.EVT_COMP_A : Fld := ⟨0x100B0000, 6, 6⟩
def F.ARB.EVT_POST_REFUSED : Fld := ⟨0x100B0000, 5, 5⟩
def F.ARB.EVT_QFULL : Fld := ⟨0x100B0000, 4, 4⟩
def F.ARB.EVT_ECC_UE : Fld := ⟨0x100B0000, 3, 3⟩
def F.ARB.EVT_ECC_CE : Fld := ⟨0x100B0000, 2, 2⟩
def F.ARB.EVT_STARVE_BE : Fld := ⟨0x100B0000, 1, 1⟩
def F.ARB.EVT_STARVE_RT : Fld := ⟨0x100B0000, 0, 0⟩
def A.ARB.ARB_CFG : Nat := 0x100B0100
def F.ARB.ARB_CFG_THRESH_BE : Fld := ⟨0x100B0100, 31, 16⟩
def F.ARB.ARB_CFG_THRESH_RT : Fld := ⟨0x100B0100, 15, 0⟩
def A.ARB.LFSR_SEED : Nat := 0x100B0104
def F.ARB.LFSR_SEED_SEED : Fld := ⟨0x100B0104, 15, 0⟩
def A.ARB.LFSR_STATE : Nat := 0x100B0108
def F.ARB.LFSR_STATE_STATE : Fld := ⟨0x100B0108, 15, 0⟩
def A.ARB.TICKET0 : Nat := 0x100B0110
def F.ARB.TICKET0_K3 : Fld := ⟨0x100B0110, 31, 24⟩
def F.ARB.TICKET0_K2 : Fld := ⟨0x100B0110, 23, 16⟩
def F.ARB.TICKET0_K1 : Fld := ⟨0x100B0110, 15, 8⟩
def F.ARB.TICKET0_K0 : Fld := ⟨0x100B0110, 7, 0⟩
def A.ARB.TICKET1 : Nat := 0x100B0114
def F.ARB.TICKET1_K1 : Fld := ⟨0x100B0114, 15, 8⟩
def F.ARB.TICKET1_K0 : Fld := ⟨0x100B0114, 7, 0⟩
def A.ARB.TICKET2 : Nat := 0x100B0118
def F.ARB.TICKET2_K3 : Fld := ⟨0x100B0118, 31, 24⟩
def F.ARB.TICKET2_K2 : Fld := ⟨0x100B0118, 23, 16⟩
def A.ARB.TICKET3 : Nat := 0x100B011C
def F.ARB.TICKET3_K3 : Fld := ⟨0x100B011C, 31, 24⟩
def F.ARB.TICKET3_K2 : Fld := ⟨0x100B011C, 23, 16⟩
def F.ARB.TICKET3_K1 : Fld := ⟨0x100B011C, 15, 8⟩
def F.ARB.TICKET3_K0 : Fld := ⟨0x100B011C, 7, 0⟩
def A.ARB.TICKET4 : Nat := 0x100B0120
def F.ARB.TICKET4_K2 : Fld := ⟨0x100B0120, 23, 16⟩
def F.ARB.TICKET4_K1 : Fld := ⟨0x100B0120, 15, 8⟩
def F.ARB.TICKET4_K0 : Fld := ⟨0x100B0120, 7, 0⟩
def A.ARB.STARVE : Nat := 0x100B0130
def F.ARB.STARVE_FLAG : Fld := ⟨0x100B0130, 18, 0⟩
def A.ARB.MAX_WAIT : Nat := 0x100B0134
def F.ARB.MAX_WAIT_BE : Fld := ⟨0x100B0134, 31, 16⟩
def F.ARB.MAX_WAIT_RT : Fld := ⟨0x100B0134, 15, 0⟩
def A.ARB.BANK_SEL : Nat := 0x100B0140
def F.ARB.BANK_SEL_BANK : Fld := ⟨0x100B0140, 6, 0⟩
def A.ARB.BANK_STATUS : Nat := 0x100B0144
def F.ARB.BANK_STATUS_QLEN : Fld := ⟨0x100B0144, 20, 16⟩
def F.ARB.BANK_STATUS_RT_RUN : Fld := ⟨0x100B0144, 11, 8⟩
def F.ARB.BANK_STATUS_OWNER : Fld := ⟨0x100B0144, 4, 0⟩
def A.ARB.ECC_LOG : Nat := 0x100B0150
def F.ARB.ECC_LOG_ADDR : Fld := ⟨0x100B0150, 31, 0⟩
def A.ARB.ECC_CNT : Nat := 0x100B0154
def F.ARB.ECC_CNT_UE_CNT : Fld := ⟨0x100B0154, 31, 16⟩
def F.ARB.ECC_CNT_CE_CNT : Fld := ⟨0x100B0154, 15, 0⟩
def A.ARB.ARB_CNT0 : Nat := 0x100B0158
def F.ARB.ARB_CNT0_QFULL_CNT : Fld := ⟨0x100B0158, 31, 16⟩
def F.ARB.ARB_CNT0_FLOOR_CNT : Fld := ⟨0x100B0158, 15, 0⟩
def A.ARB.ARB_CNT1 : Nat := 0x100B015C
def F.ARB.ARB_CNT1_POST_REFUSE_CNT : Fld := ⟨0x100B015C, 31, 16⟩
def F.ARB.ARB_CNT1_STARVE_CNT : Fld := ⟨0x100B015C, 15, 0⟩
def A.ARB.POST_CTX (i : Nat) : Nat := 0x100B1000 + 0x20 * i
def F.ARB.POST_CTX_ADDR (i : Nat) : Fld := ⟨0x100B1000 + 0x20 * i, 31, 0⟩
def A.ARB.POST_LOC (i : Nat) : Nat := 0x100B1004 + 0x20 * i
def F.ARB.POST_LOC_ADDR (i : Nat) : Fld := ⟨0x100B1004 + 0x20 * i, 31, 0⟩
def A.ARB.POST_CMD (i : Nat) : Nat := 0x100B1008 + 0x20 * i
def F.ARB.POST_CMD_WRITE (i : Nat) : Fld := ⟨0x100B1008 + 0x20 * i, 31, 31⟩
def F.ARB.POST_CMD_TAG (i : Nat) : Fld := ⟨0x100B1008 + 0x20 * i, 23, 16⟩
def F.ARB.POST_CMD_BEATS (i : Nat) : Fld := ⟨0x100B1008 + 0x20 * i, 3, 0⟩
def A.ARB.POST_STATUS (i : Nat) : Nat := 0x100B100C + 0x20 * i
def F.ARB.POST_STATUS_CODE (i : Nat) : Fld := ⟨0x100B100C + 0x20 * i, 31, 28⟩
def F.ARB.POST_STATUS_UNREAD (i : Nat) : Fld := ⟨0x100B100C + 0x20 * i, 20, 16⟩
def F.ARB.POST_STATUS_OUT (i : Nat) : Fld := ⟨0x100B100C + 0x20 * i, 4, 0⟩
def A.ARB.COMP_POP (i : Nat) : Nat := 0x100B1010 + 0x20 * i
def F.ARB.COMP_POP_ENTRY (i : Nat) : Fld := ⟨0x100B1010 + 0x20 * i, 31, 0⟩
def F.MBX.EVT_RECV_TIMEOUT : Fld := ⟨0x100C0000, 9, 9⟩
def F.MBX.EVT_WAKE_DONE : Fld := ⟨0x100C0000, 8, 8⟩
def F.MBX.EVT_ORPHAN : Fld := ⟨0x100C0000, 7, 7⟩
def F.MBX.EVT_STALE : Fld := ⟨0x100C0000, 6, 6⟩
def F.MBX.EVT_DOWN : Fld := ⟨0x100C0000, 5, 5⟩
def F.MBX.EVT_COLLIDE : Fld := ⟨0x100C0000, 4, 4⟩
def F.MBX.EVT_DOORBELL_B : Fld := ⟨0x100C0000, 3, 3⟩
def F.MBX.EVT_DOORBELL_A : Fld := ⟨0x100C0000, 2, 2⟩
def F.MBX.EVT_INBOX_B : Fld := ⟨0x100C0000, 1, 1⟩
def F.MBX.EVT_INBOX_A : Fld := ⟨0x100C0000, 0, 0⟩
def A.MBX.SEND_PTR (i : Nat) : Nat := 0x100C0100 + 0x40 * i
def F.MBX.SEND_PTR_PTR (i : Nat) : Fld := ⟨0x100C0100 + 0x40 * i, 31, 0⟩
def A.MBX.SEND_CMD (i : Nat) : Nat := 0x100C0104 + 0x40 * i
def F.MBX.SEND_CMD_DST (i : Nat) : Fld := ⟨0x100C0104 + 0x40 * i, 29, 24⟩
def F.MBX.SEND_CMD_TAG (i : Nat) : Fld := ⟨0x100C0104 + 0x40 * i, 23, 16⟩
def F.MBX.SEND_CMD_LENGTH (i : Nat) : Fld := ⟨0x100C0104 + 0x40 * i, 15, 0⟩
def A.MBX.SEND_STATUS (i : Nat) : Nat := 0x100C0108 + 0x40 * i
def F.MBX.SEND_STATUS_CODE (i : Nat) : Fld := ⟨0x100C0108 + 0x40 * i, 3, 0⟩
def A.MBX.RECV_PTR (i : Nat) : Nat := 0x100C010C + 0x40 * i
def F.MBX.RECV_PTR_PTR (i : Nat) : Fld := ⟨0x100C010C + 0x40 * i, 31, 0⟩
def A.MBX.RECV_META (i : Nat) : Nat := 0x100C0110 + 0x40 * i
def F.MBX.RECV_META_META (i : Nat) : Fld := ⟨0x100C0110 + 0x40 * i, 31, 0⟩
def A.MBX.RECV_STATUS (i : Nat) : Nat := 0x100C0114 + 0x40 * i
def F.MBX.RECV_STATUS_CODE (i : Nat) : Fld := ⟨0x100C0114 + 0x40 * i, 31, 28⟩
def F.MBX.RECV_STATUS_LEVEL (i : Nat) : Fld := ⟨0x100C0114 + 0x40 * i, 2, 0⟩
def A.MBX.DB_RING (i : Nat) : Nat := 0x100C0118 + 0x40 * i
def F.MBX.DB_RING_AGENT (i : Nat) : Fld := ⟨0x100C0118 + 0x40 * i, 5, 0⟩
def A.MBX.HOST_CTRL (i : Nat) : Nat := 0x100C011C + 0x40 * i
def F.MBX.HOST_CTRL_EPOCH (i : Nat) : Fld := ⟨0x100C011C + 0x40 * i, 17, 16⟩
def F.MBX.HOST_CTRL_RESTART (i : Nat) : Fld := ⟨0x100C011C + 0x40 * i, 0, 0⟩
def A.MBX.MBX_CNT0 : Nat := 0x100C0180
def F.MBX.MBX_CNT0_DOWN_CNT : Fld := ⟨0x100C0180, 31, 16⟩
def F.MBX.MBX_CNT0_STALE_CNT : Fld := ⟨0x100C0180, 15, 0⟩
def A.MBX.MBX_CNT1 : Nat := 0x100C0184
def F.MBX.MBX_CNT1_RX_TMO_CNT : Fld := ⟨0x100C0184, 15, 0⟩
def A.MBX.INBOX_STATUS (i : Nat) : Nat := 0x100C0400 + 0x10 * i
def F.MBX.INBOX_STATUS_COLL_CNT (i : Nat) : Fld := ⟨0x100C0400 + 0x10 * i, 31, 24⟩
def F.MBX.INBOX_STATUS_DISPLACED (i : Nat) : Fld := ⟨0x100C0400 + 0x10 * i, 21, 16⟩
def F.MBX.INBOX_STATUS_LEVEL (i : Nat) : Fld := ⟨0x100C0400 + 0x10 * i, 2, 0⟩
def A.MBX.DB_PEND_LO (i : Nat) : Nat := 0x100C0404 + 0x10 * i
def F.MBX.DB_PEND_LO_PEND (i : Nat) : Fld := ⟨0x100C0404 + 0x10 * i, 31, 0⟩
def A.MBX.DB_PEND_HI (i : Nat) : Nat := 0x100C0408 + 0x10 * i
def F.MBX.DB_PEND_HI_PEND (i : Nat) : Fld := ⟨0x100C0408 + 0x10 * i, 3, 0⟩
def A.MBX.WAIT_TMO (i : Nat) : Nat := 0x100C040C + 0x10 * i
def F.MBX.WAIT_TMO_TMO (i : Nat) : Fld := ⟨0x100C040C + 0x10 * i, 15, 0⟩
def A.MBX.POOL_BASE (i : Nat) (j : Nat) : Nat := 0x100C0800 + 0x10 * i + 0x8 * j
def F.MBX.POOL_BASE_BASE (i : Nat) (j : Nat) : Fld := ⟨0x100C0800 + 0x10 * i + 0x8 * j, 31, 0⟩
def A.MBX.POOL_CFG (i : Nat) (j : Nat) : Nat := 0x100C0804 + 0x10 * i + 0x8 * j
def F.MBX.POOL_CFG_VALID (i : Nat) (j : Nat) : Fld := ⟨0x100C0804 + 0x10 * i + 0x8 * j, 31, 31⟩
def F.MBX.POOL_CFG_ORPHANED (i : Nat) (j : Nat) : Fld := ⟨0x100C0804 + 0x10 * i + 0x8 * j, 30, 30⟩
def F.MBX.POOL_CFG_RELEASE (i : Nat) (j : Nat) : Fld := ⟨0x100C0804 + 0x10 * i + 0x8 * j, 29, 29⟩
def F.MBX.POOL_CFG_EPOCH (i : Nat) (j : Nat) : Fld := ⟨0x100C0804 + 0x10 * i + 0x8 * j, 25, 24⟩
def F.MBX.POOL_CFG_SIZE (i : Nat) (j : Nat) : Fld := ⟨0x100C0804 + 0x10 * i + 0x8 * j, 15, 0⟩
def F.BLY.EVT_NOTOWNER : Fld := ⟨0x100D0000, 6, 6⟩
def F.BLY.EVT_GRANT_B : Fld := ⟨0x100D0000, 5, 5⟩
def F.BLY.EVT_GRANT_A : Fld := ⟨0x100D0000, 4, 4⟩
def F.BLY.EVT_QOVF : Fld := ⟨0x100D0000, 3, 3⟩
def F.BLY.EVT_BROKEN : Fld := ⟨0x100D0000, 2, 2⟩
def F.BLY.EVT_TIMEOUT : Fld := ⟨0x100D0000, 1, 1⟩
def F.BLY.EVT_CYCLE : Fld := ⟨0x100D0000, 0, 0⟩
def A.BLY.ACQ (i : Nat) : Nat := 0x100D0100 + 0x20 * i
def F.BLY.ACQ_WAIT (i : Nat) : Fld := ⟨0x100D0100 + 0x20 * i, 31, 31⟩
def F.BLY.ACQ_SEM (i : Nat) : Fld := ⟨0x100D0100 + 0x20 * i, 5, 0⟩
def A.BLY.REL (i : Nat) : Nat := 0x100D0104 + 0x20 * i
def F.BLY.REL_SEM (i : Nat) : Fld := ⟨0x100D0104 + 0x20 * i, 5, 0⟩
def A.BLY.HOST_STATUS (i : Nat) : Nat := 0x100D0108 + 0x20 * i
def F.BLY.HOST_STATUS_CODE (i : Nat) : Fld := ⟨0x100D0108 + 0x20 * i, 31, 28⟩
def F.BLY.HOST_STATUS_QUEUED (i : Nat) : Fld := ⟨0x100D0108 + 0x20 * i, 27, 27⟩
def F.BLY.HOST_STATUS_SEM (i : Nat) : Fld := ⟨0x100D0108 + 0x20 * i, 5, 0⟩
def A.BLY.BREAK : Nat := 0x100D0140
def F.BLY.BREAK_SEM : Fld := ⟨0x100D0140, 5, 0⟩
def A.BLY.BLY_CNT0 : Nat := 0x100D0160
def F.BLY.BLY_CNT0_CYCLE_CNT : Fld := ⟨0x100D0160, 31, 16⟩
def F.BLY.BLY_CNT0_TIMEOUT_CNT : Fld := ⟨0x100D0160, 15, 0⟩
def A.BLY.BLY_CNT1 : Nat := 0x100D0164
def F.BLY.BLY_CNT1_BROKEN_CNT : Fld := ⟨0x100D0164, 31, 16⟩
def F.BLY.BLY_CNT1_QOVF_CNT : Fld := ⟨0x100D0164, 15, 0⟩
def A.BLY.BLY_CNT2 : Nat := 0x100D0168
def F.BLY.BLY_CNT2_NOTOWNER_CNT : Fld := ⟨0x100D0168, 15, 0⟩
def A.BLY.AGENT_WAIT (i : Nat) : Nat := 0x100D0200 + 0x4 * i
def F.BLY.AGENT_WAIT_WAITING (i : Nat) : Fld := ⟨0x100D0200 + 0x4 * i, 31, 31⟩
def F.BLY.AGENT_WAIT_OVF (i : Nat) : Fld := ⟨0x100D0200 + 0x4 * i, 30, 30⟩
def F.BLY.AGENT_WAIT_SEM (i : Nat) : Fld := ⟨0x100D0200 + 0x4 * i, 5, 0⟩
def A.BLY.SEM_STATUS (i : Nat) : Nat := 0x100D0400 + 0x4 * i
def F.BLY.SEM_STATUS_BROKEN (i : Nat) : Fld := ⟨0x100D0400 + 0x4 * i, 31, 31⟩
def F.BLY.SEM_STATUS_HELD (i : Nat) : Fld := ⟨0x100D0400 + 0x4 * i, 30, 30⟩
def F.BLY.SEM_STATUS_EPOCH (i : Nat) : Fld := ⟨0x100D0400 + 0x4 * i, 29, 28⟩
def F.BLY.SEM_STATUS_OWNER (i : Nat) : Fld := ⟨0x100D0400 + 0x4 * i, 21, 16⟩
def F.BLY.SEM_STATUS_NWAIT (i : Nat) : Fld := ⟨0x100D0400 + 0x4 * i, 11, 8⟩
def F.BLY.SEM_STATUS_NOVF (i : Nat) : Fld := ⟨0x100D0400 + 0x4 * i, 5, 0⟩
def F.RXP.EVT_CFG_REFUSED : Fld := ⟨0x100E0000, 8, 8⟩
def F.RXP.EVT_INVALID : Fld := ⟨0x100E0000, 7, 7⟩
def F.RXP.EVT_FFT_SAT : Fld := ⟨0x100E0000, 6, 6⟩
def F.RXP.EVT_BLANK_SAT : Fld := ⟨0x100E0000, 5, 5⟩
def F.RXP.EVT_GAIN_LIMIT : Fld := ⟨0x100E0000, 4, 4⟩
def F.RXP.EVT_ENV_LO : Fld := ⟨0x100E0000, 3, 3⟩
def F.RXP.EVT_ENV_HI : Fld := ⟨0x100E0000, 2, 2⟩
def F.RXP.EVT_BLOCKER : Fld := ⟨0x100E0000, 1, 1⟩
def F.RXP.EVT_CLIP : Fld := ⟨0x100E0000, 0, 0⟩
def A.RXP.RX_CFG_ERR : Nat := 0x100E0100
def F.RXP.RX_CFG_ERR_CARRIER : Fld := ⟨0x100E0100, 9, 8⟩
def F.RXP.RX_CFG_ERR_CODE : Fld := ⟨0x100E0100, 3, 0⟩
def A.RXP.PATH_PEND_LO : Nat := 0x100E0108
def F.RXP.PATH_PEND_LO_PEND : Fld := ⟨0x100E0108, 31, 0⟩
def A.RXP.PATH_PEND_HI : Nat := 0x100E010C
def F.RXP.PATH_PEND_HI_PEND : Fld := ⟨0x100E010C, 31, 0⟩
def A.RXP.PATH_EN_LO : Nat := 0x100E0110
def F.RXP.PATH_EN_LO_EN : Fld := ⟨0x100E0110, 31, 0⟩
def A.RXP.PATH_EN_HI : Nat := 0x100E0114
def F.RXP.PATH_EN_HI_EN : Fld := ⟨0x100E0114, 31, 0⟩
def A.RXP.AGC_CFG : Nat := 0x100E0120
def F.RXP.AGC_CFG_MODE : Fld := ⟨0x100E0120, 31, 30⟩
def F.RXP.AGC_CFG_TARGET : Fld := ⟨0x100E0120, 23, 16⟩
def F.RXP.AGC_CFG_ATTACK : Fld := ⟨0x100E0120, 15, 14⟩
def F.RXP.AGC_CFG_START : Fld := ⟨0x100E0120, 13, 9⟩
def F.RXP.AGC_CFG_MIN : Fld := ⟨0x100E0120, 4, 0⟩
def A.RXP.AGC_CLIP : Nat := 0x100E0124
def F.RXP.AGC_CLIP_CLIP_LIM : Fld := ⟨0x100E0124, 31, 21⟩
def F.RXP.AGC_CLIP_MAX : Fld := ⟨0x100E0124, 20, 16⟩
def F.RXP.AGC_CLIP_LEVEL : Fld := ⟨0x100E0124, 13, 0⟩
def A.RXP.BLK_CFG : Nat := 0x100E0128
def F.RXP.BLK_CFG_COUNT : Fld := ⟨0x100E0128, 11, 8⟩
def F.RXP.BLK_CFG_THRESH : Fld := ⟨0x100E0128, 7, 0⟩
def A.RXP.CAR_NCO_LO (i : Nat) : Nat := 0x100E0200 + 0x40 * i
def F.RXP.CAR_NCO_LO_W_LO (i : Nat) : Fld := ⟨0x100E0200 + 0x40 * i, 31, 0⟩
def A.RXP.CAR_NCO_HI (i : Nat) : Nat := 0x100E0204 + 0x40 * i
def F.RXP.CAR_NCO_HI_W_HI (i : Nat) : Fld := ⟨0x100E0204 + 0x40 * i, 15, 0⟩
def A.RXP.CAR_CFG (i : Nat) : Nat := 0x100E0208 + 0x40 * i
def F.RXP.CAR_CFG_NRB (i : Nat) : Fld := ⟨0x100E0208 + 0x40 * i, 24, 16⟩
def F.RXP.CAR_CFG_FFT_LOG (i : Nat) : Fld := ⟨0x100E0208 + 0x40 * i, 10, 8⟩
def F.RXP.CAR_CFG_PRESET (i : Nat) : Fld := ⟨0x100E0208 + 0x40 * i, 1, 0⟩
def A.RXP.CAR_FFT (i : Nat) : Nat := 0x100E020C + 0x40 * i
def F.RXP.CAR_FFT_ADV_COMP (i : Nat) : Fld := ⟨0x100E020C + 0x40 * i, 31, 31⟩
def F.RXP.CAR_FFT_SHIFT (i : Nat) : Fld := ⟨0x100E020C + 0x40 * i, 19, 16⟩
def F.RXP.CAR_FFT_ADVANCE (i : Nat) : Fld := ⟨0x100E020C + 0x40 * i, 9, 0⟩
def A.RXP.CAR_BLANK (i : Nat) : Nat := 0x100E0210 + 0x40 * i
def F.RXP.CAR_BLANK_EN (i : Nat) : Fld := ⟨0x100E0210 + 0x40 * i, 31, 31⟩
def F.RXP.CAR_BLANK_LEN (i : Nat) : Fld := ⟨0x100E0210 + 0x40 * i, 25, 24⟩
def F.RXP.CAR_BLANK_HANG (i : Nat) : Fld := ⟨0x100E0210 + 0x40 * i, 19, 16⟩
def F.RXP.CAR_BLANK_K (i : Nat) : Fld := ⟨0x100E0210 + 0x40 * i, 15, 8⟩
def F.RXP.CAR_BLANK_FLOOR (i : Nat) : Fld := ⟨0x100E0210 + 0x40 * i, 7, 0⟩
def A.RXP.CAR_BLANK2 (i : Nat) : Nat := 0x100E0214 + 0x40 * i
def F.RXP.CAR_BLANK2_LIMIT (i : Nat) : Fld := ⟨0x100E0214 + 0x40 * i, 9, 0⟩
def A.RXP.CAR_DET (i : Nat) : Nat := 0x100E0218 + 0x40 * i
def F.RXP.CAR_DET_ATT (i : Nat) : Fld := ⟨0x100E0218 + 0x40 * i, 31, 28⟩
def F.RXP.CAR_DET_DEC (i : Nat) : Fld := ⟨0x100E0218 + 0x40 * i, 27, 24⟩
def A.RXP.CAR_ENV_TH (i : Nat) : Nat := 0x100E021C + 0x40 * i
def F.RXP.CAR_ENV_TH_ENV_HI (i : Nat) : Fld := ⟨0x100E021C + 0x40 * i, 31, 16⟩
def F.RXP.CAR_ENV_TH_ENV_LO (i : Nat) : Fld := ⟨0x100E021C + 0x40 * i, 15, 0⟩
def A.RXP.P_CTRL (i : Nat) : Nat := 0x100E1000 + 0x100 * i
def F.RXP.P_CTRL_ATTEN_MAN (i : Nat) : Fld := ⟨0x100E1000 + 0x100 * i, 4, 0⟩
def A.RXP.P_STATUS (i : Nat) : Nat := 0x100E1004 + 0x100 * i
def F.RXP.P_STATUS_INV_CAUSE (i : Nat) : Fld := ⟨0x100E1004 + 0x100 * i, 10, 8⟩
def F.RXP.P_STATUS_ATT_NOW (i : Nat) : Fld := ⟨0x100E1004 + 0x100 * i, 4, 0⟩
def A.RXP.P_WB (i : Nat) : Nat := 0x100E1008 + 0x100 * i
def F.RXP.P_WB_PEAK (i : Nat) : Fld := ⟨0x100E1008 + 0x100 * i, 31, 16⟩
def F.RXP.P_WB_POWER (i : Nat) : Fld := ⟨0x100E1008 + 0x100 * i, 15, 0⟩
def A.RXP.P_CLIP (i : Nat) : Nat := 0x100E100C + 0x100 * i
def F.RXP.P_CLIP_CLIP_CNT (i : Nat) : Fld := ⟨0x100E100C + 0x100 * i, 15, 0⟩
def A.RXP.P_DET_A (i : Nat) (j : Nat) : Nat := 0x100E1010 + 0x100 * i + 0x8 * j
def F.RXP.P_DET_A_PEAK (i : Nat) (j : Nat) : Fld := ⟨0x100E1010 + 0x100 * i + 0x8 * j, 31, 16⟩
def F.RXP.P_DET_A_RMS (i : Nat) (j : Nat) : Fld := ⟨0x100E1010 + 0x100 * i + 0x8 * j, 15, 0⟩
def A.RXP.P_DET_B (i : Nat) (j : Nat) : Nat := 0x100E1014 + 0x100 * i + 0x8 * j
def F.RXP.P_DET_B_BLANK_CNT (i : Nat) (j : Nat) : Fld := ⟨0x100E1014 + 0x100 * i + 0x8 * j, 25, 16⟩
def F.RXP.P_DET_B_ENV (i : Nat) (j : Nat) : Fld := ⟨0x100E1014 + 0x100 * i + 0x8 * j, 15, 0⟩
def A.RXP.P_EVT (i : Nat) : Nat := 0x100E1030 + 0x100 * i
def F.RXP.P_EVT_EVT (i : Nat) : Fld := ⟨0x100E1030 + 0x100 * i, 7, 0⟩
def A.RXP.P_EVT_EN (i : Nat) : Nat := 0x100E1034 + 0x100 * i
def F.RXP.P_EVT_EN_EN (i : Nat) : Fld := ⟨0x100E1034 + 0x100 * i, 7, 0⟩
def A.RXP.P_CNT (i : Nat) : Nat := 0x100E1038 + 0x100 * i
def F.RXP.P_CNT_FFT_SAT_CNT (i : Nat) : Fld := ⟨0x100E1038 + 0x100 * i, 31, 16⟩
def F.RXP.P_CNT_INVALID_CNT (i : Nat) : Fld := ⟨0x100E1038 + 0x100 * i, 15, 0⟩
def A.RXP.P_FLAGS (i : Nat) : Nat := 0x100E103C + 0x100 * i
def F.RXP.P_FLAGS_FLAGS (i : Nat) : Fld := ⟨0x100E103C + 0x100 * i, 31, 0⟩
def F.TXP.EVT_MUTE_LOG_OVF : Fld := ⟨0x100F0000, 13, 13⟩
def F.TXP.EVT_CFG_REFUSED : Fld := ⟨0x100F0000, 12, 12⟩
def F.TXP.EVT_REG_CLAMP : Fld := ⟨0x100F0000, 11, 11⟩
def F.TXP.EVT_TRIM_LIMIT : Fld := ⟨0x100F0000, 10, 10⟩
def F.TXP.EVT_GAIN_LIMIT : Fld := ⟨0x100F0000, 9, 9⟩
def F.TXP.EVT_PATH_FAULT : Fld := ⟨0x100F0000, 8, 8⟩
def F.TXP.EVT_TX_SAT : Fld := ⟨0x100F0000, 7, 7⟩
def F.TXP.EVT_CFR_RESIDUAL : Fld := ⟨0x100F0000, 6, 6⟩
def F.TXP.EVT_LSTORE_OVF : Fld := ⟨0x100F0000, 4, 4⟩
def F.TXP.EVT_LAYER_DUP : Fld := ⟨0x100F0000, 3, 3⟩
def F.TXP.EVT_LAYER_LATE : Fld := ⟨0x100F0000, 2, 2⟩
def F.TXP.EVT_LAYER_MISS : Fld := ⟨0x100F0000, 1, 1⟩
def F.TXP.EVT_MUTED : Fld := ⟨0x100F0000, 0, 0⟩
def A.TXP.TX_CFG_ERR : Nat := 0x100F0100
def F.TXP.TX_CFG_ERR_CARRIER : Fld := ⟨0x100F0100, 9, 8⟩
def F.TXP.TX_CFG_ERR_CODE : Fld := ⟨0x100F0100, 3, 0⟩
def A.TXP.PATH_EN_LO : Nat := 0x100F0110
def F.TXP.PATH_EN_LO_EN : Fld := ⟨0x100F0110, 31, 0⟩
def A.TXP.PATH_EN_HI : Nat := 0x100F0114
def F.TXP.PATH_EN_HI_EN : Fld := ⟨0x100F0114, 31, 0⟩
def A.TXP.TX_CENTRE_LO : Nat := 0x100F0118
def F.TXP.TX_CENTRE_LO_W_LO : Fld := ⟨0x100F0118, 31, 0⟩
def A.TXP.TX_CENTRE_HI : Nat := 0x100F011C
def F.TXP.TX_CENTRE_HI_W_HI : Fld := ⟨0x100F011C, 15, 0⟩
def A.TXP.TX_TIMING : Nat := 0x100F0120
def F.TXP.TX_TIMING_DL_LEAD : Fld := ⟨0x100F0120, 23, 16⟩
def F.TXP.TX_TIMING_MUTE_RAMP : Fld := ⟨0x100F0120, 5, 0⟩
def A.TXP.LSTORE : Nat := 0x100F0124
def F.TXP.LSTORE_SIZE : Fld := ⟨0x100F0124, 23, 16⟩
def F.TXP.LSTORE_BASE : Fld := ⟨0x100F0124, 9, 0⟩
def A.TXP.CFR_CFG : Nat := 0x100F0130
def F.TXP.CFR_CFG_EN : Fld := ⟨0x100F0130, 31, 31⟩
def F.TXP.CFR_CFG_ITER : Fld := ⟨0x100F0130, 29, 28⟩
def F.TXP.CFR_CFG_THRESH : Fld := ⟨0x100F0130, 15, 0⟩
def A.TXP.CFR_CFG2 : Nat := 0x100F0134
def F.TXP.CFR_CFG2_REF_LEVEL : Fld := ⟨0x100F0134, 31, 24⟩
def F.TXP.CFR_CFG2_EVM_LIM : Fld := ⟨0x100F0134, 15, 8⟩
def A.TXP.CFR_MASK (i : Nat) : Nat := 0x100F0140 + 0x4 * i
def F.TXP.CFR_MASK_F_LO (i : Nat) : Fld := ⟨0x100F0140 + 0x4 * i, 31, 20⟩
def F.TXP.CFR_MASK_F_HI (i : Nat) : Fld := ⟨0x100F0140 + 0x4 * i, 19, 8⟩
def F.TXP.CFR_MASK_LIMIT (i : Nat) : Fld := ⟨0x100F0140 + 0x4 * i, 7, 0⟩
def A.TXP.PWR_LOOP : Nat := 0x100F0180
def F.TXP.PWR_LOOP_EN : Fld := ⟨0x100F0180, 31, 31⟩
def F.TXP.PWR_LOOP_PERIOD : Fld := ⟨0x100F0180, 15, 8⟩
def F.TXP.PWR_LOOP_LOOP_K : Fld := ⟨0x100F0180, 3, 0⟩
def A.TXP.MLOG_STATUS : Nat := 0x100F0190
def F.TXP.MLOG_STATUS_DROP_CNT : Fld := ⟨0x100F0190, 31, 16⟩
def F.TXP.MLOG_STATUS_LEVEL : Fld := ⟨0x100F0190, 5, 0⟩
def A.TXP.MLOG_ENTRY (i : Nat) : Nat := 0x100F0194 + 0x4 * i
def F.TXP.MLOG_ENTRY_ENTRY (i : Nat) : Fld := ⟨0x100F0194 + 0x4 * i, 31, 0⟩
def A.TXP.LSTORE_CNT0 : Nat := 0x100F01B0
def F.TXP.LSTORE_CNT0_DUP_CNT : Fld := ⟨0x100F01B0, 31, 16⟩
def F.TXP.LSTORE_CNT0_LATE_CNT : Fld := ⟨0x100F01B0, 15, 0⟩
def A.TXP.LSTORE_CNT1 : Nat := 0x100F01B4
def F.TXP.LSTORE_CNT1_OVF_CNT : Fld := ⟨0x100F01B4, 31, 16⟩
def F.TXP.LSTORE_CNT1_MISS_CNT : Fld := ⟨0x100F01B4, 15, 0⟩
def A.TXP.LSTORE_CNT2 : Nat := 0x100F01B8
def F.TXP.LSTORE_CNT2_UNUSED_CNT : Fld := ⟨0x100F01B8, 31, 16⟩
def F.TXP.LSTORE_CNT2_EARLY_CNT : Fld := ⟨0x100F01B8, 15, 0⟩
def A.TXP.CAR_TX (i : Nat) : Nat := 0x100F0200 + 0x40 * i
def F.TXP.CAR_TX_OVERLAP (i : Nat) : Fld := ⟨0x100F0200 + 0x40 * i, 25, 16⟩
def F.TXP.CAR_TX_SHIFT (i : Nat) : Fld := ⟨0x100F0200 + 0x40 * i, 11, 8⟩
def F.TXP.CAR_TX_FILT_EN (i : Nat) : Fld := ⟨0x100F0200 + 0x40 * i, 3, 0⟩
def A.TXP.CAR_CFR (i : Nat) : Nat := 0x100F0204 + 0x40 * i
def F.TXP.CAR_CFR_WEIGHT (i : Nat) : Fld := ⟨0x100F0204 + 0x40 * i, 7, 0⟩
def A.TXP.P_CTRL (i : Nat) : Nat := 0x100F1000 + 0x100 * i
def F.TXP.P_CTRL_FAULT_CLR (i : Nat) : Fld := ⟨0x100F1000 + 0x100 * i, 31, 31⟩
def F.TXP.P_CTRL_P_TGT (i : Nat) : Fld := ⟨0x100F1000 + 0x100 * i, 15, 0⟩
def A.TXP.P_PC (i : Nat) : Nat := 0x100F1004 + 0x100 * i
def F.TXP.P_PC_VCH (i : Nat) : Fld := ⟨0x100F1004 + 0x100 * i, 6, 0⟩
def A.TXP.P_GAIN (i : Nat) : Nat := 0x100F1008 + 0x100 * i
def F.TXP.P_GAIN_G_D (i : Nat) : Fld := ⟨0x100F1008 + 0x100 * i, 31, 16⟩
def F.TXP.P_GAIN_TRIM (i : Nat) : Fld := ⟨0x100F1008 + 0x100 * i, 15, 0⟩
def A.TXP.P_STATUS (i : Nat) : Nat := 0x100F100C + 0x100 * i
def F.TXP.P_STATUS_FAULT (i : Nat) : Fld := ⟨0x100F100C + 0x100 * i, 31, 31⟩
def F.TXP.P_STATUS_SWITCH (i : Nat) : Fld := ⟨0x100F100C + 0x100 * i, 30, 30⟩
def F.TXP.P_STATUS_MUTE_CAUSE (i : Nat) : Fld := ⟨0x100F100C + 0x100 * i, 26, 24⟩
def F.TXP.P_STATUS_BACKOFF (i : Nat) : Fld := ⟨0x100F100C + 0x100 * i, 19, 16⟩
def F.TXP.P_STATUS_QUIET (i : Nat) : Fld := ⟨0x100F100C + 0x100 * i, 15, 0⟩
def A.TXP.P_PWR (i : Nat) : Nat := 0x100F1010 + 0x100 * i
def F.TXP.P_PWR_P_MEAS (i : Nat) : Fld := ⟨0x100F1010 + 0x100 * i, 31, 16⟩
def F.TXP.P_PWR_LDIG (i : Nat) : Fld := ⟨0x100F1010 + 0x100 * i, 15, 0⟩
def A.TXP.P_CNT (i : Nat) : Nat := 0x100F1014 + 0x100 * i
def F.TXP.P_CNT_MUTE_CNT (i : Nat) : Fld := ⟨0x100F1014 + 0x100 * i, 31, 16⟩
def F.TXP.P_CNT_SAT_CNT (i : Nat) : Fld := ⟨0x100F1014 + 0x100 * i, 15, 0⟩
def A.TXP.P_CNT2 (i : Nat) : Nat := 0x100F1018 + 0x100 * i
def F.TXP.P_CNT2_CFR_RES_CNT (i : Nat) : Fld := ⟨0x100F1018 + 0x100 * i, 31, 16⟩
def F.TXP.P_CNT2_REG_CLAMP_CNT (i : Nat) : Fld := ⟨0x100F1018 + 0x100 * i, 15, 0⟩
def A.TXP.FILT0 (i : Nat) (j : Nat) : Nat := 0x100F8000 + 0x200 * i + 0x4 * j
def F.TXP.FILT0_Q (i : Nat) (j : Nat) : Fld := ⟨0x100F8000 + 0x200 * i + 0x4 * j, 31, 16⟩
def F.TXP.FILT0_I (i : Nat) (j : Nat) : Fld := ⟨0x100F8000 + 0x200 * i + 0x4 * j, 15, 0⟩
def A.TXP.FILT1 (i : Nat) (j : Nat) : Nat := 0x100F9000 + 0x200 * i + 0x4 * j
def F.TXP.FILT1_Q (i : Nat) (j : Nat) : Fld := ⟨0x100F9000 + 0x200 * i + 0x4 * j, 31, 16⟩
def F.TXP.FILT1_I (i : Nat) (j : Nat) : Fld := ⟨0x100F9000 + 0x200 * i + 0x4 * j, 15, 0⟩
def A.TXP.FILT2 (i : Nat) (j : Nat) : Nat := 0x100FA000 + 0x200 * i + 0x4 * j
def F.TXP.FILT2_Q (i : Nat) (j : Nat) : Fld := ⟨0x100FA000 + 0x200 * i + 0x4 * j, 31, 16⟩
def F.TXP.FILT2_I (i : Nat) (j : Nat) : Fld := ⟨0x100FA000 + 0x200 * i + 0x4 * j, 15, 0⟩
def A.TXP.FILT3 (i : Nat) (j : Nat) : Nat := 0x100FB000 + 0x200 * i + 0x4 * j
def F.TXP.FILT3_Q (i : Nat) (j : Nat) : Fld := ⟨0x100FB000 + 0x200 * i + 0x4 * j, 31, 16⟩
def F.TXP.FILT3_I (i : Nat) (j : Nat) : Fld := ⟨0x100FB000 + 0x200 * i + 0x4 * j, 15, 0⟩
def F.DPD.EVT_MASK_REVERT : Fld := ⟨0x10100000, 7, 7⟩
def F.DPD.EVT_MASK_VIOL : Fld := ⟨0x10100000, 6, 6⟩
def F.DPD.EVT_PWR_STALE : Fld := ⟨0x10100000, 5, 5⟩
def F.DPD.EVT_STAT_OVF : Fld := ⟨0x10100000, 4, 4⟩
def F.DPD.EVT_STAT_READY : Fld := ⟨0x10100000, 3, 3⟩
def F.DPD.EVT_ORX_SAT : Fld := ⟨0x10100000, 2, 2⟩
def F.DPD.EVT_HOP_MISS : Fld := ⟨0x10100000, 1, 1⟩
def F.DPD.EVT_SWAP_REFUSED : Fld := ⟨0x10100000, 0, 0⟩
def A.DPD.DPD_VIEW : Nat := 0x10100100
def F.DPD.DPD_VIEW_ACTIVE : Fld := ⟨0x10100100, 0, 0⟩
def A.DPD.DPD_EN_LO : Nat := 0x10100110
def F.DPD.DPD_EN_LO_EN : Fld := ⟨0x10100110, 31, 0⟩
def A.DPD.DPD_EN_HI : Nat := 0x10100114
def F.DPD.DPD_EN_HI_EN : Fld := ⟨0x10100114, 31, 0⟩
def A.DPD.STAT_CFG : Nat := 0x10100120
def F.DPD.STAT_CFG_DEPTH : Fld := ⟨0x10100120, 31, 28⟩
def F.DPD.STAT_CFG_SLOT : Fld := ⟨0x10100120, 27, 22⟩
def F.DPD.STAT_CFG_BASE : Fld := ⟨0x10100120, 9, 0⟩
def A.DPD.MASK_CFG : Nat := 0x10100130
def F.DPD.MASK_CFG_EN : Fld := ⟨0x10100130, 31, 31⟩
def F.DPD.MASK_CFG_ACTION : Fld := ⟨0x10100130, 28, 28⟩
def F.DPD.MASK_CFG_MARGIN : Fld := ⟨0x10100130, 15, 8⟩
def F.DPD.MASK_CFG_AVG : Fld := ⟨0x10100130, 3, 0⟩
def A.DPD.ORX_CTRL (i : Nat) : Nat := 0x10100200 + 0x40 * i
def F.DPD.ORX_CTRL_RUN (i : Nat) : Fld := ⟨0x10100200 + 0x40 * i, 31, 31⟩
def F.DPD.ORX_CTRL_AUTORANGE (i : Nat) : Fld := ⟨0x10100200 + 0x40 * i, 30, 30⟩
def F.DPD.ORX_CTRL_LEN (i : Nat) : Fld := ⟨0x10100200 + 0x40 * i, 5, 0⟩
def A.DPD.ORX_STATUS (i : Nat) : Nat := 0x10100204 + 0x40 * i
def F.DPD.ORX_STATUS_HELD (i : Nat) : Fld := ⟨0x10100204 + 0x40 * i, 31, 31⟩
def F.DPD.ORX_STATUS_ENTRY (i : Nat) : Fld := ⟨0x10100204 + 0x40 * i, 20, 16⟩
def F.DPD.ORX_STATUS_TAP (i : Nat) : Fld := ⟨0x10100204 + 0x40 * i, 10, 8⟩
def F.DPD.ORX_STATUS_MISS_REASON (i : Nat) : Fld := ⟨0x10100204 + 0x40 * i, 2, 0⟩
def A.DPD.ORX_CNT (i : Nat) : Nat := 0x10100208 + 0x40 * i
def F.DPD.ORX_CNT_MISS_CNT (i : Nat) : Fld := ⟨0x10100208 + 0x40 * i, 31, 16⟩
def F.DPD.ORX_CNT_SAT_CNT (i : Nat) : Fld := ⟨0x10100208 + 0x40 * i, 15, 0⟩
def A.DPD.ORX_RING (i : Nat) : Nat := 0x1010020C + 0x40 * i
def F.DPD.ORX_RING_RD (i : Nat) : Fld := ⟨0x1010020C + 0x40 * i, 10, 8⟩
def F.DPD.ORX_RING_WR (i : Nat) : Fld := ⟨0x1010020C + 0x40 * i, 2, 0⟩
def A.DPD.SCHED (i : Nat) (j : Nat) : Nat := 0x10100800 + 0x80 * i + 0x4 * j
def F.DPD.SCHED_KIND (i : Nat) (j : Nat) : Fld := ⟨0x10100800 + 0x80 * i + 0x4 * j, 31, 30⟩
def F.DPD.SCHED_TAP (i : Nat) (j : Nat) : Fld := ⟨0x10100800 + 0x80 * i + 0x4 * j, 29, 27⟩
def F.DPD.SCHED_CAP_SYM (i : Nat) (j : Nat) : Fld := ⟨0x10100800 + 0x80 * i + 0x4 * j, 25, 22⟩
def F.DPD.SCHED_CAP_OFS (i : Nat) (j : Nat) : Fld := ⟨0x10100800 + 0x80 * i + 0x4 * j, 21, 14⟩
def F.DPD.SCHED_CAP_LOG (i : Nat) (j : Nat) : Fld := ⟨0x10100800 + 0x80 * i + 0x4 * j, 10, 8⟩
def A.DPD.P_CTRL (i : Nat) : Nat := 0x10101000 + 0x100 * i
def F.DPD.P_CTRL_ADAPT_HOLD (i : Nat) : Fld := ⟨0x10101000 + 0x100 * i, 1, 1⟩
def F.DPD.P_CTRL_SWAP (i : Nat) : Fld := ⟨0x10101000 + 0x100 * i, 0, 0⟩
def A.DPD.P_STATUS (i : Nat) : Nat := 0x10101004 + 0x100 * i
def F.DPD.P_STATUS_ACTIVE_BANK (i : Nat) : Fld := ⟨0x10101004 + 0x100 * i, 31, 31⟩
def F.DPD.P_STATUS_STAGE_DIRTY (i : Nat) : Fld := ⟨0x10101004 + 0x100 * i, 30, 30⟩
def F.DPD.P_STATUS_SWAP_CODE (i : Nat) : Fld := ⟨0x10101004 + 0x100 * i, 2, 0⟩
def A.DPD.P_OBS (i : Nat) : Nat := 0x10101008 + 0x100 * i
def F.DPD.P_OBS_OBS_ATT (i : Nat) : Fld := ⟨0x10101008 + 0x100 * i, 28, 24⟩
def F.DPD.P_OBS_ATT_SET (i : Nat) : Fld := ⟨0x10101008 + 0x100 * i, 20, 16⟩
def F.DPD.P_OBS_L_OBS (i : Nat) : Fld := ⟨0x10101008 + 0x100 * i, 15, 0⟩
def A.DPD.P_MASK (i : Nat) : Nat := 0x1010100C + 0x100 * i
def F.DPD.P_MASK_SEG (i : Nat) : Fld := ⟨0x1010100C + 0x100 * i, 19, 16⟩
def F.DPD.P_MASK_WORST (i : Nat) : Fld := ⟨0x1010100C + 0x100 * i, 15, 0⟩
def A.DPD.P_CNT (i : Nat) : Nat := 0x10101010 + 0x100 * i
def F.DPD.P_CNT_SWAP_CNT (i : Nat) : Fld := ⟨0x10101010 + 0x100 * i, 31, 16⟩
def F.DPD.P_CNT_PWR_STALE_CNT (i : Nat) : Fld := ⟨0x10101010 + 0x100 * i, 15, 0⟩
def A.DPD.P_CNT2 (i : Nat) : Nat := 0x10101014 + 0x100 * i
def F.DPD.P_CNT2_VIOL_CNT (i : Nat) : Fld := ⟨0x10101014 + 0x100 * i, 31, 16⟩
def F.DPD.P_CNT2_ADAPT_CNT (i : Nat) : Fld := ⟨0x10101014 + 0x100 * i, 15, 0⟩
def A.DPD.COEF (i : Nat) (j : Nat) : Nat := 0x10108000 + 0x200 * i + 0x4 * j
def F.DPD.COEF_COEF (i : Nat) (j : Nat) : Fld := ⟨0x10108000 + 0x200 * i + 0x4 * j, 31, 0⟩
def F.BFM.EVT_SND_DROP : Fld := ⟨0x10110000, 7, 7⟩
def F.BFM.EVT_SND_LATE : Fld := ⟨0x10110000, 6, 6⟩
def F.BFM.EVT_CTX_OVERFLOW : Fld := ⟨0x10110000, 5, 5⟩
def F.BFM.EVT_CTX_STALE : Fld := ⟨0x10110000, 4, 4⟩
def F.BFM.EVT_SND_BUF_FULL : Fld := ⟨0x10110000, 3, 3⟩
def F.BFM.EVT_SND_QFULL : Fld := ⟨0x10110000, 2, 2⟩
def F.BFM.EVT_NOCTX : Fld := ⟨0x10110000, 1, 1⟩
def F.BFM.EVT_CTX_FULL : Fld := ⟨0x10110000, 0, 0⟩
def F.BFM.EVT_LOCAL_FB : Fld := ⟨0x10110000, 20, 20⟩
def F.BFM.EVT_UNSCHED : Fld := ⟨0x10110000, 19, 19⟩
def F.BFM.EVT_TRIM_LOG_OVF : Fld := ⟨0x10110000, 18, 18⟩
def F.BFM.EVT_EXP_RESIDUAL : Fld := ⟨0x10110000, 17, 17⟩
def F.BFM.EVT_EXP_SCALE : Fld := ⟨0x10110000, 16, 16⟩
def F.BFM.EVT_UL_HOLE : Fld := ⟨0x10110000, 15, 15⟩
def F.BFM.EVT_BF_SAT : Fld := ⟨0x10110000, 14, 14⟩
def F.BFM.EVT_RECIP_INVALID : Fld := ⟨0x10110000, 13, 13⟩
def F.BFM.EVT_WGT_OVF : Fld := ⟨0x10110000, 12, 12⟩
def F.BFM.EVT_WGT_SING : Fld := ⟨0x10110000, 11, 11⟩
def F.BFM.EVT_WGT_DEGR : Fld := ⟨0x10110000, 10, 10⟩
def F.BFM.EVT_WGT_LATE : Fld := ⟨0x10110000, 9, 9⟩
def F.BFM.EVT_LAYER_TRIM : Fld := ⟨0x10110000, 8, 8⟩
def A.BFM.CTX_OPEN : Nat := 0x10110100
def F.BFM.CTX_OPEN_USER_ID : Fld := ⟨0x10110100, 31, 16⟩
def F.BFM.CTX_OPEN_CARRIER : Fld := ⟨0x10110100, 15, 14⟩
def F.BFM.CTX_OPEN_NPORTS : Fld := ⟨0x10110100, 13, 12⟩
def A.BFM.CTX_CLOSE : Nat := 0x10110104
def F.BFM.CTX_CLOSE_INDEX : Fld := ⟨0x10110104, 8, 0⟩
def A.BFM.CTX_RESULT : Nat := 0x10110108
def F.BFM.CTX_RESULT_STATUS : Fld := ⟨0x10110108, 31, 28⟩
def F.BFM.CTX_RESULT_INDEX : Fld := ⟨0x10110108, 8, 0⟩
def A.BFM.CTX_COUNT : Nat := 0x1011010C
def F.BFM.CTX_COUNT_STALE_N : Fld := ⟨0x1011010C, 26, 18⟩
def F.BFM.CTX_COUNT_ACTIVE_N : Fld := ⟨0x1011010C, 17, 9⟩
def F.BFM.CTX_COUNT_OPEN_N : Fld := ⟨0x1011010C, 8, 0⟩
def A.BFM.CTX_POOL : Nat := 0x10110110
def F.BFM.CTX_POOL_SIZE : Fld := ⟨0x10110110, 25, 16⟩
def F.BFM.CTX_POOL_BASE : Fld := ⟨0x10110110, 9, 0⟩
def A.BFM.POOL_STATUS : Nat := 0x10110114
def F.BFM.POOL_STATUS_LOW_FREE : Fld := ⟨0x10110114, 29, 16⟩
def F.BFM.POOL_STATUS_FREE : Fld := ⟨0x10110114, 13, 0⟩
def A.BFM.SND_CFG : Nat := 0x10110120
def F.BFM.SND_CFG_BATCH : Fld := ⟨0x10110120, 23, 16⟩
def F.BFM.SND_CFG_STALE_AGE : Fld := ⟨0x10110120, 15, 8⟩
def A.BFM.SND_BUF : Nat := 0x10110124
def F.BFM.SND_BUF_SIZE : Fld := ⟨0x10110124, 25, 16⟩
def F.BFM.SND_BUF_BASE : Fld := ⟨0x10110124, 9, 0⟩
def A.BFM.SND_STATUS : Nat := 0x10110128
def F.BFM.SND_STATUS_INFLIGHT : Fld := ⟨0x10110128, 31, 24⟩
def F.BFM.SND_STATUS_BUF_USED : Fld := ⟨0x10110128, 22, 16⟩
def F.BFM.SND_STATUS_QLEN : Fld := ⟨0x10110128, 10, 0⟩
def A.BFM.GOB_CFG : Nat := 0x10110130
def F.BFM.GOB_CFG_BASE : Fld := ⟨0x10110130, 9, 0⟩
def A.BFM.SND_CNT0 : Nat := 0x10110140
def F.BFM.SND_CNT0_DONE_CNT : Fld := ⟨0x10110140, 31, 16⟩
def F.BFM.SND_CNT0_LATE_CNT : Fld := ⟨0x10110140, 15, 0⟩
def A.BFM.SND_CNT1 : Nat := 0x10110144
def F.BFM.SND_CNT1_QFULL_CNT : Fld := ⟨0x10110144, 31, 16⟩
def F.BFM.SND_CNT1_BUF_CNT : Fld := ⟨0x10110144, 15, 0⟩
def A.BFM.SND_CNT2 : Nat := 0x10110148
def F.BFM.SND_CNT2_AGED_CNT : Fld := ⟨0x10110148, 31, 16⟩
def F.BFM.SND_CNT2_NOPATH_CNT : Fld := ⟨0x10110148, 15, 0⟩
def A.BFM.SND_CNT3 : Nat := 0x1011014C
def F.BFM.SND_CNT3_SUPERSEDE_CNT : Fld := ⟨0x1011014C, 31, 16⟩
def F.BFM.SND_CNT3_NOCTX_CNT : Fld := ⟨0x1011014C, 15, 0⟩
def A.BFM.CTX_CNT : Nat := 0x10110150
def F.BFM.CTX_CNT_FULL_CNT : Fld := ⟨0x10110150, 31, 16⟩
def F.BFM.CTX_CNT_OVF_CNT : Fld := ⟨0x10110150, 15, 0⟩
def A.BFM.FB_CNT : Nat := 0x10110154
def F.BFM.FB_CNT_STALE_SERVE_CNT : Fld := ⟨0x10110154, 31, 16⟩
def F.BFM.FB_CNT_NOCTX_SERVE_CNT : Fld := ⟨0x10110154, 15, 0⟩
def A.BFM.WGT_CFG : Nat := 0x10110200
def F.BFM.WGT_CFG_ALGO : Fld := ⟨0x10110200, 31, 30⟩
def F.BFM.WGT_CFG_WSYM : Fld := ⟨0x10110200, 29, 26⟩
def F.BFM.WGT_CFG_CHAIN : Fld := ⟨0x10110200, 25, 25⟩
def F.BFM.WGT_CFG_RHO : Fld := ⟨0x10110200, 23, 16⟩
def F.BFM.WGT_CFG_GSHIFT : Fld := ⟨0x10110200, 15, 8⟩
def F.BFM.WGT_CFG_PSHIFT : Fld := ⟨0x10110200, 2, 0⟩
def A.BFM.UL_CFG : Nat := 0x10110204
def F.BFM.UL_CFG_UL_SHIFT : Fld := ⟨0x10110204, 31, 28⟩
def F.BFM.UL_CFG_FB_EXP : Fld := ⟨0x10110204, 27, 20⟩
def F.BFM.UL_CFG_LLR_Q : Fld := ⟨0x10110204, 19, 12⟩
def F.BFM.UL_CFG_UL_DST : Fld := ⟨0x10110204, 11, 0⟩
def A.BFM.BUDGET_CFG : Nat := 0x10110208
def F.BFM.BUDGET_CFG_SHARE_LC1 : Fld := ⟨0x10110208, 24, 16⟩
def F.BFM.BUDGET_CFG_SHARE_LC0 : Fld := ⟨0x10110208, 8, 0⟩
def A.BFM.WGT_BUF : Nat := 0x1011020C
def F.BFM.WGT_BUF_SIZE : Fld := ⟨0x1011020C, 25, 16⟩
def F.BFM.WGT_BUF_BASE : Fld := ⟨0x1011020C, 9, 0⟩
def A.BFM.CHAIN_CFG : Nat := 0x10110210
def F.BFM.CHAIN_CFG_CORE_MC : Fld := ⟨0x10110210, 7, 0⟩
def A.BFM.EXP_CFG : Nat := 0x10110214
def F.BFM.EXP_CFG_EN : Fld := ⟨0x10110214, 31, 31⟩
def F.BFM.EXP_CFG_GSTEP : Fld := ⟨0x10110214, 30, 28⟩
def F.BFM.EXP_CFG_WIN : Fld := ⟨0x10110214, 24, 16⟩
def F.BFM.EXP_CFG_SHARE : Fld := ⟨0x10110214, 15, 8⟩
def A.BFM.EXP_STEER : Nat := 0x10110218
def F.BFM.EXP_STEER_BASE : Fld := ⟨0x10110218, 9, 0⟩
def A.BFM.EXP_STATUS : Nat := 0x1011021C
def F.BFM.EXP_STATUS_MIN_F : Fld := ⟨0x1011021C, 31, 16⟩
def F.BFM.EXP_STATUS_SCALED_N : Fld := ⟨0x1011021C, 8, 0⟩
def A.BFM.TRIM_STATUS : Nat := 0x10110220
def F.BFM.TRIM_STATUS_DROP_CNT : Fld := ⟨0x10110220, 31, 16⟩
def F.BFM.TRIM_STATUS_LEVEL : Fld := ⟨0x10110220, 5, 0⟩
def A.BFM.TRIM_LOG : Nat := 0x10110224
def F.BFM.TRIM_LOG_DIR : Fld := ⟨0x10110224, 31, 31⟩
def F.BFM.TRIM_LOG_REASON : Fld := ⟨0x10110224, 30, 30⟩
def F.BFM.TRIM_LOG_CARRIER : Fld := ⟨0x10110224, 29, 28⟩
def F.BFM.TRIM_LOG_LAYER : Fld := ⟨0x10110224, 27, 23⟩
def F.BFM.TRIM_LOG_SYM : Fld := ⟨0x10110224, 22, 19⟩
def F.BFM.TRIM_LOG_SLOT : Fld := ⟨0x10110224, 18, 13⟩
def F.BFM.TRIM_LOG_FRAME : Fld := ⟨0x10110224, 9, 0⟩
def A.BFM.WGT_STATUS : Nat := 0x10110228
def F.BFM.WGT_STATUS_CODE : Fld := ⟨0x10110228, 3, 0⟩
def A.BFM.WGT_CNT0 : Nat := 0x10110230
def F.BFM.WGT_CNT0_TRIM_CNT : Fld := ⟨0x10110230, 31, 16⟩
def F.BFM.WGT_CNT0_WLATE_CNT : Fld := ⟨0x10110230, 15, 0⟩
def A.BFM.WGT_CNT1 : Nat := 0x10110234
def F.BFM.WGT_CNT1_WDEGR_CNT : Fld := ⟨0x10110234, 31, 16⟩
def F.BFM.WGT_CNT1_SING_CNT : Fld := ⟨0x10110234, 15, 0⟩
def A.BFM.WGT_CNT2 : Nat := 0x10110238
def F.BFM.WGT_CNT2_WOVF_CNT : Fld := ⟨0x10110238, 31, 16⟩
def F.BFM.WGT_CNT2_RECIP_CNT : Fld := ⟨0x10110238, 15, 0⟩
def A.BFM.BF_CNT0 : Nat := 0x1011023C
def F.BFM.BF_CNT0_BF_SAT_CNT : Fld := ⟨0x1011023C, 31, 16⟩
def F.BFM.BF_CNT0_HOLE_CNT : Fld := ⟨0x1011023C, 15, 0⟩
def A.BFM.BF_CNT1 : Nat := 0x10110240
def F.BFM.BF_CNT1_UNSCHED_CNT : Fld := ⟨0x10110240, 31, 16⟩
def F.BFM.BF_CNT1_LOCAL_FB_CNT : Fld := ⟨0x10110240, 15, 0⟩
def A.BFM.EXP_CNT : Nat := 0x10110244
def F.BFM.EXP_CNT_SCALE_CNT : Fld := ⟨0x10110244, 31, 16⟩
def F.BFM.EXP_CNT_RES_CNT : Fld := ⟨0x10110244, 15, 0⟩
def A.BFM.EXP_AVG (i : Nat) : Nat := 0x10112000 + 0x4 * i
def F.BFM.EXP_AVG_AVG (i : Nat) : Fld := ⟨0x10112000 + 0x4 * i, 31, 0⟩
def F.RAD.EVT_CFG_REFUSED : Fld := ⟨0x10120000, 5, 5⟩
def F.RAD.EVT_RA_HOLE : Fld := ⟨0x10120000, 4, 4⟩
def F.RAD.EVT_RING_OVF : Fld := ⟨0x10120000, 3, 3⟩
def F.RAD.EVT_OCC_DROP : Fld := ⟨0x10120000, 2, 2⟩
def F.RAD.EVT_RA_DISCARD : Fld := ⟨0x10120000, 1, 1⟩
def F.RAD.EVT_RA_DONE : Fld := ⟨0x10120000, 0, 0⟩
def A.RAD.RA_CFG : Nat := 0x10120100
def F.RAD.RA_CFG_RA_DST : Fld := ⟨0x10120100, 11, 0⟩
def A.RAD.RA_RING : Nat := 0x10120104
def F.RAD.RA_RING_DEPTH : Fld := ⟨0x10120104, 19, 16⟩
def F.RAD.RA_RING_BASE : Fld := ⟨0x10120104, 9, 0⟩
def A.RAD.RA_RING_PTR : Nat := 0x10120108
def F.RAD.RA_RING_PTR_RD : Fld := ⟨0x10120108, 11, 8⟩
def F.RAD.RA_RING_PTR_WR : Fld := ⟨0x10120108, 3, 0⟩
def A.RAD.RA_STATUS : Nat := 0x1012010C
def F.RAD.RA_STATUS_BUSY : Fld := ⟨0x1012010C, 4, 4⟩
def F.RAD.RA_STATUS_QLEN : Fld := ⟨0x1012010C, 3, 0⟩
def A.RAD.RA_CFG_ERR : Nat := 0x10120110
def F.RAD.RA_CFG_ERR_SLOT : Fld := ⟨0x10120110, 6, 4⟩
def F.RAD.RA_CFG_ERR_CODE : Fld := ⟨0x10120110, 3, 0⟩
def A.RAD.RA_PATH_LO : Nat := 0x10120114
def F.RAD.RA_PATH_LO_EN : Fld := ⟨0x10120114, 31, 0⟩
def A.RAD.RA_PATH_HI : Nat := 0x10120118
def F.RAD.RA_PATH_HI_EN : Fld := ⟨0x10120118, 31, 0⟩
def A.RAD.RA_CNT0 : Nat := 0x10120140
def F.RAD.RA_CNT0_DISC_CNT : Fld := ⟨0x10120140, 31, 16⟩
def F.RAD.RA_CNT0_DROP_CNT : Fld := ⟨0x10120140, 15, 0⟩
def A.RAD.RA_CNT1 : Nat := 0x10120144
def F.RAD.RA_CNT1_OVF_CNT : Fld := ⟨0x10120144, 31, 16⟩
def F.RAD.RA_CNT1_OCC_CNT : Fld := ⟨0x10120144, 15, 0⟩
def A.RAD.RA_CNT2 : Nat := 0x10120148
def F.RAD.RA_CNT2_HOLE_CNT : Fld := ⟨0x10120148, 15, 0⟩
def A.RAD.S_FMT (i : Nat) : Nat := 0x10120200 + 0x20 * i
def F.RAD.S_FMT_EN (i : Nat) : Fld := ⟨0x10120200 + 0x20 * i, 31, 31⟩
def F.RAD.S_FMT_LONG (i : Nat) : Fld := ⟨0x10120200 + 0x20 * i, 30, 30⟩
def F.RAD.S_FMT_DF (i : Nat) : Fld := ⟨0x10120200 + 0x20 * i, 29, 27⟩
def F.RAD.S_FMT_N_REP (i : Nat) : Fld := ⟨0x10120200 + 0x20 * i, 26, 23⟩
def F.RAD.S_FMT_N_CP (i : Nat) : Fld := ⟨0x10120200 + 0x20 * i, 22, 12⟩
def F.RAD.S_FMT_CARRIER (i : Nat) : Fld := ⟨0x10120200 + 0x20 * i, 11, 10⟩
def F.RAD.S_FMT_N_CS (i : Nat) : Fld := ⟨0x10120200 + 0x20 * i, 9, 0⟩
def A.RAD.S_FREQ (i : Nat) : Nat := 0x10120204 + 0x20 * i
def F.RAD.S_FREQ_FREQ_OFS (i : Nat) : Fld := ⟨0x10120204 + 0x20 * i, 17, 0⟩
def A.RAD.S_ROOT (i : Nat) : Nat := 0x10120208 + 0x20 * i
def F.RAD.S_ROOT_NPRE (i : Nat) : Fld := ⟨0x10120208 + 0x20 * i, 22, 16⟩
def F.RAD.S_ROOT_ROOT_COUNT (i : Nat) : Fld := ⟨0x10120208 + 0x20 * i, 14, 8⟩
def F.RAD.S_ROOT_ROOT_FIRST (i : Nat) : Fld := ⟨0x10120208 + 0x20 * i, 5, 0⟩
def A.RAD.S_BEAM (i : Nat) : Nat := 0x1012020C + 0x20 * i
def F.RAD.S_BEAM_THRESH (i : Nat) : Fld := ⟨0x1012020C + 0x20 * i, 15, 8⟩
def F.RAD.S_BEAM_BEAM_BASE (i : Nat) : Fld := ⟨0x1012020C + 0x20 * i, 7, 0⟩
def A.RAD.ROOT (i : Nat) : Nat := 0x10120400 + 0x4 * i
def F.RAD.ROOT_U (i : Nat) : Fld := ⟨0x10120400 + 0x4 * i, 9, 0⟩
def F.CAL.EVT_RELOADED : Fld := ⟨0x10130000, 6, 6⟩
def F.CAL.EVT_RUN_ABORT : Fld := ⟨0x10130000, 5, 5⟩
def F.CAL.EVT_RECIP_AGED : Fld := ⟨0x10130000, 4, 4⟩
def F.CAL.EVT_CAL_PEND : Fld := ⟨0x10130000, 3, 3⟩
def F.CAL.EVT_CAL_FAIL : Fld := ⟨0x10130000, 2, 2⟩
def F.CAL.EVT_FULL_DONE : Fld := ⟨0x10130000, 1, 1⟩
def F.CAL.EVT_RUN_DONE : Fld := ⟨0x10130000, 0, 0⟩
def A.CAL.CAL_CFG : Nat := 0x10130100
def F.CAL.CAL_CFG_AUTO_FULL : Fld := ⟨0x10130100, 31, 31⟩
def F.CAL.CAL_CFG_RAMP : Fld := ⟨0x10130100, 23, 16⟩
def F.CAL.CAL_CFG_THRESH : Fld := ⟨0x10130100, 15, 8⟩
def F.CAL.CAL_CFG_LOOP_LVL : Fld := ⟨0x10130100, 7, 0⟩
def A.CAL.CAL_TOL : Nat := 0x10130104
def F.CAL.CAL_TOL_TOL_PH : Fld := ⟨0x10130104, 23, 16⟩
def F.CAL.CAL_TOL_TOL_G : Fld := ⟨0x10130104, 15, 8⟩
def F.CAL.CAL_TOL_INJ_LVL : Fld := ⟨0x10130104, 7, 0⟩
def A.CAL.CAL_CTRL : Nat := 0x10130108
def F.CAL.CAL_CTRL_RELOAD : Fld := ⟨0x10130108, 1, 1⟩
def F.CAL.CAL_CTRL_FULL : Fld := ⟨0x10130108, 0, 0⟩
def A.CAL.CAL_STATUS : Nat := 0x1013010C
def F.CAL.CAL_STATUS_STATE : Fld := ⟨0x1013010C, 31, 28⟩
def F.CAL.CAL_STATUS_FULL_SLOT : Fld := ⟨0x1013010C, 21, 16⟩
def F.CAL.CAL_STATUS_FAIL_CODE : Fld := ⟨0x1013010C, 10, 8⟩
def F.CAL.CAL_STATUS_FAIL_PATH : Fld := ⟨0x1013010C, 5, 0⟩
def A.CAL.PEND_RX_LO : Nat := 0x10130110
def F.CAL.PEND_RX_LO_PEND : Fld := ⟨0x10130110, 31, 0⟩
def A.CAL.PEND_RX_HI : Nat := 0x10130114
def F.CAL.PEND_RX_HI_PEND : Fld := ⟨0x10130114, 31, 0⟩
def A.CAL.PEND_TX_LO : Nat := 0x10130118
def F.CAL.PEND_TX_LO_PEND : Fld := ⟨0x10130118, 31, 0⟩
def A.CAL.PEND_TX_HI : Nat := 0x1013011C
def F.CAL.PEND_TX_HI_PEND : Fld := ⟨0x1013011C, 31, 0⟩
def A.CAL.RECIP_VALID_LO : Nat := 0x10130120
def F.CAL.RECIP_VALID_LO_VALID : Fld := ⟨0x10130120, 31, 0⟩
def A.CAL.RECIP_VALID_HI : Nat := 0x10130124
def F.CAL.RECIP_VALID_HI_VALID : Fld := ⟨0x10130124, 31, 0⟩
def A.CAL.CAL_TSRC (i : Nat) : Nat := 0x10130130 + 0x4 * i
def F.CAL.CAL_TSRC_SRC (i : Nat) : Fld := ⟨0x10130130 + 0x4 * i, 31, 0⟩
def A.CAL.CAL_CNT : Nat := 0x10130140
def F.CAL.CAL_CNT_FAIL_CNT : Fld := ⟨0x10130140, 31, 16⟩
def F.CAL.CAL_CNT_ABORT_CNT : Fld := ⟨0x10130140, 15, 0⟩
def A.CAL.KIND_RUNS (i : Nat) : Nat := 0x10130200 + 0x10 * i
def F.CAL.KIND_RUNS_RUNS (i : Nat) : Fld := ⟨0x10130200 + 0x10 * i, 31, 0⟩
def A.CAL.KIND_LAST (i : Nat) : Nat := 0x10130204 + 0x10 * i
def F.CAL.KIND_LAST_FRAME (i : Nat) : Fld := ⟨0x10130204 + 0x10 * i, 25, 16⟩
def F.CAL.KIND_LAST_SLOT (i : Nat) : Fld := ⟨0x10130204 + 0x10 * i, 5, 0⟩
def A.CAL.KIND_LAST_TB0 (i : Nat) : Nat := 0x10130208 + 0x10 * i
def F.CAL.KIND_LAST_TB0_TB0 (i : Nat) : Fld := ⟨0x10130208 + 0x10 * i, 31, 0⟩
def A.CAL.P_TEMP (i : Nat) : Nat := 0x10131000 + 0x40 * i
def F.CAL.P_TEMP_T_RX_LAST (i : Nat) : Fld := ⟨0x10131000 + 0x40 * i, 31, 16⟩
def F.CAL.P_TEMP_T_TX_LAST (i : Nat) : Fld := ⟨0x10131000 + 0x40 * i, 15, 0⟩
def A.CAL.RECIP_RHO (i : Nat) (j : Nat) : Nat := 0x10134000 + 0x20 * i + 0x4 * j
def F.CAL.RECIP_RHO_GAIN (i : Nat) (j : Nat) : Fld := ⟨0x10134000 + 0x20 * i + 0x4 * j, 31, 16⟩
def F.CAL.RECIP_RHO_PHASE (i : Nat) (j : Nat) : Fld := ⟨0x10134000 + 0x20 * i + 0x4 * j, 15, 0⟩
def A.CAL.RECIP_TAU (i : Nat) : Nat := 0x10134010 + 0x20 * i
def F.CAL.RECIP_TAU_TAU (i : Nat) : Fld := ⟨0x10134010 + 0x20 * i, 31, 0⟩
def A.CAL.RECIP_STAT (i : Nat) : Nat := 0x10134014 + 0x20 * i
def F.CAL.RECIP_STAT_VALID (i : Nat) : Fld := ⟨0x10134014 + 0x20 * i, 31, 31⟩
def F.CAL.RECIP_STAT_RAMP_LEFT (i : Nat) : Fld := ⟨0x10134014 + 0x20 * i, 7, 0⟩
def A.CAL.RECIP_TEMP (i : Nat) : Nat := 0x10134018 + 0x20 * i
def F.CAL.RECIP_TEMP_T_RX_RUN (i : Nat) : Fld := ⟨0x10134018 + 0x20 * i, 31, 16⟩
def F.CAL.RECIP_TEMP_T_TX_RUN (i : Nat) : Fld := ⟨0x10134018 + 0x20 * i, 15, 0⟩
def F.THM.EVT_RESTARTED : Fld := ⟨0x10140000, 6, 6⟩
def F.THM.EVT_CHECK_OFF : Fld := ⟨0x10140000, 5, 5⟩
def F.THM.EVT_SENSOR_FAIL : Fld := ⟨0x10140000, 4, 4⟩
def F.THM.EVT_LEVEL_DOWN : Fld := ⟨0x10140000, 3, 3⟩
def F.THM.EVT_LEVEL_UP : Fld := ⟨0x10140000, 2, 2⟩
def F.THM.EVT_THROT : Fld := ⟨0x10140000, 1, 1⟩
def F.THM.EVT_WARN : Fld := ⟨0x10140000, 0, 0⟩
def A.THM.THM_CFG : Nat := 0x10140100
def F.THM.THM_CFG_RESTART_EN : Fld := ⟨0x10140100, 31, 31⟩
def F.THM.THM_CFG_VSEL_EN : Fld := ⟨0x10140100, 30, 30⟩
def F.THM.THM_CFG_VSEL_DAC : Fld := ⟨0x10140100, 29, 27⟩
def F.THM.THM_CFG_MUTE_MAX : Fld := ⟨0x10140100, 23, 20⟩
def F.THM.THM_CFG_ESC_DWELL : Fld := ⟨0x10140100, 15, 8⟩
def F.THM.THM_CFG_RELAX : Fld := ⟨0x10140100, 7, 0⟩
def A.THM.THM_VSEL : Nat := 0x10140104
def F.THM.THM_VSEL_V1_CODE : Fld := ⟨0x10140104, 27, 16⟩
def F.THM.THM_VSEL_V0_CODE : Fld := ⟨0x10140104, 11, 0⟩
def A.THM.THM_STATUS : Nat := 0x10140108
def F.THM.THM_STATUS_LEVEL : Fld := ⟨0x10140108, 31, 29⟩
def F.THM.THM_STATUS_STEP : Fld := ⟨0x10140108, 28, 24⟩
def F.THM.THM_STATUS_BACKOFF : Fld := ⟨0x10140108, 23, 20⟩
def F.THM.THM_STATUS_MUTED : Fld := ⟨0x10140108, 15, 8⟩
def F.THM.THM_STATUS_HOTTEST : Fld := ⟨0x10140108, 5, 0⟩
def A.THM.THM_HOT : Nat := 0x1014010C
def F.THM.THM_HOT_TEMP : Fld := ⟨0x1014010C, 31, 16⟩
def F.THM.THM_HOT_MARGIN : Fld := ⟨0x1014010C, 15, 0⟩
def A.THM.THM_FAIL_LO : Nat := 0x10140110
def F.THM.THM_FAIL_LO_FAILED : Fld := ⟨0x10140110, 31, 0⟩
def A.THM.THM_FAIL_HI : Nat := 0x10140114
def F.THM.THM_FAIL_HI_FAILED : Fld := ⟨0x10140114, 15, 0⟩
def A.THM.SHDN_LOG : Nat := 0x10140120
def F.THM.SHDN_LOG_TEMP : Fld := ⟨0x10140120, 31, 16⟩
def F.THM.SHDN_LOG_INJ : Fld := ⟨0x10140120, 15, 15⟩
def F.THM.SHDN_LOG_TALLY : Fld := ⟨0x10140120, 11, 8⟩
def F.THM.SHDN_LOG_SENSOR : Fld := ⟨0x10140120, 5, 0⟩
def A.THM.RESTART_CFG : Nat := 0x10140124
def F.THM.RESTART_CFG_RESTART_MAX : Fld := ⟨0x10140124, 11, 8⟩
def F.THM.RESTART_CFG_RESTART_T : Fld := ⟨0x10140124, 7, 0⟩
def A.THM.THM_INJ : Nat := 0x10140130
def F.THM.THM_INJ_SHDN : Fld := ⟨0x10140130, 17, 17⟩
def F.THM.THM_INJ_FAIL : Fld := ⟨0x10140130, 16, 16⟩
def F.THM.THM_INJ_OFS : Fld := ⟨0x10140130, 15, 8⟩
def F.THM.THM_INJ_SENSOR : Fld := ⟨0x10140130, 5, 0⟩
def A.THM.THM_CNT : Nat := 0x10140140
def F.THM.THM_CNT_LEVEL_UP_CNT : Fld := ⟨0x10140140, 31, 16⟩
def F.THM.THM_CNT_FAIL_CNT : Fld := ⟨0x10140140, 15, 0⟩
def A.THM.S_TEMP (i : Nat) : Nat := 0x10140200 + 0x20 * i
def F.THM.S_TEMP_TEMP (i : Nat) : Fld := ⟨0x10140200 + 0x20 * i, 31, 16⟩
def F.THM.S_TEMP_RAW (i : Nat) : Fld := ⟨0x10140200 + 0x20 * i, 15, 0⟩
def A.THM.S_STATUS (i : Nat) : Nat := 0x10140204 + 0x20 * i
def F.THM.S_STATUS_STATE (i : Nat) : Fld := ⟨0x10140204 + 0x20 * i, 31, 30⟩
def F.THM.S_STATUS_FAILED (i : Nat) : Fld := ⟨0x10140204 + 0x20 * i, 29, 29⟩
def F.THM.S_STATUS_CHECK_OFF (i : Nat) : Fld := ⟨0x10140204 + 0x20 * i, 28, 28⟩
def F.THM.S_STATUS_DEV_RUN (i : Nat) : Fld := ⟨0x10140204 + 0x20 * i, 27, 26⟩
def F.THM.S_STATUS_INTERVAL (i : Nat) : Fld := ⟨0x10140204 + 0x20 * i, 25, 24⟩
def A.THM.S_THR (i : Nat) : Nat := 0x10140208 + 0x20 * i
def F.THM.S_THR_SHDN (i : Nat) : Fld := ⟨0x10140208 + 0x20 * i, 31, 24⟩
def F.THM.S_THR_THROT (i : Nat) : Fld := ⟨0x10140208 + 0x20 * i, 23, 16⟩
def F.THM.S_THR_WARN (i : Nat) : Fld := ⟨0x10140208 + 0x20 * i, 15, 8⟩
def F.THM.S_THR_HYST_T (i : Nat) : Fld := ⟨0x10140208 + 0x20 * i, 7, 4⟩
def F.THM.S_THR_HYST_W (i : Nat) : Fld := ⟨0x10140208 + 0x20 * i, 3, 0⟩
def A.THM.S_NBR (i : Nat) : Nat := 0x1014020C + 0x20 * i
def F.THM.S_NBR_NBR (i : Nat) : Fld := ⟨0x1014020C + 0x20 * i, 31, 0⟩
def A.THM.S_CTRL (i : Nat) : Nat := 0x10140210 + 0x20 * i
def F.THM.S_CTRL_EN (i : Nat) : Fld := ⟨0x10140210 + 0x20 * i, 31, 31⟩
def F.THM.S_CTRL_FAIL_CLR (i : Nat) : Fld := ⟨0x10140210 + 0x20 * i, 0, 0⟩
def A.THM.S_SRC (i : Nat) : Nat := 0x10140214 + 0x20 * i
def F.THM.S_SRC_CHAN (i : Nat) : Fld := ⟨0x10140214 + 0x20 * i, 6, 0⟩
def F.HKA.EVT_HP_MISS : Fld := ⟨0x10150000, 2, 2⟩
def F.HKA.EVT_ACC_OVF : Fld := ⟨0x10150000, 1, 1⟩
def F.HKA.EVT_PLAUS_FAIL : Fld := ⟨0x10150000, 0, 0⟩
def A.HKA.HK_CFG : Nat := 0x10150100
def F.HKA.HK_CFG_RUN_A : Fld := ⟨0x10150100, 31, 31⟩
def F.HKA.HK_CFG_RUN_B : Fld := ⟨0x10150100, 30, 30⟩
def F.HKA.HK_CFG_HP : Fld := ⟨0x10150100, 23, 16⟩
def F.HKA.HK_CFG_LEN_B : Fld := ⟨0x10150100, 13, 8⟩
def F.HKA.HK_CFG_LEN_A : Fld := ⟨0x10150100, 5, 0⟩
def A.HKA.PLAUS_CFG : Nat := 0x10150104
def F.HKA.PLAUS_CFG_EN : Fld := ⟨0x10150104, 31, 31⟩
def F.HKA.PLAUS_CFG_SRC : Fld := ⟨0x10150104, 29, 24⟩
def F.HKA.PLAUS_CFG_PERIOD : Fld := ⟨0x10150104, 23, 16⟩
def F.HKA.PLAUS_CFG_COUNT : Fld := ⟨0x10150104, 15, 12⟩
def F.HKA.PLAUS_CFG_TOL : Fld := ⟨0x10150104, 7, 0⟩
def A.HKA.PLAUS_STATUS : Nat := 0x10150108
def F.HKA.PLAUS_STATUS_RUN : Fld := ⟨0x10150108, 19, 16⟩
def F.HKA.PLAUS_STATUS_DIFF : Fld := ⟨0x10150108, 15, 0⟩
def A.HKA.HK_INJ : Nat := 0x1015010C
def F.HKA.HK_INJ_OFS : Fld := ⟨0x1015010C, 7, 0⟩
def A.HKA.HV_CNT : Nat := 0x10150140
def F.HKA.HV_CNT_OVF : Fld := ⟨0x10150140, 31, 31⟩
def F.HKA.HV_CNT_ACC : Fld := ⟨0x10150140, 29, 24⟩
def F.HKA.HV_CNT_COUNT : Fld := ⟨0x10150140, 15, 0⟩
def A.HKA.HV_MINMAX : Nat := 0x10150144
def F.HKA.HV_MINMAX_MAX : Fld := ⟨0x10150144, 31, 16⟩
def F.HKA.HV_MINMAX_MIN : Fld := ⟨0x10150144, 15, 0⟩
def A.HKA.HK_CNT0 : Nat := 0x10150150
def F.HKA.HK_CNT0_PLAUS_CNT : Fld := ⟨0x10150150, 31, 16⟩
def F.HKA.HK_CNT0_ABORT_CNT : Fld := ⟨0x10150150, 15, 0⟩
def A.HKA.HK_CNT1 : Nat := 0x10150154
def F.HKA.HK_CNT1_HP_MISS_CNT : Fld := ⟨0x10150154, 15, 0⟩
def A.HKA.ENTRY (i : Nat) (j : Nat) : Nat := 0x10150200 + 0x80 * i + 0x4 * j
def F.HKA.ENTRY_STRETCH (i : Nat) (j : Nat) : Fld := ⟨0x10150200 + 0x80 * i + 0x4 * j, 16, 14⟩
def F.HKA.ENTRY_ACC (i : Nat) (j : Nat) : Fld := ⟨0x10150200 + 0x80 * i + 0x4 * j, 13, 8⟩
def F.HKA.ENTRY_ACC_EN (i : Nat) (j : Nat) : Fld := ⟨0x10150200 + 0x80 * i + 0x4 * j, 7, 7⟩
def F.HKA.ENTRY_DIFF (i : Nat) (j : Nat) : Fld := ⟨0x10150200 + 0x80 * i + 0x4 * j, 6, 6⟩
def F.HKA.ENTRY_CHAN (i : Nat) (j : Nat) : Fld := ⟨0x10150200 + 0x80 * i + 0x4 * j, 5, 0⟩
def A.HKA.ACC_CFG (i : Nat) : Nat := 0x10150400 + 0x10 * i
def F.HKA.ACC_CFG_FMT (i : Nat) : Fld := ⟨0x10150400 + 0x10 * i, 1, 1⟩
def F.HKA.ACC_CFG_ALIGN (i : Nat) : Fld := ⟨0x10150400 + 0x10 * i, 0, 0⟩
def A.HKA.HARVEST (i : Nat) : Nat := 0x10150404 + 0x10 * i
def F.HKA.HARVEST_SUM (i : Nat) : Fld := ⟨0x10150404 + 0x10 * i, 31, 0⟩
def F.AUX.EVT_BIAS_CLAMP : Fld := ⟨0x10160000, 2, 2⟩
def F.AUX.EVT_COEX_DENY : Fld := ⟨0x10160000, 1, 1⟩
def F.AUX.EVT_COEX_MUTE : Fld := ⟨0x10160000, 0, 0⟩
def A.AUX.TDD_CFG : Nat := 0x10160100
def F.AUX.TDD_CFG_PERIOD : Fld := ⟨0x10160100, 5, 0⟩
def A.AUX.TDD_SLOT (i : Nat) : Nat := 0x10160110 + 0x4 * i
def F.AUX.TDD_SLOT_TYPE (i : Nat) : Fld := ⟨0x10160110 + 0x4 * i, 27, 0⟩
def A.AUX.TRSW_POL_LO : Nat := 0x10160200
def F.AUX.TRSW_POL_LO_POL : Fld := ⟨0x10160200, 31, 0⟩
def A.AUX.TRSW_POL_HI : Nat := 0x10160204
def F.AUX.TRSW_POL_HI_POL : Fld := ⟨0x10160204, 31, 0⟩
def A.AUX.COEX_CFG (i : Nat) : Nat := 0x10160300 + 0x10 * i
def F.AUX.COEX_CFG_EN (i : Nat) : Fld := ⟨0x10160300 + 0x10 * i, 31, 31⟩
def F.AUX.COEX_CFG_DIR (i : Nat) : Fld := ⟨0x10160300 + 0x10 * i, 30, 30⟩
def F.AUX.COEX_CFG_REQ_POL (i : Nat) : Fld := ⟨0x10160300 + 0x10 * i, 29, 29⟩
def F.AUX.COEX_CFG_GNT_POL (i : Nat) : Fld := ⟨0x10160300 + 0x10 * i, 28, 28⟩
def F.AUX.COEX_CFG_LEAD (i : Nat) : Fld := ⟨0x10160300 + 0x10 * i, 7, 0⟩
def A.AUX.COEX_MASK_LO (i : Nat) : Nat := 0x10160304 + 0x10 * i
def F.AUX.COEX_MASK_LO_MASK (i : Nat) : Fld := ⟨0x10160304 + 0x10 * i, 31, 0⟩
def A.AUX.COEX_MASK_HI (i : Nat) : Nat := 0x10160308 + 0x10 * i
def F.AUX.COEX_MASK_HI_MASK (i : Nat) : Fld := ⟨0x10160308 + 0x10 * i, 31, 0⟩
def A.AUX.COEX_CNT (i : Nat) : Nat := 0x1016030C + 0x10 * i
def F.AUX.COEX_CNT_GNT_LOW_CNT (i : Nat) : Fld := ⟨0x1016030C + 0x10 * i, 31, 16⟩
def F.AUX.COEX_CNT_MUTE_CNT (i : Nat) : Fld := ⟨0x1016030C + 0x10 * i, 15, 0⟩
def A.AUX.BIAS_CNT : Nat := 0x10160320
def F.AUX.BIAS_CNT_BIAS_CLAMP_CNT : Fld := ⟨0x10160320, 15, 0⟩
def A.AUX.BIAS (i : Nat) : Nat := 0x10160400 + 0x4 * i
def F.AUX.BIAS_HELD (i : Nat) : Fld := ⟨0x10160400 + 0x4 * i, 31, 31⟩
def F.AUX.BIAS_BUSY (i : Nat) : Fld := ⟨0x10160400 + 0x4 * i, 30, 30⟩
def F.AUX.BIAS_RANGE (i : Nat) : Fld := ⟨0x10160400 + 0x4 * i, 12, 12⟩
def F.AUX.BIAS_CODE (i : Nat) : Fld := ⟨0x10160400 + 0x4 * i, 11, 0⟩
def A.AUX.BIAS_SAFE (i : Nat) : Nat := 0x10160800 + 0x4 * i
def F.AUX.BIAS_SAFE_RANGE (i : Nat) : Fld := ⟨0x10160800 + 0x4 * i, 12, 12⟩
def F.AUX.BIAS_SAFE_CODE (i : Nat) : Fld := ⟨0x10160800 + 0x4 * i, 11, 0⟩
def A.AUX.BIAS_LIM (i : Nat) : Nat := 0x10160C00 + 0x4 * i
def F.AUX.BIAS_LIM_LIMIT (i : Nat) : Fld := ⟨0x10160C00 + 0x4 * i, 11, 0⟩
def F.REG.EVT_LOCK_WRITE : Fld := ⟨0x10170000, 3, 3⟩
def F.REG.EVT_DUTY_MUTE : Fld := ⟨0x10170000, 2, 2⟩
def F.REG.EVT_TOTAL_CLAMP : Fld := ⟨0x10170000, 1, 1⟩
def F.REG.EVT_RANGE_MUTE : Fld := ⟨0x10170000, 0, 0⟩
def A.REG.REG_CTRL : Nat := 0x10170100
def F.REG.REG_CTRL_SAVE : Fld := ⟨0x10170100, 0, 0⟩
def A.REG.REG_STATUS : Nat := 0x10170104
def F.REG.REG_STATUS_LOCKED : Fld := ⟨0x10170104, 31, 31⟩
def F.REG.REG_STATUS_EMPTY : Fld := ⟨0x10170104, 30, 30⟩
def F.REG.REG_STATUS_DELTA : Fld := ⟨0x10170104, 15, 0⟩
def A.REG.RANGE_LO (i : Nat) : Nat := 0x10170200 + 0x8 * i
def F.REG.RANGE_LO_EN (i : Nat) : Fld := ⟨0x10170200 + 0x8 * i, 31, 31⟩
def F.REG.RANGE_LO_F_LO (i : Nat) : Fld := ⟨0x10170200 + 0x8 * i, 16, 0⟩
def A.REG.RANGE_HI (i : Nat) : Nat := 0x10170204 + 0x8 * i
def F.REG.RANGE_HI_F_HI (i : Nat) : Fld := ⟨0x10170204 + 0x8 * i, 16, 0⟩
def A.REG.PWR_LIM : Nat := 0x10170300
def F.REG.PWR_LIM_P_PATH : Fld := ⟨0x10170300, 31, 16⟩
def F.REG.PWR_LIM_P_TOTAL : Fld := ⟨0x10170300, 15, 0⟩
def A.REG.DUTY_LIM : Nat := 0x10170304
def F.REG.DUTY_LIM_DUTY : Fld := ⟨0x10170304, 9, 0⟩
def A.REG.REG_CNT0 : Nat := 0x10170310
def F.REG.REG_CNT0_RANGE_CNT : Fld := ⟨0x10170310, 31, 16⟩
def F.REG.REG_CNT0_DUTY_CNT : Fld := ⟨0x10170310, 15, 0⟩
def A.REG.REG_CNT1 : Nat := 0x10170314
def F.REG.REG_CNT1_TOTAL_CNT : Fld := ⟨0x10170314, 15, 0⟩
def A.REG.EXP_LIM (i : Nat) : Nat := 0x10171000 + 0x4 * i
def F.REG.EXP_LIM_LIM (i : Nat) : Fld := ⟨0x10171000 + 0x4 * i, 31, 0⟩
def F.NVM.EVT_LC_REFUSED : Fld := ⟨0x10180000, 4, 4⟩
def F.NVM.EVT_ECC_UE : Fld := ⟨0x10180000, 3, 3⟩
def F.NVM.EVT_TORN : Fld := ⟨0x10180000, 2, 2⟩
def F.NVM.EVT_WRITE_REFUSED : Fld := ⟨0x10180000, 1, 1⟩
def F.NVM.EVT_WRITE_DONE : Fld := ⟨0x10180000, 0, 0⟩
def A.NVM.NVM_SRC : Nat := 0x10180100
def F.NVM.NVM_SRC_ADDR : Fld := ⟨0x10180100, 31, 0⟩
def A.NVM.NVM_CMD : Nat := 0x10180104
def F.NVM.NVM_CMD_ID : Fld := ⟨0x10180104, 27, 24⟩
def F.NVM.NVM_CMD_LEN : Fld := ⟨0x10180104, 20, 0⟩
def A.NVM.NVM_STATUS : Nat := 0x10180108
def F.NVM.NVM_STATUS_BUSY : Fld := ⟨0x10180108, 31, 31⟩
def F.NVM.NVM_STATUS_ID : Fld := ⟨0x10180108, 27, 24⟩
def F.NVM.NVM_STATUS_CODE : Fld := ⟨0x10180108, 23, 20⟩
def F.NVM.NVM_STATUS_LEFT : Fld := ⟨0x10180108, 15, 0⟩
def A.NVM.LC_STATUS : Nat := 0x10180110
def F.NVM.LC_STATUS_CODE : Fld := ⟨0x10180110, 11, 8⟩
def F.NVM.LC_STATUS_STATE : Fld := ⟨0x10180110, 1, 0⟩
def A.NVM.LC_REQ : Nat := 0x10180114
def F.NVM.LC_REQ_KEY : Fld := ⟨0x10180114, 15, 8⟩
def F.NVM.LC_REQ_TARGET : Fld := ⟨0x10180114, 1, 0⟩
def A.NVM.LC_AUTH_ADDR : Nat := 0x10180118
def F.NVM.LC_AUTH_ADDR_ADDR : Fld := ⟨0x10180118, 31, 0⟩
def A.NVM.DEVICE_ID_LO : Nat := 0x10180120
def F.NVM.DEVICE_ID_LO_ID : Fld := ⟨0x10180120, 31, 0⟩
def A.NVM.DEVICE_ID_HI : Nat := 0x10180124
def F.NVM.DEVICE_ID_HI_ID : Fld := ⟨0x10180124, 31, 0⟩
def A.NVM.KEY_STATUS : Nat := 0x10180128
def F.NVM.KEY_STATUS_REVOKED : Fld := ⟨0x10180128, 3, 2⟩
def F.NVM.KEY_STATUS_PRESENT : Fld := ⟨0x10180128, 1, 0⟩
def A.NVM.MIN_VERSION : Nat := 0x1018012C
def F.NVM.MIN_VERSION_VERSION : Fld := ⟨0x1018012C, 31, 0⟩
def A.NVM.NVM_CNT0 : Nat := 0x10180140
def F.NVM.NVM_CNT0_TORN_CNT : Fld := ⟨0x10180140, 31, 16⟩
def F.NVM.NVM_CNT0_CE_CNT : Fld := ⟨0x10180140, 15, 0⟩
def A.NVM.NVM_CNT1 : Nat := 0x10180144
def F.NVM.NVM_CNT1_REFUSE_CNT : Fld := ⟨0x10180144, 31, 16⟩
def F.NVM.NVM_CNT1_UE_CNT : Fld := ⟨0x10180144, 15, 0⟩
def A.NVM.NVM_INJ : Nat := 0x10180150
def F.NVM.NVM_INJ_TORN : Fld := ⟨0x10180150, 0, 0⟩
def A.NVM.REC_STATUS (i : Nat) : Nat := 0x10180200 + 0x4 * i
def F.NVM.REC_STATUS_VALID (i : Nat) : Fld := ⟨0x10180200 + 0x4 * i, 31, 31⟩
def F.NVM.REC_STATUS_SLOT (i : Nat) : Fld := ⟨0x10180200 + 0x4 * i, 30, 30⟩
def F.NVM.REC_STATUS_TORN (i : Nat) : Fld := ⟨0x10180200 + 0x4 * i, 29, 29⟩
def F.NVM.REC_STATUS_SEQ (i : Nat) : Fld := ⟨0x10180200 + 0x4 * i, 23, 0⟩
def F.FLT.EVT_OVERCURRENT : Fld := ⟨0x10190000, 6, 6⟩
def F.FLT.EVT_DISARMED : Fld := ⟨0x10190000, 5, 5⟩
def F.FLT.EVT_LOG_OVF : Fld := ⟨0x10190000, 4, 4⟩
def F.FLT.EVT_INJ : Fld := ⟨0x10190000, 3, 3⟩
def F.FLT.EVT_CRITICAL : Fld := ⟨0x10190000, 2, 2⟩
def F.FLT.EVT_MAJOR : Fld := ⟨0x10190000, 1, 1⟩
def F.FLT.EVT_MINOR : Fld := ⟨0x10190000, 0, 0⟩
def A.FLT.INJ_ARM : Nat := 0x10190100
def F.FLT.INJ_ARM_KEY : Fld := ⟨0x10190100, 15, 8⟩
def F.FLT.INJ_ARM_TIME : Fld := ⟨0x10190100, 7, 0⟩
def A.FLT.INJ_STATUS : Nat := 0x10190104
def F.FLT.INJ_STATUS_ARMED : Fld := ⟨0x10190104, 31, 31⟩
def F.FLT.INJ_STATUS_DISARM : Fld := ⟨0x10190104, 30, 30⟩
def F.FLT.INJ_STATUS_CODE : Fld := ⟨0x10190104, 27, 24⟩
def F.FLT.INJ_STATUS_LEFT : Fld := ⟨0x10190104, 15, 0⟩
def A.FLT.INJ_CMD : Nat := 0x10190108
def F.FLT.INJ_CMD_DOUBLE : Fld := ⟨0x10190108, 16, 16⟩
def F.FLT.INJ_CMD_PARAM : Fld := ⟨0x10190108, 15, 8⟩
def F.FLT.INJ_CMD_DET : Fld := ⟨0x10190108, 5, 0⟩
def A.FLT.INJ_ADDR : Nat := 0x1019010C
def F.FLT.INJ_ADDR_ADDR : Fld := ⟨0x1019010C, 31, 0⟩
def A.FLT.DET_STATUS : Nat := 0x10190110
def F.FLT.DET_STATUS_OCC : Fld := ⟨0x10190110, 25, 0⟩
def A.FLT.DET_INJ : Nat := 0x10190114
def F.FLT.DET_INJ_INJ : Fld := ⟨0x10190114, 25, 0⟩
def A.FLT.LOG_STATUS : Nat := 0x10190120
def F.FLT.LOG_STATUS_DROP_CNT : Fld := ⟨0x10190120, 31, 16⟩
def F.FLT.LOG_STATUS_LEVEL : Fld := ⟨0x10190120, 4, 0⟩
def A.FLT.LOG0 : Nat := 0x10190124
def F.FLT.LOG0_INJ : Fld := ⟨0x10190124, 31, 31⟩
def F.FLT.LOG0_SEV : Fld := ⟨0x10190124, 30, 29⟩
def F.FLT.LOG0_DET : Fld := ⟨0x10190124, 28, 24⟩
def F.FLT.LOG0_PARAM : Fld := ⟨0x10190124, 15, 8⟩
def A.FLT.LOG1 : Nat := 0x10190128
def F.FLT.LOG1_FRAME : Fld := ⟨0x10190128, 25, 16⟩
def F.FLT.LOG1_SLOT : Fld := ⟨0x10190128, 5, 0⟩
def A.FLT.LOG2 : Nat := 0x1019012C
def F.FLT.LOG2_TB0 : Fld := ⟨0x1019012C, 31, 0⟩
def A.FLT.FLT_CNT : Nat := 0x10190130
def F.FLT.FLT_CNT_INJ_CNT : Fld := ⟨0x10190130, 31, 16⟩
def F.FLT.FLT_CNT_FAULT_CNT : Fld := ⟨0x10190130, 15, 0⟩
def A.FLT.ROUTE0 : Nat := 0x10190200
def F.FLT.ROUTE0_SEV : Fld := ⟨0x10190200, 9, 8⟩
def F.FLT.ROUTE0_ACTION : Fld := ⟨0x10190200, 0, 0⟩
def A.FLT.ROUTE1 : Nat := 0x10190204
def F.FLT.ROUTE1_SEV : Fld := ⟨0x10190204, 9, 8⟩
def F.FLT.ROUTE1_ACTION : Fld := ⟨0x10190204, 0, 0⟩
def A.FLT.ROUTE2 : Nat := 0x10190208
def F.FLT.ROUTE2_SEV : Fld := ⟨0x10190208, 9, 8⟩
def F.FLT.ROUTE2_ACTION : Fld := ⟨0x10190208, 0, 0⟩
def A.FLT.ROUTE3 : Nat := 0x1019020C
def F.FLT.ROUTE3_SEV : Fld := ⟨0x1019020C, 9, 8⟩
def F.FLT.ROUTE3_ACTION : Fld := ⟨0x1019020C, 0, 0⟩
def A.FLT.ROUTE4 : Nat := 0x10190210
def F.FLT.ROUTE4_SEV : Fld := ⟨0x10190210, 9, 8⟩
def F.FLT.ROUTE4_ACTION : Fld := ⟨0x10190210, 0, 0⟩
def A.FLT.ROUTE5 : Nat := 0x10190214
def F.FLT.ROUTE5_SEV : Fld := ⟨0x10190214, 9, 8⟩
def F.FLT.ROUTE5_ACTION : Fld := ⟨0x10190214, 0, 0⟩
def A.FLT.ROUTE6 : Nat := 0x10190218
def F.FLT.ROUTE6_SEV : Fld := ⟨0x10190218, 9, 8⟩
def F.FLT.ROUTE6_ACTION : Fld := ⟨0x10190218, 0, 0⟩
def A.FLT.ROUTE7 : Nat := 0x1019021C
def F.FLT.ROUTE7_SEV : Fld := ⟨0x1019021C, 9, 8⟩
def F.FLT.ROUTE7_ACTION : Fld := ⟨0x1019021C, 0, 0⟩
def A.FLT.ROUTE8 : Nat := 0x10190220
def F.FLT.ROUTE8_SEV : Fld := ⟨0x10190220, 9, 8⟩
def F.FLT.ROUTE8_ACTION : Fld := ⟨0x10190220, 0, 0⟩
def A.FLT.ROUTE9 : Nat := 0x10190224
def F.FLT.ROUTE9_SEV : Fld := ⟨0x10190224, 9, 8⟩
def F.FLT.ROUTE9_ACTION : Fld := ⟨0x10190224, 0, 0⟩
def A.FLT.ROUTE10 : Nat := 0x10190228
def F.FLT.ROUTE10_SEV : Fld := ⟨0x10190228, 9, 8⟩
def F.FLT.ROUTE10_ACTION : Fld := ⟨0x10190228, 0, 0⟩
def A.FLT.ROUTE11 : Nat := 0x1019022C
def F.FLT.ROUTE11_SEV : Fld := ⟨0x1019022C, 9, 8⟩
def F.FLT.ROUTE11_ACTION : Fld := ⟨0x1019022C, 0, 0⟩
def A.FLT.ROUTE12 : Nat := 0x10190230
def F.FLT.ROUTE12_SEV : Fld := ⟨0x10190230, 9, 8⟩
def F.FLT.ROUTE12_ACTION : Fld := ⟨0x10190230, 0, 0⟩
def A.FLT.ROUTE13 : Nat := 0x10190234
def F.FLT.ROUTE13_SEV : Fld := ⟨0x10190234, 9, 8⟩
def F.FLT.ROUTE13_ACTION : Fld := ⟨0x10190234, 0, 0⟩
def A.FLT.ROUTE14 : Nat := 0x10190238
def F.FLT.ROUTE14_SEV : Fld := ⟨0x10190238, 9, 8⟩
def F.FLT.ROUTE14_ACTION : Fld := ⟨0x10190238, 0, 0⟩
def A.FLT.ROUTE15 : Nat := 0x1019023C
def F.FLT.ROUTE15_SEV : Fld := ⟨0x1019023C, 9, 8⟩
def F.FLT.ROUTE15_ACTION : Fld := ⟨0x1019023C, 0, 0⟩
def A.FLT.ROUTE16 : Nat := 0x10190240
def F.FLT.ROUTE16_SEV : Fld := ⟨0x10190240, 9, 8⟩
def F.FLT.ROUTE16_ACTION : Fld := ⟨0x10190240, 0, 0⟩
def A.FLT.ROUTE17 : Nat := 0x10190244
def F.FLT.ROUTE17_SEV : Fld := ⟨0x10190244, 9, 8⟩
def F.FLT.ROUTE17_ACTION : Fld := ⟨0x10190244, 0, 0⟩
def A.FLT.ROUTE18 : Nat := 0x10190248
def F.FLT.ROUTE18_SEV : Fld := ⟨0x10190248, 9, 8⟩
def F.FLT.ROUTE18_ACTION : Fld := ⟨0x10190248, 0, 0⟩
def A.FLT.ROUTE19 : Nat := 0x1019024C
def F.FLT.ROUTE19_SEV : Fld := ⟨0x1019024C, 9, 8⟩
def F.FLT.ROUTE19_ACTION : Fld := ⟨0x1019024C, 0, 0⟩
def A.FLT.ROUTE20 : Nat := 0x10190250
def F.FLT.ROUTE20_SEV : Fld := ⟨0x10190250, 9, 8⟩
def F.FLT.ROUTE20_ACTION : Fld := ⟨0x10190250, 0, 0⟩
def A.FLT.ROUTE21 : Nat := 0x10190254
def F.FLT.ROUTE21_SEV : Fld := ⟨0x10190254, 9, 8⟩
def F.FLT.ROUTE21_ACTION : Fld := ⟨0x10190254, 0, 0⟩
def A.FLT.ROUTE22 : Nat := 0x10190258
def F.FLT.ROUTE22_SEV : Fld := ⟨0x10190258, 9, 8⟩
def F.FLT.ROUTE22_ACTION : Fld := ⟨0x10190258, 0, 0⟩
def A.FLT.ROUTE23 : Nat := 0x1019025C
def F.FLT.ROUTE23_SEV : Fld := ⟨0x1019025C, 9, 8⟩
def F.FLT.ROUTE23_ACTION : Fld := ⟨0x1019025C, 0, 0⟩
def A.FLT.ROUTE24 : Nat := 0x10190260
def F.FLT.ROUTE24_SEV : Fld := ⟨0x10190260, 9, 8⟩
def F.FLT.ROUTE24_ACTION : Fld := ⟨0x10190260, 0, 0⟩
def A.FLT.ROUTE25 : Nat := 0x10190264
def F.FLT.ROUTE25_SEV : Fld := ⟨0x10190264, 9, 8⟩
def F.FLT.ROUTE25_ACTION : Fld := ⟨0x10190264, 0, 0⟩
def A.FLT.OC_CFG (i : Nat) : Nat := 0x10190300 + 0x4 * i
def F.FLT.OC_CFG_EN (i : Nat) : Fld := ⟨0x10190300 + 0x4 * i, 31, 31⟩
def F.FLT.OC_CFG_CHAN (i : Nat) : Fld := ⟨0x10190300 + 0x4 * i, 30, 24⟩
def F.FLT.OC_CFG_GROUPS (i : Nat) : Fld := ⟨0x10190300 + 0x4 * i, 23, 16⟩
def F.FLT.OC_CFG_LIMIT (i : Nat) : Fld := ⟨0x10190300 + 0x4 * i, 11, 0⟩
def F.NLR.EVT_LOST : Fld := ⟨0x101A0000, 3, 3⟩
def F.NLR.EVT_AERIAL_SWITCH : Fld := ⟨0x101A0000, 2, 2⟩
def F.NLR.EVT_MISS : Fld := ⟨0x101A0000, 1, 1⟩
def F.NLR.EVT_DETECT : Fld := ⟨0x101A0000, 0, 0⟩
def A.NLR.NL_CFG : Nat := 0x101A0100
def F.NLR.NL_CFG_EN : Fld := ⟨0x101A0100, 31, 31⟩
def F.NLR.NL_CFG_FORCE : Fld := ⟨0x101A0100, 30, 29⟩
def F.NLR.NL_CFG_HYST : Fld := ⟨0x101A0100, 28, 24⟩
def F.NLR.NL_CFG_REF_LEN : Fld := ⟨0x101A0100, 11, 0⟩
def A.NLR.NL_NCO : Nat := 0x101A0104
def F.NLR.NL_NCO_FREQ : Fld := ⟨0x101A0104, 31, 0⟩
def A.NLR.NL_TIMING : Nat := 0x101A0108
def F.NLR.NL_TIMING_WIN : Fld := ⟨0x101A0108, 25, 16⟩
def F.NLR.NL_TIMING_PERIOD : Fld := ⟨0x101A0108, 9, 0⟩
def A.NLR.NL_OFFSET : Nat := 0x101A010C
def F.NLR.NL_OFFSET_PRE_OFFSET : Fld := ⟨0x101A010C, 31, 0⟩
def A.NLR.NL_DET : Nat := 0x101A0110
def F.NLR.NL_DET_THRESH : Fld := ⟨0x101A0110, 31, 16⟩
def F.NLR.NL_DET_AIR_DELAY : Fld := ⟨0x101A0110, 15, 0⟩
def A.NLR.NL_BUF : Nat := 0x101A0114
def F.NLR.NL_BUF_ADDR : Fld := ⟨0x101A0114, 31, 0⟩
def A.NLR.NL_POST : Nat := 0x101A0118
def F.NLR.NL_POST_POST : Fld := ⟨0x101A0118, 12, 0⟩
def A.NLR.NL_STATUS : Nat := 0x101A0120
def F.NLR.NL_STATUS_STATE : Fld := ⟨0x101A0120, 31, 30⟩
def F.NLR.NL_STATUS_AERIAL : Fld := ⟨0x101A0120, 29, 29⟩
def F.NLR.NL_STATUS_MISS_RUN : Fld := ⟨0x101A0120, 2, 0⟩
def A.NLR.NL_ENERGY : Nat := 0x101A0124
def F.NLR.NL_ENERGY_ENERGY_A : Fld := ⟨0x101A0124, 31, 16⟩
def F.NLR.NL_ENERGY_ENERGY_B : Fld := ⟨0x101A0124, 15, 0⟩
def A.NLR.NL_CNT : Nat := 0x101A0128
def F.NLR.NL_CNT_DETECT_CNT : Fld := ⟨0x101A0128, 31, 16⟩
def F.NLR.NL_CNT_SKIP_CNT : Fld := ⟨0x101A0128, 15, 0⟩
def A.NLR.REF (i : Nat) : Nat := 0x101A2000 + 0x4 * i
def F.NLR.REF_Q (i : Nat) : Fld := ⟨0x101A2000 + 0x4 * i, 31, 16⟩
def F.NLR.REF_I (i : Nat) : Fld := ⟨0x101A2000 + 0x4 * i, 15, 0⟩
def F.TKC.EVT_STOPPED : Fld := ⟨0x101B0000, 3, 3⟩
def F.TKC.EVT_WDT_WARN : Fld := ⟨0x101B0000, 2, 2⟩
def F.TKC.EVT_WDT_EXPIRE : Fld := ⟨0x101B0000, 1, 1⟩
def F.TKC.EVT_FAULT : Fld := ⟨0x101B0000, 0, 0⟩
def A.TKC.FAULT_PEND_LO : Nat := 0x101B0100
def F.TKC.FAULT_PEND_LO_PEND : Fld := ⟨0x101B0100, 31, 0⟩
def A.TKC.FAULT_PEND_HI : Nat := 0x101B0104
def F.TKC.FAULT_PEND_HI_PEND : Fld := ⟨0x101B0104, 1, 0⟩
def A.TKC.VETO_LO : Nat := 0x101B0108
def F.TKC.VETO_LO_VETO : Fld := ⟨0x101B0108, 31, 0⟩
def A.TKC.VETO_HI : Nat := 0x101B010C
def F.TKC.VETO_HI_VETO : Fld := ⟨0x101B010C, 1, 0⟩
def A.TKC.WDT_CFG : Nat := 0x101B0110
def F.TKC.WDT_CFG_ESC_LC1 : Fld := ⟨0x101B0110, 1, 1⟩
def F.TKC.WDT_CFG_ESC_LC0 : Fld := ⟨0x101B0110, 0, 0⟩
def A.TKC.BAR_MEM_LO (i : Nat) : Nat := 0x101B0400 + 0x10 * i
def F.TKC.BAR_MEM_LO_MEM (i : Nat) : Fld := ⟨0x101B0400 + 0x10 * i, 31, 0⟩
def A.TKC.BAR_MEM_HI (i : Nat) : Nat := 0x101B0404 + 0x10 * i
def F.TKC.BAR_MEM_HI_MEM (i : Nat) : Fld := ⟨0x101B0404 + 0x10 * i, 1, 0⟩
def A.TKC.BAR_STATUS (i : Nat) : Nat := 0x101B0408 + 0x10 * i
def F.TKC.BAR_STATUS_BROKEN_CNT (i : Nat) : Fld := ⟨0x101B0408 + 0x10 * i, 31, 24⟩
def F.TKC.BAR_STATUS_GEN (i : Nat) : Fld := ⟨0x101B0408 + 0x10 * i, 23, 16⟩
def F.TKC.BAR_STATUS_ARRIVED (i : Nat) : Fld := ⟨0x101B0408 + 0x10 * i, 5, 0⟩
def A.TKC.C_CTRL (i : Nat) : Nat := 0x101B1000 + 0x40 * i
def F.TKC.C_CTRL_RESET (i : Nat) : Fld := ⟨0x101B1000 + 0x40 * i, 31, 31⟩
def F.TKC.C_CTRL_STOP (i : Nat) : Fld := ⟨0x101B1000 + 0x40 * i, 30, 30⟩
def F.TKC.C_CTRL_START (i : Nat) : Fld := ⟨0x101B1000 + 0x40 * i, 29, 29⟩
def F.TKC.C_CTRL_STEP (i : Nat) : Fld := ⟨0x101B1000 + 0x40 * i, 28, 28⟩
def F.TKC.C_CTRL_KICK (i : Nat) : Fld := ⟨0x101B1000 + 0x40 * i, 27, 27⟩
def F.TKC.C_CTRL_SOFT (i : Nat) : Fld := ⟨0x101B1000 + 0x40 * i, 26, 26⟩
def F.TKC.C_CTRL_VETO (i : Nat) : Fld := ⟨0x101B1000 + 0x40 * i, 0, 0⟩
def A.TKC.C_STATUS (i : Nat) : Nat := 0x101B1004 + 0x40 * i
def F.TKC.C_STATUS_STATE (i : Nat) : Fld := ⟨0x101B1004 + 0x40 * i, 31, 28⟩
def F.TKC.C_STATUS_CAUSE (i : Nat) : Fld := ⟨0x101B1004 + 0x40 * i, 27, 24⟩
def F.TKC.C_STATUS_EPOCH (i : Nat) : Fld := ⟨0x101B1004 + 0x40 * i, 17, 16⟩
def A.TKC.C_START_PC (i : Nat) : Nat := 0x101B1008 + 0x40 * i
def F.TKC.C_START_PC_PC (i : Nat) : Fld := ⟨0x101B1008 + 0x40 * i, 15, 2⟩
def A.TKC.C_PC (i : Nat) : Nat := 0x101B100C + 0x40 * i
def F.TKC.C_PC_PC (i : Nat) : Fld := ⟨0x101B100C + 0x40 * i, 15, 2⟩
def A.TKC.C_FAULT_ADDR (i : Nat) : Nat := 0x101B1010 + 0x40 * i
def F.TKC.C_FAULT_ADDR_ADDR (i : Nat) : Fld := ⟨0x101B1010 + 0x40 * i, 31, 0⟩
def A.TKC.C_WDT (i : Nat) : Nat := 0x101B1014 + 0x40 * i
def F.TKC.C_WDT_WARN (i : Nat) : Fld := ⟨0x101B1014 + 0x40 * i, 31, 16⟩
def F.TKC.C_WDT_EXPIRE (i : Nat) : Fld := ⟨0x101B1014 + 0x40 * i, 15, 0⟩
def A.TKC.C_WDT_CNT (i : Nat) : Nat := 0x101B1018 + 0x40 * i
def F.TKC.C_WDT_CNT_CNT (i : Nat) : Fld := ⟨0x101B1018 + 0x40 * i, 15, 0⟩
def A.TKC.C_INT (i : Nat) : Nat := 0x101B101C + 0x40 * i
def F.TKC.C_INT_LVL (i : Nat) : Fld := ⟨0x101B101C + 0x40 * i, 19, 2⟩
def A.TKC.C_INT_PEND (i : Nat) : Nat := 0x101B1020 + 0x40 * i
def F.TKC.C_INT_PEND_PEND (i : Nat) : Fld := ⟨0x101B1020 + 0x40 * i, 9, 0⟩
def A.TKC.C_CNT0 (i : Nat) : Nat := 0x101B1024 + 0x40 * i
def F.TKC.C_CNT0_ISSUE_CNT (i : Nat) : Fld := ⟨0x101B1024 + 0x40 * i, 31, 0⟩
def A.TKC.C_CNT1 (i : Nat) : Nat := 0x101B1028 + 0x40 * i
def F.TKC.C_CNT1_ECC_CNT (i : Nat) : Fld := ⟨0x101B1028 + 0x40 * i, 15, 0⟩

end Sys2Proof.Machine
end

