-- ==== Sys2Proof/Machine/Regs.lean ====
section
/-! DEFINITION. The register index of the block windows (R31, R573, R576), transcribed from the register tables of spec/:
for each block a table of its registers with the access code and the reset value of every field, and a named field
`F.<BLOCK>.<REGISTER>_<FIELD>` for each of them.  A field whose Reset column says NVM is entered with reset value 0 (it is
loaded at step 3 of R85, log entry 3). -/

namespace Sys2Proof.Machine

/-- SHD_CTRL, SHD_STATUS, CMDQ_STATUS and CMDQ_REFUSE_CNT, which every block window holds (R31, R33 to R35). -/
def Regs.common : List RegSpec := [
  -- SHD_CTRL (R33)
  ⟨0xC, 0x10000, 1, 0x10000, 1, [⟨1, 1, .w1s, 0x0, false⟩, ⟨0, 0, .w1s, 0x0, false⟩]⟩,
  -- SHD_STATUS (R34)
  ⟨0x10, 0x10000, 1, 0x10000, 1, [⟨18, 18, .ro, 0x0, false⟩, ⟨17, 17, .ro, 0x0, false⟩, ⟨16, 16, .ro, 0x0, false⟩, ⟨15, 0, .ro, 0x0, false⟩]⟩,
  -- CMDQ_STATUS (R35)
  ⟨0x14, 0x10000, 1, 0x10000, 1, [⟨25, 16, .ro, 0x0, false⟩, ⟨9, 0, .ro, 0x0, false⟩]⟩,
  -- CMDQ_REFUSE_CNT (R35)
  ⟨0x18, 0x10000, 1, 0x10000, 1, [⟨31, 16, .rw, 0x0, false⟩, ⟨15, 0, .rw, 0x0, false⟩]⟩]

/-- The register table of block SYS. -/
def Regs.SYS : List RegSpec :=
  [-- EVT_STATUS (R32, R40, R578, R92)
  ⟨0x0, 0x10000, 1, 0x10000, 1, [⟨31, 31, .w1c, 0x0, false⟩, ⟨30, 30, .w1c, 0x0, false⟩, ⟨29, 29, .w1c, 0x0, false⟩, ⟨4, 4, .w1c, 0x0, false⟩, ⟨3, 3, .w1c, 0x0, false⟩, ⟨2, 2, .w1c, 0x0, false⟩, ⟨5, 5, .w1c, 0x0, false⟩, ⟨1, 1, .w1c, 0x0, false⟩, ⟨0, 0, .w1c, 0x0, false⟩]⟩,
  -- EVT_ENABLE_A (R32)
  ⟨0x4, 0x10000, 1, 0x10000, 1, [⟨31, 31, .rw, 0x0, false⟩, ⟨30, 30, .rw, 0x0, false⟩, ⟨29, 29, .rw, 0x0, false⟩, ⟨4, 4, .rw, 0x0, false⟩, ⟨3, 3, .rw, 0x0, false⟩, ⟨2, 2, .rw, 0x0, false⟩, ⟨5, 5, .rw, 0x0, false⟩, ⟨1, 1, .rw, 0x0, false⟩, ⟨0, 0, .rw, 0x0, false⟩]⟩,
  -- EVT_ENABLE_B (R32)
  ⟨0x8, 0x10000, 1, 0x10000, 1, [⟨31, 31, .rw, 0x0, false⟩, ⟨30, 30, .rw, 0x0, false⟩, ⟨29, 29, .rw, 0x0, false⟩, ⟨4, 4, .rw, 0x0, false⟩, ⟨3, 3, .rw, 0x0, false⟩, ⟨2, 2, .rw, 0x0, false⟩, ⟨5, 5, .rw, 0x0, false⟩, ⟨1, 1, .rw, 0x0, false⟩, ⟨0, 0, .rw, 0x0, false⟩]⟩,
  -- SYS_ID (R577)
  ⟨0x20, 0x10000, 1, 0x10000, 1, [⟨31, 16, .ro, 0x64, false⟩, ⟨15, 8, .ro, 0x50, false⟩]⟩,
  -- SYS_REV (R577)
  ⟨0x24, 0x10000, 1, 0x10000, 1, [⟨31, 28, .ro, 0x0, true⟩, ⟨23, 16, .ro, 0x1, false⟩, ⟨15, 8, .ro, 0x0, false⟩, ⟨7, 0, .ro, 0x3, false⟩]⟩,
  -- ACC_ERR (R578)
  ⟨0x30, 0x10000, 1, 0x10000, 1, [⟨31, 16, .rw, 0x0, false⟩]⟩,
  -- ACC_ERR_ADDR (R578)
  ⟨0x34, 0x10000, 1, 0x10000, 1, [⟨31, 0, .ro, 0x0, false⟩]⟩,
  -- ACC_ERR_INFO (R578)
  ⟨0x38, 0x10000, 1, 0x10000, 1, [⟨29, 24, .ro, 0x0, false⟩, ⟨8, 8, .ro, 0x0, false⟩, ⟨3, 0, .ro, 0x0, false⟩]⟩,
  -- RESET_CAUSE (R93)
  ⟨0x40, 0x10000, 1, 0x10000, 1, [⟨31, 24, .rw, 0x0, false⟩, ⟨5, 5, .w1c, 0x0, false⟩, ⟨4, 4, .w1c, 0x0, false⟩, ⟨3, 3, .w1c, 0x0, false⟩, ⟨2, 2, .w1c, 0x0, false⟩, ⟨1, 1, .w1c, 0x0, false⟩, ⟨0, 0, .w1c, 0x1, false⟩]⟩,
  -- SW_RESET (R93)
  ⟨0x44, 0x10000, 1, 0x10000, 1, [⟨7, 0, .wo, 0x0, false⟩]⟩,
  -- BOOT_STATUS (R93)
  ⟨0x48, 0x10000, 1, 0x10000, 1, [⟨31, 31, .ro, 0x1, false⟩, ⟨30, 30, .ro, 0x0, false⟩, ⟨29, 29, .ro, 0x0, false⟩, ⟨23, 16, .rw, 0x0, false⟩, ⟨11, 8, .ro, 0x0, false⟩, ⟨3, 0, .ro, 0x0, false⟩]⟩,
  -- BOOT_IMG_ADDR (R93)
  ⟨0x4C, 0x10000, 1, 0x10000, 1, [⟨31, 0, .rw, 0x4000000, false⟩]⟩,
  -- BOOT_IMG_LEN (R93)
  ⟨0x50, 0x10000, 1, 0x10000, 1, [⟨21, 0, .rw, 0x0, false⟩]⟩,
  -- BOOT_CTRL (R93)
  ⟨0x54, 0x10000, 1, 0x10000, 1, [⟨0, 0, .w1s, 0x0, false⟩]⟩,
  -- GRID_CFG (R36)
  ⟨0x200, 0x4, 4, 0x10000, 1, [⟨7, 7, .rwx, 0x0, false⟩, ⟨4, 4, .rwx, 0x0, false⟩, ⟨1, 0, .rwx, 0x1, false⟩]⟩,
  -- STAGE_CFG (R37)
  ⟨0x210, 0x10000, 1, 0x10000, 1, [⟨23, 16, .rwx, 0x14, false⟩, ⟨7, 0, .rwx, 0x32, false⟩]⟩,
  -- CMDQ_QUOTA0 (R38)
  ⟨0x220, 0x10000, 1, 0x10000, 1, [⟨31, 24, .rwx, 0x0, false⟩, ⟨23, 16, .rwx, 0x0, false⟩, ⟨15, 8, .rwx, 0x0, false⟩, ⟨7, 0, .rwx, 0x0, false⟩]⟩,
  -- CMDQ_QUOTA1 (R38)
  ⟨0x224, 0x10000, 1, 0x10000, 1, [⟨31, 24, .rwx, 0x0, false⟩, ⟨23, 16, .rwx, 0x0, false⟩, ⟨15, 8, .rwx, 0x0, false⟩, ⟨7, 0, .rwx, 0x0, false⟩]⟩,
  -- CMDQ_QUOTA2 (R38)
  ⟨0x228, 0x10000, 1, 0x10000, 1, [⟨31, 24, .rwx, 0x0, false⟩, ⟨23, 16, .rwx, 0x0, false⟩, ⟨15, 8, .rwx, 0x0, false⟩, ⟨7, 0, .rwx, 0x0, false⟩]⟩,
  -- CMDQ_QUOTA3 (R38)
  ⟨0x22C, 0x10000, 1, 0x10000, 1, [⟨31, 24, .rwx, 0x0, false⟩, ⟨23, 16, .rwx, 0x0, false⟩, ⟨15, 8, .rwx, 0x0, false⟩, ⟨7, 0, .rwx, 0x0, false⟩]⟩] ++
  [-- CMDQ_QUOTA4 (R38)
  ⟨0x230, 0x10000, 1, 0x10000, 1, [⟨31, 24, .rwx, 0x0, false⟩, ⟨23, 16, .rwx, 0x0, false⟩, ⟨15, 8, .rwx, 0x0, false⟩, ⟨7, 0, .rwx, 0x0, false⟩]⟩,
  -- CMDQ_QUOTA5 (R38)
  ⟨0x234, 0x10000, 1, 0x10000, 1, [⟨31, 24, .rwx, 0x0, false⟩, ⟨23, 16, .rwx, 0x0, false⟩, ⟨15, 8, .rwx, 0x0, false⟩, ⟨7, 0, .rwx, 0x0, false⟩]⟩,
  -- CMDQ_QUOTA6 (R38)
  ⟨0x238, 0x10000, 1, 0x10000, 1, [⟨31, 24, .rwx, 0x0, false⟩, ⟨23, 16, .rwx, 0x0, false⟩, ⟨15, 8, .rwx, 0x0, false⟩, ⟨7, 0, .rwx, 0x0, false⟩]⟩,
  -- CMDQ_QUOTA7 (R38)
  ⟨0x23C, 0x10000, 1, 0x10000, 1, [⟨31, 24, .rwx, 0x0, false⟩, ⟨23, 16, .rwx, 0x0, false⟩, ⟨15, 8, .rwx, 0x0, false⟩, ⟨7, 0, .rwx, 0x0, false⟩]⟩,
  -- CMDQ_QUOTA8 (R38)
  ⟨0x240, 0x10000, 1, 0x10000, 1, [⟨15, 8, .rwx, 0x80, false⟩, ⟨7, 0, .rwx, 0x80, false⟩]⟩,
  -- SLOT_STATUS_LC0 (R39)
  ⟨0x250, 0x10000, 1, 0x10000, 1, [⟨31, 31, .ro, 0x0, false⟩, ⟨25, 16, .ro, 0x0, false⟩, ⟨5, 0, .ro, 0x0, false⟩]⟩,
  -- SLOT_STATUS_LC1 (R39)
  ⟨0x254, 0x10000, 1, 0x10000, 1, [⟨31, 31, .ro, 0x0, false⟩, ⟨25, 16, .ro, 0x0, false⟩, ⟨5, 0, .ro, 0x0, false⟩]⟩,
  -- SLOT_MISS_CNT (R39)
  ⟨0x258, 0x10000, 1, 0x10000, 1, [⟨31, 16, .rw, 0x0, false⟩, ⟨15, 0, .rw, 0x0, false⟩]⟩,
  -- DET_STATUS (R39)
  ⟨0x260, 0x10000, 1, 0x10000, 1, [⟨4, 4, .w1c, 0x0, false⟩, ⟨3, 3, .w1c, 0x0, false⟩, ⟨2, 2, .w1c, 0x0, false⟩, ⟨1, 1, .w1c, 0x0, false⟩, ⟨0, 0, .w1c, 0x0, false⟩]⟩]

/-- The register table of block PWR. -/
def Regs.PWR : List RegSpec :=
  [-- EVT_STATUS (R32, R70)
  ⟨0x0, 0x10000, 1, 0x10000, 1, [⟨31, 31, .w1c, 0x0, false⟩, ⟨30, 30, .w1c, 0x0, false⟩, ⟨29, 29, .w1c, 0x0, false⟩, ⟨7, 7, .w1c, 0x0, false⟩, ⟨6, 6, .w1c, 0x0, false⟩, ⟨5, 5, .w1c, 0x0, false⟩, ⟨4, 4, .w1c, 0x0, false⟩, ⟨3, 3, .w1c, 0x0, false⟩, ⟨2, 2, .w1c, 0x0, false⟩, ⟨1, 1, .w1c, 0x0, false⟩, ⟨0, 0, .w1c, 0x0, false⟩]⟩,
  -- EVT_ENABLE_A (R32)
  ⟨0x4, 0x10000, 1, 0x10000, 1, [⟨31, 31, .rw, 0x0, false⟩, ⟨30, 30, .rw, 0x0, false⟩, ⟨29, 29, .rw, 0x0, false⟩, ⟨7, 7, .rw, 0x0, false⟩, ⟨6, 6, .rw, 0x0, false⟩, ⟨5, 5, .rw, 0x0, false⟩, ⟨4, 4, .rw, 0x0, false⟩, ⟨3, 3, .rw, 0x0, false⟩, ⟨2, 2, .rw, 0x0, false⟩, ⟨1, 1, .rw, 0x0, false⟩, ⟨0, 0, .rw, 0x0, false⟩]⟩,
  -- EVT_ENABLE_B (R32)
  ⟨0x8, 0x10000, 1, 0x10000, 1, [⟨31, 31, .rw, 0x0, false⟩, ⟨30, 30, .rw, 0x0, false⟩, ⟨29, 29, .rw, 0x0, false⟩, ⟨7, 7, .rw, 0x0, false⟩, ⟨6, 6, .rw, 0x0, false⟩, ⟨5, 5, .rw, 0x0, false⟩, ⟨4, 4, .rw, 0x0, false⟩, ⟨3, 3, .rw, 0x0, false⟩, ⟨2, 2, .rw, 0x0, false⟩, ⟨1, 1, .rw, 0x0, false⟩, ⟨0, 0, .rw, 0x0, false⟩]⟩,
  -- MODE_REQ (R71)
  ⟨0x100, 0x10000, 1, 0x10000, 1, [⟨2, 0, .wo, 0x0, false⟩]⟩,
  -- MODE_STATUS (R71)
  ⟨0x104, 0x10000, 1, 0x10000, 1, [⟨11, 8, .ro, 0x0, false⟩, ⟨7, 7, .ro, 0x0, false⟩, ⟨2, 0, .ro, 0x1, false⟩]⟩,
  -- REST_REQ (R72)
  ⟨0x110, 0x10000, 1, 0x10000, 1, [⟨23, 0, .wo, 0x0, false⟩]⟩,
  -- REST_CFG (R72)
  ⟨0x114, 0x10000, 1, 0x10000, 1, [⟨25, 16, .rw, 0x64, false⟩, ⟨6, 6, .rw, 0x0, false⟩, ⟨5, 5, .rw, 0x1, false⟩, ⟨4, 4, .rw, 0x1, false⟩, ⟨1, 1, .rw, 0x1, false⟩, ⟨0, 0, .rw, 0x1, false⟩]⟩,
  -- REST_STATUS (R72)
  ⟨0x118, 0x10000, 1, 0x10000, 1, [⟨31, 28, .ro, 0x0, false⟩, ⟨25, 24, .ro, 0x0, false⟩, ⟨20, 16, .ro, 0x0, false⟩, ⟨11, 8, .ro, 0x0, false⟩, ⟨7, 0, .rw, 0x0, false⟩]⟩,
  -- REST_CTRL (R72)
  ⟨0x11C, 0x10000, 1, 0x10000, 1, [⟨0, 0, .w1s, 0x0, false⟩]⟩,
  -- WAKE_CFG (R73)
  ⟨0x120, 0x10000, 1, 0x10000, 1, [⟨30, 28, .rw, 0x1, false⟩, ⟨24, 24, .rw, 0x0, false⟩, ⟨22, 16, .rw, 0x0, false⟩, ⟨13, 8, .rw, 0x0, false⟩, ⟨6, 0, .rw, 0x0, true⟩]⟩,
  -- WAKE_CAUSE (R73)
  ⟨0x124, 0x10000, 1, 0x10000, 1, [⟨9, 9, .ro, 0x0, false⟩, ⟨8, 8, .ro, 0x0, false⟩, ⟨2, 2, .ro, 0x0, false⟩, ⟨1, 1, .ro, 0x0, false⟩, ⟨0, 0, .ro, 0x0, false⟩]⟩,
  -- RET_CTX_SEL0 (R74)
  ⟨0x130, 0x10000, 1, 0x10000, 1, [⟨31, 0, .rw, 0x0, false⟩]⟩,
  -- RET_CTX_SEL1 (R74)
  ⟨0x134, 0x10000, 1, 0x10000, 1, [⟨31, 0, .rw, 0x0, false⟩]⟩,
  -- RET_CTX_SEL2 (R74)
  ⟨0x138, 0x10000, 1, 0x10000, 1, [⟨31, 0, .rw, 0x0, false⟩]⟩,
  -- RET_MSG_SEL (R74)
  ⟨0x13C, 0x10000, 1, 0x10000, 1, [⟨15, 0, .rw, 0x0, false⟩]⟩,
  -- RET_LOST_CTX0 (R74)
  ⟨0x140, 0x10000, 1, 0x10000, 1, [⟨31, 0, .w1c, 0x0, false⟩]⟩,
  -- RET_LOST_CTX1 (R74)
  ⟨0x144, 0x10000, 1, 0x10000, 1, [⟨31, 0, .w1c, 0x0, false⟩]⟩,
  -- RET_LOST_CTX2 (R74)
  ⟨0x148, 0x10000, 1, 0x10000, 1, [⟨31, 0, .w1c, 0x0, false⟩]⟩,
  -- RET_LOST_MSG (R74)
  ⟨0x14C, 0x10000, 1, 0x10000, 1, [⟨15, 0, .w1c, 0x0, false⟩]⟩,
  -- PAD_CTRL (R74)
  ⟨0x150, 0x10000, 1, 0x10000, 1, [⟨21, 16, .ro, 0x0, false⟩, ⟨13, 8, .w1s, 0x0, false⟩, ⟨5, 0, .rw, 0x0, true⟩]⟩] ++
  [-- LEDGE_STATUS (R74)
  ⟨0x160, 0x10000, 1, 0x10000, 1, [⟨15, 8, .ro, 0x0, false⟩, ⟨7, 0, .ro, 0x0, false⟩]⟩]

/-- The register table of block CLK. -/
def Regs.CLK : List RegSpec :=
  [-- EVT_STATUS (R32, R510)
  ⟨0x0, 0x10000, 1, 0x10000, 1, [⟨31, 31, .w1c, 0x0, false⟩, ⟨30, 30, .w1c, 0x0, false⟩, ⟨29, 29, .w1c, 0x0, false⟩, ⟨5, 5, .w1c, 0x0, false⟩, ⟨4, 4, .w1c, 0x0, false⟩, ⟨3, 3, .w1c, 0x0, false⟩, ⟨2, 2, .w1c, 0x0, false⟩, ⟨1, 1, .w1c, 0x0, false⟩, ⟨0, 0, .w1c, 0x0, false⟩]⟩,
  -- EVT_ENABLE_A (R32)
  ⟨0x4, 0x10000, 1, 0x10000, 1, [⟨31, 31, .rw, 0x0, false⟩, ⟨30, 30, .rw, 0x0, false⟩, ⟨29, 29, .rw, 0x0, false⟩, ⟨5, 5, .rw, 0x0, false⟩, ⟨4, 4, .rw, 0x0, false⟩, ⟨3, 3, .rw, 0x0, false⟩, ⟨2, 2, .rw, 0x0, false⟩, ⟨1, 1, .rw, 0x0, false⟩, ⟨0, 0, .rw, 0x0, false⟩]⟩,
  -- EVT_ENABLE_B (R32)
  ⟨0x8, 0x10000, 1, 0x10000, 1, [⟨31, 31, .rw, 0x0, false⟩, ⟨30, 30, .rw, 0x0, false⟩, ⟨29, 29, .rw, 0x0, false⟩, ⟨5, 5, .rw, 0x0, false⟩, ⟨4, 4, .rw, 0x0, false⟩, ⟨3, 3, .rw, 0x0, false⟩, ⟨2, 2, .rw, 0x0, false⟩, ⟨1, 1, .rw, 0x0, false⟩, ⟨0, 0, .rw, 0x0, false⟩]⟩,
  -- CLK_STATUS (R511)
  ⟨0x100, 0x10000, 1, 0x10000, 1, [⟨31, 28, .ro, 0x0, false⟩, ⟨27, 27, .ro, 0x0, false⟩, ⟨23, 20, .ro, 0x0, false⟩, ⟨3, 0, .ro, 0x0, true⟩]⟩,
  -- PLAN_SWITCH (R511)
  ⟨0x104, 0x10000, 1, 0x10000, 1, [⟨31, 31, .wo, 0x0, false⟩, ⟨30, 27, .wo, 0x0, false⟩, ⟨26, 17, .wo, 0x0, false⟩, ⟨16, 11, .wo, 0x0, false⟩]⟩,
  -- CLK_CFG (R511)
  ⟨0x108, 0x10000, 1, 0x10000, 1, [⟨4, 4, .rw, 0x1, false⟩, ⟨3, 0, .rwl, 0x0, true⟩]⟩,
  -- CLK_CTRL (R511)
  ⟨0x10C, 0x10000, 1, 0x10000, 1, [⟨2, 2, .w1s, 0x0, false⟩, ⟨1, 1, .w1s, 0x0, false⟩, ⟨0, 0, .w1s, 0x0, false⟩]⟩,
  -- CLK_CNT (R511)
  ⟨0x110, 0x10000, 1, 0x10000, 1, [⟨31, 16, .rw, 0x0, false⟩, ⟨15, 0, .rw, 0x0, false⟩]⟩,
  -- PLAN_FS (R511)
  ⟨0x200, 0x10, 16, 0x10000, 1, [⟨31, 31, .rwx, 0x0, true⟩, ⟨23, 0, .rwx, 0x0, true⟩]⟩,
  -- PLAN_CAL0 (R511)
  ⟨0x204, 0x10, 16, 0x10000, 1, [⟨31, 31, .ro, 0x0, true⟩, ⟨15, 8, .ro, 0x0, true⟩, ⟨7, 0, .ro, 0x0, true⟩]⟩,
  -- PLAN_CAL1 (R511)
  ⟨0x208, 0x10, 16, 0x10000, 1, [⟨31, 0, .ro, 0x0, true⟩]⟩]

/-- The register table of block TIM. -/
def Regs.TIM : List RegSpec :=
  [-- EVT_STATUS (R32, R193)
  ⟨0x0, 0x10000, 1, 0x10000, 1, [⟨31, 31, .w1c, 0x0, false⟩, ⟨30, 30, .w1c, 0x0, false⟩, ⟨29, 29, .w1c, 0x0, false⟩, ⟨19, 19, .w1c, 0x0, false⟩, ⟨18, 18, .w1c, 0x0, false⟩, ⟨17, 17, .w1c, 0x0, false⟩, ⟨16, 16, .w1c, 0x0, false⟩, ⟨15, 15, .w1c, 0x0, false⟩, ⟨14, 14, .w1c, 0x0, false⟩, ⟨13, 13, .w1c, 0x0, false⟩, ⟨12, 12, .w1c, 0x0, false⟩, ⟨11, 8, .w1c, 0x0, false⟩, ⟨7, 4, .w1c, 0x0, false⟩, ⟨3, 0, .w1c, 0x0, false⟩]⟩,
  -- EVT_ENABLE_A (R32)
  ⟨0x4, 0x10000, 1, 0x10000, 1, [⟨31, 31, .rw, 0x0, false⟩, ⟨30, 30, .rw, 0x0, false⟩, ⟨29, 29, .rw, 0x0, false⟩, ⟨19, 19, .rw, 0x0, false⟩, ⟨18, 18, .rw, 0x0, false⟩, ⟨17, 17, .rw, 0x0, false⟩, ⟨16, 16, .rw, 0x0, false⟩, ⟨15, 15, .rw, 0x0, false⟩, ⟨14, 14, .rw, 0x0, false⟩, ⟨13, 13, .rw, 0x0, false⟩, ⟨12, 12, .rw, 0x0, false⟩, ⟨11, 8, .rw, 0x0, false⟩, ⟨7, 4, .rw, 0x0, false⟩, ⟨3, 0, .rw, 0x0, false⟩]⟩,
  -- EVT_ENABLE_B (R32)
  ⟨0x8, 0x10000, 1, 0x10000, 1, [⟨31, 31, .rw, 0x0, false⟩, ⟨30, 30, .rw, 0x0, false⟩, ⟨29, 29, .rw, 0x0, false⟩, ⟨19, 19, .rw, 0x0, false⟩, ⟨18, 18, .rw, 0x0, false⟩, ⟨17, 17, .rw, 0x0, false⟩, ⟨16, 16, .rw, 0x0, false⟩, ⟨15, 15, .rw, 0x0, false⟩, ⟨14, 14, .rw, 0x0, false⟩, ⟨13, 13, .rw, 0x0, false⟩, ⟨12, 12, .rw, 0x0, false⟩, ⟨11, 8, .rw, 0x0, false⟩, ⟨7, 4, .rw, 0x0, false⟩, ⟨3, 0, .rw, 0x0, false⟩]⟩,
  -- TB_NS (R194)
  ⟨0x100, 0x40, 4, 0x10000, 1, [⟨31, 0, .ro, 0x0, false⟩]⟩,
  -- TB_STATUS (R194)
  ⟨0x104, 0x40, 4, 0x10000, 1, [⟨31, 28, .ro, 0x0, false⟩, ⟨27, 24, .ro, 0xF, false⟩, ⟨23, 22, .ro, 0x0, false⟩, ⟨15, 8, .rw, 0x0, false⟩, ⟨7, 0, .ro, 0x0, false⟩]⟩,
  -- TB_FREQ (R194)
  ⟨0x108, 0x40, 4, 0x10000, 1, [⟨31, 0, .rwx, 0x0, false⟩]⟩,
  -- TB_STEP (R194)
  ⟨0x10C, 0x40, 4, 0x10000, 1, [⟨31, 0, .wo, 0x0, false⟩]⟩,
  -- TB_DISC (R194)
  ⟨0x110, 0x40, 4, 0x10000, 1, [⟨31, 30, .rwx, 0x0, false⟩, ⟨29, 27, .rwx, 0x0, false⟩, ⟨26, 24, .rwx, 0x4, false⟩, ⟨21, 16, .rwx, 0x0, false⟩, ⟨15, 0, .rwx, 0x0, false⟩]⟩,
  -- TB_SERVO (R194)
  ⟨0x114, 0x40, 4, 0x10000, 1, [⟨31, 24, .rwx, 0x14, false⟩, ⟨23, 16, .rwx, 0x10, false⟩, ⟨15, 12, .rwx, 0x2, false⟩, ⟨11, 8, .rwx, 0x6, false⟩, ⟨7, 0, .rwx, 0x4, false⟩]⟩,
  -- TB_OFFSET (R194)
  ⟨0x118, 0x40, 4, 0x10000, 1, [⟨31, 0, .ro, 0x0, false⟩]⟩,
  -- TB_DELAY (R194)
  ⟨0x11C, 0x40, 4, 0x10000, 1, [⟨31, 0, .ro, 0x0, false⟩]⟩,
  -- TB_TALLY_SET (R194)
  ⟨0x120, 0x40, 4, 0x10000, 1, [⟨7, 0, .wo, 0x0, false⟩]⟩,
  -- TL_CFG (R195)
  ⟨0x300, 0x10000, 1, 0x10000, 1, [⟨31, 24, .rwsSlot, 0x32, false⟩, ⟨23, 16, .rw, 0x64, false⟩, ⟨9, 8, .rwsSlot, 0x1, false⟩, ⟨5, 4, .rwsSlot, 0x0, false⟩, ⟨2, 2, .rwsSlot, 0x1, false⟩, ⟨0, 0, .rwx, 0x0, false⟩]⟩,
  -- TL_START (R195)
  ⟨0x304, 0x10000, 1, 0x10000, 1, [⟨31, 0, .rwx, 0x0, false⟩]⟩,
  -- TL_START_EXT (R195)
  ⟨0x308, 0x10000, 1, 0x10000, 1, [⟨25, 16, .rwx, 0x0, false⟩, ⟨7, 0, .rwx, 0x0, false⟩]⟩,
  -- TL_CTRL (R195)
  ⟨0x30C, 0x10000, 1, 0x10000, 1, [⟨1, 1, .w1s, 0x0, false⟩, ⟨0, 0, .w1s, 0x0, false⟩]⟩,
  -- TL_STATUS (R195)
  ⟨0x310, 0x10000, 1, 0x10000, 1, [⟨31, 28, .ro, 0x0, false⟩, ⟨27, 27, .ro, 0x0, false⟩, ⟨26, 25, .ro, 0x0, false⟩, ⟨24, 24, .ro, 0x0, false⟩, ⟨9, 0, .ro, 0x0, false⟩]⟩,
  -- TL_PHASE (R195)
  ⟨0x314, 0x10000, 1, 0x10000, 1, [⟨31, 0, .ro, 0x0, false⟩]⟩,
  -- TL_ALT_OFFSET (R195)
  ⟨0x318, 0x10000, 1, 0x10000, 1, [⟨31, 0, .ro, 0x0, false⟩]⟩,
  -- TL_STEER (R195)
  ⟨0x31C, 0x10000, 1, 0x10000, 1, [⟨31, 0, .ro, 0x0, false⟩]⟩] ++
  [-- SYNC_CFG (R195)
  ⟨0x320, 0x10000, 1, 0x10000, 1, [⟨31, 16, .rwx, 0x0, false⟩, ⟨15, 8, .rwx, 0x32, false⟩, ⟨0, 0, .rwx, 0x1, false⟩]⟩,
  -- SYNC_STATUS (R195)
  ⟨0x324, 0x10000, 1, 0x10000, 1, [⟨31, 16, .ro, 0x0, false⟩, ⟨7, 0, .rw, 0x0, false⟩]⟩,
  -- TIME_DROP_CNT (R195)
  ⟨0x328, 0x10000, 1, 0x10000, 1, [⟨15, 0, .rw, 0x0, false⟩]⟩,
  -- CAP_CTRL (R195)
  ⟨0x400, 0x20, 2, 0x10000, 1, [⟨0, 0, .w1s, 0x0, false⟩]⟩,
  -- CAP_NS (R195)
  ⟨0x404, 0x20, 2, 0x4, 4, [⟨31, 0, .ro, 0x0, false⟩]⟩,
  -- CAP_TALLY (R195)
  ⟨0x414, 0x20, 2, 0x10000, 1, [⟨31, 24, .ro, 0x0, false⟩, ⟨23, 16, .ro, 0x0, false⟩, ⟨15, 8, .ro, 0x0, false⟩, ⟨7, 0, .ro, 0x0, false⟩]⟩]

/-- The register table of block LNK. -/
def Regs.LNK : List RegSpec :=
  [-- EVT_STATUS (R32, R126)
  ⟨0x0, 0x10000, 1, 0x10000, 1, [⟨31, 31, .w1c, 0x0, false⟩, ⟨30, 30, .w1c, 0x0, false⟩, ⟨29, 29, .w1c, 0x0, false⟩, ⟨10, 10, .w1c, 0x0, false⟩, ⟨9, 9, .w1c, 0x0, false⟩, ⟨8, 8, .w1c, 0x0, false⟩, ⟨7, 7, .w1c, 0x0, false⟩, ⟨6, 6, .w1c, 0x0, false⟩, ⟨5, 5, .w1c, 0x0, false⟩, ⟨4, 4, .w1c, 0x0, false⟩, ⟨3, 3, .w1c, 0x0, false⟩, ⟨2, 2, .w1c, 0x0, false⟩, ⟨1, 1, .w1c, 0x0, false⟩, ⟨0, 0, .w1c, 0x0, false⟩]⟩,
  -- EVT_ENABLE_A (R32)
  ⟨0x4, 0x10000, 1, 0x10000, 1, [⟨31, 31, .rw, 0x0, false⟩, ⟨30, 30, .rw, 0x0, false⟩, ⟨29, 29, .rw, 0x0, false⟩, ⟨10, 10, .rw, 0x0, false⟩, ⟨9, 9, .rw, 0x0, false⟩, ⟨8, 8, .rw, 0x0, false⟩, ⟨7, 7, .rw, 0x0, false⟩, ⟨6, 6, .rw, 0x0, false⟩, ⟨5, 5, .rw, 0x0, false⟩, ⟨4, 4, .rw, 0x0, false⟩, ⟨3, 3, .rw, 0x0, false⟩, ⟨2, 2, .rw, 0x0, false⟩, ⟨1, 1, .rw, 0x0, false⟩, ⟨0, 0, .rw, 0x0, false⟩]⟩,
  -- EVT_ENABLE_B (R32)
  ⟨0x8, 0x10000, 1, 0x10000, 1, [⟨31, 31, .rw, 0x0, false⟩, ⟨30, 30, .rw, 0x0, false⟩, ⟨29, 29, .rw, 0x0, false⟩, ⟨10, 10, .rw, 0x0, false⟩, ⟨9, 9, .rw, 0x0, false⟩, ⟨8, 8, .rw, 0x0, false⟩, ⟨7, 7, .rw, 0x0, false⟩, ⟨6, 6, .rw, 0x0, false⟩, ⟨5, 5, .rw, 0x0, false⟩, ⟨4, 4, .rw, 0x0, false⟩, ⟨3, 3, .rw, 0x0, false⟩, ⟨2, 2, .rw, 0x0, false⟩, ⟨1, 1, .rw, 0x0, false⟩, ⟨0, 0, .rw, 0x0, false⟩]⟩,
  -- PORT_CTRL (R127)
  ⟨0x100, 0x10000, 1, 0x10000, 1, [⟨1, 1, .w1s, 0x0, false⟩, ⟨0, 0, .rw, 0x0, false⟩]⟩,
  -- PORT_CFG (R127)
  ⟨0x104, 0x10000, 1, 0x10000, 1, [⟨19, 16, .rwx, 0xA, false⟩, ⟨8, 8, .rw, 0x0, false⟩, ⟨4, 4, .rwx, 0x1, false⟩, ⟨3, 3, .rwx, 0x0, false⟩, ⟨1, 0, .rwx, 0x0, false⟩]⟩,
  -- PORT_STATUS (R127)
  ⟨0x108, 0x10000, 1, 0x10000, 1, [⟨31, 24, .ro, 0x0, false⟩, ⟨23, 16, .ro, 0xFF, false⟩, ⟨15, 12, .ro, 0x0, false⟩, ⟨11, 10, .ro, 0x0, false⟩, ⟨9, 8, .ro, 0x0, false⟩, ⟨3, 0, .ro, 0x0, false⟩]⟩,
  -- SLEEP_CFG (R128)
  ⟨0x110, 0x10000, 1, 0x10000, 1, [⟨23, 16, .rw, 0x64, false⟩, ⟨4, 4, .rw, 0x1, false⟩, ⟨3, 3, .rw, 0x1, false⟩, ⟨1, 1, .rw, 0x0, false⟩, ⟨0, 0, .rw, 0x0, false⟩]⟩,
  -- SLEEP_CTRL (R128)
  ⟨0x114, 0x10000, 1, 0x10000, 1, [⟨3, 3, .w1s, 0x0, false⟩, ⟨2, 2, .w1s, 0x0, false⟩, ⟨1, 1, .w1s, 0x0, false⟩, ⟨0, 0, .w1s, 0x0, false⟩]⟩,
  -- SLEEP_STATUS (R128)
  ⟨0x118, 0x10000, 1, 0x10000, 1, [⟨3, 0, .ro, 0x0, false⟩]⟩,
  -- ERR_CNT0 (R129)
  ⟨0x120, 0x10000, 1, 0x10000, 1, [⟨31, 16, .rw, 0x0, false⟩, ⟨15, 0, .rw, 0x0, false⟩]⟩,
  -- ERR_CNT1 (R129)
  ⟨0x124, 0x10000, 1, 0x10000, 1, [⟨31, 16, .rw, 0x0, false⟩, ⟨15, 0, .rw, 0x0, false⟩]⟩,
  -- COMP_CNT (R129)
  ⟨0x128, 0x10000, 1, 0x10000, 1, [⟨31, 16, .rw, 0x0, false⟩, ⟨15, 0, .rw, 0x0, false⟩]⟩,
  -- LANE_SEED (R130)
  ⟨0x200, 0x20, 8, 0x10000, 1, [⟨30, 0, .rwx, 0x0, false⟩]⟩,
  -- LANE_TXFFE (R130)
  ⟨0x204, 0x20, 8, 0x10000, 1, [⟨12, 8, .rwx, 0x0, true⟩, ⟨4, 0, .rwx, 0x0, true⟩]⟩,
  -- LANE_EQ (R130)
  ⟨0x208, 0x20, 8, 0x10000, 1, [⟨27, 24, .ro, 0x0, false⟩, ⟨23, 16, .ro, 0x0, false⟩]⟩,
  -- LANE_PAT_CFG (R130)
  ⟨0x20C, 0x20, 8, 0x10000, 1, [⟨7, 6, .rwt, 0x0, false⟩, ⟨5, 5, .rwt, 0x0, false⟩, ⟨4, 4, .rwt, 0x0, false⟩, ⟨2, 0, .rwt, 0x3, false⟩]⟩,
  -- LANE_PAT_USER_LO (R130)
  ⟨0x210, 0x20, 8, 0x10000, 1, [⟨31, 0, .rwt, 0x0, false⟩]⟩,
  -- LANE_PAT_USER_HI (R130)
  ⟨0x214, 0x20, 8, 0x10000, 1, [⟨31, 0, .rwt, 0x0, false⟩]⟩,
  -- LANE_PAT_ERR (R130)
  ⟨0x218, 0x20, 8, 0x10000, 1, [⟨31, 31, .ro, 0x0, false⟩, ⟨30, 0, .rw, 0x0, false⟩]⟩,
  -- LANE_INJ (R130)
  ⟨0x21C, 0x20, 8, 0x10000, 1, [⟨2, 0, .wo, 0x0, false⟩]⟩] ++
  [-- VC_BUF0 (R171)
  ⟨0x300, 0x10000, 1, 0x10000, 1, [⟨31, 24, .rwx, 0x3C, false⟩, ⟨23, 16, .rwx, 0x1E, false⟩, ⟨15, 8, .rwx, 0x28, false⟩, ⟨7, 0, .rwx, 0x9, false⟩]⟩,
  -- VC_BUF1 (R171)
  ⟨0x304, 0x10000, 1, 0x10000, 1, [⟨31, 24, .rwx, 0xA, false⟩, ⟨23, 16, .rwx, 0xA, false⟩, ⟨15, 8, .rwx, 0x18, false⟩, ⟨7, 0, .rwx, 0x9, false⟩]⟩,
  -- CREDIT_STATUS (R171)
  ⟨0x308, 0x10000, 1, 0x10000, 1, [⟨7, 0, .ro, 0x0, false⟩]⟩]

/-- The register table of block RTE. -/
def Regs.RTE : List RegSpec :=
  [-- EVT_STATUS (R32, R167)
  ⟨0x0, 0x10000, 1, 0x10000, 1, [⟨31, 31, .w1c, 0x0, false⟩, ⟨30, 30, .w1c, 0x0, false⟩, ⟨29, 29, .w1c, 0x0, false⟩, ⟨11, 11, .w1c, 0x0, false⟩, ⟨10, 10, .w1c, 0x0, false⟩, ⟨9, 9, .w1c, 0x0, false⟩, ⟨8, 8, .w1c, 0x0, false⟩, ⟨7, 7, .w1c, 0x0, false⟩, ⟨6, 6, .w1c, 0x0, false⟩, ⟨5, 5, .w1c, 0x0, false⟩, ⟨4, 4, .w1c, 0x0, false⟩, ⟨3, 3, .w1c, 0x0, false⟩, ⟨2, 2, .w1c, 0x0, false⟩, ⟨1, 1, .w1c, 0x0, false⟩, ⟨0, 0, .w1c, 0x0, false⟩]⟩,
  -- EVT_ENABLE_A (R32)
  ⟨0x4, 0x10000, 1, 0x10000, 1, [⟨31, 31, .rw, 0x0, false⟩, ⟨30, 30, .rw, 0x0, false⟩, ⟨29, 29, .rw, 0x0, false⟩, ⟨11, 11, .rw, 0x0, false⟩, ⟨10, 10, .rw, 0x0, false⟩, ⟨9, 9, .rw, 0x0, false⟩, ⟨8, 8, .rw, 0x0, false⟩, ⟨7, 7, .rw, 0x0, false⟩, ⟨6, 6, .rw, 0x0, false⟩, ⟨5, 5, .rw, 0x0, false⟩, ⟨4, 4, .rw, 0x0, false⟩, ⟨3, 3, .rw, 0x0, false⟩, ⟨2, 2, .rw, 0x0, false⟩, ⟨1, 1, .rw, 0x0, false⟩, ⟨0, 0, .rw, 0x0, false⟩]⟩,
  -- EVT_ENABLE_B (R32)
  ⟨0x8, 0x10000, 1, 0x10000, 1, [⟨31, 31, .rw, 0x0, false⟩, ⟨30, 30, .rw, 0x0, false⟩, ⟨29, 29, .rw, 0x0, false⟩, ⟨11, 11, .rw, 0x0, false⟩, ⟨10, 10, .rw, 0x0, false⟩, ⟨9, 9, .rw, 0x0, false⟩, ⟨8, 8, .rw, 0x0, false⟩, ⟨7, 7, .rw, 0x0, false⟩, ⟨6, 6, .rw, 0x0, false⟩, ⟨5, 5, .rw, 0x0, false⟩, ⟨4, 4, .rw, 0x0, false⟩, ⟨3, 3, .rw, 0x0, false⟩, ⟨2, 2, .rw, 0x0, false⟩, ⟨1, 1, .rw, 0x0, false⟩, ⟨0, 0, .rw, 0x0, false⟩]⟩,
  -- DEV_CFG (R168)
  ⟨0x100, 0x10000, 1, 0x10000, 1, [⟨17, 12, .rw, 0x20, false⟩, ⟨11, 0, .rw, 0x0, true⟩]⟩,
  -- TS_CFG (R168)
  ⟨0x104, 0x10000, 1, 0x10000, 1, [⟨9, 8, .rw, 0x0, false⟩, ⟨5, 0, .rw, 0x3F, false⟩]⟩,
  -- MGMT_CFG (R168)
  ⟨0x108, 0x10000, 1, 0x10000, 1, [⟨12, 12, .rw, 0x0, false⟩, ⟨11, 0, .rw, 0x0, false⟩]⟩,
  -- BOND_CFG (R168)
  ⟨0x110, 0x10000, 1, 0x10000, 1, [⟨2, 0, .rwx, 0x0, false⟩]⟩,
  -- BOND_STATUS (R168)
  ⟨0x114, 0x10000, 1, 0x10000, 1, [⟨5, 0, .ro, 0x0, false⟩]⟩,
  -- TOPO_CFG (R168)
  ⟨0x120, 0x10000, 1, 0x10000, 1, [⟨4, 4, .rw, 0x1, false⟩, ⟨1, 0, .rwx, 0x0, false⟩]⟩,
  -- PS_CFG (R168)
  ⟨0x130, 0x10000, 1, 0x10000, 1, [⟨31, 31, .rwsSlot, 0x0, false⟩, ⟨30, 30, .rwsSlot, 0x0, false⟩, ⟨29, 27, .rwsSlot, 0x0, false⟩, ⟨26, 24, .rwsSlot, 0x0, false⟩, ⟨17, 12, .rwsSlot, 0x0, false⟩, ⟨5, 0, .rwsSlot, 0x0, false⟩]⟩,
  -- PS_EXPECT (R168)
  ⟨0x134, 0x10000, 1, 0x10000, 1, [⟨27, 16, .rwsSlot, 0x1, false⟩, ⟨11, 0, .rwsSlot, 0x1, false⟩]⟩,
  -- PS_HOLD (R168)
  ⟨0x138, 0x10000, 1, 0x10000, 1, [⟨31, 16, .rwsSlot, 0x9C4, false⟩, ⟨15, 0, .rwsSlot, 0xDF0, false⟩]⟩,
  -- PS_STATUS (R168)
  ⟨0x13C, 0x10000, 1, 0x10000, 1, [⟨31, 31, .ro, 0x0, false⟩, ⟨11, 0, .ro, 0x0, false⟩]⟩,
  -- PS_CNT0 (R169)
  ⟨0x140, 0x10000, 1, 0x10000, 1, [⟨31, 16, .rw, 0x0, false⟩, ⟨15, 0, .rw, 0x0, false⟩]⟩,
  -- PS_CNT1 (R169)
  ⟨0x144, 0x10000, 1, 0x10000, 1, [⟨31, 16, .rw, 0x0, false⟩, ⟨15, 0, .rw, 0x0, false⟩]⟩,
  -- PS_CNT2 (R169)
  ⟨0x148, 0x10000, 1, 0x10000, 1, [⟨15, 0, .rw, 0x0, false⟩]⟩,
  -- FRM_CNT0 (R169)
  ⟨0x150, 0x10000, 1, 0x10000, 1, [⟨31, 16, .rw, 0x0, false⟩, ⟨15, 0, .rw, 0x0, false⟩]⟩,
  -- FRM_CNT1 (R169)
  ⟨0x154, 0x10000, 1, 0x10000, 1, [⟨31, 16, .rw, 0x0, false⟩, ⟨15, 0, .rw, 0x0, false⟩]⟩,
  -- FRM_CNT2 (R169)
  ⟨0x158, 0x10000, 1, 0x10000, 1, [⟨31, 16, .rw, 0x0, false⟩, ⟨15, 0, .rw, 0x0, false⟩]⟩,
  -- ROUTE_TABLE (R170)
  ⟨0x4000, 0x4, 4096, 0x10000, 1, [⟨31, 31, .rw, 0x0, false⟩, ⟨30, 30, .rw, 0x0, false⟩, ⟨5, 3, .rw, 0x0, false⟩, ⟨2, 0, .rw, 0x0, false⟩]⟩] ++
  [-- MCAST_TABLE (R170)
  ⟨0x8000, 0x4, 256, 0x10000, 1, [⟨31, 31, .rw, 0x0, false⟩, ⟨6, 6, .rw, 0x0, false⟩, ⟨5, 0, .rw, 0x0, false⟩]⟩]

/-- The register table of block ARB. -/
def Regs.ARB : List RegSpec :=
  [-- EVT_STATUS (R32, R441)
  ⟨0x0, 0x10000, 1, 0x10000, 1, [⟨31, 31, .w1c, 0x0, false⟩, ⟨30, 30, .w1c, 0x0, false⟩, ⟨29, 29, .w1c, 0x0, false⟩, ⟨7, 7, .w1c, 0x0, false⟩, ⟨6, 6, .w1c, 0x0, false⟩, ⟨5, 5, .w1c, 0x0, false⟩, ⟨4, 4, .w1c, 0x0, false⟩, ⟨3, 3, .w1c, 0x0, false⟩, ⟨2, 2, .w1c, 0x0, false⟩, ⟨1, 1, .w1c, 0x0, false⟩, ⟨0, 0, .w1c, 0x0, false⟩]⟩,
  -- EVT_ENABLE_A (R32)
  ⟨0x4, 0x10000, 1, 0x10000, 1, [⟨31, 31, .rw, 0x0, false⟩, ⟨30, 30, .rw, 0x0, false⟩, ⟨29, 29, .rw, 0x0, false⟩, ⟨7, 7, .rw, 0x0, false⟩, ⟨6, 6, .rw, 0x0, false⟩, ⟨5, 5, .rw, 0x0, false⟩, ⟨4, 4, .rw, 0x0, false⟩, ⟨3, 3, .rw, 0x0, false⟩, ⟨2, 2, .rw, 0x0, false⟩, ⟨1, 1, .rw, 0x0, false⟩, ⟨0, 0, .rw, 0x0, false⟩]⟩,
  -- EVT_ENABLE_B (R32)
  ⟨0x8, 0x10000, 1, 0x10000, 1, [⟨31, 31, .rw, 0x0, false⟩, ⟨30, 30, .rw, 0x0, false⟩, ⟨29, 29, .rw, 0x0, false⟩, ⟨7, 7, .rw, 0x0, false⟩, ⟨6, 6, .rw, 0x0, false⟩, ⟨5, 5, .rw, 0x0, false⟩, ⟨4, 4, .rw, 0x0, false⟩, ⟨3, 3, .rw, 0x0, false⟩, ⟨2, 2, .rw, 0x0, false⟩, ⟨1, 1, .rw, 0x0, false⟩, ⟨0, 0, .rw, 0x0, false⟩]⟩,
  -- ARB_CFG (R442)
  ⟨0x100, 0x10000, 1, 0x10000, 1, [⟨31, 16, .rw, 0x40, false⟩, ⟨15, 0, .rw, 0x8, false⟩]⟩,
  -- LFSR_SEED (R442)
  ⟨0x104, 0x10000, 1, 0x10000, 1, [⟨15, 0, .rw, 0xACE1, false⟩]⟩,
  -- LFSR_STATE (R442)
  ⟨0x108, 0x10000, 1, 0x10000, 1, [⟨15, 0, .ro, 0xACE1, false⟩]⟩,
  -- TICKET0 (R430)
  ⟨0x110, 0x10000, 1, 0x10000, 1, [⟨31, 24, .rw, 0x20, false⟩, ⟨23, 16, .rw, 0x20, false⟩, ⟨15, 8, .rw, 0x20, false⟩, ⟨7, 0, .rw, 0x20, false⟩]⟩,
  -- TICKET1 (R430)
  ⟨0x114, 0x10000, 1, 0x10000, 1, [⟨15, 8, .rw, 0x40, false⟩, ⟨7, 0, .rw, 0x40, false⟩]⟩,
  -- TICKET2 (R430)
  ⟨0x118, 0x10000, 1, 0x10000, 1, [⟨31, 24, .rw, 0x10, false⟩, ⟨23, 16, .rw, 0x10, false⟩]⟩,
  -- TICKET3 (R430)
  ⟨0x11C, 0x10000, 1, 0x10000, 1, [⟨31, 24, .rw, 0x10, false⟩, ⟨23, 16, .rw, 0x10, false⟩, ⟨15, 8, .rw, 0x10, false⟩, ⟨7, 0, .rw, 0x10, false⟩]⟩,
  -- TICKET4 (R430)
  ⟨0x120, 0x10000, 1, 0x10000, 1, [⟨23, 16, .rw, 0x20, false⟩, ⟨15, 8, .rw, 0x10, false⟩, ⟨7, 0, .rw, 0x10, false⟩]⟩,
  -- STARVE (R442)
  ⟨0x130, 0x10000, 1, 0x10000, 1, [⟨18, 0, .w1c, 0x0, false⟩]⟩,
  -- MAX_WAIT (R442)
  ⟨0x134, 0x10000, 1, 0x10000, 1, [⟨31, 16, .rw, 0x0, false⟩, ⟨15, 0, .rw, 0x0, false⟩]⟩,
  -- BANK_SEL (R442)
  ⟨0x140, 0x10000, 1, 0x10000, 1, [⟨6, 0, .rw, 0x0, false⟩]⟩,
  -- BANK_STATUS (R442)
  ⟨0x144, 0x10000, 1, 0x10000, 1, [⟨20, 16, .ro, 0x0, false⟩, ⟨11, 8, .ro, 0x0, false⟩, ⟨4, 0, .ro, 0x1F, false⟩]⟩,
  -- ECC_LOG (R442)
  ⟨0x150, 0x10000, 1, 0x10000, 1, [⟨31, 0, .ro, 0x0, false⟩]⟩,
  -- ECC_CNT (R442)
  ⟨0x154, 0x10000, 1, 0x10000, 1, [⟨31, 16, .rw, 0x0, false⟩, ⟨15, 0, .rw, 0x0, false⟩]⟩,
  -- ARB_CNT0 (R442)
  ⟨0x158, 0x10000, 1, 0x10000, 1, [⟨31, 16, .rw, 0x0, false⟩, ⟨15, 0, .rw, 0x0, false⟩]⟩,
  -- ARB_CNT1 (R442)
  ⟨0x15C, 0x10000, 1, 0x10000, 1, [⟨31, 16, .rw, 0x0, false⟩, ⟨15, 0, .rw, 0x0, false⟩]⟩,
  -- POST_CTX (R443)
  ⟨0x1000, 0x20, 36, 0x10000, 1, [⟨31, 0, .rw, 0x0, false⟩]⟩] ++
  [-- POST_LOC (R443)
  ⟨0x1004, 0x20, 36, 0x10000, 1, [⟨31, 0, .rw, 0x0, false⟩]⟩,
  -- POST_CMD (R443)
  ⟨0x1008, 0x20, 36, 0x10000, 1, [⟨31, 31, .wo, 0x0, false⟩, ⟨23, 16, .wo, 0x0, false⟩, ⟨3, 0, .wo, 0x0, false⟩]⟩,
  -- POST_STATUS (R443)
  ⟨0x100C, 0x20, 36, 0x10000, 1, [⟨31, 28, .ro, 0x0, false⟩, ⟨20, 16, .ro, 0x0, false⟩, ⟨4, 0, .ro, 0x0, false⟩]⟩,
  -- COMP_POP (R443)
  ⟨0x1010, 0x20, 36, 0x10000, 1, [⟨31, 0, .ro, 0x0, false⟩]⟩]

/-- The register table of block MBX. -/
def Regs.MBX : List RegSpec :=
  [-- EVT_STATUS (R32, R466)
  ⟨0x0, 0x10000, 1, 0x10000, 1, [⟨31, 31, .w1c, 0x0, false⟩, ⟨30, 30, .w1c, 0x0, false⟩, ⟨29, 29, .w1c, 0x0, false⟩, ⟨9, 9, .w1c, 0x0, false⟩, ⟨8, 8, .w1c, 0x0, false⟩, ⟨7, 7, .w1c, 0x0, false⟩, ⟨6, 6, .w1c, 0x0, false⟩, ⟨5, 5, .w1c, 0x0, false⟩, ⟨4, 4, .w1c, 0x0, false⟩, ⟨3, 3, .w1c, 0x0, false⟩, ⟨2, 2, .w1c, 0x0, false⟩, ⟨1, 1, .w1c, 0x0, false⟩, ⟨0, 0, .w1c, 0x0, false⟩]⟩,
  -- EVT_ENABLE_A (R32)
  ⟨0x4, 0x10000, 1, 0x10000, 1, [⟨31, 31, .rw, 0x0, false⟩, ⟨30, 30, .rw, 0x0, false⟩, ⟨29, 29, .rw, 0x0, false⟩, ⟨9, 9, .rw, 0x0, false⟩, ⟨8, 8, .rw, 0x0, false⟩, ⟨7, 7, .rw, 0x0, false⟩, ⟨6, 6, .rw, 0x0, false⟩, ⟨5, 5, .rw, 0x0, false⟩, ⟨4, 4, .rw, 0x0, false⟩, ⟨3, 3, .rw, 0x0, false⟩, ⟨2, 2, .rw, 0x0, false⟩, ⟨1, 1, .rw, 0x0, false⟩, ⟨0, 0, .rw, 0x0, false⟩]⟩,
  -- EVT_ENABLE_B (R32)
  ⟨0x8, 0x10000, 1, 0x10000, 1, [⟨31, 31, .rw, 0x0, false⟩, ⟨30, 30, .rw, 0x0, false⟩, ⟨29, 29, .rw, 0x0, false⟩, ⟨9, 9, .rw, 0x0, false⟩, ⟨8, 8, .rw, 0x0, false⟩, ⟨7, 7, .rw, 0x0, false⟩, ⟨6, 6, .rw, 0x0, false⟩, ⟨5, 5, .rw, 0x0, false⟩, ⟨4, 4, .rw, 0x0, false⟩, ⟨3, 3, .rw, 0x0, false⟩, ⟨2, 2, .rw, 0x0, false⟩, ⟨1, 1, .rw, 0x0, false⟩, ⟨0, 0, .rw, 0x0, false⟩]⟩,
  -- SEND_PTR (R467)
  ⟨0x100, 0x40, 2, 0x10000, 1, [⟨31, 0, .rw, 0x0, false⟩]⟩,
  -- SEND_CMD (R467)
  ⟨0x104, 0x40, 2, 0x10000, 1, [⟨29, 24, .wo, 0x0, false⟩, ⟨23, 16, .wo, 0x0, false⟩, ⟨15, 0, .wo, 0x0, false⟩]⟩,
  -- SEND_STATUS (R467)
  ⟨0x108, 0x40, 2, 0x10000, 1, [⟨3, 0, .ro, 0x0, false⟩]⟩,
  -- RECV_PTR (R467)
  ⟨0x10C, 0x40, 2, 0x10000, 1, [⟨31, 0, .ro, 0x0, false⟩]⟩,
  -- RECV_META (R467)
  ⟨0x110, 0x40, 2, 0x10000, 1, [⟨31, 0, .ro, 0x0, false⟩]⟩,
  -- RECV_STATUS (R467)
  ⟨0x114, 0x40, 2, 0x10000, 1, [⟨31, 28, .ro, 0x0, false⟩, ⟨2, 0, .ro, 0x0, false⟩]⟩,
  -- DB_RING (R467)
  ⟨0x118, 0x40, 2, 0x10000, 1, [⟨5, 0, .wo, 0x0, false⟩]⟩,
  -- HOST_CTRL (R467)
  ⟨0x11C, 0x40, 2, 0x10000, 1, [⟨17, 16, .ro, 0x0, false⟩, ⟨0, 0, .w1s, 0x0, false⟩]⟩,
  -- MBX_CNT0 (R470)
  ⟨0x180, 0x10000, 1, 0x10000, 1, [⟨31, 16, .rw, 0x0, false⟩, ⟨15, 0, .rw, 0x0, false⟩]⟩,
  -- MBX_CNT1 (R470)
  ⟨0x184, 0x10000, 1, 0x10000, 1, [⟨15, 0, .rw, 0x0, false⟩]⟩,
  -- INBOX_STATUS (R468)
  ⟨0x400, 0x10, 36, 0x10000, 1, [⟨31, 24, .rw, 0x0, false⟩, ⟨21, 16, .ro, 0x0, false⟩, ⟨2, 0, .ro, 0x0, false⟩]⟩,
  -- DB_PEND_LO (R468)
  ⟨0x404, 0x10, 36, 0x10000, 1, [⟨31, 0, .w1c, 0x0, false⟩]⟩,
  -- DB_PEND_HI (R468)
  ⟨0x408, 0x10, 36, 0x10000, 1, [⟨3, 0, .w1c, 0x0, false⟩]⟩,
  -- WAIT_TMO (R468)
  ⟨0x40C, 0x10, 36, 0x10000, 1, [⟨15, 0, .rw, 0x0, false⟩]⟩,
  -- POOL_BASE (R469)
  ⟨0x800, 0x10, 36, 0x8, 2, [⟨31, 0, .rw, 0x0, false⟩]⟩,
  -- POOL_CFG (R469)
  ⟨0x804, 0x10, 36, 0x8, 2, [⟨31, 31, .rw, 0x0, false⟩, ⟨30, 30, .ro, 0x0, false⟩, ⟨29, 29, .w1s, 0x0, false⟩, ⟨25, 24, .ro, 0x0, false⟩, ⟨15, 0, .rw, 0x0, false⟩]⟩]

/-- The register table of block BLY. -/
def Regs.BLY : List RegSpec :=
  [-- EVT_STATUS (R32, R471)
  ⟨0x0, 0x10000, 1, 0x10000, 1, [⟨31, 31, .w1c, 0x0, false⟩, ⟨30, 30, .w1c, 0x0, false⟩, ⟨29, 29, .w1c, 0x0, false⟩, ⟨6, 6, .w1c, 0x0, false⟩, ⟨5, 5, .w1c, 0x0, false⟩, ⟨4, 4, .w1c, 0x0, false⟩, ⟨3, 3, .w1c, 0x0, false⟩, ⟨2, 2, .w1c, 0x0, false⟩, ⟨1, 1, .w1c, 0x0, false⟩, ⟨0, 0, .w1c, 0x0, false⟩]⟩,
  -- EVT_ENABLE_A (R32)
  ⟨0x4, 0x10000, 1, 0x10000, 1, [⟨31, 31, .rw, 0x0, false⟩, ⟨30, 30, .rw, 0x0, false⟩, ⟨29, 29, .rw, 0x0, false⟩, ⟨6, 6, .rw, 0x0, false⟩, ⟨5, 5, .rw, 0x0, false⟩, ⟨4, 4, .rw, 0x0, false⟩, ⟨3, 3, .rw, 0x0, false⟩, ⟨2, 2, .rw, 0x0, false⟩, ⟨1, 1, .rw, 0x0, false⟩, ⟨0, 0, .rw, 0x0, false⟩]⟩,
  -- EVT_ENABLE_B (R32)
  ⟨0x8, 0x10000, 1, 0x10000, 1, [⟨31, 31, .rw, 0x0, false⟩, ⟨30, 30, .rw, 0x0, false⟩, ⟨29, 29, .rw, 0x0, false⟩, ⟨6, 6, .rw, 0x0, false⟩, ⟨5, 5, .rw, 0x0, false⟩, ⟨4, 4, .rw, 0x0, false⟩, ⟨3, 3, .rw, 0x0, false⟩, ⟨2, 2, .rw, 0x0, false⟩, ⟨1, 1, .rw, 0x0, false⟩, ⟨0, 0, .rw, 0x0, false⟩]⟩,
  -- ACQ (R472)
  ⟨0x100, 0x20, 2, 0x10000, 1, [⟨31, 31, .wo, 0x0, false⟩, ⟨5, 0, .wo, 0x0, false⟩]⟩,
  -- REL (R472)
  ⟨0x104, 0x20, 2, 0x10000, 1, [⟨5, 0, .wo, 0x0, false⟩]⟩,
  -- HOST_STATUS (R472)
  ⟨0x108, 0x20, 2, 0x10000, 1, [⟨31, 28, .ro, 0x0, false⟩, ⟨27, 27, .ro, 0x0, false⟩, ⟨5, 0, .ro, 0x0, false⟩]⟩,
  -- BREAK (R472)
  ⟨0x140, 0x10000, 1, 0x10000, 1, [⟨5, 0, .wo, 0x0, false⟩]⟩,
  -- BLY_CNT0 (R472)
  ⟨0x160, 0x10000, 1, 0x10000, 1, [⟨31, 16, .rw, 0x0, false⟩, ⟨15, 0, .rw, 0x0, false⟩]⟩,
  -- BLY_CNT1 (R472)
  ⟨0x164, 0x10000, 1, 0x10000, 1, [⟨31, 16, .rw, 0x0, false⟩, ⟨15, 0, .rw, 0x0, false⟩]⟩,
  -- BLY_CNT2 (R472)
  ⟨0x168, 0x10000, 1, 0x10000, 1, [⟨15, 0, .rw, 0x0, false⟩]⟩,
  -- AGENT_WAIT (R473)
  ⟨0x200, 0x4, 36, 0x10000, 1, [⟨31, 31, .ro, 0x0, false⟩, ⟨30, 30, .ro, 0x0, false⟩, ⟨5, 0, .ro, 0x0, false⟩]⟩,
  -- SEM_STATUS (R473)
  ⟨0x400, 0x4, 64, 0x10000, 1, [⟨31, 31, .ro, 0x0, false⟩, ⟨30, 30, .ro, 0x0, false⟩, ⟨29, 28, .ro, 0x0, false⟩, ⟨21, 16, .ro, 0x3F, false⟩, ⟨11, 8, .ro, 0x0, false⟩, ⟨5, 0, .ro, 0x0, false⟩]⟩]

/-- The register table of block RXP. -/
def Regs.RXP : List RegSpec :=
  [-- EVT_STATUS (R32, R225)
  ⟨0x0, 0x10000, 1, 0x10000, 1, [⟨31, 31, .w1c, 0x0, false⟩, ⟨30, 30, .w1c, 0x0, false⟩, ⟨29, 29, .w1c, 0x0, false⟩, ⟨8, 8, .w1c, 0x0, false⟩, ⟨7, 7, .w1c, 0x0, false⟩, ⟨6, 6, .w1c, 0x0, false⟩, ⟨5, 5, .w1c, 0x0, false⟩, ⟨4, 4, .w1c, 0x0, false⟩, ⟨3, 3, .w1c, 0x0, false⟩, ⟨2, 2, .w1c, 0x0, false⟩, ⟨1, 1, .w1c, 0x0, false⟩, ⟨0, 0, .w1c, 0x0, false⟩]⟩,
  -- EVT_ENABLE_A (R32)
  ⟨0x4, 0x10000, 1, 0x10000, 1, [⟨31, 31, .rw, 0x0, false⟩, ⟨30, 30, .rw, 0x0, false⟩, ⟨29, 29, .rw, 0x0, false⟩, ⟨8, 8, .rw, 0x0, false⟩, ⟨7, 7, .rw, 0x0, false⟩, ⟨6, 6, .rw, 0x0, false⟩, ⟨5, 5, .rw, 0x0, false⟩, ⟨4, 4, .rw, 0x0, false⟩, ⟨3, 3, .rw, 0x0, false⟩, ⟨2, 2, .rw, 0x0, false⟩, ⟨1, 1, .rw, 0x0, false⟩, ⟨0, 0, .rw, 0x0, false⟩]⟩,
  -- EVT_ENABLE_B (R32)
  ⟨0x8, 0x10000, 1, 0x10000, 1, [⟨31, 31, .rw, 0x0, false⟩, ⟨30, 30, .rw, 0x0, false⟩, ⟨29, 29, .rw, 0x0, false⟩, ⟨8, 8, .rw, 0x0, false⟩, ⟨7, 7, .rw, 0x0, false⟩, ⟨6, 6, .rw, 0x0, false⟩, ⟨5, 5, .rw, 0x0, false⟩, ⟨4, 4, .rw, 0x0, false⟩, ⟨3, 3, .rw, 0x0, false⟩, ⟨2, 2, .rw, 0x0, false⟩, ⟨1, 1, .rw, 0x0, false⟩, ⟨0, 0, .rw, 0x0, false⟩]⟩,
  -- RX_CFG_ERR (R226)
  ⟨0x100, 0x10000, 1, 0x10000, 1, [⟨9, 8, .ro, 0x0, false⟩, ⟨3, 0, .ro, 0x0, false⟩]⟩,
  -- PATH_PEND_LO (R226)
  ⟨0x108, 0x10000, 1, 0x10000, 1, [⟨31, 0, .ro, 0x0, false⟩]⟩,
  -- PATH_PEND_HI (R226)
  ⟨0x10C, 0x10000, 1, 0x10000, 1, [⟨31, 0, .ro, 0x0, false⟩]⟩,
  -- PATH_EN_LO (R226)
  ⟨0x110, 0x10000, 1, 0x10000, 1, [⟨31, 0, .rwx, 0x0, false⟩]⟩,
  -- PATH_EN_HI (R226)
  ⟨0x114, 0x10000, 1, 0x10000, 1, [⟨31, 0, .rwx, 0x0, false⟩]⟩,
  -- AGC_CFG (R226)
  ⟨0x120, 0x10000, 1, 0x10000, 1, [⟨31, 30, .rwsSlot, 0x0, false⟩, ⟨23, 16, .rwsSlot, 0xC, false⟩, ⟨15, 14, .rwsSlot, 0x3, false⟩, ⟨13, 9, .rwsSlot, 0xC, false⟩, ⟨4, 0, .rwsSlot, 0x0, false⟩]⟩,
  -- AGC_CLIP (R226)
  ⟨0x124, 0x10000, 1, 0x10000, 1, [⟨31, 21, .rwsSlot, 0x40, false⟩, ⟨20, 16, .rwsSlot, 0x18, false⟩, ⟨13, 0, .rwsSlot, 0x1F40, false⟩]⟩,
  -- BLK_CFG (R226)
  ⟨0x128, 0x10000, 1, 0x10000, 1, [⟨11, 8, .rw, 0x4, false⟩, ⟨7, 0, .rw, 0x14, false⟩]⟩,
  -- CAR_NCO_LO (R228)
  ⟨0x200, 0x40, 4, 0x10000, 1, [⟨31, 0, .rwx, 0x0, false⟩]⟩,
  -- CAR_NCO_HI (R228)
  ⟨0x204, 0x40, 4, 0x10000, 1, [⟨15, 0, .rwx, 0x0, false⟩]⟩,
  -- CAR_CFG (R228)
  ⟨0x208, 0x40, 4, 0x10000, 1, [⟨24, 16, .rwx, 0x111, false⟩, ⟨10, 8, .rwx, 0x3, false⟩, ⟨1, 0, .rwx, 0x1, false⟩]⟩,
  -- CAR_FFT (R228)
  ⟨0x20C, 0x40, 4, 0x10000, 1, [⟨31, 31, .rws, 0x1, false⟩, ⟨19, 16, .rws, 0xC, false⟩, ⟨9, 0, .rws, 0x0, false⟩]⟩,
  -- CAR_BLANK (R228)
  ⟨0x210, 0x40, 4, 0x10000, 1, [⟨31, 31, .rws, 0x0, false⟩, ⟨25, 24, .rws, 0x3, false⟩, ⟨19, 16, .rws, 0x0, false⟩, ⟨15, 8, .rws, 0x20, false⟩, ⟨7, 0, .rws, 0x4, false⟩]⟩,
  -- CAR_BLANK2 (R228)
  ⟨0x214, 0x40, 4, 0x10000, 1, [⟨9, 0, .rws, 0x40, false⟩]⟩,
  -- CAR_DET (R228)
  ⟨0x218, 0x40, 4, 0x10000, 1, [⟨31, 28, .rw, 0x2, false⟩, ⟨27, 24, .rw, 0xA, false⟩]⟩,
  -- CAR_ENV_TH (R228)
  ⟨0x21C, 0x40, 4, 0x10000, 1, [⟨31, 16, .rw, 0x0, false⟩, ⟨15, 0, .rw, 0x0, false⟩]⟩,
  -- P_CTRL (R229)
  ⟨0x1000, 0x100, 64, 0x10000, 1, [⟨4, 0, .rws, 0xC, false⟩]⟩] ++
  [-- P_STATUS (R229)
  ⟨0x1004, 0x100, 64, 0x10000, 1, [⟨10, 8, .ro, 0x0, false⟩, ⟨4, 0, .ro, 0xC, false⟩]⟩,
  -- P_WB (R229)
  ⟨0x1008, 0x100, 64, 0x10000, 1, [⟨31, 16, .ro, 0x0, false⟩, ⟨15, 0, .ro, 0xF800, false⟩]⟩,
  -- P_CLIP (R229)
  ⟨0x100C, 0x100, 64, 0x10000, 1, [⟨15, 0, .rw, 0x0, false⟩]⟩,
  -- P_DET_A (R229)
  ⟨0x1010, 0x100, 64, 0x8, 4, [⟨31, 16, .ro, 0xF800, false⟩, ⟨15, 0, .ro, 0xF800, false⟩]⟩,
  -- P_DET_B (R229)
  ⟨0x1014, 0x100, 64, 0x8, 4, [⟨25, 16, .ro, 0x0, false⟩, ⟨15, 0, .ro, 0x0, false⟩]⟩,
  -- P_EVT (R229)
  ⟨0x1030, 0x100, 64, 0x10000, 1, [⟨7, 0, .w1c, 0x0, false⟩]⟩,
  -- P_EVT_EN (R229)
  ⟨0x1034, 0x100, 64, 0x10000, 1, [⟨7, 0, .rw, 0xFF, false⟩]⟩,
  -- P_CNT (R229)
  ⟨0x1038, 0x100, 64, 0x10000, 1, [⟨31, 16, .rw, 0x0, false⟩, ⟨15, 0, .rw, 0x0, false⟩]⟩,
  -- P_FLAGS (R229)
  ⟨0x103C, 0x100, 64, 0x10000, 1, [⟨31, 0, .ro, 0x0, false⟩]⟩]

/-- The register table of block TXP. -/
def Regs.TXP : List RegSpec :=
  [-- EVT_STATUS (R32, R266)
  ⟨0x0, 0x10000, 1, 0x10000, 1, [⟨31, 31, .w1c, 0x0, false⟩, ⟨30, 30, .w1c, 0x0, false⟩, ⟨29, 29, .w1c, 0x0, false⟩, ⟨13, 13, .w1c, 0x0, false⟩, ⟨12, 12, .w1c, 0x0, false⟩, ⟨11, 11, .w1c, 0x0, false⟩, ⟨10, 10, .w1c, 0x0, false⟩, ⟨9, 9, .w1c, 0x0, false⟩, ⟨8, 8, .w1c, 0x0, false⟩, ⟨7, 7, .w1c, 0x0, false⟩, ⟨6, 6, .w1c, 0x0, false⟩, ⟨4, 4, .w1c, 0x0, false⟩, ⟨3, 3, .w1c, 0x0, false⟩, ⟨2, 2, .w1c, 0x0, false⟩, ⟨1, 1, .w1c, 0x0, false⟩, ⟨0, 0, .w1c, 0x0, false⟩]⟩,
  -- EVT_ENABLE_A (R32)
  ⟨0x4, 0x10000, 1, 0x10000, 1, [⟨31, 31, .rw, 0x0, false⟩, ⟨30, 30, .rw, 0x0, false⟩, ⟨29, 29, .rw, 0x0, false⟩, ⟨13, 13, .rw, 0x0, false⟩, ⟨12, 12, .rw, 0x0, false⟩, ⟨11, 11, .rw, 0x0, false⟩, ⟨10, 10, .rw, 0x0, false⟩, ⟨9, 9, .rw, 0x0, false⟩, ⟨8, 8, .rw, 0x0, false⟩, ⟨7, 7, .rw, 0x0, false⟩, ⟨6, 6, .rw, 0x0, false⟩, ⟨4, 4, .rw, 0x0, false⟩, ⟨3, 3, .rw, 0x0, false⟩, ⟨2, 2, .rw, 0x0, false⟩, ⟨1, 1, .rw, 0x0, false⟩, ⟨0, 0, .rw, 0x0, false⟩]⟩,
  -- EVT_ENABLE_B (R32)
  ⟨0x8, 0x10000, 1, 0x10000, 1, [⟨31, 31, .rw, 0x0, false⟩, ⟨30, 30, .rw, 0x0, false⟩, ⟨29, 29, .rw, 0x0, false⟩, ⟨13, 13, .rw, 0x0, false⟩, ⟨12, 12, .rw, 0x0, false⟩, ⟨11, 11, .rw, 0x0, false⟩, ⟨10, 10, .rw, 0x0, false⟩, ⟨9, 9, .rw, 0x0, false⟩, ⟨8, 8, .rw, 0x0, false⟩, ⟨7, 7, .rw, 0x0, false⟩, ⟨6, 6, .rw, 0x0, false⟩, ⟨4, 4, .rw, 0x0, false⟩, ⟨3, 3, .rw, 0x0, false⟩, ⟨2, 2, .rw, 0x0, false⟩, ⟨1, 1, .rw, 0x0, false⟩, ⟨0, 0, .rw, 0x0, false⟩]⟩,
  -- TX_CFG_ERR (R267)
  ⟨0x100, 0x10000, 1, 0x10000, 1, [⟨9, 8, .ro, 0x0, false⟩, ⟨3, 0, .ro, 0x0, false⟩]⟩,
  -- PATH_EN_LO (R267)
  ⟨0x110, 0x10000, 1, 0x10000, 1, [⟨31, 0, .rwx, 0x0, false⟩]⟩,
  -- PATH_EN_HI (R267)
  ⟨0x114, 0x10000, 1, 0x10000, 1, [⟨31, 0, .rwx, 0x0, false⟩]⟩,
  -- TX_CENTRE_LO (R267)
  ⟨0x118, 0x10000, 1, 0x10000, 1, [⟨31, 0, .rwx, 0x0, false⟩]⟩,
  -- TX_CENTRE_HI (R267)
  ⟨0x11C, 0x10000, 1, 0x10000, 1, [⟨15, 0, .rwx, 0x0, false⟩]⟩,
  -- TX_TIMING (R267)
  ⟨0x120, 0x10000, 1, 0x10000, 1, [⟨23, 16, .rwx, 0x28, false⟩, ⟨5, 0, .rwsSlot, 0x10, false⟩]⟩,
  -- LSTORE (R267)
  ⟨0x124, 0x10000, 1, 0x10000, 1, [⟨23, 16, .rwx, 0x40, false⟩, ⟨9, 0, .rwx, 0x280, false⟩]⟩,
  -- CFR_CFG (R267)
  ⟨0x130, 0x10000, 1, 0x10000, 1, [⟨31, 31, .rwsSlot, 0x0, false⟩, ⟨29, 28, .rwsSlot, 0x1, false⟩, ⟨15, 0, .rwsSlot, 0x4E20, false⟩]⟩,
  -- CFR_CFG2 (R267)
  ⟨0x134, 0x10000, 1, 0x10000, 1, [⟨31, 24, .rwsSlot, 0x40, false⟩, ⟨15, 8, .rwsSlot, 0x1E, false⟩]⟩,
  -- CFR_MASK (R267)
  ⟨0x140, 0x4, 16, 0x10000, 1, [⟨31, 20, .rwsSlot, 0x0, false⟩, ⟨19, 8, .rwsSlot, 0x0, false⟩, ⟨7, 0, .rwsSlot, 0x0, false⟩]⟩,
  -- PWR_LOOP (R267)
  ⟨0x180, 0x10000, 1, 0x10000, 1, [⟨31, 31, .rwsSlot, 0x0, false⟩, ⟨15, 8, .rwsSlot, 0x8, false⟩, ⟨3, 0, .rwsSlot, 0x4, false⟩]⟩,
  -- MLOG_STATUS (R267)
  ⟨0x190, 0x10000, 1, 0x10000, 1, [⟨31, 16, .rw, 0x0, false⟩, ⟨5, 0, .ro, 0x0, false⟩]⟩,
  -- MLOG_ENTRY (R267)
  ⟨0x194, 0x4, 4, 0x10000, 1, [⟨31, 0, .ro, 0x0, false⟩]⟩,
  -- LSTORE_CNT0 (R267)
  ⟨0x1B0, 0x10000, 1, 0x10000, 1, [⟨31, 16, .rw, 0x0, false⟩, ⟨15, 0, .rw, 0x0, false⟩]⟩,
  -- LSTORE_CNT1 (R267)
  ⟨0x1B4, 0x10000, 1, 0x10000, 1, [⟨31, 16, .rw, 0x0, false⟩, ⟨15, 0, .rw, 0x0, false⟩]⟩,
  -- LSTORE_CNT2 (R267)
  ⟨0x1B8, 0x10000, 1, 0x10000, 1, [⟨31, 16, .rw, 0x0, false⟩, ⟨15, 0, .rw, 0x0, false⟩]⟩,
  -- CAR_TX (R268)
  ⟨0x200, 0x40, 4, 0x10000, 1, [⟨25, 16, .rws, 0x0, false⟩, ⟨11, 8, .rws, 0x6, false⟩, ⟨3, 0, .rws, 0x0, false⟩]⟩] ++
  [-- CAR_CFR (R268)
  ⟨0x204, 0x40, 4, 0x10000, 1, [⟨7, 0, .rwsSlot, 0x80, false⟩]⟩,
  -- P_CTRL (R269)
  ⟨0x1000, 0x100, 64, 0x10000, 1, [⟨31, 31, .w1s, 0x0, false⟩, ⟨15, 0, .rwsSlot, 0x0, false⟩]⟩,
  -- P_PC (R269)
  ⟨0x1004, 0x100, 64, 0x10000, 1, [⟨6, 0, .rwx, 0x0, true⟩]⟩,
  -- P_GAIN (R269)
  ⟨0x1008, 0x100, 64, 0x10000, 1, [⟨31, 16, .ro, 0x0, false⟩, ⟨15, 0, .ro, 0x0, false⟩]⟩,
  -- P_STATUS (R269)
  ⟨0x100C, 0x100, 64, 0x10000, 1, [⟨31, 31, .ro, 0x0, false⟩, ⟨30, 30, .ro, 0x0, false⟩, ⟨26, 24, .ro, 0x0, false⟩, ⟨19, 16, .ro, 0x0, false⟩, ⟨15, 0, .ro, 0x0, true⟩]⟩,
  -- P_PWR (R269)
  ⟨0x1010, 0x100, 64, 0x10000, 1, [⟨31, 16, .ro, 0x0, false⟩, ⟨15, 0, .ro, 0xF800, false⟩]⟩,
  -- P_CNT (R269)
  ⟨0x1014, 0x100, 64, 0x10000, 1, [⟨31, 16, .rw, 0x0, false⟩, ⟨15, 0, .rw, 0x0, false⟩]⟩,
  -- P_CNT2 (R269)
  ⟨0x1018, 0x100, 64, 0x10000, 1, [⟨31, 16, .rw, 0x0, false⟩, ⟨15, 0, .rw, 0x0, false⟩]⟩,
  -- FILT0 (R268)
  ⟨0x8000, 0x200, 4, 0x4, 96, [⟨31, 16, .rwx, 0x0, false⟩, ⟨15, 0, .rwx, 0x0, false⟩]⟩,
  -- FILT1 (R268)
  ⟨0x9000, 0x200, 4, 0x4, 96, [⟨31, 16, .rwx, 0x0, false⟩, ⟨15, 0, .rwx, 0x0, false⟩]⟩,
  -- FILT2 (R268)
  ⟨0xA000, 0x200, 4, 0x4, 96, [⟨31, 16, .rwx, 0x0, false⟩, ⟨15, 0, .rwx, 0x0, false⟩]⟩,
  -- FILT3 (R268)
  ⟨0xB000, 0x200, 4, 0x4, 96, [⟨31, 16, .rwx, 0x0, false⟩, ⟨15, 0, .rwx, 0x0, false⟩]⟩]

/-- The register table of block DPD. -/
def Regs.DPD : List RegSpec :=
  [-- EVT_STATUS (R32, R292)
  ⟨0x0, 0x10000, 1, 0x10000, 1, [⟨31, 31, .w1c, 0x0, false⟩, ⟨30, 30, .w1c, 0x0, false⟩, ⟨29, 29, .w1c, 0x0, false⟩, ⟨7, 7, .w1c, 0x0, false⟩, ⟨6, 6, .w1c, 0x0, false⟩, ⟨5, 5, .w1c, 0x0, false⟩, ⟨4, 4, .w1c, 0x0, false⟩, ⟨3, 3, .w1c, 0x0, false⟩, ⟨2, 2, .w1c, 0x0, false⟩, ⟨1, 1, .w1c, 0x0, false⟩, ⟨0, 0, .w1c, 0x0, false⟩]⟩,
  -- EVT_ENABLE_A (R32)
  ⟨0x4, 0x10000, 1, 0x10000, 1, [⟨31, 31, .rw, 0x0, false⟩, ⟨30, 30, .rw, 0x0, false⟩, ⟨29, 29, .rw, 0x0, false⟩, ⟨7, 7, .rw, 0x0, false⟩, ⟨6, 6, .rw, 0x0, false⟩, ⟨5, 5, .rw, 0x0, false⟩, ⟨4, 4, .rw, 0x0, false⟩, ⟨3, 3, .rw, 0x0, false⟩, ⟨2, 2, .rw, 0x0, false⟩, ⟨1, 1, .rw, 0x0, false⟩, ⟨0, 0, .rw, 0x0, false⟩]⟩,
  -- EVT_ENABLE_B (R32)
  ⟨0x8, 0x10000, 1, 0x10000, 1, [⟨31, 31, .rw, 0x0, false⟩, ⟨30, 30, .rw, 0x0, false⟩, ⟨29, 29, .rw, 0x0, false⟩, ⟨7, 7, .rw, 0x0, false⟩, ⟨6, 6, .rw, 0x0, false⟩, ⟨5, 5, .rw, 0x0, false⟩, ⟨4, 4, .rw, 0x0, false⟩, ⟨3, 3, .rw, 0x0, false⟩, ⟨2, 2, .rw, 0x0, false⟩, ⟨1, 1, .rw, 0x0, false⟩, ⟨0, 0, .rw, 0x0, false⟩]⟩,
  -- DPD_VIEW (R293)
  ⟨0x100, 0x10000, 1, 0x10000, 1, [⟨0, 0, .rw, 0x0, false⟩]⟩,
  -- DPD_EN_LO (R293)
  ⟨0x110, 0x10000, 1, 0x10000, 1, [⟨31, 0, .rwsSlot, 0x0, false⟩]⟩,
  -- DPD_EN_HI (R293)
  ⟨0x114, 0x10000, 1, 0x10000, 1, [⟨31, 0, .rwsSlot, 0x0, false⟩]⟩,
  -- STAT_CFG (R293)
  ⟨0x120, 0x10000, 1, 0x10000, 1, [⟨31, 28, .rwx, 0x4, false⟩, ⟨27, 22, .rwx, 0x20, false⟩, ⟨9, 0, .rwx, 0x260, false⟩]⟩,
  -- MASK_CFG (R293)
  ⟨0x130, 0x10000, 1, 0x10000, 1, [⟨31, 31, .rw, 0x0, false⟩, ⟨28, 28, .rwsSlot, 0x0, false⟩, ⟨15, 8, .rw, 0x6, false⟩, ⟨3, 0, .rw, 0x4, false⟩]⟩,
  -- ORX_CTRL (R294)
  ⟨0x200, 0x40, 8, 0x10000, 1, [⟨31, 31, .rw, 0x0, false⟩, ⟨30, 30, .rw, 0x1, false⟩, ⟨5, 0, .rwx, 0x1, false⟩]⟩,
  -- ORX_STATUS (R294)
  ⟨0x204, 0x40, 8, 0x10000, 1, [⟨31, 31, .ro, 0x0, false⟩, ⟨20, 16, .ro, 0x0, false⟩, ⟨10, 8, .ro, 0x0, false⟩, ⟨2, 0, .ro, 0x0, false⟩]⟩,
  -- ORX_CNT (R294)
  ⟨0x208, 0x40, 8, 0x10000, 1, [⟨31, 16, .rw, 0x0, false⟩, ⟨15, 0, .rw, 0x0, false⟩]⟩,
  -- ORX_RING (R294)
  ⟨0x20C, 0x40, 8, 0x10000, 1, [⟨10, 8, .rw, 0x0, false⟩, ⟨2, 0, .ro, 0x0, false⟩]⟩,
  -- SCHED (R281)
  ⟨0x800, 0x80, 8, 0x4, 32, [⟨31, 30, .rwx, 0x0, false⟩, ⟨29, 27, .rwx, 0x0, false⟩, ⟨25, 22, .rwx, 0x0, false⟩, ⟨21, 14, .rwx, 0x0, false⟩, ⟨10, 8, .rwx, 0x0, false⟩]⟩,
  -- P_CTRL (R295)
  ⟨0x1000, 0x100, 64, 0x10000, 1, [⟨1, 1, .rw, 0x0, false⟩, ⟨0, 0, .w1s, 0x0, false⟩]⟩,
  -- P_STATUS (R295)
  ⟨0x1004, 0x100, 64, 0x10000, 1, [⟨31, 31, .ro, 0x0, false⟩, ⟨30, 30, .ro, 0x0, false⟩, ⟨2, 0, .ro, 0x0, false⟩]⟩,
  -- P_OBS (R295)
  ⟨0x1008, 0x100, 64, 0x10000, 1, [⟨28, 24, .ro, 0xC, false⟩, ⟨20, 16, .wo, 0x0, false⟩, ⟨15, 0, .ro, 0xF800, false⟩]⟩,
  -- P_MASK (R295)
  ⟨0x100C, 0x100, 64, 0x10000, 1, [⟨19, 16, .ro, 0x0, false⟩, ⟨15, 0, .ro, 0x8000, false⟩]⟩,
  -- P_CNT (R295)
  ⟨0x1010, 0x100, 64, 0x10000, 1, [⟨31, 16, .rw, 0x0, false⟩, ⟨15, 0, .rw, 0x0, false⟩]⟩,
  -- P_CNT2 (R295)
  ⟨0x1014, 0x100, 64, 0x10000, 1, [⟨31, 16, .rw, 0x0, false⟩, ⟨15, 0, .rw, 0x0, false⟩]⟩,
  -- COEF (R275)
  ⟨0x8000, 0x200, 64, 0x4, 128, [⟨31, 0, .rw, 0x0, false⟩]⟩]

/-- The register table of block BFM. -/
def Regs.BFM : List RegSpec :=
  [-- EVT_STATUS (R32, R315, R347)
  ⟨0x0, 0x10000, 1, 0x10000, 1, [⟨31, 31, .w1c, 0x0, false⟩, ⟨30, 30, .w1c, 0x0, false⟩, ⟨29, 29, .w1c, 0x0, false⟩, ⟨7, 7, .w1c, 0x0, false⟩, ⟨6, 6, .w1c, 0x0, false⟩, ⟨5, 5, .w1c, 0x0, false⟩, ⟨4, 4, .w1c, 0x0, false⟩, ⟨3, 3, .w1c, 0x0, false⟩, ⟨2, 2, .w1c, 0x0, false⟩, ⟨1, 1, .w1c, 0x0, false⟩, ⟨0, 0, .w1c, 0x0, false⟩, ⟨20, 20, .w1c, 0x0, false⟩, ⟨19, 19, .w1c, 0x0, false⟩, ⟨18, 18, .w1c, 0x0, false⟩, ⟨17, 17, .w1c, 0x0, false⟩, ⟨16, 16, .w1c, 0x0, false⟩, ⟨15, 15, .w1c, 0x0, false⟩, ⟨14, 14, .w1c, 0x0, false⟩, ⟨13, 13, .w1c, 0x0, false⟩, ⟨12, 12, .w1c, 0x0, false⟩, ⟨11, 11, .w1c, 0x0, false⟩, ⟨10, 10, .w1c, 0x0, false⟩, ⟨9, 9, .w1c, 0x0, false⟩, ⟨8, 8, .w1c, 0x0, false⟩]⟩,
  -- EVT_ENABLE_A (R32)
  ⟨0x4, 0x10000, 1, 0x10000, 1, [⟨31, 31, .rw, 0x0, false⟩, ⟨30, 30, .rw, 0x0, false⟩, ⟨29, 29, .rw, 0x0, false⟩, ⟨7, 7, .rw, 0x0, false⟩, ⟨6, 6, .rw, 0x0, false⟩, ⟨5, 5, .rw, 0x0, false⟩, ⟨4, 4, .rw, 0x0, false⟩, ⟨3, 3, .rw, 0x0, false⟩, ⟨2, 2, .rw, 0x0, false⟩, ⟨1, 1, .rw, 0x0, false⟩, ⟨0, 0, .rw, 0x0, false⟩, ⟨20, 20, .rw, 0x0, false⟩, ⟨19, 19, .rw, 0x0, false⟩, ⟨18, 18, .rw, 0x0, false⟩, ⟨17, 17, .rw, 0x0, false⟩, ⟨16, 16, .rw, 0x0, false⟩, ⟨15, 15, .rw, 0x0, false⟩, ⟨14, 14, .rw, 0x0, false⟩, ⟨13, 13, .rw, 0x0, false⟩, ⟨12, 12, .rw, 0x0, false⟩, ⟨11, 11, .rw, 0x0, false⟩, ⟨10, 10, .rw, 0x0, false⟩, ⟨9, 9, .rw, 0x0, false⟩, ⟨8, 8, .rw, 0x0, false⟩]⟩,
  -- EVT_ENABLE_B (R32)
  ⟨0x8, 0x10000, 1, 0x10000, 1, [⟨31, 31, .rw, 0x0, false⟩, ⟨30, 30, .rw, 0x0, false⟩, ⟨29, 29, .rw, 0x0, false⟩, ⟨7, 7, .rw, 0x0, false⟩, ⟨6, 6, .rw, 0x0, false⟩, ⟨5, 5, .rw, 0x0, false⟩, ⟨4, 4, .rw, 0x0, false⟩, ⟨3, 3, .rw, 0x0, false⟩, ⟨2, 2, .rw, 0x0, false⟩, ⟨1, 1, .rw, 0x0, false⟩, ⟨0, 0, .rw, 0x0, false⟩, ⟨20, 20, .rw, 0x0, false⟩, ⟨19, 19, .rw, 0x0, false⟩, ⟨18, 18, .rw, 0x0, false⟩, ⟨17, 17, .rw, 0x0, false⟩, ⟨16, 16, .rw, 0x0, false⟩, ⟨15, 15, .rw, 0x0, false⟩, ⟨14, 14, .rw, 0x0, false⟩, ⟨13, 13, .rw, 0x0, false⟩, ⟨12, 12, .rw, 0x0, false⟩, ⟨11, 11, .rw, 0x0, false⟩, ⟨10, 10, .rw, 0x0, false⟩, ⟨9, 9, .rw, 0x0, false⟩, ⟨8, 8, .rw, 0x0, false⟩]⟩,
  -- CTX_OPEN (R316)
  ⟨0x100, 0x10000, 1, 0x10000, 1, [⟨31, 16, .wo, 0x0, false⟩, ⟨15, 14, .wo, 0x0, false⟩, ⟨13, 12, .wo, 0x0, false⟩]⟩,
  -- CTX_CLOSE (R316)
  ⟨0x104, 0x10000, 1, 0x10000, 1, [⟨8, 0, .wo, 0x0, false⟩]⟩,
  -- CTX_RESULT (R316)
  ⟨0x108, 0x10000, 1, 0x10000, 1, [⟨31, 28, .ro, 0x0, false⟩, ⟨8, 0, .ro, 0x0, false⟩]⟩,
  -- CTX_COUNT (R316)
  ⟨0x10C, 0x10000, 1, 0x10000, 1, [⟨26, 18, .ro, 0x0, false⟩, ⟨17, 9, .ro, 0x0, false⟩, ⟨8, 0, .ro, 0x0, false⟩]⟩,
  -- CTX_POOL (R316)
  ⟨0x110, 0x10000, 1, 0x10000, 1, [⟨25, 16, .rwx, 0x200, false⟩, ⟨9, 0, .rwx, 0x0, false⟩]⟩,
  -- POOL_STATUS (R316)
  ⟨0x114, 0x10000, 1, 0x10000, 1, [⟨29, 16, .rw, 0x3FFF, false⟩, ⟨13, 0, .ro, 0x0, false⟩]⟩,
  -- SND_CFG (R316)
  ⟨0x120, 0x10000, 1, 0x10000, 1, [⟨23, 16, .rwsSlot, 0x80, false⟩, ⟨15, 8, .rwsSlot, 0x10, false⟩]⟩,
  -- SND_BUF (R316)
  ⟨0x124, 0x10000, 1, 0x10000, 1, [⟨25, 16, .rwx, 0x40, false⟩, ⟨9, 0, .rwx, 0x200, false⟩]⟩,
  -- SND_STATUS (R316)
  ⟨0x128, 0x10000, 1, 0x10000, 1, [⟨31, 24, .ro, 0x0, false⟩, ⟨22, 16, .ro, 0x0, false⟩, ⟨10, 0, .ro, 0x0, false⟩]⟩,
  -- GOB_CFG (R316)
  ⟨0x130, 0x10000, 1, 0x10000, 1, [⟨9, 0, .rwx, 0x240, false⟩]⟩,
  -- SND_CNT0 (R317)
  ⟨0x140, 0x10000, 1, 0x10000, 1, [⟨31, 16, .rw, 0x0, false⟩, ⟨15, 0, .rw, 0x0, false⟩]⟩,
  -- SND_CNT1 (R317)
  ⟨0x144, 0x10000, 1, 0x10000, 1, [⟨31, 16, .rw, 0x0, false⟩, ⟨15, 0, .rw, 0x0, false⟩]⟩,
  -- SND_CNT2 (R317)
  ⟨0x148, 0x10000, 1, 0x10000, 1, [⟨31, 16, .rw, 0x0, false⟩, ⟨15, 0, .rw, 0x0, false⟩]⟩,
  -- SND_CNT3 (R317)
  ⟨0x14C, 0x10000, 1, 0x10000, 1, [⟨31, 16, .rw, 0x0, false⟩, ⟨15, 0, .rw, 0x0, false⟩]⟩,
  -- CTX_CNT (R317)
  ⟨0x150, 0x10000, 1, 0x10000, 1, [⟨31, 16, .rw, 0x0, false⟩, ⟨15, 0, .rw, 0x0, false⟩]⟩,
  -- FB_CNT (R317)
  ⟨0x154, 0x10000, 1, 0x10000, 1, [⟨31, 16, .rw, 0x0, false⟩, ⟨15, 0, .rw, 0x0, false⟩]⟩,
  -- WGT_CFG (R348)
  ⟨0x200, 0x10000, 1, 0x10000, 1, [⟨31, 30, .rwsSlot, 0x0, false⟩, ⟨29, 26, .rwx, 0x6, false⟩, ⟨25, 25, .rwx, 0x0, false⟩, ⟨23, 16, .rwsSlot, 0x10, false⟩, ⟨15, 8, .rwsSlot, 0x0, false⟩, ⟨2, 0, .rwsSlot, 0x0, false⟩]⟩] ++
  [-- UL_CFG (R348)
  ⟨0x204, 0x10000, 1, 0x10000, 1, [⟨31, 28, .rwsSlot, 0x0, false⟩, ⟨27, 20, .rwsSlot, 0x0, false⟩, ⟨19, 12, .rwsSlot, 0x10, false⟩, ⟨11, 0, .rwsSlot, 0x0, false⟩]⟩,
  -- BUDGET_CFG (R348)
  ⟨0x208, 0x10000, 1, 0x10000, 1, [⟨24, 16, .rwx, 0x0, false⟩, ⟨8, 0, .rwx, 0x100, false⟩]⟩,
  -- WGT_BUF (R348)
  ⟨0x20C, 0x10000, 1, 0x10000, 1, [⟨25, 16, .rwx, 0x40, false⟩, ⟨9, 0, .rwx, 0x2C0, false⟩]⟩,
  -- CHAIN_CFG (R348)
  ⟨0x210, 0x10000, 1, 0x10000, 1, [⟨7, 0, .rwsSlot, 0x0, false⟩]⟩,
  -- EXP_CFG (R348)
  ⟨0x214, 0x10000, 1, 0x10000, 1, [⟨31, 31, .rwl, 0x0, false⟩, ⟨30, 28, .rwsSlot, 0x3, false⟩, ⟨24, 16, .rwl, 0x168, false⟩, ⟨15, 8, .rwsSlot, 0x40, false⟩]⟩,
  -- EXP_STEER (R348)
  ⟨0x218, 0x10000, 1, 0x10000, 1, [⟨9, 0, .rwx, 0x241, false⟩]⟩,
  -- EXP_STATUS (R349)
  ⟨0x21C, 0x10000, 1, 0x10000, 1, [⟨31, 16, .ro, 0xFFFF, false⟩, ⟨8, 0, .ro, 0x0, false⟩]⟩,
  -- TRIM_STATUS (R349)
  ⟨0x220, 0x10000, 1, 0x10000, 1, [⟨31, 16, .rw, 0x0, false⟩, ⟨5, 0, .ro, 0x0, false⟩]⟩,
  -- TRIM_LOG (R349)
  ⟨0x224, 0x10000, 1, 0x10000, 1, [⟨31, 31, .ro, 0x0, false⟩, ⟨30, 30, .ro, 0x0, false⟩, ⟨29, 28, .ro, 0x0, false⟩, ⟨27, 23, .ro, 0x0, false⟩, ⟨22, 19, .ro, 0x0, false⟩, ⟨18, 13, .ro, 0x0, false⟩, ⟨9, 0, .ro, 0x0, false⟩]⟩,
  -- WGT_STATUS (R349)
  ⟨0x228, 0x10000, 1, 0x10000, 1, [⟨3, 0, .ro, 0x0, false⟩]⟩,
  -- WGT_CNT0 (R350)
  ⟨0x230, 0x10000, 1, 0x10000, 1, [⟨31, 16, .rw, 0x0, false⟩, ⟨15, 0, .rw, 0x0, false⟩]⟩,
  -- WGT_CNT1 (R350)
  ⟨0x234, 0x10000, 1, 0x10000, 1, [⟨31, 16, .rw, 0x0, false⟩, ⟨15, 0, .rw, 0x0, false⟩]⟩,
  -- WGT_CNT2 (R350)
  ⟨0x238, 0x10000, 1, 0x10000, 1, [⟨31, 16, .rw, 0x0, false⟩, ⟨15, 0, .rw, 0x0, false⟩]⟩,
  -- BF_CNT0 (R350)
  ⟨0x23C, 0x10000, 1, 0x10000, 1, [⟨31, 16, .rw, 0x0, false⟩, ⟨15, 0, .rw, 0x0, false⟩]⟩,
  -- BF_CNT1 (R350)
  ⟨0x240, 0x10000, 1, 0x10000, 1, [⟨31, 16, .rw, 0x0, false⟩, ⟨15, 0, .rw, 0x0, false⟩]⟩,
  -- EXP_CNT (R350)
  ⟨0x244, 0x10000, 1, 0x10000, 1, [⟨31, 16, .rw, 0x0, false⟩, ⟨15, 0, .rw, 0x0, false⟩]⟩,
  -- EXP_AVG (R349)
  ⟨0x2000, 0x4, 256, 0x10000, 1, [⟨31, 0, .ro, 0x0, false⟩]⟩]

/-- The register table of block RAD. -/
def Regs.RAD : List RegSpec :=
  [-- EVT_STATUS (R32, R363)
  ⟨0x0, 0x10000, 1, 0x10000, 1, [⟨31, 31, .w1c, 0x0, false⟩, ⟨30, 30, .w1c, 0x0, false⟩, ⟨29, 29, .w1c, 0x0, false⟩, ⟨5, 5, .w1c, 0x0, false⟩, ⟨4, 4, .w1c, 0x0, false⟩, ⟨3, 3, .w1c, 0x0, false⟩, ⟨2, 2, .w1c, 0x0, false⟩, ⟨1, 1, .w1c, 0x0, false⟩, ⟨0, 0, .w1c, 0x0, false⟩]⟩,
  -- EVT_ENABLE_A (R32)
  ⟨0x4, 0x10000, 1, 0x10000, 1, [⟨31, 31, .rw, 0x0, false⟩, ⟨30, 30, .rw, 0x0, false⟩, ⟨29, 29, .rw, 0x0, false⟩, ⟨5, 5, .rw, 0x0, false⟩, ⟨4, 4, .rw, 0x0, false⟩, ⟨3, 3, .rw, 0x0, false⟩, ⟨2, 2, .rw, 0x0, false⟩, ⟨1, 1, .rw, 0x0, false⟩, ⟨0, 0, .rw, 0x0, false⟩]⟩,
  -- EVT_ENABLE_B (R32)
  ⟨0x8, 0x10000, 1, 0x10000, 1, [⟨31, 31, .rw, 0x0, false⟩, ⟨30, 30, .rw, 0x0, false⟩, ⟨29, 29, .rw, 0x0, false⟩, ⟨5, 5, .rw, 0x0, false⟩, ⟨4, 4, .rw, 0x0, false⟩, ⟨3, 3, .rw, 0x0, false⟩, ⟨2, 2, .rw, 0x0, false⟩, ⟨1, 1, .rw, 0x0, false⟩, ⟨0, 0, .rw, 0x0, false⟩]⟩,
  -- RA_CFG (R364)
  ⟨0x100, 0x10000, 1, 0x10000, 1, [⟨11, 0, .rwsSlot, 0x0, false⟩]⟩,
  -- RA_RING (R364)
  ⟨0x104, 0x10000, 1, 0x10000, 1, [⟨19, 16, .rwx, 0x0, false⟩, ⟨9, 0, .rwx, 0x27F, false⟩]⟩,
  -- RA_RING_PTR (R364)
  ⟨0x108, 0x10000, 1, 0x10000, 1, [⟨11, 8, .rw, 0x0, false⟩, ⟨3, 0, .ro, 0x0, false⟩]⟩,
  -- RA_STATUS (R364)
  ⟨0x10C, 0x10000, 1, 0x10000, 1, [⟨4, 4, .ro, 0x0, false⟩, ⟨3, 0, .ro, 0x0, false⟩]⟩,
  -- RA_CFG_ERR (R364)
  ⟨0x110, 0x10000, 1, 0x10000, 1, [⟨6, 4, .ro, 0x0, false⟩, ⟨3, 0, .ro, 0x0, false⟩]⟩,
  -- RA_PATH_LO (R364)
  ⟨0x114, 0x10000, 1, 0x10000, 1, [⟨31, 0, .rwsSlot, 0x0, false⟩]⟩,
  -- RA_PATH_HI (R364)
  ⟨0x118, 0x10000, 1, 0x10000, 1, [⟨31, 0, .rwsSlot, 0x0, false⟩]⟩,
  -- RA_CNT0 (R366)
  ⟨0x140, 0x10000, 1, 0x10000, 1, [⟨31, 16, .rw, 0x0, false⟩, ⟨15, 0, .rw, 0x0, false⟩]⟩,
  -- RA_CNT1 (R366)
  ⟨0x144, 0x10000, 1, 0x10000, 1, [⟨31, 16, .rw, 0x0, false⟩, ⟨15, 0, .rw, 0x0, false⟩]⟩,
  -- RA_CNT2 (R366)
  ⟨0x148, 0x10000, 1, 0x10000, 1, [⟨15, 0, .rw, 0x0, false⟩]⟩,
  -- S_FMT (R365)
  ⟨0x200, 0x20, 8, 0x10000, 1, [⟨31, 31, .rwsSlot, 0x0, false⟩, ⟨30, 30, .rwsSlot, 0x0, false⟩, ⟨29, 27, .rwsSlot, 0x3, false⟩, ⟨26, 23, .rwsSlot, 0x1, false⟩, ⟨22, 12, .rwsSlot, 0x0, false⟩, ⟨11, 10, .rwsSlot, 0x0, false⟩, ⟨9, 0, .rwsSlot, 0xD, false⟩]⟩,
  -- S_FREQ (R365)
  ⟨0x204, 0x20, 8, 0x10000, 1, [⟨17, 0, .rwsSlot, 0x0, false⟩]⟩,
  -- S_ROOT (R365)
  ⟨0x208, 0x20, 8, 0x10000, 1, [⟨22, 16, .rwsSlot, 0x40, false⟩, ⟨14, 8, .rwsSlot, 0x1, false⟩, ⟨5, 0, .rwsSlot, 0x0, false⟩]⟩,
  -- S_BEAM (R365)
  ⟨0x20C, 0x20, 8, 0x10000, 1, [⟨15, 8, .rwsSlot, 0x2C, false⟩, ⟨7, 0, .rwsSlot, 0x0, false⟩]⟩,
  -- ROOT (R365)
  ⟨0x400, 0x4, 64, 0x10000, 1, [⟨9, 0, .rwsSlot, 0x0, false⟩]⟩]

/-- The register table of block CAL. -/
def Regs.CAL : List RegSpec :=
  [-- EVT_STATUS (R32, R485)
  ⟨0x0, 0x10000, 1, 0x10000, 1, [⟨31, 31, .w1c, 0x0, false⟩, ⟨30, 30, .w1c, 0x0, false⟩, ⟨29, 29, .w1c, 0x0, false⟩, ⟨6, 6, .w1c, 0x0, false⟩, ⟨5, 5, .w1c, 0x0, false⟩, ⟨4, 4, .w1c, 0x0, false⟩, ⟨3, 3, .w1c, 0x0, false⟩, ⟨2, 2, .w1c, 0x0, false⟩, ⟨1, 1, .w1c, 0x0, false⟩, ⟨0, 0, .w1c, 0x0, false⟩]⟩,
  -- EVT_ENABLE_A (R32)
  ⟨0x4, 0x10000, 1, 0x10000, 1, [⟨31, 31, .rw, 0x0, false⟩, ⟨30, 30, .rw, 0x0, false⟩, ⟨29, 29, .rw, 0x0, false⟩, ⟨6, 6, .rw, 0x0, false⟩, ⟨5, 5, .rw, 0x0, false⟩, ⟨4, 4, .rw, 0x0, false⟩, ⟨3, 3, .rw, 0x0, false⟩, ⟨2, 2, .rw, 0x0, false⟩, ⟨1, 1, .rw, 0x0, false⟩, ⟨0, 0, .rw, 0x0, false⟩]⟩,
  -- EVT_ENABLE_B (R32)
  ⟨0x8, 0x10000, 1, 0x10000, 1, [⟨31, 31, .rw, 0x0, false⟩, ⟨30, 30, .rw, 0x0, false⟩, ⟨29, 29, .rw, 0x0, false⟩, ⟨6, 6, .rw, 0x0, false⟩, ⟨5, 5, .rw, 0x0, false⟩, ⟨4, 4, .rw, 0x0, false⟩, ⟨3, 3, .rw, 0x0, false⟩, ⟨2, 2, .rw, 0x0, false⟩, ⟨1, 1, .rw, 0x0, false⟩, ⟨0, 0, .rw, 0x0, false⟩]⟩,
  -- CAL_CFG (R486)
  ⟨0x100, 0x10000, 1, 0x10000, 1, [⟨31, 31, .rw, 0x1, false⟩, ⟨23, 16, .rwsSlot, 0x10, false⟩, ⟨15, 8, .rw, 0x28, false⟩, ⟨7, 0, .rwx, 0x28, false⟩]⟩,
  -- CAL_TOL (R486)
  ⟨0x104, 0x10000, 1, 0x10000, 1, [⟨23, 16, .rw, 0x14, false⟩, ⟨15, 8, .rw, 0x4, false⟩, ⟨7, 0, .rwx, 0x3C, false⟩]⟩,
  -- CAL_CTRL (R486)
  ⟨0x108, 0x10000, 1, 0x10000, 1, [⟨1, 1, .w1s, 0x0, false⟩, ⟨0, 0, .w1s, 0x0, false⟩]⟩,
  -- CAL_STATUS (R486)
  ⟨0x10C, 0x10000, 1, 0x10000, 1, [⟨31, 28, .ro, 0x0, false⟩, ⟨21, 16, .ro, 0x0, false⟩, ⟨10, 8, .ro, 0x0, false⟩, ⟨5, 0, .ro, 0x0, false⟩]⟩,
  -- PEND_RX_LO (R486)
  ⟨0x110, 0x10000, 1, 0x10000, 1, [⟨31, 0, .w1s, 0xFFFFFFFF, false⟩]⟩,
  -- PEND_RX_HI (R486)
  ⟨0x114, 0x10000, 1, 0x10000, 1, [⟨31, 0, .w1s, 0xFFFFFFFF, false⟩]⟩,
  -- PEND_TX_LO (R486)
  ⟨0x118, 0x10000, 1, 0x10000, 1, [⟨31, 0, .w1s, 0xFFFFFFFF, false⟩]⟩,
  -- PEND_TX_HI (R486)
  ⟨0x11C, 0x10000, 1, 0x10000, 1, [⟨31, 0, .w1s, 0xFFFFFFFF, false⟩]⟩,
  -- RECIP_VALID_LO (R486)
  ⟨0x120, 0x10000, 1, 0x10000, 1, [⟨31, 0, .ro, 0x0, false⟩]⟩,
  -- RECIP_VALID_HI (R486)
  ⟨0x124, 0x10000, 1, 0x10000, 1, [⟨31, 0, .ro, 0x0, false⟩]⟩,
  -- CAL_TSRC (R486)
  ⟨0x130, 0x4, 4, 0x10000, 1, [⟨31, 0, .rwx, 0x0, true⟩]⟩,
  -- CAL_CNT (R486)
  ⟨0x140, 0x10000, 1, 0x10000, 1, [⟨31, 16, .rw, 0x0, false⟩, ⟨15, 0, .rw, 0x0, false⟩]⟩,
  -- KIND_RUNS (R487)
  ⟨0x200, 0x10, 6, 0x10000, 1, [⟨31, 0, .rw, 0x0, false⟩]⟩,
  -- KIND_LAST (R487)
  ⟨0x204, 0x10, 6, 0x10000, 1, [⟨25, 16, .ro, 0x0, false⟩, ⟨5, 0, .ro, 0x0, false⟩]⟩,
  -- KIND_LAST_TB0 (R487)
  ⟨0x208, 0x10, 6, 0x10000, 1, [⟨31, 0, .ro, 0x0, false⟩]⟩,
  -- P_TEMP (R488)
  ⟨0x1000, 0x40, 64, 0x10000, 1, [⟨31, 16, .ro, 0x0, false⟩, ⟨15, 0, .ro, 0x0, false⟩]⟩,
  -- RECIP_RHO (R488)
  ⟨0x4000, 0x20, 64, 0x4, 4, [⟨31, 16, .ro, 0x0, false⟩, ⟨15, 0, .ro, 0x0, false⟩]⟩] ++
  [-- RECIP_TAU (R488)
  ⟨0x4010, 0x20, 64, 0x10000, 1, [⟨31, 0, .ro, 0x0, false⟩]⟩,
  -- RECIP_STAT (R488)
  ⟨0x4014, 0x20, 64, 0x10000, 1, [⟨31, 31, .ro, 0x0, false⟩, ⟨7, 0, .ro, 0x0, false⟩]⟩,
  -- RECIP_TEMP (R488)
  ⟨0x4018, 0x20, 64, 0x10000, 1, [⟨31, 16, .ro, 0x0, false⟩, ⟨15, 0, .ro, 0x0, false⟩]⟩]

/-- The register table of block THM. -/
def Regs.THM : List RegSpec :=
  [-- EVT_STATUS (R32, R530)
  ⟨0x0, 0x10000, 1, 0x10000, 1, [⟨31, 31, .w1c, 0x0, false⟩, ⟨30, 30, .w1c, 0x0, false⟩, ⟨29, 29, .w1c, 0x0, false⟩, ⟨6, 6, .w1c, 0x0, false⟩, ⟨5, 5, .w1c, 0x0, false⟩, ⟨4, 4, .w1c, 0x0, false⟩, ⟨3, 3, .w1c, 0x0, false⟩, ⟨2, 2, .w1c, 0x0, false⟩, ⟨1, 1, .w1c, 0x0, false⟩, ⟨0, 0, .w1c, 0x0, false⟩]⟩,
  -- EVT_ENABLE_A (R32)
  ⟨0x4, 0x10000, 1, 0x10000, 1, [⟨31, 31, .rw, 0x0, false⟩, ⟨30, 30, .rw, 0x0, false⟩, ⟨29, 29, .rw, 0x0, false⟩, ⟨6, 6, .rw, 0x0, false⟩, ⟨5, 5, .rw, 0x0, false⟩, ⟨4, 4, .rw, 0x0, false⟩, ⟨3, 3, .rw, 0x0, false⟩, ⟨2, 2, .rw, 0x0, false⟩, ⟨1, 1, .rw, 0x0, false⟩, ⟨0, 0, .rw, 0x0, false⟩]⟩,
  -- EVT_ENABLE_B (R32)
  ⟨0x8, 0x10000, 1, 0x10000, 1, [⟨31, 31, .rw, 0x0, false⟩, ⟨30, 30, .rw, 0x0, false⟩, ⟨29, 29, .rw, 0x0, false⟩, ⟨6, 6, .rw, 0x0, false⟩, ⟨5, 5, .rw, 0x0, false⟩, ⟨4, 4, .rw, 0x0, false⟩, ⟨3, 3, .rw, 0x0, false⟩, ⟨2, 2, .rw, 0x0, false⟩, ⟨1, 1, .rw, 0x0, false⟩, ⟨0, 0, .rw, 0x0, false⟩]⟩,
  -- THM_CFG (R531)
  ⟨0x100, 0x10000, 1, 0x10000, 1, [⟨31, 31, .rwl, 0x1, false⟩, ⟨30, 30, .rwl, 0x0, true⟩, ⟨29, 27, .rwl, 0x0, true⟩, ⟨23, 20, .rwl, 0x4, false⟩, ⟨15, 8, .rwl, 0x14, false⟩, ⟨7, 0, .rwl, 0x32, false⟩]⟩,
  -- THM_VSEL (R531)
  ⟨0x104, 0x10000, 1, 0x10000, 1, [⟨27, 16, .rwl, 0x0, true⟩, ⟨11, 0, .rwl, 0x0, true⟩]⟩,
  -- THM_STATUS (R531)
  ⟨0x108, 0x10000, 1, 0x10000, 1, [⟨31, 29, .ro, 0x0, false⟩, ⟨28, 24, .ro, 0x0, false⟩, ⟨23, 20, .ro, 0x0, false⟩, ⟨15, 8, .ro, 0x0, false⟩, ⟨5, 0, .ro, 0x0, false⟩]⟩,
  -- THM_HOT (R531)
  ⟨0x10C, 0x10000, 1, 0x10000, 1, [⟨31, 16, .ro, 0x0, false⟩, ⟨15, 0, .ro, 0x0, false⟩]⟩,
  -- THM_FAIL_LO (R531)
  ⟨0x110, 0x10000, 1, 0x10000, 1, [⟨31, 0, .ro, 0x0, false⟩]⟩,
  -- THM_FAIL_HI (R531)
  ⟨0x114, 0x10000, 1, 0x10000, 1, [⟨15, 0, .ro, 0x0, false⟩]⟩,
  -- SHDN_LOG (R531)
  ⟨0x120, 0x10000, 1, 0x10000, 1, [⟨31, 16, .ro, 0x0, false⟩, ⟨15, 15, .ro, 0x0, false⟩, ⟨11, 8, .rw, 0x0, false⟩, ⟨5, 0, .ro, 0x0, false⟩]⟩,
  -- RESTART_CFG (R531)
  ⟨0x124, 0x10000, 1, 0x10000, 1, [⟨11, 8, .rwl, 0x3, false⟩, ⟨7, 0, .rwl, 0x5F, false⟩]⟩,
  -- THM_INJ (R531)
  ⟨0x130, 0x10000, 1, 0x10000, 1, [⟨17, 17, .wo, 0x0, false⟩, ⟨16, 16, .wo, 0x0, false⟩, ⟨15, 8, .wo, 0x0, false⟩, ⟨5, 0, .wo, 0x0, false⟩]⟩,
  -- THM_CNT (R531)
  ⟨0x140, 0x10000, 1, 0x10000, 1, [⟨31, 16, .rw, 0x0, false⟩, ⟨15, 0, .rw, 0x0, false⟩]⟩,
  -- S_TEMP (R532)
  ⟨0x200, 0x20, 48, 0x10000, 1, [⟨31, 16, .ro, 0x0, false⟩, ⟨15, 0, .ro, 0x0, false⟩]⟩,
  -- S_STATUS (R532)
  ⟨0x204, 0x20, 48, 0x10000, 1, [⟨31, 30, .ro, 0x0, false⟩, ⟨29, 29, .ro, 0x0, false⟩, ⟨28, 28, .ro, 0x0, false⟩, ⟨27, 26, .ro, 0x0, false⟩, ⟨25, 24, .ro, 0x2, false⟩]⟩,
  -- S_THR (R532)
  ⟨0x208, 0x20, 48, 0x10000, 1, [⟨31, 24, .rwl, 0x0, true⟩, ⟨23, 16, .rwl, 0x0, true⟩, ⟨15, 8, .rwl, 0x0, true⟩, ⟨7, 4, .rwl, 0x0, true⟩, ⟨3, 0, .rwl, 0x0, true⟩]⟩,
  -- S_NBR (R532)
  ⟨0x20C, 0x20, 48, 0x10000, 1, [⟨31, 0, .rwl, 0x0, true⟩]⟩,
  -- S_CTRL (R532)
  ⟨0x210, 0x20, 48, 0x10000, 1, [⟨31, 31, .rwl, 0x0, true⟩, ⟨0, 0, .w1s, 0x0, false⟩]⟩,
  -- S_SRC (R532)
  ⟨0x214, 0x20, 48, 0x10000, 1, [⟨6, 0, .rwl, 0x0, true⟩]⟩]

/-- The register table of block HKA. -/
def Regs.HKA : List RegSpec :=
  [-- EVT_STATUS (R32, R545)
  ⟨0x0, 0x10000, 1, 0x10000, 1, [⟨31, 31, .w1c, 0x0, false⟩, ⟨30, 30, .w1c, 0x0, false⟩, ⟨29, 29, .w1c, 0x0, false⟩, ⟨2, 2, .w1c, 0x0, false⟩, ⟨1, 1, .w1c, 0x0, false⟩, ⟨0, 0, .w1c, 0x0, false⟩]⟩,
  -- EVT_ENABLE_A (R32)
  ⟨0x4, 0x10000, 1, 0x10000, 1, [⟨31, 31, .rw, 0x0, false⟩, ⟨30, 30, .rw, 0x0, false⟩, ⟨29, 29, .rw, 0x0, false⟩, ⟨2, 2, .rw, 0x0, false⟩, ⟨1, 1, .rw, 0x0, false⟩, ⟨0, 0, .rw, 0x0, false⟩]⟩,
  -- EVT_ENABLE_B (R32)
  ⟨0x8, 0x10000, 1, 0x10000, 1, [⟨31, 31, .rw, 0x0, false⟩, ⟨30, 30, .rw, 0x0, false⟩, ⟨29, 29, .rw, 0x0, false⟩, ⟨2, 2, .rw, 0x0, false⟩, ⟨1, 1, .rw, 0x0, false⟩, ⟨0, 0, .rw, 0x0, false⟩]⟩,
  -- HK_CFG (R546)
  ⟨0x100, 0x10000, 1, 0x10000, 1, [⟨31, 31, .rw, 0x0, true⟩, ⟨30, 30, .rw, 0x0, true⟩, ⟨23, 16, .rw, 0xA, false⟩, ⟨13, 8, .rwx, 0x0, true⟩, ⟨5, 0, .rwx, 0x0, true⟩]⟩,
  -- PLAUS_CFG (R546)
  ⟨0x104, 0x10000, 1, 0x10000, 1, [⟨31, 31, .rw, 0x1, false⟩, ⟨29, 24, .rw, 0x3F, false⟩, ⟨23, 16, .rw, 0x1, false⟩, ⟨15, 12, .rw, 0x3, false⟩, ⟨7, 0, .rw, 0x8, false⟩]⟩,
  -- PLAUS_STATUS (R546)
  ⟨0x108, 0x10000, 1, 0x10000, 1, [⟨19, 16, .ro, 0x0, false⟩, ⟨15, 0, .ro, 0x0, false⟩]⟩,
  -- HK_INJ (R546)
  ⟨0x10C, 0x10000, 1, 0x10000, 1, [⟨7, 0, .wo, 0x0, false⟩]⟩,
  -- HV_CNT (R546)
  ⟨0x140, 0x10000, 1, 0x10000, 1, [⟨31, 31, .ro, 0x0, false⟩, ⟨29, 24, .ro, 0x0, false⟩, ⟨15, 0, .ro, 0x0, false⟩]⟩,
  -- HV_MINMAX (R546)
  ⟨0x144, 0x10000, 1, 0x10000, 1, [⟨31, 16, .ro, 0x0, false⟩, ⟨15, 0, .ro, 0x0, false⟩]⟩,
  -- HK_CNT0 (R546)
  ⟨0x150, 0x10000, 1, 0x10000, 1, [⟨31, 16, .rw, 0x0, false⟩, ⟨15, 0, .rw, 0x0, false⟩]⟩,
  -- HK_CNT1 (R546)
  ⟨0x154, 0x10000, 1, 0x10000, 1, [⟨15, 0, .rw, 0x0, false⟩]⟩,
  -- ENTRY (R547)
  ⟨0x200, 0x80, 2, 0x4, 32, [⟨16, 14, .rwx, 0x0, true⟩, ⟨13, 8, .rwx, 0x0, true⟩, ⟨7, 7, .rwx, 0x0, true⟩, ⟨6, 6, .rwx, 0x0, true⟩, ⟨5, 0, .rwx, 0x0, true⟩]⟩,
  -- ACC_CFG (R548)
  ⟨0x400, 0x10, 64, 0x10000, 1, [⟨1, 1, .rwx, 0x0, false⟩, ⟨0, 0, .rwx, 0x0, false⟩]⟩,
  -- HARVEST (R548)
  ⟨0x404, 0x10, 64, 0x10000, 1, [⟨31, 0, .ro, 0x0, false⟩]⟩]

/-- The register table of block AUX. -/
def Regs.AUX : List RegSpec :=
  [-- EVT_STATUS (R32, R512)
  ⟨0x0, 0x10000, 1, 0x10000, 1, [⟨31, 31, .w1c, 0x0, false⟩, ⟨30, 30, .w1c, 0x0, false⟩, ⟨29, 29, .w1c, 0x0, false⟩, ⟨2, 2, .w1c, 0x0, false⟩, ⟨1, 1, .w1c, 0x0, false⟩, ⟨0, 0, .w1c, 0x0, false⟩]⟩,
  -- EVT_ENABLE_A (R32)
  ⟨0x4, 0x10000, 1, 0x10000, 1, [⟨31, 31, .rw, 0x0, false⟩, ⟨30, 30, .rw, 0x0, false⟩, ⟨29, 29, .rw, 0x0, false⟩, ⟨2, 2, .rw, 0x0, false⟩, ⟨1, 1, .rw, 0x0, false⟩, ⟨0, 0, .rw, 0x0, false⟩]⟩,
  -- EVT_ENABLE_B (R32)
  ⟨0x8, 0x10000, 1, 0x10000, 1, [⟨31, 31, .rw, 0x0, false⟩, ⟨30, 30, .rw, 0x0, false⟩, ⟨29, 29, .rw, 0x0, false⟩, ⟨2, 2, .rw, 0x0, false⟩, ⟨1, 1, .rw, 0x0, false⟩, ⟨0, 0, .rw, 0x0, false⟩]⟩,
  -- TDD_CFG (R513)
  ⟨0x100, 0x10000, 1, 0x10000, 1, [⟨5, 0, .rwx, 0xA, false⟩]⟩,
  -- TDD_SLOT (R513)
  ⟨0x110, 0x4, 40, 0x10000, 1, [⟨27, 0, .rwx, 0x5555555, false⟩]⟩,
  -- TRSW_POL_LO (R513)
  ⟨0x200, 0x10000, 1, 0x10000, 1, [⟨31, 0, .rwx, 0x0, true⟩]⟩,
  -- TRSW_POL_HI (R513)
  ⟨0x204, 0x10000, 1, 0x10000, 1, [⟨31, 0, .rwx, 0x0, true⟩]⟩,
  -- COEX_CFG (R513)
  ⟨0x300, 0x10, 2, 0x10000, 1, [⟨31, 31, .rwx, 0x0, false⟩, ⟨30, 30, .rwx, 0x0, false⟩, ⟨29, 29, .rwx, 0x0, true⟩, ⟨28, 28, .rwx, 0x0, true⟩, ⟨7, 0, .rwx, 0xA, false⟩]⟩,
  -- COEX_MASK_LO (R513)
  ⟨0x304, 0x10, 2, 0x10000, 1, [⟨31, 0, .rwsSlot, 0xFFFFFFFF, false⟩]⟩,
  -- COEX_MASK_HI (R513)
  ⟨0x308, 0x10, 2, 0x10000, 1, [⟨31, 0, .rwsSlot, 0xFFFFFFFF, false⟩]⟩,
  -- COEX_CNT (R513)
  ⟨0x30C, 0x10, 2, 0x10000, 1, [⟨31, 16, .rw, 0x0, false⟩, ⟨15, 0, .rw, 0x0, false⟩]⟩,
  -- BIAS_CNT (R513)
  ⟨0x320, 0x10000, 1, 0x10000, 1, [⟨15, 0, .rw, 0x0, false⟩]⟩,
  -- BIAS (R513)
  ⟨0x400, 0x4, 136, 0x10000, 1, [⟨31, 31, .ro, 0x0, false⟩, ⟨30, 30, .ro, 0x0, false⟩, ⟨12, 12, .rw, 0x0, true⟩, ⟨11, 0, .rw, 0x0, true⟩]⟩,
  -- BIAS_SAFE (R513)
  ⟨0x800, 0x4, 136, 0x10000, 1, [⟨12, 12, .rwl, 0x0, true⟩, ⟨11, 0, .rwl, 0x0, true⟩]⟩,
  -- BIAS_LIM (R513)
  ⟨0xC00, 0x4, 136, 0x10000, 1, [⟨11, 0, .rwl, 0x0, true⟩]⟩]

/-- The register table of block REG. -/
def Regs.REG : List RegSpec :=
  [-- EVT_STATUS (R32, R514)
  ⟨0x0, 0x10000, 1, 0x10000, 1, [⟨31, 31, .w1c, 0x0, false⟩, ⟨30, 30, .w1c, 0x0, false⟩, ⟨29, 29, .w1c, 0x0, false⟩, ⟨3, 3, .w1c, 0x0, false⟩, ⟨2, 2, .w1c, 0x0, false⟩, ⟨1, 1, .w1c, 0x0, false⟩, ⟨0, 0, .w1c, 0x0, false⟩]⟩,
  -- EVT_ENABLE_A (R32)
  ⟨0x4, 0x10000, 1, 0x10000, 1, [⟨31, 31, .rw, 0x0, false⟩, ⟨30, 30, .rw, 0x0, false⟩, ⟨29, 29, .rw, 0x0, false⟩, ⟨3, 3, .rw, 0x0, false⟩, ⟨2, 2, .rw, 0x0, false⟩, ⟨1, 1, .rw, 0x0, false⟩, ⟨0, 0, .rw, 0x0, false⟩]⟩,
  -- EVT_ENABLE_B (R32)
  ⟨0x8, 0x10000, 1, 0x10000, 1, [⟨31, 31, .rw, 0x0, false⟩, ⟨30, 30, .rw, 0x0, false⟩, ⟨29, 29, .rw, 0x0, false⟩, ⟨3, 3, .rw, 0x0, false⟩, ⟨2, 2, .rw, 0x0, false⟩, ⟨1, 1, .rw, 0x0, false⟩, ⟨0, 0, .rw, 0x0, false⟩]⟩,
  -- REG_CTRL (R515)
  ⟨0x100, 0x10000, 1, 0x10000, 1, [⟨0, 0, .w1s, 0x0, false⟩]⟩,
  -- REG_STATUS (R515)
  ⟨0x104, 0x10000, 1, 0x10000, 1, [⟨31, 31, .ro, 0x0, true⟩, ⟨30, 30, .ro, 0x0, true⟩, ⟨15, 0, .ro, 0x0, false⟩]⟩,
  -- RANGE_LO (R515)
  ⟨0x200, 0x8, 8, 0x10000, 1, [⟨31, 31, .rwl, 0x0, true⟩, ⟨16, 0, .rwl, 0x0, true⟩]⟩,
  -- RANGE_HI (R515)
  ⟨0x204, 0x8, 8, 0x10000, 1, [⟨16, 0, .rwl, 0x0, true⟩]⟩,
  -- PWR_LIM (R515)
  ⟨0x300, 0x10000, 1, 0x10000, 1, [⟨31, 16, .rwl, 0x0, true⟩, ⟨15, 0, .rwl, 0x0, true⟩]⟩,
  -- DUTY_LIM (R515)
  ⟨0x304, 0x10000, 1, 0x10000, 1, [⟨9, 0, .rwl, 0x0, true⟩]⟩,
  -- REG_CNT0 (R515)
  ⟨0x310, 0x10000, 1, 0x10000, 1, [⟨31, 16, .rw, 0x0, false⟩, ⟨15, 0, .rw, 0x0, false⟩]⟩,
  -- REG_CNT1 (R515)
  ⟨0x314, 0x10000, 1, 0x10000, 1, [⟨15, 0, .rw, 0x0, false⟩]⟩,
  -- EXP_LIM (R515)
  ⟨0x1000, 0x4, 256, 0x10000, 1, [⟨31, 0, .rwl, 0x0, true⟩]⟩]

/-- The register table of block NVM. -/
def Regs.NVM : List RegSpec :=
  [-- EVT_STATUS (R32, R563)
  ⟨0x0, 0x10000, 1, 0x10000, 1, [⟨31, 31, .w1c, 0x0, false⟩, ⟨30, 30, .w1c, 0x0, false⟩, ⟨29, 29, .w1c, 0x0, false⟩, ⟨4, 4, .w1c, 0x0, false⟩, ⟨3, 3, .w1c, 0x0, false⟩, ⟨2, 2, .w1c, 0x0, false⟩, ⟨1, 1, .w1c, 0x0, false⟩, ⟨0, 0, .w1c, 0x0, false⟩]⟩,
  -- EVT_ENABLE_A (R32)
  ⟨0x4, 0x10000, 1, 0x10000, 1, [⟨31, 31, .rw, 0x0, false⟩, ⟨30, 30, .rw, 0x0, false⟩, ⟨29, 29, .rw, 0x0, false⟩, ⟨4, 4, .rw, 0x0, false⟩, ⟨3, 3, .rw, 0x0, false⟩, ⟨2, 2, .rw, 0x0, false⟩, ⟨1, 1, .rw, 0x0, false⟩, ⟨0, 0, .rw, 0x0, false⟩]⟩,
  -- EVT_ENABLE_B (R32)
  ⟨0x8, 0x10000, 1, 0x10000, 1, [⟨31, 31, .rw, 0x0, false⟩, ⟨30, 30, .rw, 0x0, false⟩, ⟨29, 29, .rw, 0x0, false⟩, ⟨4, 4, .rw, 0x0, false⟩, ⟨3, 3, .rw, 0x0, false⟩, ⟨2, 2, .rw, 0x0, false⟩, ⟨1, 1, .rw, 0x0, false⟩, ⟨0, 0, .rw, 0x0, false⟩]⟩,
  -- NVM_SRC (R564)
  ⟨0x100, 0x10000, 1, 0x10000, 1, [⟨31, 0, .rw, 0x4000000, false⟩]⟩,
  -- NVM_CMD (R564)
  ⟨0x104, 0x10000, 1, 0x10000, 1, [⟨27, 24, .wo, 0x0, false⟩, ⟨20, 0, .wo, 0x0, false⟩]⟩,
  -- NVM_STATUS (R564)
  ⟨0x108, 0x10000, 1, 0x10000, 1, [⟨31, 31, .ro, 0x0, false⟩, ⟨27, 24, .ro, 0x0, false⟩, ⟨23, 20, .ro, 0x0, false⟩, ⟨15, 0, .ro, 0x0, false⟩]⟩,
  -- LC_STATUS (R564)
  ⟨0x110, 0x10000, 1, 0x10000, 1, [⟨11, 8, .ro, 0x0, false⟩, ⟨1, 0, .ro, 0x0, true⟩]⟩,
  -- LC_REQ (R564)
  ⟨0x114, 0x10000, 1, 0x10000, 1, [⟨15, 8, .wo, 0x0, false⟩, ⟨1, 0, .wo, 0x0, false⟩]⟩,
  -- LC_AUTH_ADDR (R564)
  ⟨0x118, 0x10000, 1, 0x10000, 1, [⟨31, 0, .rw, 0x4000000, false⟩]⟩,
  -- DEVICE_ID_LO (R564)
  ⟨0x120, 0x10000, 1, 0x10000, 1, [⟨31, 0, .ro, 0x0, true⟩]⟩,
  -- DEVICE_ID_HI (R564)
  ⟨0x124, 0x10000, 1, 0x10000, 1, [⟨31, 0, .ro, 0x0, true⟩]⟩,
  -- KEY_STATUS (R564)
  ⟨0x128, 0x10000, 1, 0x10000, 1, [⟨3, 2, .ro, 0x0, true⟩, ⟨1, 0, .ro, 0x0, true⟩]⟩,
  -- MIN_VERSION (R564)
  ⟨0x12C, 0x10000, 1, 0x10000, 1, [⟨31, 0, .ro, 0x0, true⟩]⟩,
  -- NVM_CNT0 (R564)
  ⟨0x140, 0x10000, 1, 0x10000, 1, [⟨31, 16, .rw, 0x0, false⟩, ⟨15, 0, .rw, 0x0, false⟩]⟩,
  -- NVM_CNT1 (R564)
  ⟨0x144, 0x10000, 1, 0x10000, 1, [⟨31, 16, .rw, 0x0, false⟩, ⟨15, 0, .rw, 0x0, false⟩]⟩,
  -- NVM_INJ (R564)
  ⟨0x150, 0x10000, 1, 0x10000, 1, [⟨0, 0, .wo, 0x0, false⟩]⟩,
  -- REC_STATUS (R564)
  ⟨0x200, 0x4, 13, 0x10000, 1, [⟨31, 31, .ro, 0x0, true⟩, ⟨30, 30, .ro, 0x0, true⟩, ⟨29, 29, .ro, 0x0, true⟩, ⟨23, 0, .ro, 0x0, true⟩]⟩]

/-- The register table of block FLT. -/
def Regs.FLT : List RegSpec :=
  [-- EVT_STATUS (R32, R571)
  ⟨0x0, 0x10000, 1, 0x10000, 1, [⟨31, 31, .w1c, 0x0, false⟩, ⟨30, 30, .w1c, 0x0, false⟩, ⟨29, 29, .w1c, 0x0, false⟩, ⟨6, 6, .w1c, 0x0, false⟩, ⟨5, 5, .w1c, 0x0, false⟩, ⟨4, 4, .w1c, 0x0, false⟩, ⟨3, 3, .w1c, 0x0, false⟩, ⟨2, 2, .w1c, 0x0, false⟩, ⟨1, 1, .w1c, 0x0, false⟩, ⟨0, 0, .w1c, 0x0, false⟩]⟩,
  -- EVT_ENABLE_A (R32)
  ⟨0x4, 0x10000, 1, 0x10000, 1, [⟨31, 31, .rw, 0x0, false⟩, ⟨30, 30, .rw, 0x0, false⟩, ⟨29, 29, .rw, 0x0, false⟩, ⟨6, 6, .rw, 0x0, false⟩, ⟨5, 5, .rw, 0x0, false⟩, ⟨4, 4, .rw, 0x0, false⟩, ⟨3, 3, .rw, 0x0, false⟩, ⟨2, 2, .rw, 0x0, false⟩, ⟨1, 1, .rw, 0x0, false⟩, ⟨0, 0, .rw, 0x0, false⟩]⟩,
  -- EVT_ENABLE_B (R32)
  ⟨0x8, 0x10000, 1, 0x10000, 1, [⟨31, 31, .rw, 0x0, false⟩, ⟨30, 30, .rw, 0x0, false⟩, ⟨29, 29, .rw, 0x0, false⟩, ⟨6, 6, .rw, 0x0, false⟩, ⟨5, 5, .rw, 0x0, false⟩, ⟨4, 4, .rw, 0x0, false⟩, ⟨3, 3, .rw, 0x0, false⟩, ⟨2, 2, .rw, 0x0, false⟩, ⟨1, 1, .rw, 0x0, false⟩, ⟨0, 0, .rw, 0x0, false⟩]⟩,
  -- INJ_ARM (R572)
  ⟨0x100, 0x10000, 1, 0x10000, 1, [⟨15, 8, .wo, 0x0, false⟩, ⟨7, 0, .wo, 0x0, false⟩]⟩,
  -- INJ_STATUS (R572)
  ⟨0x104, 0x10000, 1, 0x10000, 1, [⟨31, 31, .ro, 0x0, false⟩, ⟨30, 30, .w1s, 0x0, false⟩, ⟨27, 24, .ro, 0x0, false⟩, ⟨15, 0, .ro, 0x0, false⟩]⟩,
  -- INJ_CMD (R572)
  ⟨0x108, 0x10000, 1, 0x10000, 1, [⟨16, 16, .wo, 0x0, false⟩, ⟨15, 8, .wo, 0x0, false⟩, ⟨5, 0, .wo, 0x0, false⟩]⟩,
  -- INJ_ADDR (R572)
  ⟨0x10C, 0x10000, 1, 0x10000, 1, [⟨31, 0, .rw, 0x0, false⟩]⟩,
  -- DET_STATUS (R572)
  ⟨0x110, 0x10000, 1, 0x10000, 1, [⟨25, 0, .w1c, 0x0, false⟩]⟩,
  -- DET_INJ (R572)
  ⟨0x114, 0x10000, 1, 0x10000, 1, [⟨25, 0, .w1c, 0x0, false⟩]⟩,
  -- LOG_STATUS (R572)
  ⟨0x120, 0x10000, 1, 0x10000, 1, [⟨31, 16, .rw, 0x0, false⟩, ⟨4, 0, .ro, 0x0, false⟩]⟩,
  -- LOG0 (R572)
  ⟨0x124, 0x10000, 1, 0x10000, 1, [⟨31, 31, .ro, 0x0, false⟩, ⟨30, 29, .ro, 0x0, false⟩, ⟨28, 24, .ro, 0x0, false⟩, ⟨15, 8, .ro, 0x0, false⟩]⟩,
  -- LOG1 (R572)
  ⟨0x128, 0x10000, 1, 0x10000, 1, [⟨25, 16, .ro, 0x0, false⟩, ⟨5, 0, .ro, 0x0, false⟩]⟩,
  -- LOG2 (R572)
  ⟨0x12C, 0x10000, 1, 0x10000, 1, [⟨31, 0, .ro, 0x0, false⟩]⟩,
  -- FLT_CNT (R572)
  ⟨0x130, 0x10000, 1, 0x10000, 1, [⟨31, 16, .rw, 0x0, false⟩, ⟨15, 0, .rw, 0x0, false⟩]⟩,
  -- ROUTE0 (R565/R572)
  ⟨0x200, 0x10000, 1, 0x10000, 1, [⟨9, 8, .ro, 0x0, false⟩, ⟨0, 0, .rw, 0x0, false⟩]⟩,
  -- ROUTE1 (R565/R572)
  ⟨0x204, 0x10000, 1, 0x10000, 1, [⟨9, 8, .ro, 0x1, false⟩, ⟨0, 0, .rw, 0x0, false⟩]⟩,
  -- ROUTE2 (R565/R572)
  ⟨0x208, 0x10000, 1, 0x10000, 1, [⟨9, 8, .ro, 0x1, false⟩, ⟨0, 0, .rw, 0x0, false⟩]⟩,
  -- ROUTE3 (R565/R572)
  ⟨0x20C, 0x10000, 1, 0x10000, 1, [⟨9, 8, .ro, 0x1, false⟩, ⟨0, 0, .rw, 0x0, false⟩]⟩,
  -- ROUTE4 (R565/R572)
  ⟨0x210, 0x10000, 1, 0x10000, 1, [⟨9, 8, .ro, 0x1, false⟩, ⟨0, 0, .ro, 0x1, false⟩]⟩,
  -- ROUTE5 (R565/R572)
  ⟨0x214, 0x10000, 1, 0x10000, 1, [⟨9, 8, .ro, 0x0, false⟩, ⟨0, 0, .rw, 0x0, false⟩]⟩] ++
  [-- ROUTE6 (R565/R572)
  ⟨0x218, 0x10000, 1, 0x10000, 1, [⟨9, 8, .ro, 0x0, false⟩, ⟨0, 0, .rw, 0x0, false⟩]⟩,
  -- ROUTE7 (R565/R572)
  ⟨0x21C, 0x10000, 1, 0x10000, 1, [⟨9, 8, .ro, 0x0, false⟩, ⟨0, 0, .rw, 0x0, false⟩]⟩,
  -- ROUTE8 (R565/R572)
  ⟨0x220, 0x10000, 1, 0x10000, 1, [⟨9, 8, .ro, 0x1, false⟩, ⟨0, 0, .rw, 0x0, false⟩]⟩,
  -- ROUTE9 (R565/R572)
  ⟨0x224, 0x10000, 1, 0x10000, 1, [⟨9, 8, .ro, 0x0, false⟩, ⟨0, 0, .rw, 0x0, false⟩]⟩,
  -- ROUTE10 (R565/R572)
  ⟨0x228, 0x10000, 1, 0x10000, 1, [⟨9, 8, .ro, 0x0, false⟩, ⟨0, 0, .rw, 0x0, false⟩]⟩,
  -- ROUTE11 (R565/R572)
  ⟨0x22C, 0x10000, 1, 0x10000, 1, [⟨9, 8, .ro, 0x0, false⟩, ⟨0, 0, .rw, 0x0, false⟩]⟩,
  -- ROUTE12 (R565/R572)
  ⟨0x230, 0x10000, 1, 0x10000, 1, [⟨9, 8, .ro, 0x0, false⟩, ⟨0, 0, .rw, 0x0, false⟩]⟩,
  -- ROUTE13 (R565/R572)
  ⟨0x234, 0x10000, 1, 0x10000, 1, [⟨9, 8, .ro, 0x1, false⟩, ⟨0, 0, .rw, 0x0, false⟩]⟩,
  -- ROUTE14 (R565/R572)
  ⟨0x238, 0x10000, 1, 0x10000, 1, [⟨9, 8, .ro, 0x1, false⟩, ⟨0, 0, .rw, 0x0, false⟩]⟩,
  -- ROUTE15 (R565/R572)
  ⟨0x23C, 0x10000, 1, 0x10000, 1, [⟨9, 8, .ro, 0x1, false⟩, ⟨0, 0, .rw, 0x0, false⟩]⟩,
  -- ROUTE16 (R565/R572)
  ⟨0x240, 0x10000, 1, 0x10000, 1, [⟨9, 8, .ro, 0x2, false⟩, ⟨0, 0, .rw, 0x0, false⟩]⟩,
  -- ROUTE17 (R565/R572)
  ⟨0x244, 0x10000, 1, 0x10000, 1, [⟨9, 8, .ro, 0x1, false⟩, ⟨0, 0, .rw, 0x0, false⟩]⟩,
  -- ROUTE18 (R565/R572)
  ⟨0x248, 0x10000, 1, 0x10000, 1, [⟨9, 8, .ro, 0x0, false⟩, ⟨0, 0, .rw, 0x0, false⟩]⟩,
  -- ROUTE19 (R565/R572)
  ⟨0x24C, 0x10000, 1, 0x10000, 1, [⟨9, 8, .ro, 0x1, false⟩, ⟨0, 0, .rw, 0x0, false⟩]⟩,
  -- ROUTE20 (R565/R572)
  ⟨0x250, 0x10000, 1, 0x10000, 1, [⟨9, 8, .ro, 0x0, false⟩, ⟨0, 0, .rw, 0x0, false⟩]⟩,
  -- ROUTE21 (R565/R572)
  ⟨0x254, 0x10000, 1, 0x10000, 1, [⟨9, 8, .ro, 0x1, false⟩, ⟨0, 0, .rw, 0x0, false⟩]⟩,
  -- ROUTE22 (R565/R572)
  ⟨0x258, 0x10000, 1, 0x10000, 1, [⟨9, 8, .ro, 0x1, false⟩, ⟨0, 0, .rw, 0x0, false⟩]⟩,
  -- ROUTE23 (R565/R572)
  ⟨0x25C, 0x10000, 1, 0x10000, 1, [⟨9, 8, .ro, 0x0, false⟩, ⟨0, 0, .rw, 0x0, false⟩]⟩,
  -- ROUTE24 (R565/R572)
  ⟨0x260, 0x10000, 1, 0x10000, 1, [⟨9, 8, .ro, 0x2, false⟩, ⟨0, 0, .rw, 0x0, false⟩]⟩,
  -- ROUTE25 (R565/R572)
  ⟨0x264, 0x10000, 1, 0x10000, 1, [⟨9, 8, .ro, 0x2, false⟩, ⟨0, 0, .ro, 0x1, false⟩]⟩] ++
  [-- OC_CFG (R572)
  ⟨0x300, 0x4, 8, 0x10000, 1, [⟨31, 31, .rw, 0x0, false⟩, ⟨30, 24, .rw, 0x0, false⟩, ⟨23, 16, .rw, 0x0, false⟩, ⟨11, 0, .rw, 0xFFF, false⟩]⟩]

/-- The register table of block NLR. -/
def Regs.NLR : List RegSpec :=
  [-- EVT_STATUS (R32, R196)
  ⟨0x0, 0x10000, 1, 0x10000, 1, [⟨31, 31, .w1c, 0x0, false⟩, ⟨30, 30, .w1c, 0x0, false⟩, ⟨29, 29, .w1c, 0x0, false⟩, ⟨3, 3, .w1c, 0x0, false⟩, ⟨2, 2, .w1c, 0x0, false⟩, ⟨1, 1, .w1c, 0x0, false⟩, ⟨0, 0, .w1c, 0x0, false⟩]⟩,
  -- EVT_ENABLE_A (R32)
  ⟨0x4, 0x10000, 1, 0x10000, 1, [⟨31, 31, .rw, 0x0, false⟩, ⟨30, 30, .rw, 0x0, false⟩, ⟨29, 29, .rw, 0x0, false⟩, ⟨3, 3, .rw, 0x0, false⟩, ⟨2, 2, .rw, 0x0, false⟩, ⟨1, 1, .rw, 0x0, false⟩, ⟨0, 0, .rw, 0x0, false⟩]⟩,
  -- EVT_ENABLE_B (R32)
  ⟨0x8, 0x10000, 1, 0x10000, 1, [⟨31, 31, .rw, 0x0, false⟩, ⟨30, 30, .rw, 0x0, false⟩, ⟨29, 29, .rw, 0x0, false⟩, ⟨3, 3, .rw, 0x0, false⟩, ⟨2, 2, .rw, 0x0, false⟩, ⟨1, 1, .rw, 0x0, false⟩, ⟨0, 0, .rw, 0x0, false⟩]⟩,
  -- NL_CFG (R196)
  ⟨0x100, 0x10000, 1, 0x10000, 1, [⟨31, 31, .rw, 0x0, false⟩, ⟨30, 29, .rwx, 0x0, false⟩, ⟨28, 24, .rwx, 0x8, false⟩, ⟨11, 0, .rwx, 0x100, false⟩]⟩,
  -- NL_NCO (R196)
  ⟨0x104, 0x10000, 1, 0x10000, 1, [⟨31, 0, .rwx, 0x0, false⟩]⟩,
  -- NL_TIMING (R196)
  ⟨0x108, 0x10000, 1, 0x10000, 1, [⟨25, 16, .rwx, 0x64, false⟩, ⟨9, 0, .rwx, 0x2, false⟩]⟩,
  -- NL_OFFSET (R196)
  ⟨0x10C, 0x10000, 1, 0x10000, 1, [⟨31, 0, .rwx, 0x0, false⟩]⟩,
  -- NL_DET (R196)
  ⟨0x110, 0x10000, 1, 0x10000, 1, [⟨31, 16, .rwx, 0x2000, false⟩, ⟨15, 0, .rwx, 0x0, false⟩]⟩,
  -- NL_BUF (R196)
  ⟨0x114, 0x10000, 1, 0x10000, 1, [⟨31, 0, .rwx, 0x4000000, false⟩]⟩,
  -- NL_POST (R196)
  ⟨0x118, 0x10000, 1, 0x10000, 1, [⟨12, 0, .rwx, 0x0, false⟩]⟩,
  -- NL_STATUS (R196)
  ⟨0x120, 0x10000, 1, 0x10000, 1, [⟨31, 30, .ro, 0x0, false⟩, ⟨29, 29, .ro, 0x0, false⟩, ⟨2, 0, .ro, 0x0, false⟩]⟩,
  -- NL_ENERGY (R196)
  ⟨0x124, 0x10000, 1, 0x10000, 1, [⟨31, 16, .ro, 0x0, false⟩, ⟨15, 0, .ro, 0x0, false⟩]⟩,
  -- NL_CNT (R196)
  ⟨0x128, 0x10000, 1, 0x10000, 1, [⟨31, 16, .rw, 0x0, false⟩, ⟨15, 0, .rw, 0x0, false⟩]⟩,
  -- REF (R189/R196)
  ⟨0x2000, 0x4, 2048, 0x10000, 1, [⟨31, 16, .rwx, 0x0, false⟩, ⟨15, 0, .rwx, 0x0, false⟩]⟩]

/-- The register table of block TKC. -/
def Regs.TKC : List RegSpec :=
  [-- EVT_STATUS (R32, R397)
  ⟨0x0, 0x10000, 1, 0x10000, 1, [⟨31, 31, .w1c, 0x0, false⟩, ⟨30, 30, .w1c, 0x0, false⟩, ⟨29, 29, .w1c, 0x0, false⟩, ⟨3, 3, .w1c, 0x0, false⟩, ⟨2, 2, .w1c, 0x0, false⟩, ⟨1, 1, .w1c, 0x0, false⟩, ⟨0, 0, .w1c, 0x0, false⟩]⟩,
  -- EVT_ENABLE_A (R32)
  ⟨0x4, 0x10000, 1, 0x10000, 1, [⟨31, 31, .rw, 0x0, false⟩, ⟨30, 30, .rw, 0x0, false⟩, ⟨29, 29, .rw, 0x0, false⟩, ⟨3, 3, .rw, 0x0, false⟩, ⟨2, 2, .rw, 0x0, false⟩, ⟨1, 1, .rw, 0x0, false⟩, ⟨0, 0, .rw, 0x0, false⟩]⟩,
  -- EVT_ENABLE_B (R32)
  ⟨0x8, 0x10000, 1, 0x10000, 1, [⟨31, 31, .rw, 0x0, false⟩, ⟨30, 30, .rw, 0x0, false⟩, ⟨29, 29, .rw, 0x0, false⟩, ⟨3, 3, .rw, 0x0, false⟩, ⟨2, 2, .rw, 0x0, false⟩, ⟨1, 1, .rw, 0x0, false⟩, ⟨0, 0, .rw, 0x0, false⟩]⟩,
  -- FAULT_PEND_LO (R398)
  ⟨0x100, 0x10000, 1, 0x10000, 1, [⟨31, 0, .ro, 0x0, false⟩]⟩,
  -- FAULT_PEND_HI (R398)
  ⟨0x104, 0x10000, 1, 0x10000, 1, [⟨1, 0, .ro, 0x0, false⟩]⟩,
  -- VETO_LO (R398)
  ⟨0x108, 0x10000, 1, 0x10000, 1, [⟨31, 0, .ro, 0x0, false⟩]⟩,
  -- VETO_HI (R398)
  ⟨0x10C, 0x10000, 1, 0x10000, 1, [⟨1, 0, .ro, 0x0, false⟩]⟩,
  -- WDT_CFG (R398)
  ⟨0x110, 0x10000, 1, 0x10000, 1, [⟨1, 1, .rw, 0x0, false⟩, ⟨0, 0, .rw, 0x0, false⟩]⟩,
  -- BAR_MEM_LO (R421)
  ⟨0x400, 0x10, 16, 0x10000, 1, [⟨31, 0, .rw, 0x0, false⟩]⟩,
  -- BAR_MEM_HI (R421)
  ⟨0x404, 0x10, 16, 0x10000, 1, [⟨1, 0, .rw, 0x0, false⟩]⟩,
  -- BAR_STATUS (R421)
  ⟨0x408, 0x10, 16, 0x10000, 1, [⟨31, 24, .rw, 0x0, false⟩, ⟨23, 16, .ro, 0x0, false⟩, ⟨5, 0, .ro, 0x0, false⟩]⟩,
  -- C_CTRL (R399)
  ⟨0x1000, 0x40, 34, 0x10000, 1, [⟨31, 31, .w1s, 0x0, false⟩, ⟨30, 30, .w1s, 0x0, false⟩, ⟨29, 29, .w1s, 0x0, false⟩, ⟨28, 28, .w1s, 0x0, false⟩, ⟨27, 27, .w1s, 0x0, false⟩, ⟨26, 26, .w1s, 0x0, false⟩, ⟨0, 0, .rw, 0x0, false⟩]⟩,
  -- C_STATUS (R399)
  ⟨0x1004, 0x40, 34, 0x10000, 1, [⟨31, 28, .ro, 0x0, false⟩, ⟨27, 24, .ro, 0x0, false⟩, ⟨17, 16, .ro, 0x0, false⟩]⟩,
  -- C_START_PC (R399)
  ⟨0x1008, 0x40, 34, 0x10000, 1, [⟨15, 2, .rw, 0x0, false⟩]⟩,
  -- C_PC (R399)
  ⟨0x100C, 0x40, 34, 0x10000, 1, [⟨15, 2, .ro, 0x0, false⟩]⟩,
  -- C_FAULT_ADDR (R399)
  ⟨0x1010, 0x40, 34, 0x10000, 1, [⟨31, 0, .ro, 0x0, false⟩]⟩,
  -- C_WDT (R399)
  ⟨0x1014, 0x40, 34, 0x10000, 1, [⟨31, 16, .rw, 0x0, false⟩, ⟨15, 0, .rw, 0x0, false⟩]⟩,
  -- C_WDT_CNT (R399)
  ⟨0x1018, 0x40, 34, 0x10000, 1, [⟨15, 0, .ro, 0x0, false⟩]⟩,
  -- C_INT (R399)
  ⟨0x101C, 0x40, 34, 0x10000, 1, [⟨19, 2, .rw, 0x0, false⟩]⟩,
  -- C_INT_PEND (R399)
  ⟨0x1020, 0x40, 34, 0x10000, 1, [⟨9, 0, .ro, 0x0, false⟩]⟩] ++
  [-- C_CNT0 (R399)
  ⟨0x1024, 0x40, 34, 0x10000, 1, [⟨31, 0, .rw, 0x0, false⟩]⟩,
  -- C_CNT1 (R399)
  ⟨0x1028, 0x40, 34, 0x10000, 1, [⟨15, 0, .rw, 0x0, false⟩]⟩]

end Sys2Proof.Machine
end

