-- ==== Sys2Proof/Machine/Factory.lean ====
section
/-! DEFINITION. The NVM array as an M64 ships (R3, R489, R550 to R554, R557, R601 to R604).  R3 says what it holds and no values: those are the model's (DESIGN CHOICE,
log entry 82). -/

namespace Sys2Proof.Machine

/-- Bytes stored from an address, as the entries of a sparse memory. -/
def Factory.put (a : Nat) (l : List Nat) : List Host.Cell :=
  ((List.range l.length).zip l).filterMap (fun x => if x.2 = 0 then none else some (a + x.1, BitVec.ofNat 8 x.2))

/-- A number of n little-endian bytes. -/
def Factory.le (n v : Nat) : List Nat := (List.range n).map (fun i => v / 256 ^ i % 256)

/-- Slot A of a record, first written: header, CRC of its body, COMMIT and body (R551). -/
def Factory.rec (a id crc : Nat) (body : List Nat) : List Host.Cell :=
  Factory.put a (Factory.le 4 0x4E565243 ++ [id, 0, 0, 0] ++ Factory.le 4 1 ++ Factory.le 4 body.length ++ Factory.le 4 crc) ++
  Factory.put (a + 56) (Factory.le 8 0xC3A55AC3C3A55AC3) ++ Factory.put (a + 64) body

/-- CP0 and CP1: valid at 11,796,480 and 7,864,320 kHz, with no stored calibration (R489, R602). -/
def Factory.plans : List Nat := Factory.le 16 (2 ^ 31 + 11796480) ++ Factory.le 16 (2 ^ 31 + 7864320)

/-- The shipped array: one life-cycle word marked (Trimmed); POWERUP and CALSET valid with no entries, so that every value takes what R601 and R553 give a missing one;
PLANS with CP0 and CP1 and DEFAULT 0; the empty REGULATORY record with SEQ 1; and the factory values of CP0 and CP1 in the factory area. -/
def Factory.nvm : List Host.Cell :=
  Factory.put 0 (Factory.le 8 0x4C43000000000001) ++ Factory.rec 0x10000 1 0 [] ++
  Factory.rec 0x50000 2 0x318B093A (Factory.plans ++ List.replicate 232 0) ++
  Factory.rec 0x52000 3 0xDA3AF732 (List.replicate 64 0 ++ Factory.le 4 0x7FFF7FFF ++ Factory.le 4 0 ++ List.replicate 1024 0xFF) ++
  Factory.rec 0x60000 4 0 [] ++ Factory.put 0x1E0000 Factory.plans

end Sys2Proof.Machine
end

