-- ==== Sys2Proof/Machine/Isa.lean ====
section
/-! DEFINITION. The instructions of a Therik core as data, and the decoding of an instruction word (R400 to R426): a word with a reserved class or
operation, or with a 1 in a field marked 0, has none. -/

namespace Sys2Proof.Machine

/-- Operations of the ALU class with three register fields (R404). -/
inductive AluOp where
  | add | sub | and_ | or_ | xor_ | shl | shr | asr | min_ | max_ | abs_ | cmp | tst | mul16 | norm | cadd | csub | conj
  | aset | aadd | asub | ashr | aneg
deriving DecidableEq, Repr

/-- Operations of the ALU-immediate class with the fields RD, RA and IMM14 (R406). -/
inductive ImmOp where
  | addi | andi | ori | xori | shli | shri | asri | cmpi
deriving DecidableEq, Repr

/-- An instruction with its fields as numbers. -/
inductive Op where
  | alu (op : AluOp) (rd ra rb : Nat)
  | movr (dst src : Nat)
  | imm (op : ImmOp) (rd ra imm14 : Nat)
  | lui (rd imm16 : Nat)
  | lli (rd imm16 : Nat)
  | paddi (p imm14 : Nat)
  | movi (rd imm16 : Nat)
  | mac (op k : Nat) (cj ng : Bool) (xs ys : Nat)
  | load (w : Nat) (sx : Bool) (g p mode arg : Nat)
  | store (w g p mode arg : Nat)
  | dual (xst yst : Bool) (gx px ux gy py uy : Nat)
  | mvw (g a : Nat)
  | mvp (g a : Nat)
  | blkend
  | branch (cond off : Nat)
  | call (cond off : Nat)
  | ret (cond : Nat)
  | jump (cond g : Nat)
  | rpt (count : Nat)
  | rptr (g : Nat)
  | loop (lvl endw count : Nat)
  | loopr (lvl endw g : Nat)
  | send (gs ga gb : Nat)
  | recv (gs ga : Nat)
  | recvw (gs ga : Nat)
  | ring (gs gb : Nat)
  | acq (gs n : Nat)
  | tryacq (gs n : Nat)
  | rel (gs n : Nat)
  | bar (gs n : Nat)
  | push (blk lsel gs gh p : Nat)
  | seal (lsel gs : Nat)
  | wslot (lsel : Nat)
  | wsym (gs sym lsel : Nat)
  | ttgt (g lsel : Nat)
  | tnow (g lsel : Nat)
  | nop | reti | kick | stop | ei | di
  | veto (v : Bool)
  | brk
deriving DecidableEq, Repr

/-- The ALU operation of an OP code (R404). -/
def aluOf (op : Nat) : Option AluOp :=
  match op with
  | 0x01 => some .add | 0x02 => some .sub | 0x03 => some .and_ | 0x04 => some .or_ | 0x05 => some .xor_ | 0x06 => some .shl
  | 0x07 => some .shr | 0x08 => some .asr | 0x09 => some .min_ | 0x0A => some .max_ | 0x0B => some .abs_ | 0x0C => some .cmp
  | 0x0D => some .tst | 0x0E => some .mul16 | 0x0F => some .norm | 0x10 => some .cadd | 0x11 => some .csub | 0x12 => some .conj
  | 0x20 => some .aset | 0x21 => some .aadd | 0x22 => some .asub | 0x23 => some .ashr | 0x24 => some .aneg
  | _ => none

/-- The ALU-immediate operation of an OP code (R406). -/
def immOf (op : Nat) : Option ImmOp :=
  match op with
  | 0x01 => some .addi | 0x03 => some .andi | 0x04 => some .ori | 0x05 => some .xori | 0x06 => some .shli | 0x07 => some .shri
  | 0x08 => some .asri | 0x0C => some .cmpi
  | _ => none

/-- An instruction where a condition on its fields holds. -/
def onlyIf (c : Bool) (o : Op) : Option Op := if c then some o else none

/-- ALU class (R404, R405). -/
def decodeAlu (w : Nat) : Option Op :=
  if bits w 27 22 = 0x30 then onlyIf (bits w 9 0 == 0) (.movr (bits w 21 16) (bits w 15 10))
  else match aluOf (bits w 27 22) with
    | some o => onlyIf (bits w 9 0 == 0) (.alu o (bits w 21 18) (bits w 17 14) (bits w 13 10))
    | none => none

/-- ALU-immediate class (R406). -/
def decodeImm (w : Nat) : Option Op :=
  match bits w 27 22 with
  | 0x31 => some (.lui (bits w 21 16) (bits w 15 0))
  | 0x32 => some (.lli (bits w 21 16) (bits w 15 0))
  | 0x33 => onlyIf (bits w 21 21 == 0 && bits w 17 14 == 0) (.paddi (bits w 20 18) (bits w 13 0))
  | 0x34 => some (.movi (bits w 21 16) (bits w 15 0))
  | op => match immOf op with
    | some o => some (.imm o (bits w 21 18) (bits w 17 14) (bits w 13 0))
    | none => none

/-- Load and store class (R409, R410). -/
def decodeMem (w : Nat) : Option Op :=
  match bits w 27 26 with
  | 0 => some (.load (bits w 25 24) (w.testBit 23) (bits w 22 19) (bits w 18 16) (bits w 15 13) (bits w 12 0))
  | 1 => onlyIf (!w.testBit 23) (.store (bits w 25 24) (bits w 22 19) (bits w 18 16) (bits w 15 13) (bits w 12 0))
  | 2 => onlyIf (bits w 3 0 == 0)
      (.dual (w.testBit 25) (w.testBit 24) (bits w 23 20) (bits w 19 17) (bits w 16 14) (bits w 13 10) (bits w 9 7) (bits w 6 4))
  | _ => none

/-- Scaled moves (R411). -/
def decodeMove (w : Nat) : Option Op :=
  if bits w 18 0 ≠ 0 then none
  else match bits w 27 26 with
    | 0 => some (.mvw (bits w 25 22) (bits w 21 19))
    | 1 => some (.mvp (bits w 25 22) (bits w 21 19))
    | 2 => onlyIf (bits w 25 19 == 0) .blkend
    | _ => none

/-- Branches (R412). -/
def decodeBranch (w : Nat) : Option Op :=
  match bits w 23 22 with
  | 0 => some (.branch (bits w 27 24) (bits w 21 0))
  | 1 => some (.call (bits w 27 24) (bits w 21 0))
  | 2 => onlyIf (bits w 21 0 == 0) (.ret (bits w 27 24))
  | _ => onlyIf (bits w 17 0 == 0) (.jump (bits w 27 24) (bits w 21 18))

/-- Repeats and loops (R414). -/
def decodeRepeat (w : Nat) : Option Op :=
  match bits w 27 26 with
  | 0 => onlyIf (bits w 25 12 == 0) (.rpt (bits w 11 0 + 1))
  | 1 => onlyIf (bits w 25 24 == 0 && bits w 19 0 == 0) (.rptr (bits w 23 20))
  | 2 => some (.loop (bits w 25 25) (bits w 24 12) (bits w 11 0 + 1))
  | _ => onlyIf (bits w 11 4 == 0) (.loopr (bits w 25 25) (bits w 24 12) (bits w 3 0))

/-- Sync class (R417): the fields that an operation does not use must be 0. -/
def decodeSync (w : Nat) : Option Op :=
  let gs := bits w 23 20
  let ga := bits w 19 16
  let gb := bits w 15 12
  let n := bits w 11 6
  if bits w 5 0 ≠ 0 then none
  else match bits w 27 24 with
    | 0 => onlyIf (n == 0) (.send gs ga gb)
    | 1 => onlyIf (gb == 0 && n == 0) (.recv gs ga)
    | 2 => onlyIf (gb == 0 && n == 0) (.recvw gs ga)
    | 3 => onlyIf (ga == 0 && n == 0) (.ring gs gb)
    | 4 => onlyIf (ga == 0 && gb == 0) (.acq gs n)
    | 5 => onlyIf (ga == 0 && gb == 0) (.tryacq gs n)
    | 6 => onlyIf (ga == 0 && gb == 0) (.rel gs n)
    | 7 => onlyIf (ga == 0 && gb == 0) (.bar gs n)
    | _ => none

/-- Accelerator commands (R422, R424). -/
def decodeAcc (w : Nat) : Option Op :=
  let lsel := bits w 20 20
  if bits w 8 0 ≠ 0 then none
  else match bits w 22 21 with
    | 0 => some (.push (bits w 27 23) lsel (bits w 19 16) (bits w 15 12) (bits w 11 9))
    | 1 => onlyIf (bits w 27 23 == 0 && bits w 15 12 == 0 && bits w 11 9 == 0) (.seal lsel (bits w 19 16))
    | _ => none

/-- Timeline class (R425): the fields that an operation does not use must be 0. -/
def decodeTime (w : Nat) : Option Op :=
  let g := bits w 23 20
  let gs := bits w 19 16
  let sym := bits w 15 12
  let lsel := bits w 11 11
  if bits w 10 0 ≠ 0 then none
  else match bits w 27 24 with
    | 0 => onlyIf (g == 0 && gs == 0 && sym == 0) (.wslot lsel)
    | 1 => onlyIf (g == 0) (.wsym gs sym lsel)
    | 2 => onlyIf (gs == 0 && sym == 0) (.ttgt g lsel)
    | 3 => onlyIf (gs == 0 && sym == 0) (.tnow g lsel)
    | _ => none

/-- System class (R426). -/
def decodeSys (w : Nat) : Option Op :=
  if bits w 23 1 ≠ 0 then none
  else match bits w 27 24, w.testBit 0 with
    | 0, false => some .nop
    | 1, false => some .reti
    | 2, false => some .kick
    | 3, false => some .stop
    | 4, false => some .ei
    | 5, false => some .di
    | 6, v => some (.veto v)
    | 7, false => some .brk
    | _, _ => none

/-- The instruction of a word, none where its class or operation code is reserved or a field marked 0 holds a 1 (R400, R401). -/
def decodeOp (w : Nat) : Option Op :=
  match bits w 31 28 with
  | 0 => decodeAlu w
  | 1 => decodeImm w
  | 2 => onlyIf (bits w 27 25 ≤ 3 && !w.testBit 0) (.mac (bits w 27 25) (bits w 24 23) (w.testBit 22) (w.testBit 21) (bits w 20 11) (bits w 10 1))
  | 3 => decodeMem w
  | 4 => decodeMove w
  | 5 => decodeBranch w
  | 6 => decodeRepeat w
  | 7 => decodeSync w
  | 8 => decodeAcc w
  | 9 => decodeTime w
  | 10 => decodeSys w
  | _ => none

/-! ## The word of an instruction -/

/-- The OP code of an ALU operation (R404). -/
def aluCode (op : AluOp) : Nat :=
  match op with
  | .add => 0x01 | .sub => 0x02 | .and_ => 0x03 | .or_ => 0x04 | .xor_ => 0x05 | .shl => 0x06
  | .shr => 0x07 | .asr => 0x08 | .min_ => 0x09 | .max_ => 0x0A | .abs_ => 0x0B | .cmp => 0x0C
  | .tst => 0x0D | .mul16 => 0x0E | .norm => 0x0F | .cadd => 0x10 | .csub => 0x11 | .conj => 0x12
  | .aset => 0x20 | .aadd => 0x21 | .asub => 0x22 | .ashr => 0x23 | .aneg => 0x24

/-- The OP code of an ALU-immediate operation (R406). -/
def immCode (op : ImmOp) : Nat :=
  match op with
  | .addi => 0x01 | .andi => 0x03 | .ori => 0x04 | .xori => 0x05 | .shli => 0x06 | .shri => 0x07
  | .asri => 0x08 | .cmpi => 0x0C


/-- The word of an instruction (R400 to R426). -/
def encodeOp (o : Op) : Nat :=
  match o with
  | .alu op rd ra rb => 2 ^ 22 * aluCode op + 2 ^ 18 * rd + 2 ^ 14 * ra + 2 ^ 10 * rb
  | .movr dst src => 2 ^ 22 * 0x30 + 2 ^ 16 * dst + 2 ^ 10 * src
  | .imm op rd ra i => 2 ^ 28 * 1 + 2 ^ 22 * immCode op + 2 ^ 18 * rd + 2 ^ 14 * ra + i
  | .lui rd i => 2 ^ 28 * 1 + 2 ^ 22 * 0x31 + 2 ^ 16 * rd + i
  | .lli rd i => 2 ^ 28 * 1 + 2 ^ 22 * 0x32 + 2 ^ 16 * rd + i
  | .paddi p i => 2 ^ 28 * 1 + 2 ^ 22 * 0x33 + 2 ^ 18 * p + i
  | .movi rd i => 2 ^ 28 * 1 + 2 ^ 22 * 0x34 + 2 ^ 16 * rd + i
  | .mac op k cj ng x y => 2 ^ 28 * 2 + 2 ^ 25 * op + 2 ^ 23 * k + 2 ^ 22 * b2n cj + 2 ^ 21 * b2n ng + 2 ^ 11 * x + 2 * y
  | .load w sx g p mode arg => 2 ^ 28 * 3 + 2 ^ 24 * w + 2 ^ 23 * b2n sx + 2 ^ 19 * g + 2 ^ 16 * p + 2 ^ 13 * mode + arg
  | .store w g p mode arg => 2 ^ 28 * 3 + 2 ^ 26 * 1 + 2 ^ 24 * w + 2 ^ 19 * g + 2 ^ 16 * p + 2 ^ 13 * mode + arg
  | .dual xst yst gx px ux gy py uy => 2 ^ 28 * 3 + 2 ^ 26 * 2 + 2 ^ 25 * b2n xst + 2 ^ 24 * b2n yst + 2 ^ 20 * gx + 2 ^ 17 * px + 2 ^ 14 * ux +
      2 ^ 10 * gy + 2 ^ 7 * py + 2 ^ 4 * uy
  | .mvw g a => 2 ^ 28 * 4 + 2 ^ 22 * g + 2 ^ 19 * a
  | .mvp g a => 2 ^ 28 * 4 + 2 ^ 26 * 1 + 2 ^ 22 * g + 2 ^ 19 * a
  | .blkend => 2 ^ 28 * 4 + 2 ^ 26 * 2
  | .branch c off => 2 ^ 28 * 5 + 2 ^ 24 * c + off
  | .call c off => 2 ^ 28 * 5 + 2 ^ 24 * c + 2 ^ 22 * 1 + off
  | .ret c => 2 ^ 28 * 5 + 2 ^ 24 * c + 2 ^ 22 * 2
  | .jump c g => 2 ^ 28 * 5 + 2 ^ 24 * c + 2 ^ 22 * 3 + 2 ^ 18 * g
  | .rpt n => 2 ^ 28 * 6 + (n - 1)
  | .rptr g => 2 ^ 28 * 6 + 2 ^ 26 * 1 + 2 ^ 20 * g
  | .loop lvl e n => 2 ^ 28 * 6 + 2 ^ 26 * 2 + 2 ^ 25 * lvl + 2 ^ 12 * e + (n - 1)
  | .loopr lvl e g => 2 ^ 28 * 6 + 2 ^ 26 * 3 + 2 ^ 25 * lvl + 2 ^ 12 * e + g
  | .send gs ga gb => 2 ^ 28 * 7 + 2 ^ 20 * gs + 2 ^ 16 * ga + 2 ^ 12 * gb
  | .recv gs ga => 2 ^ 28 * 7 + 2 ^ 24 * 1 + 2 ^ 20 * gs + 2 ^ 16 * ga
  | .recvw gs ga => 2 ^ 28 * 7 + 2 ^ 24 * 2 + 2 ^ 20 * gs + 2 ^ 16 * ga
  | .ring gs gb => 2 ^ 28 * 7 + 2 ^ 24 * 3 + 2 ^ 20 * gs + 2 ^ 12 * gb
  | .acq gs n => 2 ^ 28 * 7 + 2 ^ 24 * 4 + 2 ^ 20 * gs + 2 ^ 6 * n
  | .tryacq gs n => 2 ^ 28 * 7 + 2 ^ 24 * 5 + 2 ^ 20 * gs + 2 ^ 6 * n
  | .rel gs n => 2 ^ 28 * 7 + 2 ^ 24 * 6 + 2 ^ 20 * gs + 2 ^ 6 * n
  | .bar gs n => 2 ^ 28 * 7 + 2 ^ 24 * 7 + 2 ^ 20 * gs + 2 ^ 6 * n
  | .push blk lsel gs gh p => 2 ^ 28 * 8 + 2 ^ 23 * blk + 2 ^ 20 * lsel + 2 ^ 16 * gs + 2 ^ 12 * gh + 2 ^ 9 * p
  | .seal lsel gs => 2 ^ 28 * 8 + 2 ^ 21 * 1 + 2 ^ 20 * lsel + 2 ^ 16 * gs
  | .wslot lsel => 2 ^ 28 * 9 + 2 ^ 11 * lsel
  | .wsym gs sym lsel => 2 ^ 28 * 9 + 2 ^ 24 * 1 + 2 ^ 16 * gs + 2 ^ 12 * sym + 2 ^ 11 * lsel
  | .ttgt g lsel => 2 ^ 28 * 9 + 2 ^ 24 * 2 + 2 ^ 20 * g + 2 ^ 11 * lsel
  | .tnow g lsel => 2 ^ 28 * 9 + 2 ^ 24 * 3 + 2 ^ 20 * g + 2 ^ 11 * lsel
  | .nop => 2 ^ 28 * 10
  | .reti => 2 ^ 28 * 10 + 2 ^ 24 * 1
  | .kick => 2 ^ 28 * 10 + 2 ^ 24 * 2
  | .stop => 2 ^ 28 * 10 + 2 ^ 24 * 3
  | .ei => 2 ^ 28 * 10 + 2 ^ 24 * 4
  | .di => 2 ^ 28 * 10 + 2 ^ 24 * 5
  | .veto v => 2 ^ 28 * 10 + 2 ^ 24 * 6 + b2n v
  | .brk => 2 ^ 28 * 10 + 2 ^ 24 * 7

/-- Every field of an instruction lies within its width (R404 to R426). -/
def Op.fits (o : Op) : Bool :=
  let all := fun (l : List (Nat × Nat)) => l.all (fun p => decide (p.1 < 2 ^ p.2))
  match o with
  | .alu _ rd ra rb => all [(rd, 4), (ra, 4), (rb, 4)]
  | .movr dst src => all [(dst, 6), (src, 6)]
  | .imm _ rd ra i => all [(rd, 4), (ra, 4), (i, 14)]
  | .lui rd i | .lli rd i | .movi rd i => all [(rd, 6), (i, 16)]
  | .paddi p i => all [(p, 3), (i, 14)]
  | .mac op k _ _ x y => all [(op, 2), (k, 2), (x, 10), (y, 10)]
  | .load w _ g p mode arg | .store w g p mode arg => all [(w, 2), (g, 4), (p, 3), (mode, 3), (arg, 13)]
  | .dual _ _ gx px ux gy py uy => all [(gx, 4), (px, 3), (ux, 3), (gy, 4), (py, 3), (uy, 3)]
  | .mvw g a | .mvp g a => all [(g, 4), (a, 3)]
  | .branch c off | .call c off => all [(c, 4), (off, 22)]
  | .ret c => all [(c, 4)]
  | .jump c g => all [(c, 4), (g, 4)]
  | .rpt n => decide (1 ≤ n) && decide (n ≤ 4096)
  | .rptr g => all [(g, 4)]
  | .loop lvl e n => all [(lvl, 1), (e, 13)] && decide (1 ≤ n) && decide (n ≤ 4096)
  | .loopr lvl e g => all [(lvl, 1), (e, 13), (g, 4)]
  | .send gs ga gb => all [(gs, 4), (ga, 4), (gb, 4)]
  | .recv gs ga | .recvw gs ga => all [(gs, 4), (ga, 4)]
  | .ring gs gb => all [(gs, 4), (gb, 4)]
  | .acq gs n | .tryacq gs n | .rel gs n | .bar gs n => all [(gs, 4), (n, 6)]
  | .push blk lsel gs gh p => all [(blk, 5), (lsel, 1), (gs, 4), (gh, 4), (p, 3)]
  | .seal lsel gs => all [(lsel, 1), (gs, 4)]
  | .wslot lsel => all [(lsel, 1)]
  | .wsym gs sym lsel => all [(gs, 4), (sym, 4), (lsel, 1)]
  | .ttgt g lsel | .tnow g lsel => all [(g, 4), (lsel, 1)]
  | .blkend | .nop | .reti | .kick | .stop | .ei | .di | .veto _ | .brk => true

/-- Whether a 6-bit register code names a register (R402). -/
def codeOk (c : Nat) : Bool := c < 0x28 || (0x30 ≤ c && c < 0x40)

/-- A register code that a move or an immediate may write (R405): not PC, SPC, SSR, CID or BLK. -/
def destOk (c : Nat) : Bool := codeOk c && c != 0x30 && c != 0x36 && c != 0x37 && c != 0x3E && c != 0x3F

/-- An operand spec of a MAC (R407). -/
def specOk (x : Nat) : Bool :=
  if x.testBit 9 then
    !x.testBit 0 && (!x.testBit 2 || (bits x 8 6 ≤ 3 && bits x 5 3 != 0)) && (!x.testBit 1 || (4 ≤ bits x 5 3 && !x.testBit 2))
  else !x.testBit 8 && bits x 3 0 == 0

/-- Addressing fields of a single access (R409). -/
def modeOk (p mode arg : Nat) : Bool :=
  match mode with
  | 0 => arg == 0
  | 1 => bits arg 12 8 == 0
  | 2 => bits arg 12 4 == 0
  | 3 | 6 => bits arg 12 2 == 0
  | 4 => bits arg 12 4 == 0 && p ≤ 3
  | 5 => bits arg 12 2 == 0 && p ≤ 3
  | _ => false

/-- The fields of an instruction name registers it allows, and its fields that must be 0 are 0 (R401 to R424). -/
def Op.ok (o : Op) (core : Nat) (deployed : Bool) : Bool :=
  match o with
  | .alu op rd ra rb =>
    (match op with
     | .cmp | .tst => rd == 0
     | .abs_ | .norm | .conj => rb == 0
     | .aset | .ashr => rb == 0 && rd ≤ 7
     | .aadd | .asub => rb == 0 && rd ≤ 7 && ra ≤ 7
     | .aneg => rb == 0 && ra == 0 && rd ≤ 7
     | _ => true)
  | .movr dst src => destOk dst && codeOk src && !(0x10 ≤ src && src < 0x18)
  | .imm op rd _ imm14 =>
    (match op with
     | .shli | .shri | .asri => bits imm14 13 5 == 0
     | .cmpi => rd == 0
     | _ => true)
  | .lui rd _ | .movi rd _ => destOk rd
  | .lli rd _ => destOk rd && !(0x10 ≤ rd && rd < 0x18)
  | .mac op _ cj _ xs ys => (!cj || op == 0 || op == 2) && specOk xs && specOk ys
  | .load w sx g p mode arg => modeOk p mode arg && (!sx || w ≤ 1) && (w != 3 || g % 2 == 0)
  | .store w g p mode arg => modeOk p mode arg && (w != 3 || g % 2 == 0)
  | .dual _ _ _ px ux _ py uy => (!(ux == 5 || ux == 6) || px ≤ 3) && (!(uy == 5 || uy == 6) || py ≤ 3)
  | .mvp _ a => a % 2 == 0
  | .loop _ e _ | .loopr _ e _ => 1 ≤ e
  | .send _ ga _ | .recv _ ga => ga % 2 == 0
  | .recvw _ ga => ga % 2 == 0
  | .bar _ n => n ≤ 15
  | .push blk lsel _ _ _ => [10, 14, 15, 16, 17, 18, 19, 26].contains blk && (2 ≤ core || lsel == core)
  | .seal lsel _ => core ≤ 1 && lsel == core
  | .wslot lsel | .wsym _ _ lsel | .ttgt _ lsel | .tnow _ lsel =>
    (2 ≤ core || lsel == core) && (match o with
      | .wsym _ sym _ => sym ≤ 13
      | _ => true)
  | .brk => !deployed
  | _ => true

/-- A branch, call, return, RETI or RPT (R381, R416). -/
def Op.isJump (o : Op) : Bool :=
  match o with
  | .branch _ _ | .call _ _ | .ret _ | .jump _ _ | .reti | .rpt _ | .rptr _ => true
  | _ => false

/-- A system instruction (R426). -/
def Op.isSys (o : Op) : Bool :=
  match o with
  | .nop | .reti | .kick | .stop | .ei | .di | .veto _ | .brk => true
  | _ => false

/-- A sync, timeline or accelerator-command instruction. -/
def Op.isSync (o : Op) : Bool :=
  match o with
  | .send _ _ _ | .recv _ _ | .recvw _ _ | .ring _ _ | .acq _ _ | .tryacq _ _ | .rel _ _ | .bar _ _ | .push _ _ _ _ _ | .seal _ _
  | .wslot _ | .wsym _ _ _ | .ttgt _ _ | .tnow _ _ => true
  | _ => false

/-- A wait (R419, R425). -/
def Op.isWait (o : Op) : Bool :=
  match o with
  | .recvw _ _ | .acq _ _ | .bar _ _ | .wslot _ | .wsym _ _ _ => true
  | _ => false

/-- The instruction may stand in a delay slot (R380, R419; NOP is a system instruction too, log entry 29). -/
def Op.slotOk (o : Op) : Bool := !(o.isJump || o.isSys || o.isWait)

/-- The instruction may be repeated (R381). -/
def Op.repeatOk (o : Op) : Bool := !(o.isJump || o.isSys || o.isSync)

end Sys2Proof.Machine
end

