-- ==== Sys2Proof/Machine/State.lean ====
section
/-! DEFINITION. The state of the machine as plain data, the reasons a step can stop, and the state right after reset. -/

namespace Sys2Proof.Machine

/-- Why the machine stops with a fault.  The model has none: every command of the table has an effect the spec gives. -/
inductive Fault where
  /-- Raised by no command: kept so that the type of faults is not empty.  Safe. -/
  | none
deriving DecidableEq, Repr

/-- Why a command has no meaning. -/
inductive Refusal where
  /-- A command whose meaning is not written yet; raised by its arm of exec.  Safe. -/
  | notModelled (mnemonic : String)
deriving DecidableEq, Repr

/-- The answer the machine gives to the last access made to it: an error cause of R578 (0: none) and the data read. -/
structure Resp where
  err : Nat := 0
  data : Nat := 0
deriving DecidableEq, Repr

/-! ## Timeline and time bases (chapters 1 and 6) -/

/-- An open delay request-response exchange of a slave base (R178); stamps in 1/16 ns of extended time. -/
structure Exchange where
  num : Nat := 0
  t1 : Nat := 0
  t2 : Nat := 0
  t3 : Nat := 0
  opened : Nat := 0
deriving DecidableEq, Repr

/-- A time base (R172): its extended count tally : ns : fraction in units of 2^-32 ns, and its servo (R179). -/
structure TimeBase where
  val : Nat := 0
  exch : Option Exchange := none
  syncRef : Nat := 0
  missK : Nat := 0
  stepped : Bool := false
  lockRun : Nat := 0
  missRun : Nat := 0
  integ : Int := 0
  freqHist : List Int := []
  exchNo : Nat := 0
  /-- first instants at which the next SYNC of this base leaves on each port (R178) -/
  syncDue : List Nat := [0, 0, 0, 0, 0, 0]
deriving DecidableEq, Repr

/-- The air timeline (R181 to R188), the positions processed on the grids, and the network-listen receiver. -/
structure TimState where
  bases : List TimeBase := [{}, {}, {}, {}]
  /-- instant at which frame `frame0` began, while the state is RUN or COAST -/
  t0 : Nat := 0
  frame0 : Nat := 0
  /-- timeline time minus followed base, and the part of it that is the residual of R184, in 2^-32 ns -/
  err : Int := 0
  residual : Int := 0
  /-- absolute index since t0 of the next slot boundary of each leader core and the next symbol of each carrier -/
  slotIdx : List Nat := [0, 0]
  symIdx : List Nat := [0, 0, 0, 0]
  /-- SYNC_IN: edges in a row inside the window, instant of the last edge, and whether SYNC_IN is followed now -/
  syncRun : Nat := 0
  syncLast : Nat := 0
  syncOn : Bool := false
  /-- SYNC_OUT level rises given, with the width of the last pulse in ns (R186) -/
  syncOut : Nat := 0
  syncWidth : Nat := 0
  /-- first instant at which the next pulse may fall; timeline time minus the followed base while SYNC_IN is followed -/
  syncAt : Nat := 0
  baseErr : Int := 0
  /-- REFCLK time since the last advance of the bases, in 2^-32 of 1/384 ns (R172) -/
  refRem : Nat := 0
  /-- rate of SYNC_IN against REFCLK in 2^-32 while it is followed (R183), and edges in a row within 50 ps (R187) -/
  syncRate : Int := 0
  syncNear : Nat := 0
  /-- whole frames by which a late start is moved, and the instant since which the start is awaited on the present count (R182) -/
  startK : Nat := 0
  startFrom : Nat := 0
  /-- first instant at which TL_ALT_OFFSET is measured next (R184) -/
  altAt : Nat := 0
  /-- predicted preamble instant of the network-listen receiver on TB2, in 1/16 ns, whether the window in progress has its detection, and the end of the last time in
  which the device transmitted or turned round (R190, R192) -/
  nlPredict : Nat := 0
  nlSeen : Bool := false
  nlTxAt : Nat := 0
deriving DecidableEq, Repr

/-- A command in a staging or live table (R18, R19): its block, the leader core of the table, the issuing core and the
header fields. -/
structure CmdEntry where
  blk : Nat
  leader : Nat
  issuer : Nat
  trig : Nat
  carrier : Nat
  op : Nat
  payload : List Word := []
  /-- the block has fetched it -/
  done : Bool := false
deriving DecidableEq, Repr

/-- Staging state of one leader core: its table is sealed, layers were trimmed, the scheduling content is fixed, the cut-off has
passed, whether the leader has a staging target, and whether the slot in progress runs without a sealed table (R15, R16, R322, R599, R600). -/
structure LeaderSt where
  sealed : Bool := false
  trimmed : Bool := false
  fixed : Bool := false
  cutoff : Bool := false
  target : Bool := false
  missed : Bool := false
deriving DecidableEq, Repr

/-- What armed fields wait for: after a register commit at an instant the boundaries of R14 from 2.0 µs later (R27); after a COMMIT command the
boundaries of its carrier from its trigger symbol on, counted from the start of the grid (R22). -/
inductive ArmTrig where
  | commit (since : Nat)
  | command (carrier : Nat) (index : Nat)
deriving DecidableEq, Repr

/-- A register of an armed copy (R27): the armed word, and what its symbol-boundary and its slot-boundary fields still wait for. -/
structure ArmedReg where
  addr : Nat
  val : Nat
  sym : List ArmTrig
  slot : List ArmTrig
deriving DecidableEq, Repr

/-! ## Faults (chapter 22) -/

/-- An entry of the fault log (R568, R572). -/
structure FltEntry where
  inj : Bool
  sev : Nat
  det : Nat
  param : Nat
  frame : Nat
  slot : Nat
  tb0 : Nat
deriving DecidableEq, Repr

/-- An injection armed at a detector (R570). -/
structure Injection where
  det : Nat
  param : Nat
  double : Bool
  addr : Nat
deriving DecidableEq, Repr

structure FltState where
  log : List FltEntry := []
  injs : List Injection := []
  windowEnd : Nat := 0
deriving DecidableEq, Repr

/-! ## The Rope (chapters 4 and 5) -/

/-- A frame on the line: its contents, the check value and marks of its tail (R135), and the input it came from
(6: this device). -/
structure LineFrame where
  fr : Frame
  len : Nat := 0
  inp : Nat := 6
  pcrc : Nat := 0
  poison : Bool := false
  cut : Bool := false
  poisonAt : Nat := 0
  hcrcBad : Bool := false
deriving DecidableEq, Repr

/-- A frame whose header has passed its check and whose tail has not arrived: the outputs it was routed to (6: local
delivery; R139, R142), the instant of its header (R159), and its receive stamps on TB0 and TB1 (R180). -/
structure RxFrame where
  hdr : Frame
  len : Nat := 0
  outs : List Nat := []
  at_ : Nat := 0
  stamps : List Nat := []
deriving DecidableEq, Repr

/-- A cairn period as a port's transmitter sent it: scrambler states and stuffing runs of the eight lanes at its start, the words of the stream striped over
the lanes, and the kinds and the SIG value of the cairns behind them (R95 to R103). -/
structure TxPeriod where
  scr : List Nat
  run : List (Nat × Nat)
  words : List Nat
  kinds : List Nat
  sig : Nat
  /-- the cairn behind a wake pattern, with no payload before it (R112) -/
  bare : Bool := false
deriving DecidableEq, Repr

/-- Where the receiver stands in the stream of words (R131, R135, R136): the last word was idle, the first word of a header is in, and the words of payload
and tail still to come with those that came. -/
structure RxStream where
  idle : Bool := false
  head : Option Nat := none
  need : Nat := 0
  got : List Nat := []
deriving DecidableEq, Repr

/-- One port: scrambler and stuffing state of its lanes, cairn lock, signal, sleep handshake, credit state, the output's
frame and queue, and the lane pattern checkers (R96 to R125, R139 to R146). -/
structure PortSt where
  /-- transmitter: scrambler states and stuffing runs of the lanes, the words that wait for a cairn period, the start of the period in progress, the normal
  cairns since the last compensation cairn, the period sent last, and the word of a bond's stripe that comes next -/
  txScr : List Nat := [0, 0, 0, 0, 0, 0, 0, 0]
  txRun : List (Nat × Nat) := [(0, 0), (0, 0), (0, 0), (0, 0), (0, 0), (0, 0), (0, 0), (0, 0)]
  txWords : List Nat := []
  txAt : Nat := 0
  txNorm : Nat := 0
  txLast : Option TxPeriod := none
  stripe : Nat := 0
  /-- receiver: scrambler states and stuffing runs of the lanes, good and missing cairns in a row, the normal cairns since the last compensation cairn once one
  has been seen, the words of a bond's member that wait for the other's, and the place in the stream -/
  rxScr : List Nat := [0, 0, 0, 0, 0, 0, 0, 0]
  runBit : List (Nat × Nat) := [(0, 0), (0, 0), (0, 0), (0, 0), (0, 0), (0, 0), (0, 0), (0, 0)]
  lockRun : List Nat := [0, 0, 0, 0, 0, 0, 0, 0]
  missRun : List Nat := [0, 0, 0, 0, 0, 0, 0, 0]
  rxNorm : Option Nat := none
  rxWords : List Nat := []
  rxAt : RxStream := {}
  /-- what a receive stamp takes off: skew of the lanes in UI, elastic-buffer fill in UI, and the age of the word in progress in units of an instant (R180) -/
  skew : Nat := 0
  fill : Int := 0
  rxLag : Nat := 0
  /-- far loop-back: the last 64 received bits of each lane, on their way to its transmitter, and the bits sent again last -/
  farBits : List (List Bool) := [[], [], [], [], [], [], [], []]
  farOut : List (List Bool) := [[], [], [], [], [], [], [], []]
  /-- the lanes are held in electrical idle by a thermal shutdown -/
  idle : Bool := false
  /-- training: the port sends training cairns and trains when the partner's come; the receive side is complete; the partner's READY came -/
  seeking : Bool := false
  trainAt : Nat := 0
  rxDone : Bool := false
  readyGot : Bool := false
  sigSince : Option Nat := none
  losSince : List (Option Nat) := [none, none, none, none, none, none, none, none]
  /-- the SIG value sent in cairns, and the cairn periods for which it is still held -/
  sig : Nat := 0
  sigHold : Nat := 0
  /-- requests that wait for their answer, with their instants: sleep of the outgoing and of the incoming direction, wake of the incoming one, deep state -/
  reqTx : Option Nat := none
  reqRx : Option Nat := none
  reqWake : Option Nat := none
  reqDeep : Option Nat := none
  /-- values owed to the partner, the answers that came, and a wake asked for behind a sleep that completes -/
  oweReady : Bool := false
  oweAck : Bool := false
  oweDeep : Bool := false
  ackGot : Bool := false
  deepOk : Bool := false
  deepAgreed : Bool := false
  wakeAfter : Bool := false
  deepExitAt : Nat := 0
  txWakeAt : Nat := 0
  wakeAt : Nat := 0
  partner : Nat := 0
  upAt : Nat := 0
  alloc : List Nat := []
  cum : List Nat := [0, 0, 0, 0, 0, 0, 0, 0]
  sent : List Nat := [0, 0, 0, 0, 0, 0, 0, 0]
  freed : List Nat := [0, 0, 0, 0, 0, 0, 0, 0]
  announced : Bool := false
  passed : List Nat := [0, 0, 0, 0, 0, 0, 0, 0]
  lastIn : List Nat := [6, 6, 6, 6, 6, 6, 6, 6]
  rx : Option RxFrame := none
  busy : Option LineFrame := none
  queue : List LineFrame := []
  /-- cairn sets still to be sent, and to come, until the stripe of the bond changes, the members that the partner named, and an announcement that waits for the
  partner's address (R154) -/
  bondIn : Nat := 0
  bondRx : Nat := 0
  bondMask : Nat := 0
  bondWait : Bool := false
  /-- bits that the pattern generator of each lane has sent to its own receiver -/
  genPos : List Nat := [0, 0, 0, 0, 0, 0, 0, 0]
  chkWin : List Nat := [0, 0, 0, 0, 0, 0, 0, 0]
  injMiss : List Nat := [0, 0, 0, 0, 0, 0, 0, 0]
  patInv : List Nat := [0, 0, 0, 0, 0, 0, 0, 0]
deriving DecidableEq, Repr

/-! ## Receive path (chapter 7) -/

/-- Receive work of RX_SYM in its symbols (R218): instants of its first and behind its last symbol. -/
structure RxJob where
  carrier : Nat
  slot : Nat
  trig : Nat
  nsym : Nat
  dest : Nat
  mask : Nat
  addr : Nat
deriving DecidableEq, Repr

/-- A receive path: peak of its present and previous receive period, the marks that open the next period, the attacks that the last symbol and the one before it ask
for, the last GAIN_SET with its instant, the blocker run, and for each carrier the envelope with 8 fraction bits and the samples still to be blanked after a hit
(R206, R207, R209, R212, R213, R219). -/
structure RxPath where
  pk : Option Nat := none
  lastPk : Option Nat := none
  newPeriod : Bool := true
  attack : Bool := false
  attackDue : Bool := false
  gainChg : Bool := false
  manSet : Option Nat := none
  setAt : Option Nat := none
  hang : List Nat := [0, 0, 0, 0]
  blkRun : Nat := 0
  worked : Bool := false
  env : List Nat := [0, 0, 0, 0]
deriving DecidableEq, Repr

/-- Bins a path delivered on a carrier, with their flag byte (R221, R223), and whether BFM takes them (R218). -/
structure RxBins where
  path : Nat
  carrier : Nat
  slot : Nat
  sym : Nat
  flags : Nat
  bins : List Cplx
  toBfm : Bool := false
deriving DecidableEq, Repr

structure RxState where
  jobs : List RxJob := []
  paths : List RxPath := List.replicate 64 {}
  delivered : List RxBins := []
  /-- carriers that failed the checks of R227 at RUN -/
  bad : Nat := 0
  /-- paths held by a calibration run (R223) -/
  hold : Nat := 0
deriving DecidableEq, Repr

/-! ## Transmit path (chapter 8) -/

/-- A block of the layer store (R231, R232); `slot` is the absolute slot index on its carrier's grid. -/
structure LBlock where
  carrier : Nat
  slot : Nat
  sym : Nat
  layer : Nat
  iq : Bool
  off : Nat
  count : Nat
  body : List Byte
deriving DecidableEq, Repr

/-- A LAYER_MAP command in force (R238). -/
structure MapJob where
  carrier : Nat
  slot : Nat
  trig : Nat
  nsym : Nat
  layer : Nat
  whiten : Bool
  gain : Int
  seedA : Nat
  seedB : Nat
  codes : List Nat
deriving DecidableEq, Repr

/-- A TX_SYM command in force (R261). -/
structure TxJob where
  carrier : Nat
  slot : Nat
  trig : Nat
  nsym : Nat
  mask : Nat
deriving DecidableEq, Repr

/-- The mapped points of a layer in one symbol (R242). -/
structure LayerPts where
  carrier : Nat
  slot : Nat
  sym : Nat
  layer : Nat
  pts : List Cplx
deriving DecidableEq, Repr

/-- A symbol of a carrier behind its channel filters on one path: its span and its samples at F_fft (R244 to R246). -/
structure TxPiece where
  carrier : Nat
  start : Nat
  stop : Nat
  samples : List Cplx
deriving DecidableEq, Repr

/-- A transmit path: the target part of G_d at its last update and whether it has one (R254), a requested exit from fault (R257), the end of its last symbol with work,
the DAC state of R256 (0 off, 1 quiet code, 2 zero, 3 output), the composite energy of the last symbol (R251), and its muted symbols, each with its span and whether the
whole path is muted in it (R258, R259). -/
structure TxPath where
  nom : Int := 0
  gdSet : Bool := false
  faultClr : Bool := false
  /-- detectors whose occurrence put the path into fault (R567), one bit each -/
  causes : Nat := 0
  till : Nat := 0
  dac : Nat := 0
  ePrev : Option Nat := none
  mutes : List (Nat × Nat × Bool) := []
  /-- the tail of each carrier's last symbol, as many samples as its OVERLAP; the last samples of its filters; and its symbols not yet combined -/
  prev : List (Nat × List Cplx) := []
  fir : List (Nat × List Cplx) := []
  pieces : List TxPiece := []
  /-- the last symbol of the grid of R14 behind stages 8 to 12, the first ones with the samples before it that the stage behind needs: composite, drive of stage 10, effective
  drive, output of stage 11, and codes of the DAC -/
  comp : List Cplx := []
  drive : List Cplx := []
  eff : List Cplx := []
  out : List Cplx := []
  codes : List Int := []
deriving DecidableEq, Repr

structure TxState where
  store : List LBlock := []
  maps : List MapJob := []
  jobs : List TxJob := []
  points : List LayerPts := []
  paths : List TxPath := List.replicate 64 {}
  mlog : List (List Nat) := []
  /-- carriers that failed the checks at RUN (R262), and carriers outside the permitted ranges (R506) -/
  bad : Nat := 0
  regMute : Nat := 0
  /-- bit 4 i + c: the grant of interface i was sampled deasserted for the coming symbol of carrier c (R504) -/
  coexMute : Nat := 0
  /-- absolute index of the next symbol each carrier fetches (R235) -/
  fetchIdx : List Nat := [0, 0, 0, 0]
  /-- the symbol of the grid of R14 in progress, which stages 8 to 12 have not combined yet -/
  sym : Option (Nat × Nat) := none
  /-- absolute index of the slot boundary of R14 at which TRIM is updated next (R253) -/
  loopAt : Nat := 0
deriving DecidableEq, Repr

/-! ## Non-volatile memory (chapter 21) -/

/-- Where a record write takes its body words from: message memory at an address, the REG registers, the CLK registers, or a
KEYS body the ROM holds (R552, R555, R562). -/
inductive NvmSource where
  | msg (addr : Nat)
  | reg
  | clk
  | keys (body : List Byte)
deriving DecidableEq, Repr

/-- A running record write (R552): record, target slot, SEQ, LEN, words written, the body as written, and whether the injected tear
stops it (R564). -/
structure NvmWrite where
  id : Nat
  slotB : Bool
  seq : Nat
  len : Nat
  done : Nat := 0
  body : List Byte := []
  src : NvmSource
  torn : Bool := false
deriving DecidableEq, Repr

structure NvmState where
  mem : List Host.Cell := []
  /-- words that read as uncorrectable, and an armed single-word error of INJ_CMD: word address and whether it is double -/
  bad : List Nat := []
  write : Option NvmWrite := none
  queue : List (Nat × NvmSource × Nat) := []
  injTorn : Bool := false
  /-- slots (record, slot B) torn by an injection, whose report carries the INJ tag -/
  tornInj : List (Nat × Bool) := []
  /-- Bivouac prepare agreed (R556) -/
  held : Bool := false
  /-- a life-cycle authorisation runs for this target (R559) -/
  auth : Option Nat := none
deriving DecidableEq, Repr

/-! ## Predistortion and observation (chapter 9) -/

/-- An observation entry taken for a slot (R282): kind, tap, capture symbol, offset in 0.1 µs, length code and absolute slot. -/
structure OrxEntry where
  kind : Nat
  tap : Nat
  sym : Nat
  ofs : Nat
  lg : Nat
  slot : Nat
deriving DecidableEq, Repr

/-- ADAPT statistics being computed (R286, R287): path, frame and slot of the capture, the bank in use, and the record's values. -/
structure OrxStat where
  path : Nat
  frame : Nat
  slot : Nat
  bank : Nat
  nt : Nat
  scale : Int
  energy : Nat
  vals : List Cplx
  ready : Nat
deriving DecidableEq, Repr

/-- An observation receiver: whether its schedule has started, the entry under way, the statistics being computed, and whether its ring
is full. -/
structure OrxSt where
  started : Bool := false
  running : Bool := false
  entry : Option OrxEntry := none
  stat : Option OrxStat := none
  full : Bool := false
deriving DecidableEq, Repr

structure DpdState where
  /-- coefficient word w of bank b of path p, at key 256 p + 128 b + w -/
  coef : List (Nat × Nat) := []
  orx : List OrxSt := List.replicate 8 {}
  /-- host swaps and mask reverts waiting for a slot boundary, with the instant they were asked for -/
  swaps : List (Nat × Nat) := []
  reverts : List (Nat × Nat) := []
  /-- instant of the last swaps, and the paths named for it (R277) -/
  swapAt : Nat := 0
  swapped : List Nat := []
  /-- fresh power measurements: path, and L_OBS in 1/16 dB is in P_OBS (R285) -/
  fresh : List Nat := []
  /-- captures of the mask monitor being averaged: path, observed samples and the tap values they were taken with (R280, R289) -/
  mask : List (Nat × List Cplx × List Int) := []
  /-- uncorrectable coefficient banks, by path -/
  bad : List Nat := []
deriving DecidableEq, Repr

/-! ## Contexts, sounding, weights and combining (chapters 5, 10 and 11) -/

/-- A port of a context (R299): the engine slot of its capture, and the frame and slot it shows (65,535 if none), quality, groups,
estimate pages, valid antennas, and whether it was stored since the context entered OVERFLOW. -/
structure CtxPort where
  cap : Option Nat := none
  age : Nat := 0xFFFF
  qual : Int := 0
  ng : Nat := 0
  pages : List Nat := []
  valid : Nat := 0
  fresh : Bool := false
deriving DecidableEq, Repr

/-- An open context (R298 to R302) and what BFM writes into its header page (R346). -/
structure Ctx where
  user : Nat
  carrier : Nat
  nports : Nat
  st : Nat := 2
  closing : Option Nat := none
  ports : List CtxPort := [{}, {}, {}, {}]
  lastDl : Nat := 0xFFFF
  lastUl : Nat := 0xFFFF
  sinr : Int := 0
  fbLast : Nat := 0
  fbSlots : Nat := 0
deriving DecidableEq, Repr

/-- A sounding command in force (R303). -/
structure SndCmd where
  carrier : Nat
  slot : Nat
  trig : Nat
  order : Nat
  descs : List (Nat × Nat)
deriving DecidableEq, Repr

/-- A capture kept for sounding (R306): its units, and the bins of each path that reached BFM, with whether they count. -/
structure SndCapture where
  carrier : Nat
  slot : Nat
  sym : Nat
  units : List Nat
  bins : List (Nat × Bool × List Cplx)
deriving DecidableEq, Repr

/-- A sounding job (R305): context, key, descriptor words, capture slot of its carrier and engine slot, first symbol. -/
structure SndJob where
  ctx : Nat
  port : Nat
  wa : Nat
  wb : Nat
  carrier : Nat
  slot : Nat
  eng : Nat
  trig : Nat
deriving DecidableEq, Repr

/-- A scheduling command in force (R318, R319). -/
structure SchedJob where
  ul : Bool
  carrier : Nat
  slot : Nat
  trig : Nat
  user : Nat
  port : Nat
  layer : Nat
  prio : Nat
  nsym : Nat
  fb : Nat
  gFirst : Nat
  gCount : Nat
  out : Nat := 0
  mod : Nat := 0
  dmrs : Nat := 0
  dport : Nat := 0
  cinit : Nat := 0
  /-- symbols dropped by the trim (R322) -/
  dropped : Nat := 0
  leader : Nat := 0
deriving DecidableEq, Repr

/-- The weights of one layer in one group (R328, R329), or a fallback entry (R312): mantissas and exponent, where 16,384 × 2^wexp stands for 1.0;
exact before the slot's guard has run, 16-bit mantissas afterwards. -/
structure Weight where
  ul : Bool
  carrier : Nat
  group : Nat
  layer : Nat
  vec : List Cplx
  wexp : Int
  fb : Bool
deriving DecidableEq, Repr

/-- A group of an engine slot whose weights are not complete (R330): the layers it computes, and the Gram entries summed so far. -/
structure OpenGroup where
  ul : Bool
  carrier : Nat
  group : Nat
  layers : List Nat
  /-- all layers scheduled in the group; vectors h_l of the layers with their exponents; qualities; fallback entries -/
  all : List Nat
  vecs : List (List Cplx × Int)
  quals : List Int
  gram : List Cplx
  got : Nat := 0
  bad : Bool := false
deriving DecidableEq, Repr

/-- A term of a key (R157 to R160), by port (6: the local block), with its FORMAT, NCONTRIB, DEGR, SAT and POISON. -/
structure PsTerm where
  src : Nat
  fmt : Nat := 0
  ncon : Nat
  degr : Bool
  sat : Bool
  poison : Bool
  vals : List Cplx
deriving DecidableEq, Repr

/-- A key of the accumulator with its terms (R157 to R160); `due`: its hold instant has passed, and a term whose header came in time still arrives. -/
structure PsKey where
  frame : Nat
  slot : Nat
  sym : Nat
  carrier : Nat
  kind : Nat
  offset : Nat
  fmt : Nat
  count : Nat
  abs : Nat
  terms : List PsTerm := []
  due : Bool := false
deriving DecidableEq, Repr

structure BfmState where
  ctxs : List (Nat × Ctx) := []
  /-- CTX_RESULT of each agent (R301) -/
  results : List (Nat × Nat) := []
  engIdx : Nat := 0
  snds : List SndCmd := []
  caps : List SndCapture := []
  queue : List SndJob := []
  batch : List SndJob := []
  scheds : List SchedJob := []
  /-- next engine slot whose weights are computed, and the slots the weights stand for: served now, and being computed -/
  wgtIdx : Nat := 0
  weights : List (Nat × Weight) := []
  /-- next engine slot whose weight deadline passes, downlink and uplink, and the batch results not written in time -/
  dead : List Nat := [0, 0]
  lateJobs : List Nat := []
  pend : List (Nat × OpenGroup) := []
  /-- WGT_CFG was committed since the timeline entered RUN (R345), and the current stay's first slot -/
  committed : Bool := false
  trimLog : List Nat := []
  /-- exposure history: energy of each bin in the last 49 sub-windows and the current one, newest first (R343, R344) -/
  expHist : List (List Nat) := []
  expFrames : Nat := 0
  /-- frames since the timeline's origin at the last roll (R344) -/
  expLast : Nat := 0
  keys : List PsKey := []
  /-- keys already resolved -/
  doneKeys : List (Nat × Nat × Nat × Nat × Nat × Nat) := []
  /-- uplink sums received by the head's combiner, complete per key, for equalisation -/
  sums : List PsKey := []
  /-- UL_CFG at the start of the last symbols of each carrier: carrier, absolute symbol, word (R25) -/
  ulCfg : List (Nat × Nat × Nat) := []
  /-- the grid-of-beams table as it stood at the last engine boundary (R311) -/
  gob : List Host.Cell := []
deriving DecidableEq, Repr

/-! ## Calibration (chapter 17) -/

/-- A ramp of one kind and path (R479): the quantities before and after as numerators over `den`, the steps of `total` in effect now and in the slot being
computed, and the instant of the result. -/
structure Ramp where
  kind : Nat
  path : Nat
  old : List Int
  new : List Int
  den : Nat := 1
  step : Nat := 0
  next : Nat := 0
  total : Nat
  ready : Nat
deriving DecidableEq, Repr

/-- An in-service path-run (R482): its kind and path, its carrier's slot and symbols, its command (its place in the order of R19), and the code of its failure
(0: none). -/
structure CalRun where
  kind : Nat
  path : Nat
  carrier : Nat
  slot : Nat
  trig : Nat
  nsym : Nat
  fail : Nat := 0
deriving DecidableEq, Repr

structure CalState where
  ramps : List Ramp := []
  runs : List CalRun := []
  /-- instant of a FULL write, and whether a full run waits for the timeline (R480) -/
  fullAt : Option Nat := none
  autoWait : Bool := false
  /-- path-runs of the full run that are measured or computed: kind, path and slot of the run -/
  fullRuns : List (Nat × Nat × Nat) := []
  /-- the CALSET body in use (R475, R604) -/
  set : Option (List Byte) := none
  /-- temperatures of the sensors at which the baseline stands since the last slot boundary, and later readings with their sensor and instant (R476) -/
  temps : List Int := []
  reads : List (Nat × Nat × Int) := []
  /-- slots, from and to an instant, in which an in-service run uses an ORX (R483) -/
  used : List (Nat × Nat × Nat) := []
deriving DecidableEq, Repr

/-! ## Thermal management (chapter 19) -/

/-- The throttle ladder and the sensors (R516 to R531): groups muted in order, the instant of the last change of STEP, the mutes before it and those of the
slot being computed, the ladder's condition (0 escalate, 1 hold, 2 relax) and since when it holds, readings in a row at or above SHDN, sensors read so far,
injected offsets, failures and shutdowns, readings of the AON comparator, and a shutdown under way (its instant) or done. -/
structure ThmState where
  order : List Nat := []
  changeAt : Nat := 0
  prevMute : Nat := 0
  muteNext : Nat := 0
  cond : Nat := 2
  condSince : Nat := 0
  overRun : List Nat := List.replicate 48 0
  seen : List Nat := []
  lastDev : List Nat := []
  /-- instant of the last reading of each sensor (R517), and the sensors whose state the next reading sets afresh (R526) -/
  readAt : List Nat := List.replicate 48 0
  fresh : List Nat := []
  ofs : List (Nat × Int) := []
  injFail : List Nat := []
  injShdn : List Nat := []
  aonHot : Nat := 0
  aonCool : Nat := 0
  shdn : Option Nat := none
  off : Bool := false
deriving DecidableEq, Repr

/-! ## Random access (chapter 12) -/

/-- A random-access occasion (R351): its command, start and end of its last window, and the beams of each search (R356). -/
structure RaOcc where
  carrier : Nat
  slot : Nat
  trig : Nat
  smask : Nat
  start : Nat
  stop : Nat
  beams : List (List (List Cplx))
  /-- the search slots, roots and paths as the occasion took them: addresses and words -/
  latch : List (Nat × Word) := []
  /-- per search the stage-5 samples of its window by path, and the paths excluded (R354, R355), once its windows have ended -/
  data : List (List (List Cplx)) := []
  excl : List Nat := []
deriving DecidableEq, Repr

structure RadState where
  open_ : List RaOcc := []
  queue : List RaOcc := []
  /-- search slots that failed the checks at RUN (R353) -/
  bad : Nat := 0
deriving DecidableEq, Repr

/-! ## Cores, mailboxes and semaphores (chapters 13, 14 and 16) -/

/-- An open window of R378: register code, kind (0 load, 1 ALU write, 2 MAC write) and issues left. -/
structure Window where
  reg : Nat
  kind : Nat
  left : Nat
deriving DecidableEq, Repr

/-- A core (R370 to R393): its register files, the shift in force and tracked width of a block, delay slots and branch target, an open repeat with the
address of its RPT, open windows, save slots of the four levels and the levels open, the registered wait with the instant of its first issue, its
address and its symbol, the non-local access that holds it, the status a wait received while a handler ran, a requested stop, single step, sticky interrupt sources, whether its warning was given, and the
watchdog: time counted so far, and since when it counts. -/
structure Core where
  g : List Word := List.replicate 16 0
  a : List Acc40 := List.replicate 8 0
  p : List Word := List.replicate 8 0
  m : List Word := List.replicate 4 0
  l : List Nat := List.replicate 4 0
  sr : Word := 0
  scl : Word := 0x10000
  expo : Word := 0
  link : Word := 0
  vbar : Word := 0
  lp : List Word := List.replicate 6 0
  blkShift : Nat := 0
  blkE : Nat := 0
  pc : Nat := 0
  slots : Nat := 0
  target : Option Nat := none
  rep : Nat := 0
  repPc : Nat := 0
  win : List Window := []
  save : List (Nat × Word) := List.replicate 5 (0, 0)
  open_ : List Nat := []
  wait : Option Op := none
  waitAt : Nat := 0
  waitPc : Nat := 0
  waitSym : Nat := 0
  hold : Option Op := none
  got : Option Nat := none
  stopReq : Bool := false
  stepping : Bool := false
  pend : Nat := 0
  warned : Bool := false
  wdtAcc : Nat := 0
  wdtSince : Option Nat := none
deriving DecidableEq, Repr

/-- A Belay semaphore (R457 to R461): owner with its epoch, BROKEN, queued waiters and the overflow set, both in arrival order. -/
structure Sem where
  owner : Option (Nat × Nat) := none
  broken : Bool := false
  queue : List Nat := []
  ovf : List Nat := []
deriving DecidableEq, Repr

/-- Inboxes of the 36 agents (oldest message first), the ordered pairs that await PEER_RESET, the semaphores, the host agents' queued acquires, the
arrivals at each barrier, and the rings of cores whose domain is coming up (rung agent and ringer). -/
structure MbxState where
  inbox : List (List (Nat × Nat)) := List.replicate 36 []
  peer : List (Nat × Nat) := []
  sems : List Sem := List.replicate 64 {}
  hostAt : List Nat := [0, 0]
  arrived : List (List Nat) := List.replicate 16 []
  ringWake : List (Nat × Nat) := []
deriving DecidableEq, Repr

/-! ## The arbiter (chapter 15) -/

/-- A request at a bank of context memory (R430, R433): requester, class, stamp in sample-fabric cycles, beats, and whether its starvation was
counted. -/
structure ArbReq where
  id : Nat
  rt : Bool
  stamp : Nat
  beats : Nat
  starved : Bool := false
deriving DecidableEq, Repr

/-- A bank: the requests that wait, oldest first, the requester of the burst in progress, and rt_run (R435, R436). -/
structure ArbBank where
  waiting : List ArbReq := []
  owner : Option Nat := none
  rtRun : Nat := 0
deriving DecidableEq, Repr

/-- A posted transfer in flight (R437); `mute` after a reset of its core (R438). -/
structure ArbPost where
  agent : Nat
  ctx : Nat
  loc : Nat
  write : Bool
  beats : Nat
  tag : Nat
  mute : Bool := false
deriving DecidableEq, Repr

structure ArbState where
  banks : List (Nat × ArbBank) := []
  posts : List ArbPost := []
  rings : List (List Nat) := List.replicate 36 []
deriving DecidableEq, Repr

/-! ## Synthesiser, front end and regulatory record (chapter 18) -/

/-- The synthesiser: an armed switch (plan, FULL, FRAME, SLOT), the end of the open window, whether the loop is in lock, and what the window stands for (0 a switch or
a calibration, 1 a relock from stored calibration, 2 a relock by full calibration). -/
structure ClkState where
  armed : Option (Nat × Bool × Nat × Nat) := none
  winEnd : Nat := 0
  locked : Bool := false
  /-- the instant since which the converter clock is usable (R222, R493) -/
  okSince : Nat := 0
  stage : Nat := 0
deriving DecidableEq, Repr

/-- A bias DAC (R500, R501): its output as 4,096 × RANGE + CODE, and during a hold the value that comes and a value written meanwhile. -/
structure BiasDac where
  out : Nat := 0
  target : Option Nat := none
  queued : Option Nat := none
deriving DecidableEq, Repr

/-- The front-end pins: PA_EN levels and TRSW at its transmit side by path, the instants of their last edges, asserted COEX_REQ pins, the bias outputs and whether they
are enabled, and the symbols counted for the duty limit with whether it is reached (R499 to R503, R508). -/
structure AuxState where
  pa : Nat := 0
  trsw : Nat := 0
  paAt : Nat := 0
  trswAt : Nat := 0
  coexReq : Nat := 0
  dacs : List BiasDac := List.replicate 136 {}
  biasOn : Bool := false
  dutyCnt : Nat := 0
  dutyMute : Bool := false
  dutySeen : Nat := 0
deriving DecidableEq, Repr

/-! ## Housekeeping converters (chapter 20) -/

/-- An accumulator and its tracker (R537). -/
structure HkAcc where
  sum : Int := 0
  count : Nat := 0
  ovf : Bool := false
  min : Int := 0
  max : Int := 0
deriving DecidableEq, Repr

/-- The harvest latch of an agent (R538). -/
structure HkLatch where
  acc : Nat := 0
  count : Nat := 0
  ovf : Bool := false
  min : Int := 0
  max : Int := 0
deriving DecidableEq, Repr

/-- A converter (R535, R542): what it converts (0 nothing, 1 its sequence entry, 2 its half of a plausibility pair, 3 an urgent request, 4 nothing: it waits for
the pair), its entry, the code of its half of the pair, the urgent requests (the one in progress first) and those that wait at their requesters, each
as requester (0 to 7 monitor m, 8 + k thermistor k) and local channel. -/
structure HkConv where
  kind : Nat := 0
  pos : Nat := 0
  code : Option Int := none
  /-- RUN was written 0 during this conversion -/
  stop : Bool := false
  urg : List (Nat × Nat) := []
  held : List (Nat × Nat) := []
  /-- instant at which the present conversion began -/
  since : Nat := 0
deriving DecidableEq, Repr

/-- The converters, accumulators and latches; a plausibility pair that waits, the instants of the next pair and of the end of the harvest period, sum and number
of the single-ended conversions of a global channel in this period, the private means as sum and number (R539), and the injected offset (R541). -/
structure HkState where
  conv : List HkConv := [{}, {}]
  accs : List HkAcc := List.replicate 64 {}
  latch : List (Nat × HkLatch) := []
  plWant : Bool := false
  plNext : Nat := 0
  hpNext : Nat := 0
  sums : List (Nat × Nat × Nat) := []
  means : List (Nat × Nat × Nat) := []
  ofs : Int := 0
  /-- instant of the last request of each overcurrent monitor (R566) -/
  ocAt : List Nat := []
deriving DecidableEq, Repr

/-! ## Power, rest, reset and boot (chapters 2 and 3) -/

/-- An image being checked (R90): from a retained bank at a wake, its address and length (the range that is locked), and whether the entry was found good. -/
structure BootRun where
  wake : Bool
  base : Nat
  len : Nat
deriving DecidableEq, Repr

/-- A pending mode transition with the instant of its request, the mode held before the rest; the rest protocol: instant of the request or of the last
answer, participant asked, participants stopped; the rest in force (0 none, 1 host Ledge, 2 Base camp); the wake sources latched after a commit (1 management bus,
2 thermal, 4 host, 8 a doorbell); the reset or wake sequence (0 none, 1 a reset waits for the NVM word,
2 reset active, 3 released, 4 the reset sequence waits for REFCLK, 5 a wake waits for REFCLK, 6 the boot window of a wake) with its reference instant; retained
banks with their signatures (0 to 95 context, 96 to 111 message), and the banks that failed at this wake; latched level and output enable of held pad groups; the pad
groups whose functions drive them, one bit each (the others are high impedance); an image being checked; converters in micro-rest; RESET_N
low and SHDN_N driven low; a rail below its threshold. -/
structure PwrState where
  req : Option (Nat × Nat) := none
  prev : Nat := 1
  at_ : Nat := 0
  asked : Option Nat := none
  stopped : List Nat := []
  rest : Nat := 0
  wakeSrc : Nat := 0
  seq : Nat := 2
  seqAt : Nat := 0
  sigs : List (Nat × Nat) := []
  lost : List Nat := []
  latch : List (Nat × Nat × Bool) := []
  padOe : Nat := 0
  boot : Option BootRun := none
  micro : List Nat := []
  /-- groups that the sealed tables leave without work in the next slot (R51): TXGk at bit 8 + k, RXGk at bit k -/
  ledge : Nat := 0
  /-- STATE of REST_STATUS before the request; reset sources not yet recorded; RESTART_EN as the AON domain holds it; an abandoned wake to report (R68); the plan
  in use at a Bivouac entry -/
  was : Nat := 0
  cause : Nat := 0
  restart : Bool := true
  late : Bool := false
  plan : Nat := 0
  resetLow : Bool := false
  shdnLow : Bool := true
  railLow : Bool := true
deriving DecidableEq, Repr

/-! ## Host ports (chapter 24) -/

/-- The serial peripheral port (R590): buffered words (address and data), OVERRUN, ERROR; bytes driven in the last read or status transaction of the port
and of the management bus (R592), and whether the last address byte and the bytes behind it were acknowledged there (R65); the JTAG instruction register, boundary register, the levels EXTEST drives, and the last value captured on TDO (R593). -/
structure IoState where
  spi : List (Nat × Nat) := []
  overrun : Bool := false
  error : Bool := false
  spiOut : List Nat := []
  mgmtOut : List Nat := []
  mgmtAck : Bool := false
  mgmtData : Bool := false
  ir : Nat := 0x01
  boundary : Nat := 0
  extest : Option Nat := none
  tdo : Nat := 0
deriving DecidableEq, Repr

/-- The whole machine. -/
structure State where
  /-- commands that wait, first in, first out -/
  pending : List Instr := []
  /-- time since power came up, in units of 1/384 ns -/
  now : Nat := 0
  /-- register file: the registers that do not hold their Reset value, by address -/
  regs : List (Nat × Word) := []
  /-- shadow words of registers with RWS fields (R27) -/
  shadow : List (Nat × Nat) := []
  /-- armed copies (R27) -/
  armed : List ArmedReg := []
  /-- answer to the last access -/
  resp : Resp := {}
  /-- count of the free values taken (the model's own) -/
  freeCnt : Nat := 0
  /-- power domains that are on, one bit each (R45) -/
  doms : Nat := 0
  /-- time bases, timeline and SYNC pulses -/
  tim : TimState := {}
  /-- frames this device originates, not yet routed -/
  outbox : List Frame := []
  /-- hop-local frames, with their port -/
  hopOut : List (Nat × Frame) := []
  /-- all memories but NVM -/
  mem : List Host.Cell := []
  /-- staging tables (R18) -/
  staging : List CmdEntry := []
  /-- tables of the slot in progress (R19) -/
  live : List CmdEntry := []
  /-- staging state of LC0 and LC1 -/
  leaders : List LeaderSt := [{}, {}]
  /-- outputs flagged invalid: block, frame and slot (R10) -/
  invalidOut : List (Nat × Nat × Nat) := []
  /-- fault log, injections and window -/
  flt : FltState := {}
  /-- the six ports -/
  ports : List PortSt := [{}, {}, {}, {}, {}, {}]
  /-- frames put on the lines, with their port -/
  lineOut : List (Nat × LineFrame) := []
  /-- complete frames that a second look at their route delivers here (R142) -/
  localIn : List LineFrame := []
  /-- next SEQ of each VC (R132) -/
  txSeq : List Nat := [0, 0, 0, 0, 0, 0, 0, 0]
  /-- instant from which the alternate orientation of the ring serves, and whether it does (R163) -/
  splitAt : Nat := 0
  splitUse : Bool := false
  /-- receive path -/
  rx : RxState := {}
  /-- transmit path -/
  tx : TxState := {}
  /-- NVM array and the write in progress -/
  nvm : NvmState := {}
  /-- coefficient banks and observation receivers -/
  dpd : DpdState := {}
  /-- contexts, sounding, scheduling, weights and sums -/
  bfm : BfmState := {}
  /-- calibration runs and ramps -/
  cal : CalState := {}
  /-- thermal state and shutdown -/
  thm : ThmState := {}
  /-- random-access occasions -/
  rad : RadState := {}
  /-- the 34 Therik cores -/
  cores : List Core := List.replicate 34 {}
  /-- inboxes, semaphores and barriers -/
  mbx : MbxState := {}
  /-- banks, lottery and posted transfers -/
  arb : ArbState := {}
  /-- armed plan switch and settling window -/
  clk : ClkState := {}
  /-- front-end pins, bias DACs, coexistence, duty -/
  aux : AuxState := {}
  /-- housekeeping converters and accumulators -/
  hk : HkState := {}
  /-- modes, rests, resets and start-up -/
  pwr : PwrState := {}
  /-- host ports -/
  io : IoState := {}
  /-- status and event records in the crossings to the self-timed world, by block, and the records lost at a full one (R10) -/
  crossed : List Nat := []
  crossLost : List (Nat × Nat) := []
  /-- level of IRQ_B_N asserted -/
  irqB : Bool := false
deriving DecidableEq, Repr

/-- The machine right after reset: the power-on reset has been applied and not yet released (R78, R84).  Every register holds its Reset value, every
memory and queue is empty but the NVM array, which is as shipped (R3), only the AON and IO domains are on (R85), and POR is the source to record (R82). -/
def State.reset : State := { doms := 0x3, nvm := { mem := Factory.nvm }, pwr := { cause := 1 } }

end Sys2Proof.Machine
end

