-- ==== Sys2Proof/Machine/Store.lean ====
section
/-! DEFINITION. Sparse stores: a list of (key, value) pairs with strictly rising keys, where a key that is not listed holds a
default.  Memories and the register file are held this way; writing the default removes the entry, so that equal contents
are equal lists. -/

namespace Sys2Proof.Machine

/-- The value of a key, if it is listed. -/
def Store.find? {β : Type} : List (Nat × β) → Nat → Option β
  | [], _ => none
  | (a, v) :: l, k => if a = k then some v else Store.find? l k

/-- The value of a key; the default where it is not listed. -/
def Store.get {β : Type} (l : List (Nat × β)) (d : β) (k : Nat) : β := (Store.find? l k).getD d

/-- Remove a key. -/
def Store.erase {β : Type} : List (Nat × β) → Nat → List (Nat × β)
  | [], _ => []
  | (a, v) :: l, k => if a = k then Store.erase l k else (a, v) :: Store.erase l k

/-- List a key with a value in a list with rising keys. -/
def Store.insert {β : Type} : List (Nat × β) → Nat → β → List (Nat × β)
  | [], k, x => [(k, x)]
  | (a, v) :: l, k, x =>
    if k < a then (k, x) :: (a, v) :: l
    else if k = a then (k, x) :: l
    else (a, v) :: Store.insert l k x

/-- Write a key: the default value of the key removes its entry. -/
def Store.set {β : Type} [DecidableEq β] (l : List (Nat × β)) (d : β) (k : Nat) (x : β) : List (Nat × β) :=
  if x = d then Store.erase l k else Store.insert l k x

/-- The canonical form: keys strictly rising, and no entry equal to what an unlisted key reads as. -/
def Store.canon {β : Type} [DecidableEq β] (d : Nat → β) : List (Nat × β) → Bool
  | [] => true
  | [(a, v)] => decide (v ≠ d a)
  | (a, v) :: (b, w) :: l => decide (v ≠ d a) && decide (a < b) && Store.canon d ((b, w) :: l)

end Sys2Proof.Machine
end

