-- ==== Sys2Proof/Machine/Ops.lean ====
section
/-! DEFINITION. The named operations every block uses: the register file and its fields, the byte memories, events, counters,
the access-error log, modes and power domains. -/

namespace Sys2Proof.Machine

/-! ## The register file -/

/-- The register table of block window n; the six ports share one table (R576). -/
def blockTable (n : Nat) : List RegSpec :=
  match n with
  | 0 => Regs.SYS | 1 => Regs.PWR | 2 => Regs.CLK | 3 => Regs.TIM
  | 4 | 5 | 6 | 7 | 8 | 9 => Regs.LNK
  | 10 => Regs.RTE | 11 => Regs.ARB | 12 => Regs.MBX | 13 => Regs.BLY | 14 => Regs.RXP | 15 => Regs.TXP
  | 16 => Regs.DPD | 17 => Regs.BFM | 18 => Regs.RAD | 19 => Regs.CAL | 20 => Regs.THM | 21 => Regs.HKA
  | 22 => Regs.AUX | 23 => Regs.REG | 24 => Regs.NVM | 25 => Regs.FLT | 26 => Regs.NLR | 27 => Regs.TKC
  | _ => []

/-- Whether a register or an array of registers covers a window offset. -/
def RegSpec.covers (r : RegSpec) (off : Nat) : Bool :=
  let rel := off - r.off
  r.off ≤ off && rel / r.s1 < r.n1 && rel % r.s1 / r.s2 < r.n2 && rel % r.s1 % r.s2 == 0

/-- Block number of a byte address in the register windows. -/
def blkOf (a : Nat) : Nat := a / 0x10000 % 0x1000

/-- Offset of a byte address in its block window. -/
def offOf (a : Nat) : Nat := a % 0x10000

/-- The register of the index at a byte address, if there is one (R576). -/
def regSpec? (a : Nat) : Option RegSpec :=
  if 0x10000000 ≤ a ∧ a < 0x101C0000 then
    ((blockTable (blkOf a)) ++ Regs.common).find? (·.covers (offOf a))
  else none

/-- The word a list of fields holds after reset. -/
def fieldsReset (fs : List FieldSpec) : Nat := fs.foldl (fun w x => setBits w x.hi x.lo x.reset) 0

/-- The value of a register after reset (R6); LANE_SEED of lane l of port p starts at 0x5A5A_0001 + 8p + l (R130). -/
def resetWord (a : Nat) : Word :=
  if 4 ≤ blkOf a ∧ blkOf a ≤ 9 ∧ 0x200 ≤ offOf a ∧ offOf a < 0x300 ∧ offOf a % 0x20 = 0 then
    BitVec.ofNat 32 (0x5A5A0001 + 8 * (blkOf a - 4) + (offOf a - 0x200) / 0x20)
  else match regSpec? a with
    | some r => BitVec.ofNat 32 (fieldsReset r.fields)
    | none => 0

/-- The word a register holds. -/
def State.reg (s : State) (a : Nat) : Word := Store.get s.regs (resetWord a) a

/-- Put a word into a register. -/
def State.setReg (s : State) (a : Nat) (w : Word) : State := { s with regs := Store.set s.regs (resetWord a) a w }

/-- The value of a field. -/
def State.f (s : State) (x : Fld) : Nat := bits (s.reg x.addr).toNat x.hi x.lo

/-- The value of a field read as a signed number. -/
def State.fi (s : State) (x : Fld) : Int := signed (x.hi + 1 - x.lo) (s.f x)

/-- Whether a field is not zero. -/
def State.on (s : State) (x : Fld) : Bool := s.f x != 0

/-- Put a value into a field; the register's other bits keep theirs. -/
def State.setF (s : State) (x : Fld) (v : Nat) : State :=
  s.setReg x.addr (BitVec.ofNat 32 (setBits (s.reg x.addr).toNat x.hi x.lo v))

/-- Put a signed value into a field. -/
def State.setFi (s : State) (x : Fld) (i : Int) : State := s.setF x (code (x.hi + 1 - x.lo) i)

/-- Add to a saturating counter field. -/
def State.incBy (s : State) (x : Fld) (n : Nat) : State := s.setF x (min (s.f x + n) (2 ^ (x.hi + 1 - x.lo) - 1))

/-- Count one in a saturating counter field. -/
def State.inc (s : State) (x : Fld) : State := s.incBy x 1

/-- Count one in a counter field that wraps. -/
def State.incMod (s : State) (x : Fld) : State := s.setF x ((s.f x + 1) % 2 ^ (x.hi + 1 - x.lo))

/-- Apply an operation only under a condition. -/
def State.when (s : State) (c : Bool) (g : State → State) : State := if c then g s else s

/-- Apply an operation for every member of a list, in order. -/
def State.each {α : Type} (s : State) (l : List α) (g : State → α → State) : State := l.foldl g s

/-- Consecutive 64-bit mask held by a LO and a HI register. -/
def State.mask64 (s : State) (lo hi : Fld) : Nat := s.f lo + 2 ^ 32 * s.f hi

/-- Put a 64-bit mask into a LO and a HI register. -/
def State.setMask64 (s : State) (lo hi : Fld) (m : Nat) : State := (s.setF lo (m % 2 ^ 32)).setF hi (m / 2 ^ 32)

/-! ## Frames that leave and events -/

/-- Queue a frame that leaves the device (its route is chosen at OUTPUT_FRAME_END). -/
def State.send (s : State) (fr : Frame) : State := { s with outbox := s.outbox ++ [fr] }

/-- The EVENT frame that tells MP-A of event bits that rose while enabled (R7, R147). -/
def State.eventFrame (s : State) (blk mask : Nat) : State :=
  s.send { typ := 6, vc := 4, flags := 0, hops := s.f F.RTE.DEV_CFG_HOP_LIMIT, dst := s.f F.RTE.MGMT_CFG_EVT_DST,
           src := s.f F.RTE.DEV_CFG_DEV_ADDR, seq := 0, ts := 0, payload := leBytes 4 blk ++ leBytes 4 mask }

/-- Blocks of the sample and the lane world, whose records cross to the self-timed world (R9): TIM, LNK0 to LNK5, RTE, ARB, RXP, TXP, DPD, BFM, RAD, NLR. -/
def crossBlocks : List Nat := [3, 4, 5, 6, 7, 8, 9, 10, 11, 14, 15, 16, 17, 18, 26]

/-- A record of a block crosses and has its effect; at a crossing that holds 64 records of the block it is dropped and counted (R10). -/
def State.cross (s : State) (blk : Nat) (g : State → State) : State :=
  if !crossBlocks.contains blk then g s
  else if (s.crossed.filter (· == blk)).length < 64 then g { s with crossed := s.crossed ++ [blk] }
  else { s with crossLost := Store.insert s.crossLost blk (Store.get s.crossLost 0 blk + 1) }

/-- Raise an event: set its EVT_STATUS bit, which stays whatever becomes of the record (R10); a bit that rises while enabled for MP-A sends an EVENT frame
(R7, R147). -/
def State.raise (s : State) (e : Fld) : State :=
  let rose := !s.on e && (s.reg (e.addr + 4)).toNat.testBit e.lo && s.on F.RTE.MGMT_CFG_EVT_EN
  (s.setF e 1).cross (blkOf e.addr) (fun s => s.when rose (·.eventFrame (blkOf e.addr) (2 ^ e.lo)))

/-- Set a bit of DET_STATUS; DET_VOID is raised when it goes from 0 to 1 (R40). -/
def State.detBit (s : State) (x : Fld) : State :=
  if s.on x then s else (s.setF x 1).raise F.SYS.EVT_DET_VOID

/-! ## Modes and domains -/

/-- Encodings of the major modes (R44). -/
def Mode.bivouac : Nat := 0
def Mode.baseCamp : Nat := 1
def Mode.listen : Nat := 2
def Mode.serve : Nat := 3
def Mode.calibrate : Nat := 4
def Mode.test : Nat := 5

/-- The present mode. -/
def State.mode (s : State) : Nat := s.f F.PWR.MODE_STATUS_MODE

/-- Listen, Serve or Calibrate. -/
def State.active (s : State) : Bool := 2 ≤ s.mode && s.mode ≤ 4

/-- Numbers of the power domains of R45, as bits of `doms`. -/
def Dom.aon : Nat := 0
def Dom.io : Nat := 1
def Dom.nvm : Nat := 2
def Dom.hk : Nat := 3
def Dom.ctl : Nat := 4
def Dom.ctx : Nat := 5
def Dom.syn : Nat := 6
def Dom.core : Nat := 7
def Dom.cl (k : Nat) : Nat := 8 + k
def Dom.eng : Nat := 12
def Dom.rxg (k : Nat) : Nat := 13 + k
def Dom.txg (k : Nat) : Nat := 21 + k
def Dom.orx : Nat := 29
def Dom.lnk (p : Nat) : Nat := 30 + p

/-- The domains that are on in each mode (R45); in Test every domain counts as on (log entry 12). -/
def domsOfMode (m : Nat) : Nat :=
  if m = 0 then 0x3 else if m = 1 then 0xFC0000FFF else 0xFFFFFFFFF

/-- Whether a domain is on. -/
def State.domOn (s : State) (d : Nat) : Bool := s.doms.testBit d

/-- Quiet-down runs, before a reset is applied or in a thermal shutdown: outputs stay quiet and no NVM word write starts (R83, R527). -/
def State.quieting (s : State) : Bool := s.pwr.seq == 1 || s.thm.shdn.isSome

/-- A participant of the rest protocol has agreed and stopped: it takes no new work (R55). -/
def State.resting (s : State) (i : Nat) : Bool := s.pwr.stopped.contains i

/-- Life-cycle states of R558: 0 Blank, 1 Trimmed, 2 Deployed, 3 Returned. -/
def State.deployed (s : State) : Bool := s.f F.NVM.LC_STATUS_STATE == 2

/-- Timeline states of R181. -/
def State.tlState (s : State) : Nat := s.f F.TIM.TL_STATUS_STATE
def State.tlRun (s : State) : Bool := s.tlState == 2
def State.tlCounts (s : State) : Bool := s.tlState == 2 || s.tlState == 3

/-! ## The access-error log (R578, R579) -/

/-- Causes of ACC_ERR_INFO. -/
def Cause.unmapped : Nat := 1
def Cause.width : Nat := 2
def Cause.domainOff : Nat := 3
def Cause.refused : Nat := 4
def Cause.locked : Nat := 5
def Cause.testOnly : Nat := 6
def Cause.wipe : Nat := 7
def Cause.ecc : Nat := 8
def Cause.otherHost : Nat := 9

/-- Count an access in the access-error log; an access while the HK domain is off is not counted (R579). -/
def State.logAccess (s : State) (agent addr : Nat) (write : Bool) (cause : Nat) : State :=
  if s.domOn Dom.hk then
    ((((((s.inc F.SYS.ACC_ERR_CNT).setF F.SYS.ACC_ERR_ADDR_ADDR addr).setF F.SYS.ACC_ERR_INFO_AGENT agent).setF
      F.SYS.ACC_ERR_INFO_WRITE (b2n write)).setF F.SYS.ACC_ERR_INFO_CAUSE cause).raise F.SYS.EVT_ACCESS_ERR)
  else s

/-- Answer an access with an error response, counted in the access-error log (R578). -/
def State.errResp (s : State) (agent addr : Nat) (write : Bool) (cause : Nat) : State :=
  { s.logAccess agent addr write cause with resp := { err := cause } }

/-- Refuse a write "in the same way as a write to an RWX field" (R29): an error response, and nothing changes. -/
def State.refuse (s : State) (agent addr : Nat) : State := s.errResp agent addr true Cause.refused

/-- Answer an access that succeeds. -/
def State.ok (s : State) (data : Nat) : State := { s with resp := { err := 0, data := data } }

/-! ## Byte memories -/

/-- The byte of a memory; a byte that is not listed reads as 0 (a wiped memory, R87). -/
def memGet (m : List Host.Cell) (a : Nat) : Byte := Store.get m 0 a

/-- Write one byte of a memory. -/
def memSet (m : List Host.Cell) (a : Nat) (b : Byte) : List Host.Cell := Store.set m 0 a b

/-- n bytes of a memory from an address. -/
def memRead (m : List Host.Cell) (a n : Nat) : List Byte := (List.range n).map (fun i => memGet m (a + i))

/-- Write bytes of a memory from an address. -/
def memWrite (m : List Host.Cell) : Nat → List Byte → List Host.Cell
  | _, [] => m
  | a, b :: l => memWrite (memSet m a b) (a + 1) l

/-- The memory with an address range cleared to zero. -/
def memClear (m : List Host.Cell) (a n : Nat) : List Host.Cell := m.filter (fun c => c.1 < a || a + n ≤ c.1)

/-- The canonical form of a memory. -/
def Memory.wf (m : List Host.Cell) : Bool := Store.canon (fun _ => (0 : Byte)) m

/-! ## Refusals of memory (R87, R90, R299, R331) -/

/-- A wipe of context memory and message memory runs (R87). -/
def State.wiping (s : State) : Bool := s.on F.SYS.BOOT_STATUS_WIPE

/-- An access of n bytes touches the context header pages (R299) or the weight buffer (R331). -/
def State.inHeader (s : State) (a n : Nat) : Bool :=
  let base := s.f F.BFM.CTX_POOL_BASE * 0x10000
  s.f F.BFM.CTX_POOL_SIZE != 0 && decide (base < a + n) && decide (a < base + 384 * 4096)
def State.inWgtBuf (s : State) (a n : Nat) : Bool :=
  let base := s.f F.BFM.WGT_BUF_BASE * 0x10000
  decide (base < a + n) && decide (a < base + s.f F.BFM.WGT_BUF_SIZE * 0x10000)

/-- A little-endian number of n bytes of an image, and the image length that counts: its own LEN at a wake, else BOOT_IMG_LEN (R90, R561). -/
def State.img (s : State) (b : BootRun) (off n : Nat) : Nat := ofLe (memRead s.mem (b.base + off) n)
def State.imgLen (s : State) (b : BootRun) : Nat := if b.wake then s.img b 4 4 else b.len

/-- A byte range that a running image check keeps from being written (R90). -/
def State.bootLocks (s : State) (a n : Nat) : Bool :=
  match s.pwr.boot with
  | some b => decide (a < b.base + s.imgLen b) && decide (b.base < a + n)
  | none => false

/-- A write of n bytes by an array block, an engine or the link is refused (R87, R90, R218, R299). -/
def State.engRefused (s : State) (a n : Nat) : Bool := s.wiping || s.inHeader a n || s.bootLocks a n

/-! ## Free values -/

/-- The number of the next free value, which is then used up. -/
def State.tickFree (s : State) : State := { s with freeCnt := s.freeCnt + 1 }

/-! ## Ports -/

/-- The p-th port. -/
def State.port (s : State) (p : Nat) : PortSt := s.ports.getD p {}
def State.setPort (s : State) (p : Nat) (x : PortSt) : State := { s with ports := setNth s.ports p x }

/-- The port belongs to a bond (R153); the lower member names the logical port.  DESIGN CHOICE (log entry 83): a pair whose members stand at unequal RATE, which
R153 forbids, works as two ports. -/
def State.bonded (s : State) (p : Nat) : Bool :=
  (s.f F.RTE.BOND_CFG_BOND_EN).testBit (p / 2) && s.f (F.LNK.PORT_CFG_RATE (2 * (p / 2))) == s.f (F.LNK.PORT_CFG_RATE (2 * (p / 2) + 1))
def State.logical (s : State) (p : Nat) : Nat := if s.bonded p then 2 * (p / 2) else p

/-- The other member of a pair of ports. -/
def mateOf (p : Nat) : Nat := if p % 2 = 0 then p + 1 else p - 1

/-- The ports of a logical port. -/
def State.members (s : State) (o : Nat) : List Nat := if s.bonded o then [2 * (o / 2), 2 * (o / 2) + 1] else [o]

end Sys2Proof.Machine
end

