-- ==== Sys2Proof/Machine/Time.lean ====
section
/-! DEFINITION. Time: the instant of the machine and the four time bases (R172 to R175), the servo (R178, R179), the grids of
slots and symbols (R11 to R14), the air timeline (R181 to R188) and the network-listen receiver (R189 to R192).
Instants are numbers of 1/384 ns of converter-clock time, so that every symbol start (a multiple of 1/122.88 MHz = 3,125
units) and every nanosecond (384 units) is exact. -/

namespace Sys2Proof.Machine

/-- Units of an instant in one nanosecond, one microsecond and one frame. -/
def nsU : Nat := 384
def usU : Nat := 384000
def msU : Nat := 384000000
def frameU : Nat := 3840000000
/-- Units of one sample at 122.88 MS/s. -/
def smpU : Nat := 3125

/-- A measured value shown in a signed field; a value too wide for it shows a free one. -/
def State.showFi (s : State) (x : Fld) (i : Int) : State :=
  let h : Int := (2 ^ (x.hi - x.lo) : Nat)
  if -h ≤ i ∧ i < h then s.setFi x i else s.setF x (Config.overWide i (x.hi + 1 - x.lo))

/-! ## Grids -/

/-- Slots per frame of a spacing code: 0 for 15 kHz, 1 for 30 kHz, 2 for 60 kHz (R11). -/
def slotsPerFrame (scs : Nat) : Nat := 10 * 2 ^ scs

/-- Start of the n-th slot of a grid after a frame start, in samples of 122.88 MS/s (R11). -/
def slotStart (scs n : Nat) : Nat :=
  match scs with
  | 0 => 122880 * n
  | 1 => 61440 * n
  | _ => 61440 * (n / 2) + 30752 * (n % 2)

/-- Start of symbol k of the n-th slot within that slot, in samples of 122.88 MS/s, long cyclic prefixes included (R11). -/
def symStart (scs n k : Nat) : Nat :=
  match scs with
  | 0 => 8768 * k + (if 1 ≤ k then 64 else 0) + (if 8 ≤ k then 64 else 0)
  | 1 => 4384 * k + (if 1 ≤ k then 64 else 0)
  | _ => 2192 * k + (if 1 ≤ k ∧ n % 2 = 0 then 64 else 0)

/-- The slot of a grid in progress a number of units after a frame start. -/
def slotAt (scs off : Nat) : Nat :=
  match scs with
  | 0 => off / (122880 * smpU)
  | 1 => off / (61440 * smpU)
  | _ => 2 * (off / (61440 * smpU)) + (if 30752 * smpU ≤ off % (61440 * smpU) then 1 else 0)

/-- The symbol in progress a number of units after the start of the n-th slot. -/
def symAt (scs n off : Nat) : Nat :=
  ((List.range 14).filter (fun k => symStart scs n k * smpU ≤ off)).length - 1

/-- Whether carrier c is enabled, its leader core and its spacing (R36). -/
def State.carEn (s : State) (c : Nat) : Bool := s.on (F.SYS.GRID_CFG_EN c)
def State.carLeader (s : State) (c : Nat) : Nat := s.f (F.SYS.GRID_CFG_LEADER c)
def State.carScs (s : State) (c : Nat) : Nat := s.f (F.SYS.GRID_CFG_SCS c)

/-- The lowest-numbered enabled carrier, whose grid R14 names. -/
def State.lowCarrier (s : State) : Option Nat := (List.range 4).find? s.carEn

/-- Spacing of the grid of R14, if any carrier is enabled. -/
def State.gridScs (s : State) : Option Nat := s.lowCarrier.map s.carScs

/-- Whether leader core L paces an enabled carrier. -/
def State.paces (s : State) (L : Nat) : Bool := (List.range 4).any (fun c => s.carEn c && s.carLeader c == L)

/-- Spacing of the grid of leader core L: of the carriers it paces (R13), else the grid of R14 (R599). -/
def State.leaderScs (s : State) (L : Nat) : Option Nat :=
  match (List.range 4).find? (fun c => s.carEn c && s.carLeader c == L) with
  | some c => some (s.carScs c)
  | none => s.gridScs

/-- Units since the timeline's frame origin. -/
def State.tlOff (s : State) : Nat := s.now - s.tim.t0

/-- Absolute index of the slot in progress on a grid. -/
def State.slotNow (s : State) (scs : Nat) : Nat := slotAt scs s.tlOff

/-- Frame number of an absolute slot index (R11). -/
def State.frameOf (s : State) (scs n : Nat) : Nat := (s.tim.frame0 + n / slotsPerFrame scs) % 1024

/-- Instant of the n-th slot boundary of a grid. -/
def State.slotInstant (s : State) (scs n : Nat) : Nat := s.tim.t0 + slotStart scs n * smpU

/-- Instant of the nominal start of symbol k of the n-th slot (R12). -/
def State.symInstant (s : State) (scs n k : Nat) : Nat := s.tim.t0 + (slotStart scs n + symStart scs n k) * smpU

/-- Present frame number. -/
def State.frameNow (s : State) : Nat := (s.tim.frame0 + s.tlOff / frameU) % 1024

/-- Index of the first slot boundary of a grid at or after an instant. -/
def State.slotAfter (s : State) (scs t : Nat) : Nat :=
  let n := slotAt scs (t - s.tim.t0)
  if s.slotInstant scs n < t then n + 1 else n

/-! ## The time bases -/

/-- The n-th time base. -/
def State.tb (s : State) (n : Nat) : TimeBase := s.tim.bases.getD n {}

/-- Replace the n-th time base. -/
def State.setTb (s : State) (n : Nat) (b : TimeBase) : State := { s with tim := { s.tim with bases := setNth s.tim.bases n b } }

/-- Nanoseconds, tally, and extended time in 1/16 ns of a base. -/
def TimeBase.ns (b : TimeBase) : Nat := b.val / 2 ^ 32 % 2 ^ 32
def TimeBase.tally (b : TimeBase) : Nat := b.val / 2 ^ 64 % 256
def TimeBase.ext16 (b : TimeBase) : Nat := b.val / 2 ^ 28

/-- Followed base of the timeline. -/
def State.followed (s : State) : Nat := s.f F.TIM.TL_STATUS_FOLLOWED

/-- Rate term of the steering (R183), in 2^-32: the followed base's, or that of SYNC_IN while it is followed. -/
def State.tlRate (s : State) : Int := if s.tim.syncOn then s.tim.syncRate else s.fi (F.TIM.TB_FREQ_FREQ s.followed)

/-- Steering before its limit: the rate term, and a phase term of at most SLEW against the error (R183). -/
def State.steerRaw (s : State) : Int :=
  let slew : Int := (s.f F.TIM.TL_CFG_SLEW * 4294967296 / 100000000 : Nat)
  s.tlRate + (if s.tim.err = 0 then 0 else if 0 < s.tim.err then -slew else slew)

/-- Steering of the converter clock in units of 2^-32, clamped to 25 ppm, while the timeline counts (R181, R183). -/
def State.steer (s : State) : Int := if s.tlCounts then max (-107374) (min 107374 s.steerRaw) else 0

/-- Whether the steering stands at its limit. -/
def State.steerLimited (s : State) : Bool := s.tlCounts && (s.steer == 107374 || s.steer == -107374)

/-- A base set to an extended count; WRAP and HALF are raised where it passes 0 or 0x8000_0000 (R173). -/
def State.tbMove (s : State) (n : Nat) (v : Int) : State :=
  let old : Int := (s.tb n).val
  let wraps := old / (2 ^ 64 : Nat) ≠ v / (2 ^ 64 : Nat)
  let halves := (old + (2 ^ 63 : Nat)) / (2 ^ 64 : Nat) ≠ (v + (2 ^ 63 : Nat)) / (2 ^ 64 : Nat)
  let s := s.setTb n { s.tb n with val := (v % (2 ^ 72 : Nat)).toNat }
  (s.when wraps (·.raise (F.TIM.EVT_WRAP n))).when halves (·.raise (F.TIM.EVT_HALF n))

/-- A base is stepped: a start that the step reaches takes place now (R175, R182). -/
def State.tbJump (s : State) (n : Nat) (v : Int) : State :=
  let s := s.tbMove n v
  { s with tim := { s.tim with startFrom := s.now } }

/-- The clock word of the converters and the rate word of a base: 2^32 stands for 1. -/
def State.clkWord (s : State) : Nat := (4294967296 + s.steer).toNat
def State.rateWord (s : State) (n : Nat) : Nat := (4294967296 + s.fi (F.TIM.TB_FREQ_FREQ n)).toNat

/-- REFCLK time of a span of converter-clock time, and the period of an advance, in 2^-32 of 1/384 ns (R172). -/
def State.refSpan (s : State) (e : Nat) : Nat := e * 2 ^ 64 / s.clkWord
def tickRef : Nat := 2 * nsU * 2 ^ 32

/-- Advances of the bases over a span (R172). -/
def State.ticks (s : State) (e : Nat) : Nat := (s.tim.refRem + s.refSpan e) / tickRef

/-- What a base adds at an advance, 2 ns × (1 + FREQ), and over a span, in 2^-32 ns (R172). -/
def State.tickInc (s : State) (n : Nat) : Nat := 2 * s.rateWord n
def State.tbInc (s : State) (n e : Nat) : Nat := s.ticks e * s.tickInc n

/-- The followed time that passes over a span, between the advances too, in 2^-32 ns. -/
def State.tbFlow (s : State) (n e : Nat) : Nat := e * s.rateWord n * 4294967296 / (384 * s.clkWord)

/-- Change of the timeline's error over 384 × 10^8 units of converter-clock time, in 2^-32 ns: towards 0 at SLEW, but the rest of the rate where the steering is
clamped (R183). -/
def State.errRate (s : State) : Int :=
  if !s.tlCounts then 0
  else if s.steer ≠ s.steerRaw then (s.steer - s.tlRate) * 100000000
  else
    let v : Int := (s.f F.TIM.TL_CFG_SLEW * 4294967296 : Nat)
    if s.tim.err = 0 then 0 else if 0 < s.tim.err then -v else v

/-- The span after which the error is removed, if it shrinks. -/
def State.zeroSpan (s : State) : Option Nat :=
  if (0 < s.tim.err ∧ s.errRate < 0) ∨ (s.tim.err < 0 ∧ 0 < s.errRate) then
    some ((s.tim.err.natAbs * 38400000000 + s.errRate.natAbs - 1) / s.errRate.natAbs)
  else none

/-- The error after a span within which it does not change its sign, and the residual, which goes with it (R183, R184). -/
def State.errAfter (s : State) (e : Nat) : Int :=
  let v := s.tim.err + e * s.errRate / 38400000000
  if s.zeroSpan.isNone then v else if 0 < s.tim.err then max 0 v else min 0 v
def State.residualAfter (s : State) (e : Nat) : Int :=
  let gone : Int := max 0 ((s.tim.err.natAbs : Int) - (s.errAfter e).natAbs)
  if 0 < s.tim.residual then s.tim.residual - min gone s.tim.residual else s.tim.residual + min gone (-s.tim.residual)

/-- A span of one steering passes: the bases advance while the CTL domain is on, and the timeline's error against its target is steered away (R172, R183, R184). -/
def State.span (s : State) (e : Nat) : State :=
  let ctl := s.domOn Dom.ctl
  let s1 := if ctl then s.each (List.range 4) (fun s' n => s'.tbMove n ((s.tb n).val + s.tbInc n e : Nat)) else s
  let err' := s.errAfter e
  let res' := s.residualAfter e
  let gap := if s.tim.syncOn then s.tim.baseErr + (e * 4294967296 / 384 : Nat) - (s.tbFlow s.followed e : Nat) else s.tim.baseErr
  let s2 := { s1 with now := s.now + e, tim := { s1.tim with err := err', residual := res', baseErr := gap,
                                                             refRem := if ctl then (s.tim.refRem + s.refSpan e) % tickRef else s.tim.refRem } }
  let phase16 := (err' - res') / (268435456 : Int)
  let s3 := ((s2.setFi F.TIM.TL_STEER_STEER s.steer).showFi F.TIM.TL_PHASE_PHASE phase16).setF F.TIM.TL_STATUS_SLEWING
              (b2n (err' ≠ 0))
  let s4 := s3.when s.steerLimited (·.raise F.TIM.EVT_TL_STEER_LIMIT)
  s4.when (s.tlCounts && s.f F.TIM.TL_CFG_ALARM * 160 < phase16.natAbs) (·.raise F.TIM.EVT_TL_OFFSET)

/-- Let a span of time pass: the steering changes where the error is removed (R183). -/
def State.elapse (s : State) (e : Nat) : State :=
  match s.zeroSpan with
  | some z => if z < e then (s.span z).span (e - z) else s.span e
  | none => s.span e

/-- Let time run on to an instant; an instant already passed changes nothing. -/
def State.advanceTo (s : State) (t : Nat) : State := if s.now < t then s.elapse (t - s.now) else s

/-- The span of one steering after which a base has added at least d, in 2^-32 ns. -/
def State.tbSpan (s : State) (n d : Nat) : Nat :=
  let k := (d + s.tickInc n - 1) / s.tickInc n
  ((k * tickRef - s.tim.refRem) * s.clkWord + 2 ^ 64 - 1) / 2 ^ 64

/-- Time runs on until a base has added at least d. -/
def State.tbAdvance (s : State) (n d : Nat) : State :=
  match s.zeroSpan with
  | some z => if z < s.tbSpan n d then (let u := s.span z; u.span (u.tbSpan n (d - s.tbInc n z))) else s.span (s.tbSpan n d)
  | none => s.span (s.tbSpan n d)

/-- Time runs on until base n next passes a point of its 32-bit count, given in 2^-32 ns. -/
def State.tbRunTo (s : State) (n point : Nat) : State :=
  let d := (point + 2 ^ 64 - (s.tb n).val % 2 ^ 64) % 2 ^ 64
  s.tbAdvance n (if d = 0 then 2 ^ 64 else d)

/-- A base is the followed base of a running or coasting timeline (R175). -/
def State.tbHeld (s : State) (n : Nat) : Bool := s.tlCounts && s.followed == n

/-- Servo state of a base, and its change, which raises STATE_CHG (R179). -/
def State.servo (s : State) (n : Nat) : Nat := s.f (F.TIM.TB_STATUS_STATE n)

def State.setServo (s : State) (n st : Nat) : State :=
  if s.servo n = st then s else (s.setF (F.TIM.TB_STATUS_STATE n) st).raise (F.TIM.EVT_STATE_CHG n)

/-- Enter ACQUIRE: the next complete exchange steps the base (R179). -/
def State.servoAcquire (s : State) (n : Nat) : State :=
  (s.setServo n 1).setTb n { s.tb n with stepped := false, lockRun := 0, missRun := 0, integ := 0 }

/-- Mean of the last values of FREQ. -/
def meanFreq (l : List Int) : Int := if l.isEmpty then 0 else l.foldl (· + ·) 0 / (l.length : Int)

/-- Enter HOLDOVER: FREQ is frozen at its mean over the last LOCK_COUNT exchanges (R179). -/
def State.servoHoldover (s : State) (n : Nat) : State :=
  if s.servo n = 0 || s.servo n = 3 then s
  else
    let h := (s.tb n).freqHist
    let s := if h.isEmpty then s else s.setFi (F.TIM.TB_FREQ_FREQ n) (meanFreq h)
    s.setServo n 3

/-- Count a missed exchange or window; HOLD_MISS in a row enter HOLDOVER (R178, R179). -/
def State.servoMiss (s : State) (n : Nat) : State :=
  let b := s.tb n
  let s := (s.inc (F.TIM.TB_STATUS_MISS n)).setTb n { b with missRun := b.missRun + 1 }
  s.when (s.f (F.TIM.TB_SERVO_HOLD_MISS n) ≤ b.missRun + 1) (·.servoHoldover n)

/-- Exchanges in a row within LOCK_THRESH, with one of this offset (R179). -/
def State.lockRunWith (s : State) (n : Nat) (offset : Int) : Nat :=
  if offset.natAbs ≤ 16 * s.f (F.TIM.TB_SERVO_LOCK_THRESH n) then (s.tb n).lockRun + 1 else 0

/-- FREQ of the last LOCK_COUNT exchanges, with one more. -/
def State.freqHistWith (s : State) (n : Nat) (fq : Int) : List Int :=
  let h := (s.tb n).freqHist
  (h ++ [fq]).drop ((h.length + 1) - s.f (F.TIM.TB_SERVO_LOCK_COUNT n))

/-- LOCKED after LOCK_COUNT exchanges within LOCK_THRESH, and out of it beyond four times that (R179). -/
def State.servoLock (s : State) (n : Nat) (offset : Int) : State :=
  if s.servo n = 1 && s.f (F.TIM.TB_SERVO_LOCK_COUNT n) ≤ (s.tb n).lockRun then s.setServo n 2
  else if s.servo n = 2 && 4 * (16 * s.f (F.TIM.TB_SERVO_LOCK_THRESH n)) < offset.natAbs then s.servoAcquire n
  else s

/-- One complete exchange or detection with its offset in 1/16 ns (R179). -/
def State.servoExchange (s : State) (n : Nat) (offset : Int) : State :=
  let s := s.showFi (F.TIM.TB_OFFSET_OFFSET n) offset
  let s := if s.servo n = 3 then s.servoAcquire n else s
  let s := s.setTb n { s.tb n with missRun := 0 }
  if s.servo n = 0 then s
  else if s.servo n = 1 && !(s.tb n).stepped && !s.tbHeld n then
    -- the step: whole extended time for a link slave, nanoseconds only for TB2 (R192)
    let v : Int := (s.tb n).val - offset * 268435456
    let v := if n = 2 then ((s.tb n).val / 2 ^ 64 : Nat) * (2 ^ 64 : Nat) + v % (2 ^ 64 : Nat) else v
    let s := s.tbJump n v
    (s.setTb n { s.tb n with stepped := true, lockRun := s.lockRunWith n offset,
                             freqHist := s.freqHistWith n (s.fi (F.TIM.TB_FREQ_FREQ n)) }).servoLock n offset
  else
    let b := s.tb n
    let integ := b.integ + offset
    let fq := Config.servoFreq (s.fi (F.TIM.TB_FREQ_FREQ n)) integ offset (s.f (F.TIM.TB_SERVO_KP n))
                (s.f (F.TIM.TB_SERVO_KI n))
    let fq := max (-429496) (min 429496 fq)
    ((s.setFi (F.TIM.TB_FREQ_FREQ n) fq).setTb n
      { b with integ := integ, lockRun := s.lockRunWith n offset, freqHist := s.freqHistWith n fq, stepped := true }).servoLock n offset

/-! ## Stamps (R180) -/

/-- The fixed corrections of a stamp at the rate of a port in 0.1 ns, and the greatest error of one in 1/16 ns (R180). -/
def State.rateOf (s : State) (p : Nat) : Nat := s.f (F.LNK.PORT_CFG_RATE p)
def txCorr (rate : Nat) : Nat := [264, 153, 97, 69].getD rate 0
def rxCorr (rate : Nat) : Nat := [361, 222, 153, 118].getD rate 0
def stampTol (rate : Nat) : Nat := [28, 16, 9, 6].getD rate 0

/-- The error of the next stamp at a port: free within its limits. -/
def State.stampErr (s : State) (p : Nat) : Int :=
  let t : Int := stampTol (s.rateOf p)
  max (-t) (min t (Config.stampErr s.freeCnt))

/-- A stamp of 44 bits in 1/16 ns from an extended count in 2^-32 ns and an error. -/
def stamp44 (v err : Int) : Nat := ((v / 268435456 + err) % (2 ^ 44 : Nat)).toNat

/-- The time of n line bits at the rate of a port (R94). -/
def State.lineSpan (s : State) (p n : Nat) : Nat := n * 160 / (3 * 2 ^ s.rateOf p)

/-- Transmit stamp of base n on a port: its value as header word 0 enters the serialiser, and the fixed correction (R180). -/
def State.txStamp (s : State) (n p : Nat) : Nat :=
  stamp44 ((s.tb n).val + (txCorr (s.rateOf p) * 4294967296 / 10 : Nat)) (s.stampErr p)

/-- Receive stamp of base n on a port: its value behind the deskew, less the fixed correction, the lane's deskew delay and the fill of the elastic buffer (R180). -/
def State.rxStamp (s : State) (n p : Nat) : Nat :=
  let x := s.port p
  let late : Int := (s.lineSpan p (Config.deskew s.freeCnt % (x.skew + 1)) + s.lineSpan p x.fill.toNat : Nat) - (s.lineSpan p (-x.fill).toNat : Nat) + (x.rxLag : Nat)
  stamp44 ((s.tb n).val - (rxCorr (s.rateOf p) * 4294967296 / 10 : Nat) - late * (s.rateWord n : Nat) / 384) (s.stampErr p)

/-! ## The exchanges over the Rope (R176 to R178) -/

/-- A TIME frame goes hop-local to a port; the transmitter puts the stamp of its base into bytes 4 to 9 as it departs (R176). -/
def State.sendTime (s : State) (port kind base exch : Nat) (t4 : Nat) : State :=
  let pay := leBytes 1 kind ++ leBytes 1 base ++ leBytes 2 exch ++ leBytes 6 0 ++ leBytes 1 (s.servo base) ++
    leBytes 1 (s.f (F.TIM.TB_STATUS_STRATUM base)) ++ leBytes 4 (t4 / 16) ++ leBytes 1 (t4 % 16) ++ leBytes 1 (t4 / 2 ^ 36) ++ leBytes 14 0
  { s with hopOut := s.hopOut ++ [(port, { typ := 3, vc := 0, src := s.f F.RTE.DEV_CFG_DEV_ADDR, payload := pay })] }

/-- The payload of a TIME frame with TXSTAMP, TXFRAC and TXTALLY of a stamp (R176). -/
def stampPayload (pl : List Byte) (t : Nat) : List Byte :=
  pl.take 4 ++ leBytes 4 (t / 16) ++ leBytes 1 (t % 16) ++ leBytes 1 (t / 2 ^ 36) ++ pl.drop 10

/-- The base a TIME frame names. -/
def timeBase (pl : List Byte) : Nat := ofLe ((pl.drop 1).take 1)

/-- A slave's DELAY_REQ departs: its TXSTAMP is t3 (R178). -/
def State.reqDeparts (s : State) (pl : List Byte) (t : Nat) : State :=
  let n := timeBase pl
  if ofLe (pl.take 1) = 1 then s.setTb n { s.tb n with exch := (s.tb n).exch.map (fun x => { x with t3 := t }) } else s

/-- Refuse a TIME frame (R177). -/
def State.timeDrop (s : State) : State := (s.inc F.TIM.TIME_DROP_CNT_CNT).raise F.TIM.EVT_TIME_DROP

/-- Whether base n is a link slave on a port, and a master there; either member names a bond (R153, R177, R194). -/
def State.slaveOn (s : State) (n port : Nat) : Bool :=
  n < 2 && s.f (F.TIM.TB_DISC_MODE n) == 1 && s.logical (s.f (F.TIM.TB_DISC_PORT n)) == s.logical port
def State.masterOn (s : State) (n port : Nat) : Bool :=
  n < 2 && (s.members port).any (fun q => (s.f (F.TIM.TB_DISC_MASTER_MASK n)).testBit q)

/-- Signed difference of two extended stamps of 44 bits, in 1/16 ns. -/
def stampDiff (a b : Nat) : Int := signed 44 ((a + 2 ^ 44 - b % 2 ^ 44) % 2 ^ 44)

/-- An extended stamp from its three parts. -/
def stampOf (tally ns frac : Nat) : Nat := (tally * 2 ^ 32 + ns) * 16 + frac

/-! ## The timeline -/

/-- Extended nanoseconds from the followed base to the armed start, as a signed 40-bit difference (R182). -/
def State.startAhead (s : State) : Int :=
  let start := s.f F.TIM.TL_START_EXT_TALLY * 2 ^ 32 + s.f F.TIM.TL_START_START_NS
  signed 40 ((start + 2 ^ 40 - (s.tb s.followed).val / 2 ^ 32 % 2 ^ 40) % 2 ^ 40)

/-- Timeline time minus base n now, in 2^-32 ns: what its residual would be (R184). -/
def State.tlMinusBase (s : State) (n : Nat) : Int :=
  let d : Int := (s.tb s.followed).val - (s.tb n).val + (if s.tim.syncOn then s.tim.baseErr else s.tim.err)
  signed 72 (d % (2 ^ 72 : Nat)).toNat

/-- The timeline follows base n from now on; it does not move, and without a timeline there is no residual (R184). -/
def State.followBase (s : State) (n : Nat) : State :=
  if s.followed = n then s
  else
    let r := if s.tlCounts then s.tlMinusBase n else 0
    let tim := if s.tim.syncOn && s.tlCounts then { s.tim with baseErr := r } else { s.tim with residual := r, err := r }
    let s := { s with tim := { tim with startFrom := s.now } }
    (((s.setF F.TIM.TL_STATUS_FOLLOWED n).setF F.TIM.TL_STATUS_SLEWING (b2n (r ≠ 0))).raise F.TIM.EVT_TL_SWITCH)

/-- The armed start against the followed base, in 2^-32 ns: positive while it lies ahead (R182). -/
def State.startGap (s : State) : Int := (s.startAhead + 10000000 * (s.tim.startK : Nat)) * 4294967296 - ((s.tb s.followed).val % 2 ^ 32 : Nat)

/-- A start comes to be awaited in a mode that runs the timeline, by ARM or as the mode is reached: one already passed is moved by whole frames to lie 100 µs ahead
(R182). -/
def State.latchStart (s : State) : State :=
  let s := { s with tim := { s.tim with startK := 0, startFrom := s.now } }
  let k := if 0 ≤ s.startGap then 0 else ((100000 * 4294967296 - s.startGap + 10000000 * 4294967296 - 1) / (10000000 * 4294967296)).toNat
  { s with tim := { s.tim with startK := k } }

/-- The automatic switch of R185 at a slot boundary. -/
def State.autoSwitch (s : State) : State :=
  let f := s.followed
  let a := s.f F.TIM.TL_CFG_ALT
  let ms := fun n => s.f (F.TIM.TB_STATUS_MASTER_STATE n)
  if s.on F.TIM.TL_CFG_AUTO && s.tlRun && (s.servo f == 3 || ms f == 0 || ms f == 3) && s.servo a == 2 && ms a == 2 then
    ((s.followBase a).setF F.TIM.TL_CFG_SEL a).setF F.TIM.TL_CFG_ALT f
  else s

/-- Without a timeline there is nothing to hold SYNC_IN to (R187). -/
def State.syncForget (s : State) : State :=
  { s.setF F.TIM.TL_STATUS_SYNC_LOCK 0 with tim := { s.tim with syncOn := false, syncRun := 0, syncNear := 0 } }

/-! ## Network listen: predicted instants (R190, R192) -/

/-- Preamble period in 1/16 ns of TB2. -/
def State.nlPeriod (s : State) : Nat := s.f F.NLR.NL_TIMING_PERIOD * 160000000

/-- How far an instant of TB2 lies behind the predicted preamble, its position and the propagation delay taken off, in 1/16 ns (R192). -/
def State.nlDist (s : State) (tp : Nat) : Int :=
  stampDiff tp s.tim.nlPredict - 16 * (s.f F.NLR.NL_OFFSET_PRE_OFFSET + s.f F.NLR.NL_DET_AIR_DELAY : Nat)

/-- Half a TRACK window in 1/16 ns. -/
def State.nlHalf (s : State) : Nat := s.f F.NLR.NL_TIMING_WIN * 8000

end Sys2Proof.Machine
end

