-- ==== Sys2Proof/Machine/Sys.lean ====
section
/-! DEFINITION. The shadow, the armed copy and their boundaries (R22, R27, R28, R33, R34), the command tables and staging (R15 to R20, R26,
R599, R600), and the legality of the SYS timeline registers (R13, R17, R36 to R38, R496). -/

namespace Sys2Proof.Machine

/-! ## The shadow and the armed copy -/

/-- Fields of a register with one access code. -/
def fieldsOf (a : Nat) (c : Access) : List FieldSpec :=
  match regSpec? a with
  | some r => r.fields.filter (fun x => x.acc == c)
  | none => []

/-- A word with the given fields taken from another word. -/
def mergeFields (fs : List FieldSpec) (old new : Nat) : Nat :=
  fs.foldl (fun w x => setBits w x.hi x.lo (bits new x.hi x.lo)) old

/-- The shadow of a register: the last word written, or the active value where nothing has been written (R27). -/
def State.shadowWord (s : State) (a : Nat) : Nat := (Store.find? s.shadow a).getD (s.reg a).toNat

/-- A write to the RWS fields of a register lands in the shadow (R27). -/
def State.writeShadow (s : State) (a : Nat) (fs : List FieldSpec) (w : Nat) : State :=
  { s with shadow := Store.insert s.shadow a (mergeFields fs (s.shadowWord a) w) }

/-- Copy the armed fields of one kind of a register to the active value. -/
def State.applyReg (s : State) (r : ArmedReg) (c : Access) : State :=
  s.setReg r.addr (BitVec.ofNat 32 (mergeFields (fieldsOf r.addr c) (s.reg r.addr).toNat r.val))

/-- Armed entry still awaiting a boundary. -/
def ArmedReg.waits (r : ArmedReg) : Bool := !r.sym.isEmpty || !r.slot.isEmpty

/-- What the fields of one kind of an armed register wait for. -/
def ArmedReg.trigs (r : ArmedReg) (sym : Bool) : List ArmTrig := if sym then r.sym else r.slot

/-- Copy the chosen armed fields of one kind to the active values; the boundary counts once per block in APPLY_CNT (R34). -/
def State.applyArmed (s : State) (blk : Nat) (sym : Bool) (p : ArmedReg → Bool) : State :=
  let mine := fun (r : ArmedReg) => blkOf r.addr == blk && !(r.trigs sym).isEmpty && p r
  let rs := s.armed.filter mine
  if rs.isEmpty then s
  else
    let s1 := s.each rs (fun s' r => s'.applyReg r (if sym then .rws else .rwsSlot))
    let s2 := { s1 with armed := (s1.armed.map (fun r =>
      if mine r then (if sym then { r with sym := [] } else { r with slot := [] }) else r)).filter ArmedReg.waits }
    s2.incMod (F.common.SHD_STATUS_APPLY_CNT blk)

/-- The registers of a block with RWS fields, one of each array; of a carrier's registers one for each carrier. -/
def rwsRegs (blk : Nat) : List Nat :=
  (((blockTable blk).filter (fun r => r.fields.any (fun x => x.acc == .rws || x.acc == .rwsSlot))).map (fun r =>
    (List.range (if r.s1 = 0x40 ∧ r.n1 = 4 then 4 else 1)).map (fun i => blockBase blk + r.off + i * r.s1))).flatten

/-- The registers a commit of a block arms: those whose shadow was written, and of those never written, whose shadow equals the active value, one that stands for
its array (R28, R34). -/
def State.armable (s : State) (blk : Nat) : List Nat :=
  let l := (s.shadow.map (·.1)).filter (fun a => blkOf a == blk)
  l ++ (rwsRegs blk).filter (fun a => !l.contains a)

/-- The triggers of armed fields after a further commit: a register commit takes the place of an earlier one, a COMMIT command stands beside it (R28). -/
def ArmTrig.again (t : ArmTrig) (old : List ArmTrig) : List ArmTrig :=
  match t with
  | .commit _ => old.filter (fun x => match x with
    | .commit _ => false
    | .command _ _ => true) ++ [t]
  | .command _ _ => old ++ [t]

/-- The armed copy of a register after a commit. -/
def State.armReg (s : State) (t : ArmTrig) (a : Nat) : ArmedReg :=
  let old := s.armed.find? (fun r => r.addr == a)
  let wait := fun (c : Access) (l : List ArmTrig) => if (fieldsOf a c).isEmpty then [] else t.again l
  { addr := a, val := s.shadowWord a, sym := wait .rws ((old.map ArmedReg.sym).getD []), slot := wait .rwsSlot ((old.map ArmedReg.slot).getD []) }

/-- Copy the shadow of a block into the armed copy (R28, R33); a second commit replaces the armed copy.  A commit of BFM commits WGT_CFG (R345). -/
def State.armShadow (s : State) (blk : Nat) (t : ArmTrig) : State :=
  { s with armed := s.armed.filter (fun r => blkOf r.addr != blk) ++ (s.armable blk).map (s.armReg t),
           bfm := { s.bfm with committed := s.bfm.committed || blk == 17 } }

/-- A change of the base the timeline follows, after TL_CFG.SEL took a new value (R184). -/
def State.followSel (s : State) : State := s.followBase (s.f F.TIM.TL_CFG_SEL)

/-- A commit of a block's shadow.  TIM applies at once while the timeline is IDLE or WAIT (R184), AUX while it is not in RUN
(R513); elsewhere the armed fields await their boundary (R27). -/
def State.commitShadow (s : State) (blk : Nat) : State :=
  let s := s.armShadow blk (.commit s.now)
  if blk = 3 && !s.tlCounts then (s.applyArmed 3 false (fun _ => true)).followSel
  else if blk = 22 && !s.tlRun then s.applyArmed 22 false (fun _ => true)
  else s

/-- Abandon uncommitted writes: the active values are copied into the shadow, the armed copy is kept (R33). -/
def State.discardShadow (s : State) (blk : Nat) : State :=
  { s with shadow := s.shadow.map (fun e => if blkOf e.1 == blk then (e.1, (s.reg e.1).toNat) else e) }

/-- The RWS fields of a register, of either boundary kind. -/
def shadowFields (a : Nat) : List FieldSpec := fieldsOf a .rws ++ fieldsOf a .rwsSlot

/-- Two words differ in an RWS field of a register. -/
def rwsDiffer (a v w : Nat) : Bool := (shadowFields a).any (fun x => bits v x.hi x.lo != bits w x.hi x.lo)

/-- DIRTY: the shadow differs from the armed copy, or from the active values when nothing is armed (R34). -/
def State.shadowDirty (s : State) (blk : Nat) : Bool :=
  s.shadow.any (fun e => blkOf e.1 == blk &&
    rwsDiffer e.1 e.2 (((s.armed.find? (fun r => r.addr == e.1)).map ArmedReg.val).getD (s.reg e.1).toNat))

/-- SHD_STATUS as read (R34). -/
def State.shdStatus (s : State) (blk : Nat) : Nat :=
  s.f (F.common.SHD_STATUS_APPLY_CNT blk) +
  2 ^ 16 * b2n (s.armed.any (fun r => blkOf r.addr == blk && !r.sym.isEmpty)) +
  2 ^ 17 * b2n (s.armed.any (fun r => blkOf r.addr == blk && !r.slot.isEmpty)) + 2 ^ 18 * b2n (s.shadowDirty blk)

/-- The carrier whose grid a register's RWS fields follow; none for device-wide fields, which follow R14. -/
def carrierOfReg (a : Nat) : Option Nat :=
  if (blkOf a = 14 ∨ blkOf a = 15) ∧ 0x200 ≤ offOf a ∧ offOf a < 0x300 then some ((offOf a - 0x200) / 0x40) else none

/-- A boundary of carrier c, at its symbol `index` counted from the start of the grid, is one that armed fields of a register wait for: after a register commit
a boundary of the register's own grid (R14) at least 2.0 µs later (R27), after a COMMIT command one of its carrier not before its trigger symbol (R22, R26). -/
def State.trigMet (s : State) (a c index : Nat) (t : ArmTrig) : Bool :=
  match t with
  | .commit since => (match carrierOfReg a with
    | some k => k == c
    | none => s.lowCarrier == some c) && since + 2 * usU ≤ s.now
  | .command k i => k == c && i ≤ index

/-- Whether a boundary of carrier c applies the fields of one kind of an armed register. -/
def State.boundaryTakes (s : State) (c index : Nat) (sym : Bool) (r : ArmedReg) : Bool := (r.trigs sym).any (s.trigMet r.addr c index)

/-! ## Command tables and staging -/

/-- Blocks with command tables, in the order of R14. -/
def cmdBlocks : List Nat := [14, 15, 16, 17, 18, 19, 26, 10]

/-- Staging state of a leader core. -/
def State.ldr (s : State) (L : Nat) : LeaderSt := s.leaders.getD L {}
def State.setLdr (s : State) (L : Nat) (x : LeaderSt) : State := { s with leaders := setNth s.leaders L x }

/-- The registers SLOT_STATUS_LC0 and SLOT_STATUS_LC1 (R39). -/
def slotStatusSealed (L : Nat) : Fld := if L = 0 then F.SYS.SLOT_STATUS_LC0_SEALED else F.SYS.SLOT_STATUS_LC1_SEALED
def slotStatusFrame (L : Nat) : Fld := if L = 0 then F.SYS.SLOT_STATUS_LC0_FRAME else F.SYS.SLOT_STATUS_LC1_FRAME
def slotStatusSlot (L : Nat) : Fld := if L = 0 then F.SYS.SLOT_STATUS_LC0_SLOT else F.SYS.SLOT_STATUS_LC1_SLOT
def slotMissCnt (L : Nat) : Fld := if L = 0 then F.SYS.SLOT_MISS_CNT_LC0_MISS else F.SYS.SLOT_MISS_CNT_LC1_MISS

/-- CMDQ_STATUS as read (R35).  DESIGN CHOICE (log entry 81): with 1,024 entries in both leaders' tables, more than the 10-bit fields hold, they show 1,023. -/
def State.cmdqStatus (s : State) (blk : Nat) : Nat :=
  min 1023 (s.staging.filter (fun (e : CmdEntry) => e.blk == blk)).length + 2 ^ 16 * min 1023 (s.live.filter (fun (e : CmdEntry) => e.blk == blk)).length

/-- Absolute index of the next slot boundary of a leader core's grid. -/
def State.slotIdxOf (s : State) (L : Nat) : Nat := s.tim.slotIdx.getD L 0

/-- Staging of slot n of a leader core's grid opens (R15 step 1); a leader that paces no enabled carrier has no target (R599).  The slot before it, now in progress,
runs without a sealed table where none was sealed (R16). -/
def State.openStaging (s : State) (L scs n : Nat) : State :=
  let s := s.setLdr L { target := s.paces L, missed := !(s.ldr L).sealed }
  let s := { s with staging := s.staging.filter (fun (e : CmdEntry) => e.leader != L),
                    tim := { s.tim with slotIdx := setNth s.tim.slotIdx L n } }
  ((s.setF (slotStatusSealed L) 0).setF (slotStatusFrame L) (s.frameOf scs n)).setF (slotStatusSlot L) (n % slotsPerFrame scs)

/-- An unsealed staging table is discarded whole: SLOT_MISS in DET_STATUS, the counter and the SYS event (R16). -/
def State.slotMiss (s : State) (L : Nat) : State :=
  let s := { s with staging := s.staging.filter (fun (e : CmdEntry) => e.leader != L) }
  let s := s.setLdr L { s.ldr L with cutoff := true }
  ((s.detBit F.SYS.DET_STATUS_SLOT_MISS).inc (slotMissCnt L)).raise F.SYS.EVT_SLOT_MISS

/-- The staging cut-off of a leader core passes, STAGE_GUARD before its next slot boundary (R15, R16). -/
def State.stagingCutoff (s : State) (L : Nat) : State :=
  match s.leaderScs L with
  | none => s
  | some scs =>
    if s.tlRun && (s.ldr L).target && !(s.ldr L).cutoff then
      let s := s.advanceTo (s.slotInstant scs (s.slotIdxOf L) - s.f F.SYS.STAGE_CFG_STAGE_GUARD * usU)
      if (s.ldr L).sealed then s.setLdr L { s.ldr L with cutoff := true } else s.slotMiss L
    else s

/-- Host Ledge is in force (R54). -/
def State.hostLedge (s : State) : Bool := s.pwr.rest == 1

/-- Whether the sealed tables run as empty tables: in host Ledge, and from the start of a prepare phase until its refusal or the end of the entry (R54, R55). -/
def State.restEmpty (s : State) : Bool :=
  s.hostLedge || (s.f F.PWR.REST_STATUS_STATE == 1 && s.pwr.asked.isSome) || s.f F.PWR.REST_STATUS_STATE == 3

/-- Whether the next slot will run empty as matters stand: a wake from host Ledge and the start of a prepare phase take effect at its boundary (R54, R55). -/
def State.restEmptyNext (s : State) : Bool :=
  (s.restEmpty && !(s.hostLedge && s.on F.PWR.REST_CTRL_WAKE)) || (s.f F.PWR.REST_STATUS_STATE == 1 && s.pwr.asked.isNone)

/-- The tables of a leader core swap at its slot boundary: the sealed table becomes live and staging of the slot after opens
(R15, R16, R26). -/
def State.swapTables (s : State) (L scs : Nat) : State :=
  let n := s.slotIdxOf L
  let s := if (s.ldr L).target && !(s.ldr L).sealed && !(s.ldr L).cutoff then s.slotMiss L else s
  let fresh := if (s.ldr L).sealed && !s.restEmpty then s.staging.filter (fun (e : CmdEntry) => e.leader == L) else []
  let s := { s with live := s.live.filter (fun (e : CmdEntry) => e.leader != L) ++ fresh }
  s.openStaging L scs (n + 1)

/-- The timeline enters RUN with the slot in progress on each grid: its tables are empty, and staging of the slot that
follows opens (R600). -/
def State.enterRun (s : State) : State :=
  let s := { s with live := [], staging := [] }
  let s := s.setF F.TIM.TL_STATUS_STATE 2
  let s := s.each [0, 1] (fun s' L => match s'.leaderScs L with
    | some scs => s'.openStaging L scs (s'.slotNow scs + 1)
    | none => s')
  { s with tim := { s.tim with symIdx := (List.range 4).map (fun c =>
      let scs := s.carScs c
      let n := s.slotNow scs
      let k := symAt scs n (s.tlOff - slotStart scs n * smpU)
      14 * n + k + (if s.symInstant scs n k < s.now then 1 else 0)) } }

/-- The timeline leaves RUN: no leader has a staging target and the tables are empty (R600).  DESIGN CHOICE (log entry 81): SEALED, FRAME and SLOT of SLOT_STATUS_LCx keep
their last values until the next target. -/
def State.leaveRun (s : State) (st : Nat) : State :=
  let s := s.when (st == 0) State.syncForget
  { s.setF F.TIM.TL_STATUS_STATE st with leaders := [{}, {}], live := [], staging := [] }

/-- A bulk result was not written by its deadline: RESULT_OVF, and the consuming block flags the slot's output invalid (R10). -/
def State.resultOvf (s : State) (blk frame slot : Nat) : State :=
  { s.detBit F.SYS.DET_STATUS_RESULT_OVF with invalidOut := s.invalidOut ++ [(blk, frame, slot)] }

/-- A real-time write of a block for a slot: it is made, or it is refused and counts as not completed by its deadline (R10, R87, R218). -/
def State.engWrite (s : State) (blk frame slot a : Nat) (body : List Byte) : State :=
  if s.engRefused a body.length then s.resultOvf blk frame slot else { s with mem := memWrite s.mem a body }

/-! ## Legality of the SYS timeline registers -/

/-- Sum of all quota fields, in units of 2 entries (R38). -/
def State.quotaSum (s : State) : Nat :=
  let byteSum := fun w => bits w 7 0 + bits w 15 8 + bits w 23 16 + bits w 31 24
  (List.range 9).foldl (fun n i => n + byteSum (s.reg (0x10000220 + 4 * i)).toNat) 0

/-- Quota of a core in one table of a block, in entries (R20, R38); cores 0 and 1 are LC0 and LC1. -/
def State.quota (s : State) (core : Nat) : Nat :=
  2 * (if core = 0 then s.f F.SYS.CMDQ_QUOTA8_LC0 else if core = 1 then s.f F.SYS.CMDQ_QUOTA8_LC1
       else bits (s.reg (0x10000220 + 4 * ((core - 2) / 4))).toNat (8 * ((core - 2) % 4) + 7) (8 * ((core - 2) % 4)))

/-- Half the slot length of the fastest enabled spacing, in µs (R17); 60 kHz slots count as 250 µs. -/
def State.halfSlotUs (s : State) : Nat :=
  let m := ((List.range 4).filter s.carEn).foldl (fun m c => max m (s.carScs c)) 0
  if s.lowCarrier.isNone then 500 else 500 / 2 ^ m

/-- The TDD period times the slot length of the grid of R14 divides 10 ms (R496). -/
def State.tddPeriodOk (s : State) : Bool :=
  let p := s.f F.AUX.TDD_CFG_PERIOD
  1 ≤ p && p ≤ 40 && (match s.gridScs with
    | some scs => slotsPerFrame scs % p == 0
    | none => true)

/-- What the timeline registers of SYS must keep after a write (R13, R17, R36, R37, R496). -/
def State.sysLegal (s : State) (off : Nat) : Bool :=
  let guardOk := s.f F.SYS.STAGE_CFG_STAGE_GUARD ≤ s.halfSlotUs
  if 0x200 ≤ off ∧ off < 0x210 then
    (List.range 4).all (fun c => s.carScs c != 3) &&
    (List.range 4).all (fun c => (List.range 4).all (fun d =>
      !(s.carEn c && s.carEn d && s.carLeader c == s.carLeader d) || s.carScs c == s.carScs d)) &&
    guardOk && s.tddPeriodOk
  else if off = 0x210 then
    guardOk && 10 ≤ s.f F.SYS.STAGE_CFG_STAGE_GUARD && s.f F.SYS.STAGE_CFG_STAGE_GUARD ≤ 200 &&
    5 ≤ s.f F.SYS.STAGE_CFG_LIVE_LEAD && s.f F.SYS.STAGE_CFG_LIVE_LEAD ≤ 100
  else if 0x220 ≤ off ∧ off ≤ 0x240 then s.quotaSum ≤ 256
  else true

/-- What the TIM registers must keep after a write: ranges of the base and timeline fields (R172, R175, R194, R195). -/
def State.timLegal (s : State) (off : Nat) : Bool :=
  if 0x100 ≤ off ∧ off < 0x200 then
    let n := (off - 0x100) / 0x40
    let r := (off - 0x100) % 0x40
    if r = 0x08 then (s.fi (F.TIM.TB_FREQ_FREQ n)).natAbs ≤ 429496
    else if r = 0x10 then
      let m := s.f (F.TIM.TB_DISC_MODE n)
      (m == 0 || (n < 2 && m == 1) || (n == 2 && m == 2)) && s.f (F.TIM.TB_DISC_PORT n) ≤ 5
    else if r = 0x14 then
      1 ≤ s.f (F.TIM.TB_SERVO_LOCK_THRESH n) && 1 ≤ s.f (F.TIM.TB_SERVO_LOCK_COUNT n) && 1 ≤ s.f (F.TIM.TB_SERVO_HOLD_MISS n)
    else true
  else if off = 0x300 then 1 ≤ s.f F.TIM.TL_CFG_SLEW && s.f F.TIM.TL_CFG_SLEW ≤ 100
  else true

/-- What the NLR registers must keep after a write (R191, R196). -/
def State.nlrLegal (s : State) (off : Nat) : Bool :=
  if off = 0x100 then s.f F.NLR.NL_CFG_FORCE != 3 && 64 ≤ s.f F.NLR.NL_CFG_REF_LEN && s.f F.NLR.NL_CFG_REF_LEN ≤ 2048
  else if off = 0x108 then 10 ≤ s.f F.NLR.NL_TIMING_WIN && s.f F.NLR.NL_TIMING_WIN ≤ 1000 && 1 ≤ s.f F.NLR.NL_TIMING_PERIOD
  else if off = 0x114 then s.f F.NLR.NL_BUF_ADDR % 64 == 0
  else true

/-- An RWX field of SYS, TIM or NLR belongs to something that runs (R29, chapter 6). -/
def State.timRunning (s : State) (off : Nat) : Bool :=
  if 0x100 ≤ off ∧ off < 0x200 then s.servo ((off - 0x100) / 0x40) != 0
  else if off = 0x320 then s.tlRun
  else s.tlState != 0

end Sys2Proof.Machine
end

