-- ==== Sys2Proof/Machine/Fault.lean ====
section
/-! DEFINITION. Fault occurrences: detectors, the fault log, routed QUIET and injections (R565 to R570). -/

namespace Sys2Proof.Machine

/-- Severities of the detectors 0 to 25 (R565). -/
def detSeverity : List Nat := [0, 1, 1, 1, 1, 0, 0, 0, 1, 0, 0, 0, 0, 1, 1, 1, 2, 1, 0, 1, 0, 1, 1, 0, 2, 2]

/-- ROUTEd.ACTION of a detector (R567). -/
def routeAction (d : Nat) : Fld := ⟨0x10190200 + 4 * d, 0, 0⟩

/-- A path enters fault: it presents its quiet code with the switch open, and PATH_FAULT is raised (R257). -/
def State.pathFault (s : State) (p : Nat) : State :=
  let x := s.tx.paths.getD p {}
  let s := { s with tx := { s.tx with paths := setNth s.tx.paths p { x with faultClr := false, dac := min 1 x.dac } } }
  ((s.setF (F.TXP.P_STATUS_FAULT p) 1).setF (F.TXP.P_STATUS_SWITCH p) 0).raise F.TXP.EVT_PATH_FAULT

/-- A routed occurrence of detector d puts a path into fault; the detector is kept as its cause (R257, R567). -/
def State.pathQuiet (s : State) (d p : Nat) : State :=
  let s := s.pathFault p
  let x := s.tx.paths.getD p {}
  { s with tx := { s.tx with paths := setNth s.tx.paths p { x with causes := x.causes ||| 2 ^ d } } }

/-- Paths of the scope of a detector's occurrence (R565). -/
def State.detScope (s : State) (d param : Nat) : List Nat :=
  if d = 4 ∨ d = 19 then [param]
  else if d = 18 then (List.range 8).map (fun i => 8 * param + i)
  else if d = 25 then
    ((maskMembers (s.f (F.FLT.OC_CFG_GROUPS param)) 8).map (fun k => (List.range 8).map (fun i => 8 * k + i))).flatten
  else List.range 64

/-- Number of the present slot within its frame on the grid of R14. -/
def State.slotOfFrame (s : State) : Nat :=
  match s.gridScs with
  | some scs => if s.tlCounts then s.slotNow scs % slotsPerFrame scs else 0
  | none => 0

/-- Present frame number, 0 while no timeline counts. -/
def State.logFrame (s : State) : Nat := if s.tlCounts then s.frameNow else 0

/-- An entry enters the fault log; a full log drops it (R568). -/
def State.fltLogEntry (s : State) (d param : Nat) (inj : Bool) : State :=
  if s.flt.log.length < 16 then
    { s with flt := { s.flt with log := s.flt.log ++ [{
        inj := inj, sev := detSeverity.getD d 0, det := d, param := param, frame := s.logFrame, slot := s.slotOfFrame,
        tb0 := (s.tb 0).ns }] } }
  else (s.inc F.FLT.LOG_STATUS_DROP_CNT).raise F.FLT.EVT_LOG_OVF

/-- An occurrence of detector d, after its source event: DET_STATUS, DET_INJ, the log, the severity event, and QUIET where it
is routed (R567, R568). -/
def State.occur (s : State) (d param : Nat) (inj : Bool) : State :=
  let s := s.setF F.FLT.DET_STATUS_OCC (s.f F.FLT.DET_STATUS_OCC ||| 2 ^ d)
  let s := s.when inj (fun s => s.setF F.FLT.DET_INJ_INJ (s.f F.FLT.DET_INJ_INJ ||| 2 ^ d))
  let s := s.fltLogEntry d param inj
  let sev := detSeverity.getD d 0
  let s := s.raise (if sev = 0 then F.FLT.EVT_MINOR else if sev = 1 then F.FLT.EVT_MAJOR else F.FLT.EVT_CRITICAL)
  let s := (s.when inj (·.raise F.FLT.EVT_INJ)).when inj (·.inc F.FLT.FLT_CNT_INJ_CNT)
  let s := s.inc F.FLT.FLT_CNT_FAULT_CNT
  s.when (s.on (routeAction d)) (fun s => s.each (s.detScope d param) (fun s p => s.pathQuiet d p))

/-- Raise a source event and its detector's occurrence. -/
def State.raiseDet (s : State) (e : Fld) (d param : Nat) (inj : Bool) : State := (s.raise e).occur d param inj

/-- An injection armed at a detector for an index. -/
def State.injHit (s : State) (d param : Nat) : Bool := s.flt.injs.any (fun i => i.det == d && i.param == param)

/-- Consume the armed injections of a detector for an index. -/
def State.injTake (s : State) (d param : Nat) : State :=
  { s with flt := { s.flt with injs := s.flt.injs.filter (fun i => !(i.det == d && i.param == param)) } }

/-- Injection is armed (R569). -/
def State.injArmed (s : State) : Bool := s.on F.FLT.INJ_STATUS_ARMED

/-- Injection disarms: armed occurrences that have not acted are discarded (R569, R570). -/
def State.disarm (s : State) : State :=
  let was := s.injArmed
  let s := (s.setF F.FLT.INJ_STATUS_ARMED 0).setF F.FLT.INJ_STATUS_LEFT 0
  let s := { s with flt := { s.flt with injs := [], windowEnd := 0 }, nvm := { s.nvm with injTorn := false },
                    thm := { s.thm with ofs := [], injFail := [], injShdn := [] }, hk := { s.hk with ofs := 0 } }
  s.when was (·.raise F.FLT.EVT_DISARMED)

/-- A write to an injection register while injection is not armed is ignored and counted (R569). -/
def State.injIgnored (s : State) (agent addr : Nat) : State := s.ok 0 |>.logAccess agent addr true Cause.refused

end Sys2Proof.Machine
end

