-- ==== Sys2Proof/Machine/Lane.lean ====
section
/-! DEFINITION. The coding of the Rope: scrambler (R96 to R98), stuffing (R99, R100), cairns (R101), the check sums of frames (R137) and the
layout of headers and tails (R132, R135). -/

namespace Sys2Proof.Machine

/-! ## Scrambler and stuffing -/

/-- One step of the scrambler x^31 + x^28 + 1 (R96); bit k of the state is s(n-1-k), so the new bit enters at bit 0. -/
def scrBit (st : Nat) : Nat := (bits st 27 27 + bits st 30 30) % 2
def scrNext (st : Nat) : Nat := (2 * st + scrBit st) % 2 ^ 31

/-- A sum of powers of the scrambler's step, bit i for the i-th power, times the step: its 31st power is its third power and the identity (R96). -/
def stepsTimes (c : Nat) : Nat := if 2 ^ 30 ≤ c then (2 * c - 2 ^ 31) ^^^ 9 else 2 * c

/-- The product of two such sums. -/
def stepsMul (a b : Nat) : Nat :=
  (List.range 31).foldl (fun v i => let w := stepsTimes v; if a.testBit (30 - i) then w ^^^ b else w) 0

/-- The n-th power of the step, by squaring: k bits of n are left. -/
def stepsPow : Nat → Nat → Nat
  | 0, _ => 1
  | k + 1, n => let r := stepsPow k (n / 2); let q := stepsMul r r; if n % 2 = 1 then stepsTimes q else q

/-- The scrambler state after n < 2^64 payload bits (R96). -/
def scrAdvance (n st : Nat) : Nat :=
  let c := stepsPow 64 n
  ((List.range 31).foldl (fun (x : Nat × Nat) i => (if c.testBit i then x.1 ^^^ x.2 else x.1, scrNext x.2)) (0, st)).1

/-- Scramble or descramble payload bits (R96). -/
def scramble : Nat → List Bool → List Bool
  | _, [] => []
  | st, d :: l => (d != (scrBit st == 1)) :: scramble (scrNext st) l

/-- Insert a stuff bit of the complement after 48 identical bits; the stuff bit begins a new run of length 1 (R99). -/
def stuff : Nat × Nat → List Bool → List Bool
  | _, [] => []
  | (b, n), x :: l =>
    let run := if b2n x = b then n + 1 else 1
    if run = 48 then x :: (!x) :: stuff (b2n (!x), 1) l else x :: stuff (b2n x, run) l

/-- What the receiver makes of line bits: payload with the stuff bits removed, stuffing violations, and the run at the end
(R100). -/
structure Unstuffed where
  out : List Bool
  viol : Nat
  run : Nat × Nat
deriving DecidableEq, Repr

/-- Remove the bit after 48 identical bits; one of the same value is a violation, and it is removed too (R100).  DESIGN CHOICE (log entry 83): after a removed bit of
the same value a run of length 1 of that value begins. -/
def unstuff : Nat × Nat → List Bool → Unstuffed
  | r, [] => ⟨[], 0, r⟩
  | (b, n), x :: l =>
    if n = 48 then
      let u := unstuff (b2n x, 1) l
      if b2n x = b then { u with viol := u.viol + 1 } else u
    else
      let u := unstuff (b2n x, if b2n x = b then n + 1 else 1) l
      { u with out := x :: u.out }

/-- A list of bits, most significant first, as a number. -/
def bitsToNat (l : List Bool) : Nat := l.foldl (fun v b => 2 * v + b2n b) 0

/-- A number as n bits, most significant first. -/
def natToBits (n v : Nat) : List Bool := (List.range n).map (fun i => v.testBit (n - 1 - i))

/-! ## Cairns (R101) -/

def cairnMark (c : Nat) : Nat := bits c 63 48
def cairnLane (c : Nat) : Nat := bits c 47 45
def cairnKind (c : Nat) : Nat := bits c 44 42
def cairnSig (c : Nat) : Nat := bits c 41 39
def cairnState (c : Nat) : Nat := bits c 30 0

/-- Number of ones of a number of at most n bits. -/
def popCount (n v : Nat) : Nat := ((List.range n).filter v.testBit).length

/-- Correct MARK, LANE and PAR (R104). -/
def cairnGood (lane c : Nat) : Bool := cairnMark c == 0x3CC5 && cairnLane c == lane && popCount 64 c % 2 == 0

/-- A cairn with its parity (R101). -/
def mkCairn (lane kind sig state : Nat) : Nat :=
  let c := 0x3CC5 * 2 ^ 48 + lane * 2 ^ 45 + kind * 2 ^ 42 + sig * 2 ^ 39 + state % 2 ^ 31
  c + 2 ^ 31 * (popCount 64 c % 2)

/-- The run at the end of a cairn, whatever stood before it: its MARK holds both values (R99, R101). -/
def cairnRun (c : Nat) : Nat × Nat :=
  (natToBits 64 c).foldl (fun (r : Nat × Nat) x =>
    let n := if b2n x = r.1 then r.2 + 1 else 1
    if n = 48 then (1 - b2n x, 1) else (b2n x, n)) (0, 0)

/-- Payload bits of a lane between two cairns (R95, R103). -/
def periodBits : Nat := 8192

/-! ## Frame check sums (R137) -/

/-- One bit of CRC-8 with polynomial 0x07, most significant bit first. -/
def crc8Bit (c : Nat) (b : Bool) : Nat :=
  let t := c.testBit 7 != b
  let c := 2 * c % 256
  if t then c ^^^ 0x07 else c

/-- HCRC of a 128-bit header, over bits 127 down to 8, initial value 0xFF (R137). -/
def hcrc (hdr : Nat) : Nat := ((List.range 120).map (fun i => hdr.testBit (127 - i))).foldl crc8Bit 0xFF

/-- Eight steps of a reflected 32-bit CRC. -/
def crcStep (poly : Nat) : Nat → Nat → Nat
  | 0, c => c
  | n + 1, c => crcStep poly n (if c.testBit 0 then (c / 2) ^^^ poly else c / 2)

/-- A reflected CRC-32 of bytes, initial value and final XOR 0xFFFF_FFFF. -/
def crc32 (poly : Nat) (l : List Byte) : Nat :=
  (l.foldl (fun c b => crcStep poly 8 (c ^^^ b.toNat)) 0xFFFFFFFF) ^^^ 0xFFFFFFFF

/-- PCRC: polynomial 0x1EDC_6F41 reflected (R137). -/
def pcrc (l : List Byte) : Nat := crc32 0x82F63B78 l

/-- The signature of R63: polynomial 0x04C1_1DB7 reflected. -/
def crc32ieee (l : List Byte) : Nat := crc32 0xEDB88320 l

/-! ## Headers and tails -/

/-- Header fields of a 128-bit header (R132); the payload arrives later. -/
def decodeHeader (h : Nat) : Frame :=
  { typ := bits h 127 124, vc := bits h 123 121, flags := bits h 120 113, hops := bits h 112 107, dst := bits h 106 95,
    src := bits h 94 83, seq := bits h 82 67, ts := bits h 52 21, payload := [] }

/-- LEN of a header. -/
def headerLen (h : Nat) : Nat := bits h 66 53

/-- The 128-bit header of a frame with its HCRC (R132, R137). -/
def encodeHeader (f : Frame) (len : Nat) : Nat :=
  let h := f.typ * 2 ^ 124 + f.vc * 2 ^ 121 + f.flags * 2 ^ 113 + f.hops * 2 ^ 107 + f.dst * 2 ^ 95 + f.src * 2 ^ 83 +
    f.seq * 2 ^ 67 + len * 2 ^ 53 + f.ts * 2 ^ 21
  h + hcrc h

/-- VCs a frame type may use (R133). -/
def vcAllowed (typ vc : Nat) : Bool :=
  match typ with
  | 1 => [1, 2, 5, 6, 7].contains vc
  | 2 => vc == 3
  | 3 | 7 | 8 => vc == 0
  | 4 | 5 | 6 => vc == 4
  | _ => false

/-- Taken by the device at the other end of the port whatever its DST (R133). -/
def hopLocal (typ : Nat) : Bool := typ == 3 || typ == 7 || typ == 8

/-- FLAGS bits (R134). -/
def frameMc (f : Frame) : Bool := f.flags.testBit 7
def frameDegr (f : Frame) : Bool := f.flags.testBit 4
def frameSat (f : Frame) : Bool := f.flags.testBit 3

/-- A malformed header (R138). -/
def headerMalformed (h : Nat) : Bool :=
  let f := decodeHeader h
  !vcAllowed f.typ f.vc || 4096 < headerLen h || (frameMc f && bits f.dst 11 8 != 0) || bits h 20 8 != 0 || bits f.flags 2 0 != 0

/-! ## The stream of words (R95, R131, R135, R136) -/

/-- The word between frames, which fills the stream whenever nothing is sent (R136). -/
def idleWord : Nat := 0x0F0FA55A0F0FA55A

/-- Bytes as words, byte 0 in bits 63:56, with zero bytes up to a multiple of 8 (R131, R135). -/
def bytesToWords (l : List Byte) : List Nat :=
  (List.range ((l.length + 7) / 8)).map (fun i => (List.range 8).foldl (fun v j => 256 * v + (l.getD (8 * i + j) 0).toNat) 0)

/-- The bytes of words. -/
def wordsToBytes (l : List Nat) : List Byte :=
  (l.map (fun w => (List.range 8).map (fun j => BitVec.ofNat 8 (w / 2 ^ (56 - 8 * j))))).flatten

/-- The tail of a frame (R135). -/
def tailWord (l : LineFrame) : Nat :=
  l.pcrc * 2 ^ 32 + 0xE7 * 2 ^ 24 + b2n l.cut * 2 ^ 17 + b2n l.poison * 2 ^ 16 + l.poisonAt % 4096 * 2 ^ 4

/-- A frame as words of the stream: header, payload with its padding, and tail (R131, R132, R135); an injection damages HCRC (R570). -/
def frameWords (l : LineFrame) : List Nat :=
  let h := encodeHeader l.fr l.len
  let h := if l.hcrcBad then h ^^^ 0xFF else h
  [h / 2 ^ 64, h % 2 ^ 64] ++ bytesToWords ((l.fr.payload ++ List.replicate l.len 0).take l.len) ++ [tailWord l]

/-- The payload bits of lane l in a period: word w of the stream goes to lane w mod 8, bit 63 first, and idle words fill it up (R95, R136). -/
def laneBits (l : Nat) (ws : List Nat) : List Bool :=
  ((List.range (periodBits / 64)).map (fun i => natToBits 64 (ws.getD (8 * i + l) idleWord))).flatten

/-- The cairns behind a period's payload on lane l: all of them carry the scrambler state of the next payload bit (R98, R101, R103). -/
def TxPeriod.cairns (x : TxPeriod) (l : Nat) : List Nat :=
  x.kinds.map (fun k => mkCairn l k x.sig (scrAdvance (if x.bare then 0 else periodBits) (x.scr.getD l 0)))

/-- The line bits of lane l: scrambled payload, then the cairns unscrambled, all of it stuffed (R96, R99). -/
def TxPeriod.line (x : TxPeriod) (l : Nat) : List Bool :=
  stuff (x.run.getD l (0, 0)) ((if x.bare then [] else scramble (x.scr.getD l 0) (laneBits l x.words)) ++ ((x.cairns l).map (natToBits 64)).flatten)

/-- The words that a lane's payload bits spell. -/
def wordsOf : Nat → List Bool → List Nat
  | 0, _ => []
  | n + 1, l => if l.length < 64 then [] else bitsToNat (l.take 64) :: wordsOf n (l.drop 64)

/-- The words of the stream from the payload bits of the eight lanes (R95). -/
def unstripe (lanes : List (List Bool)) : List Nat :=
  let ws := lanes.map (fun b => wordsOf (periodBits / 64) b)
  let n := ws.foldl (fun m w => min m w.length) (periodBits / 64)
  (List.range (8 * n)).map (fun w => (ws.getD (w % 8) []).getD (w / 8) 0)

/-! ## Test patterns (R122) -/

/-- Taps of a PRBS: the next bit is the sum of the bits a and b places before it; none for the user pattern (R122). -/
def patTaps (pat : Nat) : Option (Nat × Nat) :=
  match pat with
  | 0 => some (6, 7)
  | 1 => some (14, 15)
  | 2 => some (18, 23)
  | 3 => some (28, 31)
  | _ => none

/-- n bits of a PRBS behind the bits of a register, whose bit k is the bit k + 1 places before the next. -/
def prbsBits (a b : Nat) : Nat → Nat → List Bool
  | 0, _ => []
  | n + 1, r => let x := r.testBit (a - 1) != r.testBit (b - 1); x :: prbsBits a b n ((2 * r + b2n x) % 2 ^ 31)

/-- n bits of a pattern from bit k on; `seed` fills the register of a PRBS, and the user pattern repeats with bit 63 first (R122). -/
def patBits (pat user seed k n : Nat) : List Bool :=
  match patTaps pat with
  | some (a, b) => (prbsBits a b (k + n) seed).drop k
  | none => (List.range n).map (fun i => user.testBit (63 - (k + i) % 64))

/-- The last 64 of some bits are what a pattern predicts from the bits before them (R123). -/
def patLocks (pat user : Nat) (l : List Bool) : Bool :=
  match patTaps pat with
  | some (a, b) => decide (b + 64 ≤ l.length) && (List.range 64).all (fun i =>
      let k := l.length - 1 - i
      l.getD k false == (l.getD (k - a) false != l.getD (k - b) false))
  | none => decide (64 ≤ l.length) && (List.range 64).any (fun r =>
      (List.range 64).all (fun i => l.getD (l.length - 64 + i) false == user.testBit (63 - (r + i) % 64)))

/-- Credits a frame costs (R144); CREDIT and TOPO frames cost none (R133). -/
def frameCost (typ len : Nat) : Nat := if typ = 7 ∨ typ = 8 then 0 else (24 + 8 * ((len + 7) / 8) + 63) / 64

end Sys2Proof.Machine
end

