-- ==== Sys2Proof/Machine/Link.lean ====
section
/-! DEFINITION. Ports and frames: credits and the choice of the next frame (R143 to R146), routes and multicast (R150 to R152), bonds (R153,
R154), ring splits (R163), the sleep handshake (R110 to R118), training and loss of link (R107, R108, R119 to R121). -/

namespace Sys2Proof.Machine

/-! ## Ports -/

/-- PORT_STATUS.STATE codes (R127). -/
def State.portState (s : State) (p : Nat) : Nat := s.f (F.LNK.PORT_STATUS_STATE p)
def State.portUp? (s : State) (p : Nat) : Bool := s.portState p == 3
def State.txDir (s : State) (p : Nat) : Nat := s.f (F.LNK.PORT_STATUS_TX_DIR p)
def State.rxDir (s : State) (p : Nat) : Nat := s.f (F.LNK.PORT_STATUS_RX_DIR p)

/-- A logical output is UP while a member of it is UP. -/
def State.outUp (s : State) (o : Nat) : Bool := (s.members o).any s.portUp?

/-- The outgoing direction of a logical output is awake: it is UP, and every member that is UP sends. -/
def State.outAwake (s : State) (o : Nat) : Bool := s.outUp o && (s.members o).all (fun p => !s.portUp? p || s.txDir p == 0)

/-- No member of a logical output holds its frames back: none asks for sleep (R110), stands in electrical idle (R121), or has stopped for the deep state (R55,
R117). -/
def State.outFree (s : State) (o : Nat) : Bool :=
  (s.members o).all (fun p => (s.port p).reqTx.isNone && !(s.port p).idle && !(s.resting (9 + p) && s.f F.PWR.REST_STATUS_DEPTH == 3))

/-! ## Routes -/

/-- No repeated members. -/
def dedup : List Nat → List Nat
  | [] => []
  | a :: l => if l.contains a then dedup l else a :: dedup l

/-- The outputs of a routed frame that arrived on an input (6: local delivery, or this device as the source): none when it
finds no usable output (R150 to R152). -/
def State.lookup (s : State) (f : Frame) (inp : Nat) : Option (List Nat) :=
  let others := fun (mask : Nat) => dedup (((maskMembers mask 6).map s.logical).filter
    (fun o => s.outUp o && (inp == 6 || o != s.logical inp)))
  if frameMc f then
    let w := (s.reg (0x100A8000 + 4 * (f.dst % 256))).toNat
    if bitOf w 31 then some (others (bits w 5 0) ++ (if bitOf w 6 then [6] else [])) else none
  else if f.dst = s.f F.RTE.DEV_CFG_DEV_ADDR then some [6]
  else if f.dst = 0xFFF then some (6 :: others (s.f F.RTE.TS_CFG_BCAST_MASK))
  else
    let w := (s.reg (0x100A4000 + 4 * (f.dst % 4096))).toNat
    let use := fun o => if o = 7 then some [] else if o = 6 then some [6]
      else if s.outUp o then some [s.logical o] else none
    if bitOf w 31 then
      match use (bits w 2 0) with
      | some l => some l
      | none => if bitOf w 30 then use (bits w 5 3) else none
    else none

/-- A frame found no usable output (R151). -/
def State.noRoute (s : State) : State := (s.inc F.RTE.FRM_CNT1_NOROUTE_CNT).raise F.RTE.EVT_NOROUTE

/-! ## Credits and the choice of the next frame -/

/-- Credit held on a VC of an output (R145): none before the allocation is announced. -/
def PortSt.credit (x : PortSt) (v : Nat) : Nat :=
  if x.alloc.isEmpty then 0 else (x.alloc.getD v 0 + x.cum.getD v 0 + 65536 - x.sent.getD v 0) % 65536

/-- Precedence of the VCs at an output (R143). -/
def vcOrder : List Nat := [0, 3, 1, 2, 5, 4, 7, 6]

/-- Next frame of a VC in a queue: round-robin over the inputs, each input in order (R143). -/
def PortSt.nextOfVc (x : PortSt) (v : Nat) : Option LineFrame :=
  let q := x.queue.filter (fun l => l.fr.vc == v)
  let last := x.lastIn.getD v 6
  let order := (List.range 7).map (fun i => (last + 1 + i) % 7)
  order.findSome? (fun i => q.find? (fun l => l.inp == i))

/-- A VC whose next frame has its credit. -/
def PortSt.eligible (x : PortSt) (v : Nat) : Bool :=
  match x.nextOfVc v with
  | some l => decide (frameCost l.fr.typ l.len ≤ x.credit v)
  | none => false

/-- The VC an output serves next: one passed over by 16 frames, else the first in precedence (R143). -/
def PortSt.chooseVc (x : PortSt) : Option Nat :=
  match vcOrder.find? (fun v => x.eligible v && 16 ≤ x.passed.getD v 0) with
  | some v => some v
  | none => vcOrder.find? x.eligible

/-- Charge a frame's credits to its VC (R145). -/
def PortSt.charge (x : PortSt) (l : LineFrame) : PortSt :=
  { x with sent := modNth x.sent l.fr.vc (fun n => (n + frameCost l.fr.typ l.len) % 65536) }

/-- A frame as it departs: time-stamped where STAMP or TIME asks for it (R156, R176, R180), and damaged where an injection is armed at
the port (R570). -/
def State.depart (s : State) (p : Nat) (l : LineFrame) : State × LineFrame :=
  if l.inp = 6 then
    let timed := l.fr.flags.testBit 5 || l.fr.typ == 3
    let s := if timed then s.tickFree else s
    let l := if timed then { l with fr := { l.fr with ts := s.txStamp (s.f F.RTE.TS_CFG_TS_BASE) p / 16 % 2 ^ 32 } } else l
    let t := s.txStamp (timeBase l.fr.payload) p
    let pl := stampPayload l.fr.payload t
    let s := if l.fr.typ = 3 then s.reqDeparts pl t else s
    let l := if l.fr.typ = 3 then { l with fr := { l.fr with payload := pl }, pcrc := pcrc pl } else l
    if s.injHit 5 p then (s.injTake 5 p, { l with hcrcBad := true })
    else if s.injHit 6 p then (s.injTake 6 p, { l with pcrc := l.pcrc ^^^ 0xFFFFFFFF })
    else (s, l)
  else (s, l)

/-- A CREDIT or TOPO frame that waits at an output: it goes before every VC, and it costs no credit (R133, R143). -/
def PortSt.nextHop (x : PortSt) : Option LineFrame := x.queue.find? (fun l => l.fr.typ == 7 || l.fr.typ == 8)

/-- The frame an output takes next (R143). -/
def PortSt.nextFrame (x : PortSt) : Option LineFrame :=
  match x.nextHop with
  | some l => some l
  | none => x.chooseVc.bind x.nextOfVc

/-- The eligible VCs that a frame passes over count it (R143). -/
def PortSt.passBy (x : PortSt) (l : LineFrame) : List Nat :=
  let hop := l.fr.typ == 7 || l.fr.typ == 8
  (List.range 8).map (fun w =>
    if !hop && w == l.fr.vc then 0
    else if x.eligible w && (hop || decide (vcOrder.idxOf l.fr.vc < vcOrder.idxOf w)) then x.passed.getD w 0 + 1
    else x.passed.getD w 0)

/-- An idle, awake output takes its next frame (R143). -/
def State.startNext (s : State) (o : Nat) : State :=
  let x := s.port o
  if s.outAwake o && s.outFree o && x.busy.isNone then
    match x.nextFrame with
    | none => s
    | some l =>
      let (s, l') := s.depart o l
      s.setPort o ({ x with busy := some l', queue := x.queue.erase l, passed := x.passBy l,
                            lastIn := if l.fr.typ = 7 ∨ l.fr.typ = 8 then x.lastIn else setNth x.lastIn l.fr.vc l.inp }.charge l)
  else s

/-! ## Sleep of directions -/

/-- The outgoing or incoming direction of a port changes state; DIR_CHANGE is raised (R126). -/
def State.setTxDir (s : State) (p d : Nat) : State :=
  if s.txDir p = d then s else (s.setF (F.LNK.PORT_STATUS_TX_DIR p) d).raise (F.LNK.EVT_DIR_CHANGE p)

def State.setRxDir (s : State) (p d : Nat) : State :=
  if s.rxDir p = d then s else (s.setF (F.LNK.PORT_STATUS_RX_DIR p) d).raise (F.LNK.EVT_DIR_CHANGE p)

/-- A request of the sleep handshake is refused with a code (R110, R115, R128). -/
def State.sleepCode (s : State) (p code : Nat) : State :=
  (s.setF (F.LNK.SLEEP_STATUS_CODE p) code).raise (F.LNK.EVT_SLEEP_REFUSED p)

/-- The request for sleep of the outgoing direction is refused: the direction stays awake. -/
def State.refuseTx (s : State) (p code : Nat) : State :=
  let s := (s.setF (F.LNK.SLEEP_CTRL_TX_SLEEP p) 0).setPort p { s.port p with reqTx := none, ackGot := false, wakeAfter := false }
  (s.sleepCode p code).startNext (s.logical p)

/-- The request for sleep of the incoming direction is refused. -/
def State.refuseRx (s : State) (p code : Nat) : State :=
  ((s.setF (F.LNK.SLEEP_CTRL_RX_SLEEP p) 0).setPort p { s.port p with reqRx := none }).sleepCode p code

/-- Ask for the outgoing direction to sleep; a request already open goes on (R110, R118).  DESIGN CHOICE (log entry 83): on a port that is not UP the request is
refused with NOT_NOW. -/
def State.txSleep (s : State) (p : Nat) : State :=
  if (s.port p).reqTx.isSome then s
  else if !s.portUp? p || s.rxDir p != 0 || s.txDir p == 2 then (s.setF (F.LNK.SLEEP_CTRL_TX_SLEEP p) 0).sleepCode p 9
  else if s.txDir p ≠ 0 then s.setF (F.LNK.SLEEP_CTRL_TX_SLEEP p) 0
  else s.setPort p { s.port p with reqTx := some s.now, ackGot := false }

/-- Ask for the incoming direction to sleep (R110, R118). -/
def State.rxSleep (s : State) (p : Nat) : State :=
  if (s.port p).reqRx.isSome then s
  else if !s.portUp? p || s.txDir p != 0 || s.rxDir p == 2 then (s.setF (F.LNK.SLEEP_CTRL_RX_SLEEP p) 0).sleepCode p 9
  else if s.rxDir p ≠ 0 then s.setF (F.LNK.SLEEP_CTRL_RX_SLEEP p) 0
  else s.setPort p { s.port p with reqRx := some s.now }

/-- Wake the outgoing direction: it leaves TX-idle and sends the wake pattern (R112); behind a sleep that completes the wake follows (R115). -/
def State.txWake (s : State) (p : Nat) : State :=
  if s.txDir p = 1 then (s.setPort p { s.port p with txWakeAt := s.now }).setTxDir p 2
  else if s.txDir p = 2 then s
  else if (s.port p).reqTx.isSome && (s.port p).ackGot then s.setPort p { s.port p with wakeAfter := true }
  else s.setF (F.LNK.SLEEP_CTRL_TX_WAKE p) 0

/-- The outgoing direction enters TX-idle (R110, R111); a frame queued meanwhile, or a wake asked for, wakes it again (R113, R115). -/
def State.enterTxIdle (s : State) (p : Nat) : State :=
  let x := s.port p
  let s := (s.setF (F.LNK.SLEEP_CTRL_TX_SLEEP p) 0).setPort p { x with reqTx := none, ackGot := false, wakeAfter := false }
  let s := s.setTxDir p 1
  if x.wakeAfter || (s.on (F.LNK.SLEEP_CFG_AUTO_WAKE p) && !(s.port (s.logical p)).queue.isEmpty) then s.txWake p else s

/-- The outgoing direction goes to sleep once SLEEP_ACK has come, its frame is through, every SLEEP_ACK owed has been held for 4 cairn periods (R110, R111), and
the sleep of the incoming direction asked for beside it is settled. -/
def State.trySleep (s : State) (p : Nat) : State :=
  let x := s.port p
  if x.reqTx.isSome && x.ackGot && !x.oweAck && x.reqRx.isNone && (s.port (s.logical p)).busy.isNone then s.enterTxIdle p else s

/-- The incoming direction enters RX-idle, and its lanes lose cairn lock (R110, R112). -/
def State.enterRxIdle (s : State) (p : Nat) : State :=
  let s := s.setPort p { s.port p with reqRx := none, lockRun := List.replicate 8 0, missRun := List.replicate 8 0 }
  ((s.setF (F.LNK.SLEEP_CTRL_RX_SLEEP p) 0).setF (F.LNK.PORT_STATUS_CAIRN_LOCK p) 0).setRxDir p 1

/-- Ask the partner to wake the incoming direction, waking the outgoing one first (R112). -/
def State.rxWake (s : State) (p : Nat) : State :=
  if s.rxDir p = 0 || !s.portUp? p then s.setF (F.LNK.SLEEP_CTRL_RX_WAKE p) 0
  else if s.rxDir p = 1 && (s.port p).reqWake.isNone then
    let s := s.setPort p { s.port p with reqWake := some s.now }
    if s.txDir p = 1 then s.txWake p else s
  else s

/-- No frame that arrived on a port waits in its receive buffer. -/
def State.rxEmpty (s : State) (p : Nat) : Bool :=
  (s.port p).rx.isNone && s.ports.all (fun x => x.queue.all (fun l => l.inp != p) && x.busy.all (fun l => l.inp != p))

/-- A member of an output sees a frame queued: a sleep request without its answer is refused (R115), a sleeping direction wakes under AUTO_WAKE (R113) but while
its port has stopped for a rest entry (R55). -/
def State.queueWakes (s : State) (p : Nat) : State :=
  let s := if (s.port p).reqTx.isSome && !(s.port p).ackGot then s.refuseTx p 2 else s
  if s.txDir p = 1 && s.on (F.LNK.SLEEP_CFG_AUTO_WAKE p) && !s.resting (9 + p) then s.txWake p else s

/-- A frame joins the queue of a logical output, whose members see it, and an idle output starts (R113, R115, R143). -/
def State.enqueue (s : State) (o : Nat) (l : LineFrame) : State :=
  if 6 ≤ o then s
  else
    let s := s.setPort o { s.port o with queue := (s.port o).queue ++ [l] }
    (s.each ((s.members o).filter s.portUp?) State.queueWakes).startNext o

/-- SEQ of a frame this device originates, +1 per frame per VC (R132); an MRSP and a bulk answer carry the number of their request (R147, R149). -/
def State.seqOf (s : State) (f : Frame) : Nat := if f.typ = 5 ∨ (f.typ = 1 ∧ f.vc = 7) then f.seq else s.txSeq.getD f.vc 0
def State.seqNext (s : State) (f : Frame) : State := { s with txSeq := modNth s.txSeq f.vc (fun n => (n + 1) % 65536) }

/-- Send hop-local frames and route the frames this device originates to their outputs (R133, R143). -/
def State.flushOut (s : State) : State :=
  let hop := s.hopOut
  let out := s.outbox
  let s := { s with hopOut := [], outbox := [] }
  let s := s.each hop (fun s (pf : Nat × Frame) =>
    let f := { pf.2 with seq := s.seqOf pf.2 }
    (s.seqNext f).enqueue (s.logical pf.1) { fr := f, len := f.payload.length, pcrc := pcrc f.payload })
  s.each out (fun s f =>
    let f := { f with seq := s.seqOf f, hops := s.f F.RTE.DEV_CFG_HOP_LIMIT }
    let s := s.seqNext f
    match s.lookup f 6 with
    | none => s.noRoute
    | some outs => s.each (outs.filter (· != 6)) (fun s o =>
        s.enqueue o { fr := f, len := f.payload.length, pcrc := pcrc f.payload }))

/-- Credits of a frame that leaves the receive buffer of its input are freed (R145). -/
def State.freeCredits (s : State) (inp : Nat) (l : LineFrame) : State :=
  if inp < 6 then
    s.setPort (s.logical inp) { s.port (s.logical inp) with
      freed := modNth (s.port (s.logical inp)).freed l.fr.vc (fun n => (n + frameCost l.fr.typ l.len) % 65536) }
  else s

/-- Two records stand for copies of one frame that arrived on an input. -/
def sameFrame (a b : LineFrame) : Bool := a.inp == b.inp && a.fr.vc == b.fr.vc && a.fr.seq == b.fr.seq && a.fr.src == b.fr.src

/-- Another copy of a forwarded frame still waits or leaves elsewhere (R152). -/
def State.copyWaits (s : State) (l : LineFrame) : Bool :=
  s.ports.any (fun x => x.queue.any (sameFrame l) || x.busy.any (sameFrame l))

/-- A frame still arrives on its input. -/
def State.arriving (s : State) (l : LineFrame) : Bool :=
  l.inp < 6 && (match (s.port (s.logical l.inp)).rx with
    | some r => r.hdr.seq == l.fr.seq && r.hdr.src == l.fr.src && r.hdr.vc == l.fr.vc
    | none => false)

/-- A copy of a frame has left, or is dropped: with the last copy the frame leaves its buffer (R145, R152). -/
def State.copyGone (s : State) (l : LineFrame) : State := if s.copyWaits l || s.arriving l then s else s.freeCredits l.inp l

/-- Words join the stream of a logical output; those of a bond go to its members in turns of eight, or all of them to the member that carries the stripe alone
(R95, R153, R154). -/
def State.putWords (s : State) (o : Nat) (ws : List Nat) : State :=
  let put := fun (s : State) p (l : List Nat) => s.setPort p { s.port p with txWords := (s.port p).txWords ++ l }
  let act := s.f F.RTE.BOND_STATUS_ACTIVE
  if s.bonded o then
    if act.testBit o && act.testBit (o + 1) then
      let k := (s.port o).stripe
      let mine := fun (b : Nat) => ((List.range ws.length).filter (fun i => (k + i) / 8 % 2 == b)).map (fun i => ws.getD i 0)
      let s := put (put s o (mine 0)) (o + 1) (mine 1)
      s.setPort o { s.port o with stripe := (k + ws.length) % 16 }
    else put s (if act.testBit o then o else o + 1) ws
  else put s o ws

/-- An output finishes its frame, whose words stand in the stream behind an idle word (R136), and chooses its next (R143). -/
def State.outputEnd (s : State) (o : Nat) : State :=
  let s := s.flushOut
  match (s.port o).busy with
  | none => s.startNext o
  | some l =>
    let s := s.setPort o { s.port o with busy := none }
    let s := ({ s with lineOut := s.lineOut ++ [(o, l)] } : State).putWords o (idleWord :: frameWords l)
    (s.each (s.members o) State.trySleep).copyGone l |>.startNext o

/-- A CREDIT frame arrives: the first after UP announces the allocation (R145); a bond holds its credit as one port (R153). -/
def State.credit (s : State) (p : Nat) (cum : List Nat) : State :=
  if s.portUp? p then
    let o := s.logical p
    let x := s.port o
    (s.setPort o (if x.alloc.isEmpty then { x with alloc := cum } else { x with cum := cum })).startNext o
  else s

/-- Units of VC_BUF of a port, VC0 first (R171). -/
def State.vcUnits (s : State) (p : Nat) : List Nat :=
  [s.f (F.LNK.VC_BUF0_VC0 p), s.f (F.LNK.VC_BUF0_VC1 p), s.f (F.LNK.VC_BUF0_VC2 p), s.f (F.LNK.VC_BUF0_VC3 p),
   s.f (F.LNK.VC_BUF1_VC4 p), s.f (F.LNK.VC_BUF1_VC5 p), s.f (F.LNK.VC_BUF1_VC6 p), s.f (F.LNK.VC_BUF1_VC7 p)]

/-- Send a CREDIT frame: the allocation first, the freed credits afterwards (R145); it waits for the frame boundary (R143). -/
def State.creditSend (s : State) (p : Nat) : State :=
  if s.portUp? p then
    let o := s.logical p
    let x := s.port o
    let vals := if x.announced then x.freed else (s.vcUnits o).map (8 * ·)
    let fr : Frame := { typ := 7, vc := 0, src := s.f F.RTE.DEV_CFG_DEV_ADDR, payload := (vals.map (leBytes 2)).flatten }
    let s := s.setPort o { x with announced := true }
    { s with hopOut := s.hopOut ++ [(o, fr)] }
  else s

/-! ## Bonds and rings -/

/-- A TOPO frame sent on a port (R155). -/
def State.sendTopo (s : State) (p kind mask dist : Nat) : State :=
  let fr : Frame := { typ := 8, vc := 0, src := s.f F.RTE.DEV_CFG_DEV_ADDR,
                      payload := leBytes 1 kind ++ leBytes 1 mask ++ leBytes 2 dist ++ leBytes 12 0 }
  { s with hopOut := s.hopOut ++ [(p, fr)] }

/-- Set which ports carry stripe words; a change of a bond raises BOND_CHANGE (R154). -/
def State.setActive (s : State) (mask : Nat) (bond : Bool) : State :=
  if s.f F.RTE.BOND_STATUS_ACTIVE = mask then s
  else (s.setF F.RTE.BOND_STATUS_ACTIVE mask).when bond (·.raise F.RTE.EVT_BOND_CHANGE)

/-- The stripe mask with one port in or out. -/
def maskWith (m p : Nat) (v : Bool) : Nat := setBits m p p (b2n v)

/-- OUT and IN_MASK in force, after a ring split the alternate ones (R163). -/
def State.psOut (s : State) : Nat := if s.splitUse then s.f F.RTE.PS_CFG_ALT_OUT else s.f F.RTE.PS_CFG_OUT
def State.psInMask (s : State) : Nat := if s.splitUse then s.f F.RTE.PS_CFG_ALT_IN_MASK else s.f F.RTE.PS_CFG_IN_MASK

/-- A device sets SPLIT; the first time raises RING_SPLIT and starts the 10 µs to the switch (R163). -/
def State.setSplit (s : State) : State :=
  if s.on F.RTE.PS_STATUS_SPLIT then s
  else { (s.setF F.RTE.PS_STATUS_SPLIT 1).raise F.RTE.EVT_RING_SPLIT with splitAt := s.now }

/-- A ring device responds to the loss of the logical port `lost`, or to RING_BREAK on the port `on` (R163). -/
def State.ringBreak (s : State) (on lost : Option Nat) (addr : Nat) : State :=
  if s.f F.RTE.TOPO_CFG_TOPO = 1 && s.on F.RTE.TOPO_CFG_RING_AUTO then
    if s.on F.RTE.PS_CFG_HEAD then (if on.isSome then s.setSplit else s)
    else
      let out := s.logical (s.f F.RTE.PS_CFG_OUT)
      let alt := s.f F.RTE.PS_CFG_ALT_OUT
      let hit := match on with
        | some p => s.logical p == out
        | none => lost == some out && !s.outUp out
      if hit && !s.on F.RTE.PS_STATUS_SPLIT then
        let s := s.setSplit
        if on.map s.logical = some (s.logical alt) then s else s.sendTopo alt 1 0 addr
      else s
  else s

/-- A commit of PS_CFG applies: SPLIT clears and the primary settings return (R163). -/
def State.splitClear (s : State) : State := { s.setF F.RTE.PS_STATUS_SPLIT 0 with splitUse := false }

/-- The ring's switch takes effect at the first slot boundary at least 10 µs after SPLIT (R163). -/
def State.ringSwitch (s : State) : State :=
  if s.on F.RTE.PS_STATUS_SPLIT && !s.splitUse && s.splitAt + 10 * usU ≤ s.now then { s with splitUse := true } else s

/-! ## Up and down -/

/-- The SIG values that wait to be sent (R102). -/
def PortSt.wants (x : PortSt) : List Nat :=
  (if x.oweReady then [1] else []) ++ (if x.reqTx.isSome && !x.ackGot then [2] else []) ++ (if x.oweAck then [3] else []) ++
    (if x.reqWake.isSome then [4] else []) ++ (if x.reqDeep.isSome then [5] else []) ++ (if x.oweDeep then [6] else []) ++
    (if x.reqRx.isSome then [7] else [])

/-- The SIG value of the next cairn: a value is held for 4 cairn periods, then the values that wait are sent in turn (R102). -/
def PortSt.nextSig (x : PortSt) : Nat :=
  if x.sigHold ≠ 0 then x.sig else (x.wants.find? (x.sig < ·)).getD (x.wants.headD 0)

/-- The seeds of a port's lanes (R97). -/
def State.seeds (s : State) (p : Nat) : List Nat := (List.range 8).map (fun l => s.f (F.LNK.LANE_SEED_SEED p l))

/-- A port begins to train: it sends training cairns from the seeds of LANE_SEED, and waits in SEARCH until it sees the partner's (R97, R107, R108). -/
def State.seekTrain (s : State) (p : Nat) : State :=
  let s := s.setPort p { s.port p with seeking := true, txScr := s.seeds p, txRun := List.replicate 8 (0, 0), txWords := [], txAt := s.now, txNorm := 0,
                                       sig := 0, sigHold := 0 }
  (s.setF (F.LNK.PORT_STATUS_STATE p) 1).setF (F.LNK.PORT_CTRL_RETRAIN p) 0

/-- The partner's training cairns come with signal on all lanes: TRAIN is entered (R107, R108). -/
def State.startTrain (s : State) (p : Nat) : State :=
  let s := s.setPort p { s.port p with seeking := false, trainAt := s.now, rxDone := false, readyGot := false, rxNorm := none,
                                       lockRun := List.replicate 8 0, missRun := List.replicate 8 0 }
  (s.setF (F.LNK.PORT_STATUS_STATE p) 2).setF (F.LNK.PORT_STATUS_CAIRN_LOCK p) 0

/-- A frame whose incoming port left UP is completed with zero words, CUT and POISON, on every output it leaves by or waits for (R141). -/
def State.cutFrame (s : State) (p : Nat) : State :=
  match (s.port p).rx with
  | none => s
  | some r =>
    let addr := s.f F.RTE.DEV_CFG_DEV_ADDR
    let zero := fun (l : LineFrame) =>
      if sameFrame l { fr := r.hdr, inp := p } then
        { l with fr := { l.fr with payload := List.replicate r.len 0 }, cut := true, poison := true, poisonAt := addr } else l
    let s := s.setPort p { s.port p with rx := none, rxAt := {} }
    { s with ports := s.ports.map (fun x => { x with busy := x.busy.map zero, queue := x.queue.map zero }) }

/-- Local delivery found by a second look at the route: a frame still arriving is delivered at its tail, a complete one next (R142). -/
def State.reroutedHere (s : State) (l : LineFrame) : State :=
  if s.arriving l then
    let i := s.logical l.inp
    s.setPort i { s.port i with rx := (s.port i).rx.map (fun r => { r with outs := r.outs ++ [6] }) }
  else { s with localIn := s.localIn ++ [l] }

/-- Frames waiting for an output that left UP are looked up again, and the rest of a frame that was leaving by it is discarded (R141, R142).  A copy of a frame
with several outputs has its copies there already. -/
def State.reroute (s : State) (o : Nat) : State :=
  if s.outUp o then s
  else
    let q := (s.port o).queue
    let lost := (s.port o).busy
    let s := s.setPort o { s.port o with queue := [], busy := none }
    let s := match lost with
      | some l => s.copyGone l
      | none => s
    s.each q (fun s l =>
      if hopLocal l.fr.typ then s
      else match s.lookup l.fr l.inp with
        | none => s.noRoute.copyGone l
        | some outs =>
          let many := frameMc l.fr || l.fr.dst == 0xFFF
          if many then (if outs.isEmpty then s.noRoute else s).copyGone l
          else if outs.contains 6 then s.reroutedHere l
          else if outs.isEmpty then s.copyGone l
          else s.each outs (fun s x => s.enqueue x l))

/-- The servo of a slave base whose PORT leaves UP: the open exchange is abandoned and HOLDOVER begins (R178, R179). -/
def State.portLostServo (s : State) (p : Nat) : State :=
  if s.outUp p then s
  else s.each [0, 1] (fun s n =>
    if s.slaveOn n p then (s.setTb n { s.tb n with exch := none }).servoHoldover n else s)

/-- The credit state of a logical port is discarded (R145). -/
def State.dropCredit (s : State) (o : Nat) : State :=
  s.setPort o { s.port o with alloc := [], cum := List.replicate 8 0, sent := List.replicate 8 0, freed := List.replicate 8 0, announced := false }

/-- Requests of the sleep handshake are refused with PARTNER when their port goes down (R115); the others and the values owed end. -/
def State.dropRequests (s : State) (p : Nat) : State :=
  let x := s.port p
  let s := s.setPort p { x with reqTx := none, reqRx := none, reqWake := none, reqDeep := none, oweReady := false, oweAck := false, oweDeep := false, ackGot := false,
                                deepOk := false, deepAgreed := false, wakeAfter := false, sig := 0, sigHold := 0 }
  let s := ((s.setF (F.LNK.SLEEP_CTRL_TX_SLEEP p) 0).setF (F.LNK.SLEEP_CTRL_RX_SLEEP p) 0).setF (F.LNK.SLEEP_CTRL_TX_WAKE p) 0
  let s := s.setF (F.LNK.SLEEP_CTRL_RX_WAKE p) 0
  if x.reqTx.isSome || x.reqRx.isSome then s.sleepCode p 5 else s

/-- The frame layer learns that a port has left UP: its frames are cut or looked up again, a bond narrows at the next cairn set and its partner is told, the credit of
a logical port without a member UP is discarded, and a ring may split (R141, R142, R145, R154, R163). -/
def State.portLost (s : State) (p : Nat) : State :=
  let o := s.logical p
  let s := s.setPort p { s.port p with txWords := [], rxWords := [], rxAt := {}, bondIn := 0, bondRx := 0, bondWait := false }
  let s := if s.outUp o then s else ((s.cutFrame o).dropCredit o)
  let s :=
    if s.bonded p && s.portUp? (mateOf p) then
      (s.setPort (mateOf p) { s.port (mateOf p) with bondIn := 1 }).sendTopo (mateOf p) 0 (2 ^ mateOf p) 0
    else s.setActive (maskWith (s.f F.RTE.BOND_STATUS_ACTIVE) p false) (s.bonded p)
  ((s.reroute o).portLostServo p).ringBreak none (some o) (s.f F.RTE.DEV_CFG_DEV_ADDR)

/-- A port goes down with a cause (R119 to R121): out of UP it raises PORT_DOWN and counts, and the frame layer responds; sleep requests are refused.  In SEARCH it
sends training cairns (R119).  DESIGN CHOICE (log entry 83): DOWN_CAUSE keeps the last cause until the port is enabled anew from OFF. -/
def State.portDown (s : State) (p cause next : Nat) (inj : Bool) : State :=
  let wasUp := s.portUp? p
  let s := s.dropRequests p
  let s := s.setPort p { s.port p with seeking := false }
  let s := (s.setF (F.LNK.PORT_STATUS_DOWN_CAUSE p) cause).setF (F.LNK.PORT_STATUS_STATE p) next
  let s := ((s.setF (F.LNK.PORT_STATUS_CAIRN_LOCK p) 0).setTxDir p 0).setRxDir p 0
  if wasUp then
    let s := (s.inc (F.LNK.ERR_CNT1_DOWN_CNT p)).raise (F.LNK.EVT_PORT_DOWN p)
    (if cause = 2 then s.occur 8 p inj else s).portLost p
  else s

/-- The end with the lower address sends BOND_STATE, which names the 32nd cairn set behind it, for a member that came back (R154). -/
def State.bondAnnounce (s : State) (p : Nat) : State :=
  let known := if (s.port p).partner ≠ 0 then (s.port p).partner else (s.port (mateOf p)).partner
  if known = 0 then s.setPort p { s.port p with bondWait := true }
  else
    let s := s.setPort p { s.port p with bondWait := false }
    if s.f F.RTE.DEV_CFG_DEV_ADDR < known then
      (s.setPort p { s.port p with bondIn := 32 }).sendTopo (mateOf p) 0 (2 ^ p + 2 ^ mateOf p) 32
    else s

/-- A hop-local frame shows the address of the partner of a port (R133, R154). -/
def State.learnPartner (s : State) (p addr : Nat) : State :=
  let s := s.setPort p { s.port p with partner := addr }
  s.each (s.members p) (fun s q => if (s.port q).bondWait then s.bondAnnounce q else s)

/-- A port reaches UP (R107): with PORT_UP, normal cairns and no credit; as a member of a bond whose other member is UP its stripe is restored by BOND_STATE (R154). -/
def State.portUp (s : State) (p : Nat) : State :=
  let alone := !s.outUp (s.logical p)
  let s := ((s.setF (F.LNK.PORT_STATUS_STATE p) 3).setTxDir p 0).setRxDir p 0
  let s := s.setPort p { s.port p with upAt := s.now, rx := none, rxAt := {}, rxWords := [], txNorm := 0, rxNorm := none }
  let s := if alone then s.dropCredit (s.logical p) else s
  let s := s.raise (F.LNK.EVT_PORT_UP p)
  if s.bonded p && s.portUp? (mateOf p) then s.bondAnnounce p
  else s.setActive (maskWith (s.f F.RTE.BOND_STATUS_ACTIVE) p true) (s.bonded p)

/-- A training port is UP when its own receive side is complete and the partner's READY has come (R107 steps 6 and 7). -/
def State.tryUp (s : State) (p : Nat) : State :=
  if s.portState p = 2 && (s.port p).rxDone && (s.port p).readyGot then s.portUp p else s

/-- READY from the partner (R107). -/
def State.portReady (s : State) (p : Nat) : State :=
  if s.portState p = 2 then (s.setPort p { s.port p with readyGot := true }).tryUp p else s

/-- A BOND_STATE frame on a port: the stripe narrows at the next cairn set, or is restored at the named one (R154). -/
def State.bondState (s : State) (p mask dist : Nat) : State :=
  if s.bonded p then
    let q := if s.portUp? p then p else mateOf p
    s.setPort q { s.port q with bondRx := if mask.testBit p && mask.testBit (mateOf p) then max 1 dist else 1, bondMask := mask }
  else s

/-- The stripe of a bond from now on: its members that are UP, and of those the ones that the partner named. -/
def State.bondSet (s : State) (p mask : Nat) : State :=
  let act := maskWith (s.f F.RTE.BOND_STATUS_ACTIVE) p (s.portUp? p && mask.testBit p)
  s.setActive (maskWith act (mateOf p) (s.portUp? (mateOf p) && mask.testBit (mateOf p))) true

/-- A cairn set of a bond's member is sent, or arrives: at the named set the stripe changes (R154). -/
def State.bondSent (s : State) (p : Nat) : State :=
  let x := s.port p
  if x.bondIn = 0 then s
  else
    let s := s.setPort p { x with bondIn := x.bondIn - 1 }
    if x.bondIn = 1 then s.bondSet p 0x3F else s

def State.bondCame (s : State) (p : Nat) : State :=
  let x := s.port p
  if x.bondRx = 0 then s
  else
    let s := s.setPort p { x with bondRx := x.bondRx - 1 }
    if x.bondRx = 1 then s.bondSet p x.bondMask else s

/-- PORT_CTRL.EN goes to 1: the port begins to train (R107, R108). -/
def State.portEnable (s : State) (p : Nat) : State :=
  let s := s.setF (F.LNK.PORT_CTRL_EN p) 1
  if s.portState p = 0 then (s.setF (F.LNK.PORT_STATUS_DOWN_CAUSE p) 0).seekTrain p else s

/-- PORT_CTRL.EN goes to 0: OFF with cause DISABLED (R121). -/
def State.portDisable (s : State) (p : Nat) : State := (s.portDown p 7 0 false).setF (F.LNK.PORT_CTRL_EN p) 0

/-- A write of RETRAIN: the port goes down and begins to train at once (R121).  DESIGN CHOICE (log entry 83): in OFF it does nothing, and in SEARCH and TRAIN it sets the
cause RETRAIN too. -/
def State.retrain (s : State) (p : Nat) : State :=
  if s.portState p = 0 then s else (s.portDown p 8 1 false).seekTrain p

/-! ## The transmitter (R95 to R103, R112) -/

/-- The lanes of a port send payload and cairns: it is enabled and not deep, its outgoing direction is awake, and no shutdown holds its lanes in electrical idle
(R107, R119, R121). -/
def State.lanesSend (s : State) (p : Nat) : Bool :=
  !(s.port p).idle && (s.portState p == 1 || s.portState p == 2 || s.portState p == 5 || (s.portState p == 3 && s.txDir p == 0))

/-- A cairn with this SIG value has been sent: SLEEP_ACK lets the incoming direction go to sleep, and a value owed is settled when it has been held for 4 cairn
periods (R102, R110, R111); the partner's agreement to the deep state holds from then on (R117). -/
def State.sigSent (s : State) (p : Nat) : State :=
  let x := s.port p
  let s := if x.sig = 3 && x.oweAck && s.portUp? p && s.rxDir p == 0 then s.enterRxIdle p else s
  let s := if x.sigHold = 0 then
      s.setPort p { s.port p with oweAck := x.oweAck && x.sig != 3, oweDeep := x.oweDeep && x.sig != 6, deepAgreed := x.deepAgreed || (x.oweDeep && x.sig == 6),
                                  oweReady := x.oweReady && !(x.sig == 1 && s.portUp? p) }
    else s
  s.trySleep p

/-- One cairn period ends: the words that wait go out with idle words behind them, and the cairns follow, training ones until UP, then normal ones and after every
16th a compensation cairn (R95, R103, R107). -/
def State.txPeriod (s : State) (p : Nat) : State :=
  let x := s.port p
  let train := s.portState p == 1 || s.portState p == 2
  let per : TxPeriod := { scr := x.txScr, run := x.txRun, words := x.txWords.take (8 * (periodBits / 64)), sig := x.nextSig,
                          kinds := if train then [2] else if x.txNorm = 15 then [0, 1] else [0] }
  let s := s.setPort p { x with
    txLast := some per, txWords := x.txWords.drop (8 * (periodBits / 64)), txScr := x.txScr.map (scrAdvance periodBits),
    txRun := (List.range 8).map (fun l => cairnRun ((per.cairns l).getLastD 0)), txNorm := if train then x.txNorm else (x.txNorm + 1) % 16,
    txAt := x.txAt + s.lineSpan p (periodBits + 64 * per.kinds.length), sig := per.sig, sigHold := (if x.sigHold = 0 then 4 else x.sigHold) - 1 }
  let o := s.logical p
  let s := if (s.members o).all (fun q => (s.port q).txWords.isEmpty) then s.setPort o { s.port o with stripe := 0 } else s
  (s.bondSent p).sigSent p

/-- The outgoing direction is awake again: a normal cairn goes out, and payload follows it (R112). -/
def State.txAwake (s : State) (p : Nat) : State :=
  let x := s.port p
  let per : TxPeriod := { scr := x.txScr, run := List.replicate 8 (0, 0), words := [], kinds := [0], sig := x.nextSig, bare := true }
  let s := s.setPort p { x with
    txLast := some per, txRun := (List.range 8).map (fun l => cairnRun ((per.cairns l).getLastD 0)), txNorm := (x.txNorm + 1) % 16,
    txAt := x.txWakeAt + 3300 * nsU + s.lineSpan p 64, sig := per.sig, sigHold := (if x.sigHold = 0 then 4 else x.sigHold) - 1 }
  (((s.setF (F.LNK.SLEEP_CTRL_TX_WAKE p) 0).setTxDir p 0).sigSent p).startNext (s.logical p)

/-- Cairn periods that have passed on a port's transmitter one by one, at most n of them, while something but idle words goes out. -/
def State.txPeriods (s : State) (p : Nat) : Nat → State
  | 0 => s
  | n + 1 =>
    let x := s.port p
    if s.lanesSend p && decide (x.txAt + s.lineSpan p (periodBits + 64) ≤ s.now) && (x.sigHold != 0 || !x.wants.isEmpty || !x.txWords.isEmpty || x.bondIn != 0) then
      (s.txPeriod p).txPeriods p n
    else s

/-- The periods of idle words that have passed since: all but the last, which goes out like any other, in one stride. -/
def State.txIdles (s : State) (p : Nat) : State :=
  let x := s.port p
  let n := (s.now - x.txAt) / s.lineSpan p (periodBits + 64)
  if s.lanesSend p && n ≠ 0 then
    let s := s.setPort p { x with txScr := x.txScr.map (scrAdvance (periodBits * (n - 1))), txNorm := (x.txNorm + (n - 1)) % 16,
                                  txAt := x.txAt + (n - 1) * s.lineSpan p (periodBits + 64) }
    s.txPeriod p
  else s

/-- The transmitters go on up to now: wakes end after 3.3 µs (R112), and cairn periods pass. -/
def State.ropeRun (s : State) : State :=
  s.each (List.range 6) (fun s p =>
    let s := if s.portUp? p && s.txDir p == 2 && decide ((s.port p).txWakeAt + 3300 * nsU ≤ s.now) then s.txAwake p else s
    if s.lanesSend p && decide ((s.port p).txAt + s.lineSpan p (periodBits + 64) ≤ s.now) then (s.txPeriods p 64).txIdles p else s)

/-- What the LNK registers must keep after a write (R97, R118, R122, R127, R171). -/
def State.lnkLegal (s : State) (p off : Nat) : Bool :=
  if off = 0x104 then
    2 ≤ s.f (F.LNK.PORT_CFG_TRAIN_TIMEOUT p) && !(s.on (F.LNK.PORT_CFG_M32 p) && s.f (F.LNK.PORT_CFG_RATE p) == 3)
  else if off = 0x110 then 1 ≤ s.f (F.LNK.SLEEP_CFG_PLUG_DEBOUNCE p)
  else if 0x200 ≤ off ∧ off < 0x300 then
    let l := (off - 0x200) / 0x20
    if (off - 0x200) % 0x20 = 0 then
      s.on (F.LNK.LANE_SEED_SEED p l) &&
      (List.range 8).all (fun k => k == l || s.f (F.LNK.LANE_SEED_SEED p k) != s.f (F.LNK.LANE_SEED_SEED p l))
    else if (off - 0x200) % 0x20 = 0xC then
      s.f (F.LNK.LANE_PAT_CFG_PAT p l) ≤ 4 && s.f (F.LNK.LANE_PAT_CFG_LOOP p l) != 3
    else true
  else if off = 0x300 ∨ off = 0x304 then
    (s.vcUnits p).all (9 ≤ ·) && (s.vcUnits p).foldl (· + ·) 0 ≤ 192
  else true

/-- What the RTE registers must keep after a write (R168). -/
def State.rteLegal (s : State) (off : Nat) : Bool :=
  if off = 0x100 then
    1 ≤ s.f F.RTE.DEV_CFG_HOP_LIMIT && s.f F.RTE.DEV_CFG_DEV_ADDR != 0 && s.f F.RTE.DEV_CFG_DEV_ADDR != 0xFFF
  else if off = 0x120 then s.f F.RTE.TOPO_CFG_TOPO != 3
  else true

end Sys2Proof.Machine
end

