-- ==== Sys2Proof/Machine/Rope.lean ====
section
/-! DEFINITION. What a port does with cairn sets, lane signals, signal changes, time-outs, patterns and injections (R98 to R125). -/

namespace Sys2Proof.Machine

/-! ## Lane-layer signals (R102, R110 to R117) -/

/-- SLEEP_REQ from the partner: SLEEP_ACK is owed when it is allowed and the receive buffer is empty (R110); a port in M32 mode knows the deep state alone (R118). -/
def State.sigSleepReq (s : State) (p : Nat) : State :=
  if s.portUp? p && s.on (F.LNK.SLEEP_CFG_ALLOW_PARTNER p) && !s.on (F.LNK.PORT_CFG_M32 p) && s.rxEmpty p && s.txDir p == 0 && s.rxDir p == 0 then
    s.setPort p { s.port p with oweAck := true }
  else s

/-- SLEEP_ACK for the own request (R110, R111). -/
def State.sigSleepAck (s : State) (p : Nat) : State :=
  if (s.port p).reqTx.isSome then (s.setPort p { s.port p with ackGot := true }).trySleep p else s

/-- SLEEP_ASK from the partner: with ALLOW_PARTNER the own outgoing direction goes to sleep (R110). -/
def State.sigSleepAsk (s : State) (p : Nat) : State :=
  if s.on (F.LNK.SLEEP_CFG_ALLOW_PARTNER p) && !s.on (F.LNK.PORT_CFG_M32 p) then s.txSleep p else s

/-- WAKE_REQ from the partner: a SLEEP_REQ without its answer is refused with WAKE, a sleeping direction wakes (R112, R115). -/
def State.sigWakeReq (s : State) (p : Nat) : State :=
  if (s.port p).reqTx.isSome && !(s.port p).ackGot then s.refuseTx p 7 else s.txWake p

/-- DEEP_REQ from the partner is answered with DEEP_ACK (R117). -/
def State.sigDeepReq (s : State) (p : Nat) : State := if s.portUp? p then s.setPort p { s.port p with oweDeep := true } else s

/-- DEEP_ACK: the port agrees to enter the deep state (R117). -/
def State.sigDeepAck (s : State) (p : Nat) : State :=
  if (s.port p).reqDeep.isSome then s.setPort p { s.port p with reqDeep := none, deepOk := true } else s

/-- A signal that arrived identically on all eight lanes (R102). -/
def State.laneSignal (s : State) (p sig : Nat) : State :=
  match sig with
  | 1 => s.portReady p
  | 2 => s.sigSleepReq p
  | 3 => s.sigSleepAck p
  | 4 => s.sigWakeReq p
  | 5 => s.sigDeepReq p
  | 6 => s.sigDeepAck p
  | 7 => s.sigSleepAsk p
  | _ => s

/-- Requests that wait for an answer: their instants, with 0 for sleep of the outgoing direction, 1 for the incoming one, 2 for the deep state. -/
def PortSt.openRequests (x : PortSt) : List (Nat × Nat) :=
  (if x.ackGot then [] else (x.reqTx.map (fun t => (t, 0))).toList) ++ (x.reqRx.map (fun t => (t, 1))).toList ++ (x.reqDeep.map (fun t => (t, 2))).toList

/-- The oldest open request has no answer within 10 µs: it is refused with PARTNER (R110, R117). -/
def State.sleepAckTimeout (s : State) (p : Nat) : State :=
  match (s.port p).openRequests.foldl (fun (b : Option (Nat × Nat)) r => match b with
    | some x => if r.1 < x.1 then some r else b
    | none => some r) none with
  | none => s
  | some (t, k) =>
    let s := s.advanceTo (t + 10 * usU)
    if k = 0 then s.refuseTx p 5
    else if k = 1 then (s.refuseRx p 5).trySleep p
    else (s.setPort p { s.port p with reqDeep := none, deepOk := false }).sleepCode p 5

/-! ## Loop-backs (R124) -/

/-- The loop-back of a lane, in Test mode: 0 none, 1 near, 2 far (R124, R130). -/
def State.loopOf (s : State) (p l : Nat) : Nat := if s.mode = Mode.test then s.f (F.LNK.LANE_PAT_CFG_LOOP p l) else 0

/-- The line bits at the receiver of a lane: those on its balls, or in a near loop-back what its own transmitter sent last (R124). -/
def State.lineIn (s : State) (p l : Nat) (line : List Bool) : List Bool :=
  if s.loopOf p l = 1 then (match (s.port p).txLast with
    | some per => per.line l
    | none => [])
  else line

/-- In a far loop-back the received bits are sent again 64 unit intervals later (R124). -/
def State.farPass (s : State) (p l : Nat) (line : List Bool) : State :=
  if s.loopOf p l = 2 then
    let x := s.port p
    let all := x.farBits.getD l [] ++ line
    s.setPort p { x with farOut := setNth x.farOut l (all.take (all.length - 64)), farBits := setNth x.farBits l (all.drop (all.length - 64)) }
  else s

/-! ## Cairns -/

/-- A cairn stands at the spacing of R103 behind the one before it: 8,192 payload bits, and a compensation cairn at once behind every 16th normal one. -/
def PortSt.spaced (x : PortSt) (kind n : Nat) : Bool :=
  match x.rxNorm with
  | some 16 => kind == 1 && n == 0
  | some _ => kind != 1 && n == periodBits
  | none => if kind = 1 then n == 0 else n == periodBits

/-- The payload bits of a lane up to its cairn, and the cairn; none where the cairn is missing, bad or at the wrong place (R104).  The first cairn that a lane finds,
and the one behind a wake pattern, may stand anywhere (R104, R112). -/
def PortSt.laneCairn (x : PortSt) (l : Nat) (line : List Bool) (anywhere : Bool) : Option (List Bool × Nat) :=
  let out := (unstuff (x.runBit.getD l (0, 0)) line).out
  let n := out.length - 64
  let c := bitsToNat (out.drop n)
  if x.injMiss.getD l 0 = 0 && decide (64 ≤ out.length) && cairnGood l c && (anywhere || x.spaced (cairnKind c) n) then some (out.take n, c) else none

/-- A lane has found no cairn yet. -/
def State.hunts (s : State) (p l : Nat) : Bool :=
  !(s.f (F.LNK.PORT_STATUS_CAIRN_LOCK p)).testBit l && (s.port p).lockRun.getD l 0 == 0

/-- A cairn is absent or bad at its expected place, n payload bits behind the last: counted, and after four in a row the lane loses lock and an awake port
goes down (R96, R104, R119). -/
def State.cairnMiss (s : State) (p l n : Nat) (inj : Bool) : State :=
  let s := s.inc (F.LNK.ERR_CNT1_CAIRN_MISS_CNT p)
  let x := s.port p
  let run := x.missRun.getD l 0 + 1
  let s := s.setPort p { x with missRun := setNth x.missRun l run, lockRun := setNth x.lockRun l 0, rxScr := modNth x.rxScr l (scrAdvance n) }
  if 4 ≤ run && (s.f (F.LNK.PORT_STATUS_CAIRN_LOCK p)).testBit l then
    let s := s.setF (F.LNK.PORT_STATUS_CAIRN_LOCK p) (maskWith (s.f (F.LNK.PORT_STATUS_CAIRN_LOCK p)) l false)
    if s.portUp? p && s.rxDir p == 0 then s.portDown p 2 1 inj else s
  else s

/-- One lane of a cairn set: stuffing removed, cairn checked, scrambler state compared and adopted (R98, R100, R104). -/
def State.cairnLane (s : State) (p l : Nat) (line : List Bool) : State :=
  let x := s.port p
  let u := unstuff (x.runBit.getD l (0, 0)) line
  let found := x.laneCairn l line (s.hunts p l || s.rxDir p == 2)
  let inj := x.injMiss.getD l 0 != 0
  let s := s.setPort p { x with runBit := setNth x.runBit l u.run, injMiss := modNth x.injMiss l (· - 1) }
  let s := if u.viol = 0 then s
           else (s.incBy (F.LNK.ERR_CNT0_STUFF_VIOL_CNT p) u.viol).raiseDet (F.LNK.EVT_STUFF_VIOL p) 7 p false
  match found with
  | none => s.cairnMiss p l (u.out.length - 64) inj
  | some (pay, c) =>
    let x := s.port p
    let slip := (s.f (F.LNK.PORT_STATUS_CAIRN_LOCK p)).testBit l && scrAdvance pay.length (x.rxScr.getD l 0) != cairnState c
    let s := if slip then (s.inc (F.LNK.ERR_CNT0_SCR_SLIP_CNT p)).raise (F.LNK.EVT_SCR_SLIP p) else s
    let x := s.port p
    let k := min 4 (x.lockRun.getD l 0 + 1)
    let s := s.setPort p { x with rxScr := setNth x.rxScr l (cairnState c), missRun := setNth x.missRun l 0, lockRun := setNth x.lockRun l k }
    if 4 ≤ k then s.setF (F.LNK.PORT_STATUS_CAIRN_LOCK p) (maskWith (s.f (F.LNK.PORT_STATUS_CAIRN_LOCK p)) l true) else s

/-- The cairn sets since the last compensation cairn, once one has been seen: a set that is not good leaves the place unknown (R103). -/
def PortSt.countSet (x : PortSt) (good : Bool) (kind : Nat) : Option Nat :=
  if !good then none else if kind = 1 then some 0 else if kind = 0 then x.rxNorm.map (· + 1) else none

/-- The receive equalisers adapt while the port trains, and in UP but under EQ_FREEZE: what they have reached is free (R107, R109, R130). -/
def State.eqAdapt (s : State) (p : Nat) : State :=
  if s.portState p = 2 || (s.portState p = 3 && !s.on (F.LNK.PORT_CFG_EQ_FREEZE p)) then
    let s := s.tickFree
    s.each (List.range 8) (fun s l =>
      (s.setF (F.LNK.LANE_EQ_CTLE p l) (Config.laneEq s.freeCnt (8 * p + l) 0)).setF (F.LNK.LANE_EQ_EYE_MARGIN p l) (Config.laneEq s.freeCnt (8 * p + l) 1))
  else s

/-- The receive side of a training port is complete: all lanes have cairn lock and are deskewed, and the port sends READY (R107 step 6). -/
def State.rxComplete (s : State) (p : Nat) : State :=
  if s.portState p = 2 && s.f (F.LNK.PORT_STATUS_CAIRN_LOCK p) == 0xFF && !(s.port p).rxDone then
    (s.setPort p { s.port p with rxDone := true, oweReady := true }).tryUp p
  else s

/-- A waking direction relocks on its first cairn set and is awake (R112). -/
def State.rxAwake (s : State) (p : Nat) (good : Bool) : State :=
  if good && s.rxDir p == 2 then
    let s := (s.setF (F.LNK.PORT_STATUS_CAIRN_LOCK p) 0xFF).setF (F.LNK.SLEEP_CTRL_RX_WAKE p) 0
    (s.setPort p { s.port p with reqWake := none, lockRun := List.replicate 8 4 }).setRxDir p 0
  else s

/-- A cairn set arrives with the line bits of its lanes, the skew between them (on a bond, between all sixteen) and the fill of the elastic buffer above centre;
`full`: the fill has reached an end (R98 to R107, R112, R124, R154).  DESIGN CHOICE (log entry 83): a training that fails with DESKEW leaves the port waiting in SEARCH for
RETRAIN or the return of signal. -/
def State.cairnSet (s : State) (p : Nat) (lines : List (List Bool)) (skew : Nat) (fill : Int) (full : Bool) : State :=
  let lines := (List.range 8).map (fun l => s.lineIn p l (lines.getD l []))
  let s := s.each (List.range 8) (fun s l => s.farPass p l (lines.getD l []))
  let cs := (List.range 8).filterMap (fun l => ((s.port p).laneCairn l (lines.getD l []) (s.hunts p l || s.rxDir p == 2)).map (·.2))
  let good := cs.length == 8
  let kind := cairnKind (cs.headD 0)
  let sig := cairnSig (cs.headD 0)
  let same := good && cs.all (fun c => cairnSig c == sig)
  let s := s.each (List.range 8) (fun s l => s.cairnLane p l (lines.getD l []))
  let s := s.setPort p { s.port p with rxNorm := (s.port p).countSet good kind }
  let s := if s.portState p = 1 && (s.port p).seeking && good && kind == 2 && s.f (F.LNK.PORT_STATUS_LOS p) == 0 then s.startTrain p else s
  if full && s.portUp? p then (s.raise (F.LNK.EVT_ELASTIC_OVF p)).portDown p 4 1 false
  else if s.portState p = 2 && 2048 < skew then s.portDown p 3 1 false
  else
    let s := if good && kind == 1 && 64 < fill then s.inc (F.LNK.COMP_CNT_DELETE_CNT p) else s
    let s := if good && kind == 1 && fill < -64 then s.inc (F.LNK.COMP_CNT_INSERT_CNT p) else s
    let s := s.rxAwake p good
    let s := if s.portState p = 5 && s.f (F.LNK.PORT_STATUS_CAIRN_LOCK p) == 0xFF then s.portUp p else s
    let s := ((s.rxComplete p).eqAdapt p).bondCame p
    if same then s.laneSignal p sig else s

/-- The words of the stream that a cairn set's line bits spell, while the port is UP, its incoming direction is awake and its lanes have lock (R95, R96). -/
def State.setWords (s : State) (p : Nat) (lines : List (List Bool)) : List Nat :=
  if s.portUp? p && s.rxDir p == 0 && s.f (F.LNK.PORT_STATUS_CAIRN_LOCK p) == 0xFF then
    unstripe ((List.range 8).map (fun l =>
      let out := (unstuff ((s.port p).runBit.getD l (0, 0)) (s.lineIn p l (lines.getD l []))).out
      scramble ((s.port p).rxScr.getD l 0) (out.take (out.length - 64))))
  else []

/-! ## Signal, time-outs and wakes -/

/-- A port enters the deep state after a Bivouac commit, or a Base camp entry in M32 mode (R117, R118): it leaves UP.  DESIGN CHOICE (log entry 83): without PORT_DOWN, and
not counted. -/
def State.enterDeep (s : State) (p : Nat) : State :=
  if s.portUp? p then
    let agreed := (s.port p).deepAgreed
    let s := (s.dropRequests p).setF (F.LNK.PORT_STATUS_STATE p) 4
    let s := s.setPort p { s.port p with deepAgreed := agreed }
    ((s.setTxDir p 3).setRxDir p 3).portLost p
  else s

/-- A port leaves the deep state (R117). -/
def State.leaveDeep (s : State) (p : Nat) : State :=
  if s.portState p = 4 then
    let s := s.setPort p { s.port p with deepExitAt := s.now, lockRun := List.replicate 8 0, missRun := List.replicate 8 0, txScr := s.seeds p, txAt := s.now,
                                         txNorm := 0, rxNorm := none, deepAgreed := false }
    ((s.setF (F.LNK.PORT_STATUS_STATE p) 5).setF (F.LNK.PORT_STATUS_CAIRN_LOCK p) 0)
  else s

/-- Signal appears on or leaves lanes; present holds one bit per lane (R119, R120).  DESIGN CHOICE (log entry 83): a port that has agreed to the deep state enters it
when the partner's signal goes, and leaves it when signal is back on all lanes. -/
def State.signalChange (s : State) (p present : Nat) : State :=
  let all := present % 256 == 0xFF
  let s := s.setF (F.LNK.PORT_STATUS_LOS p) (255 - present % 256)
  let x := s.port p
  let los := (List.range 8).map (fun l => if present.testBit l then none else some ((x.losSince.getD l none).getD s.now))
  let s := s.setPort p { x with sigSince := if all then some (x.sigSince.getD s.now) else none, losSince := los }
  if x.deepAgreed && present % 256 == 0 then s.enterDeep p
  else if x.deepAgreed && all && s.portState p == 4 then s.leaveDeep p
  else s

/-- Loss of signal on one lane for 1 µs on an awake incoming direction (R119); on a direction in RX-idle it is expected (R114). -/
def State.losTimeout (s : State) (p : Nat) : State :=
  match (s.port p).losSince.filterMap id with
  | [] => s
  | t :: l => if s.portUp? p && s.rxDir p == 0 then (s.advanceTo (l.foldl min t + usU)).portDown p 1 1 false else s

/-- Training has not reached UP within TRAIN_TIMEOUT (R108). -/
def State.trainTimeout (s : State) (p : Nat) : State :=
  if s.portState p = 2 then
    let s := s.advanceTo ((s.port p).trainAt + s.f (F.LNK.PORT_CFG_TRAIN_TIMEOUT p) * msU)
    let s := (s.portDown p 5 1 false).raise (F.LNK.EVT_TRAIN_FAIL p)
    if s.on (F.LNK.PORT_CFG_AUTO_RETRAIN p) then s.seekTrain p else s
  else s

/-- Signal has been present on all lanes of a port that is down for PLUG_DEBOUNCE (R120). -/
def State.signalReturn (s : State) (p : Nat) : State :=
  match (s.port p).sigSince with
  | some t =>
    if s.on (F.LNK.PORT_CTRL_EN p) && s.portState p == 1 then
      let s := s.advanceTo (t + s.f (F.LNK.SLEEP_CFG_PLUG_DEBOUNCE p) * 100 * usU)
      let s := s.raise (F.LNK.EVT_SIGNAL_RETURN p)
      if s.on (F.LNK.PORT_CFG_AUTO_RETRAIN p) && !(s.port p).seeking then s.seekTrain p else s
    else s
  | none => s

/-- The signal detector of an idle receiver sees the wake pattern (R112). -/
def State.wakePattern (s : State) (p : Nat) : State :=
  if s.portUp? p && s.rxDir p == 1 then (s.setPort p { s.port p with wakeAt := s.now, reqWake := none }).setRxDir p 2 else s

/-- The instant at which the wake pattern of an incoming direction ends: 2.3 µs behind its start; where no pattern came, as though the partner had answered
WAKE_REQ at once, sent when the own outgoing direction was awake (R112).  DESIGN CHOICE for the second case (log entry 83). -/
def State.patternEnd (s : State) (p : Nat) : Option Nat :=
  if s.rxDir p = 2 then some ((s.port p).wakeAt + 2300 * nsU)
  else if s.rxDir p = 1 then (s.port p).reqWake.map (fun t => max t ((s.port p).txWakeAt + 3300 * nsU) + 3300 * nsU)
  else none

/-- No cairn within 10 µs of the end of the wake pattern (R114). -/
def State.dirWakeFail (s : State) (p : Nat) : State :=
  match s.patternEnd p with
  | some t => if s.portUp? p then ((s.advanceTo (t + 10 * usU)).portDown p 6 1 false).raise (F.LNK.EVT_DIR_WAKE_FAIL p) else s
  | none => s

/-- A deep exit that reaches no cairn lock within 180 µs falls back to full training (R117). -/
def State.deepExitTimeout (s : State) (p : Nat) : State :=
  if s.portState p = 5 then (((s.advanceTo ((s.port p).deepExitAt + 180 * usU)).setTxDir p 0).setRxDir p 0).seekTrain p else s

/-! ## Patterns and injections (R122 to R125) -/

/-- A lane is in pattern mode: Test mode with EN = 0 (R122). -/
def State.patternMode (s : State) (p : Nat) : Bool := s.mode == Mode.test && !s.on (F.LNK.PORT_CTRL_EN p)

/-- The checker and the generator of a lane work (R122). -/
def State.checkerOn (s : State) (p l : Nat) : Bool := s.patternMode p && s.on (F.LNK.LANE_PAT_CFG_CHK_EN p l)
def State.genOn (s : State) (p l : Nat) : Bool := s.patternMode p && s.on (F.LNK.LANE_PAT_CFG_GEN_EN p l)

/-- The pattern of a lane, and the word of its user pattern (R122, R130). -/
def State.patOf (s : State) (p l : Nat) : Nat := s.f (F.LNK.LANE_PAT_CFG_PAT p l)
def State.patUser (s : State) (p l : Nat) : Nat := s.f (F.LNK.LANE_PAT_USER_HI_USER_HI p l) * 2 ^ 32 + s.f (F.LNK.LANE_PAT_USER_LO_USER_LO p l)

/-- The next n bits that the generator of a lane sends, the first of them inverted by an injection; the register of a PRBS starts free (R122, R125). -/
def State.genBits (s : State) (p l n : Nat) : List Bool :=
  let b := patBits (s.patOf p l) (s.patUser p l) (Config.prbsSeed p l) ((s.port p).genPos.getD l 0) n
  if (s.port p).patInv.getD l 0 = 0 then b else match b with
    | x :: r => (!x) :: r
    | [] => []

/-- Pattern bits at the checker of a lane: those on its balls, or in a near loop-back the next ones of its own generator (R124). -/
def State.patIn (s : State) (p l : Nat) (bs : List Bool) : State × List Bool :=
  if s.loopOf p l = 1 && s.genOn p l then
    (s.setPort p { s.port p with genPos := modNth (s.port p).genPos l (· + bs.length), patInv := modNth (s.port p).patInv l (· - 1) }, s.genBits p l bs.length)
  else (s.farPass p l bs, bs)

/-- Bits arrive at an unlocked checker: it has seeded itself from them, and locks when the last 64 of them are correct (R123). -/
def State.checkerLock (s : State) (p l : Nat) (bs : List Bool) : State :=
  let r := s.patIn p l bs
  let s := r.1
  if s.checkerOn p l && !s.on (F.LNK.LANE_PAT_ERR_LOCK p l) && patLocks (s.patOf p l) (s.patUser p l) r.2 then
    (s.setPort p { s.port p with chkWin := setNth (s.port p).chkWin l 0 }).setF (F.LNK.LANE_PAT_ERR_LOCK p l) 1
  else s

/-- A received pattern bit is wrong, `gap` correct bits after the last wrong one: counted while locked; 16 wrong of 64 drop the lock (R123).  In a near loop-back a
wrong bit is one that an injection inverted (R124, R125). -/
def State.patErr (s : State) (p l gap : Nat) : State :=
  let near := s.loopOf p l == 1 && s.genOn p l
  if s.checkerOn p l && s.on (F.LNK.LANE_PAT_ERR_LOCK p l) && (!near || (s.port p).patInv.getD l 0 != 0) then
    let s := if near then s.setPort p { s.port p with genPos := modNth (s.port p).genPos l (· + gap + 1), patInv := modNth (s.port p).patInv l (· - 1) } else s
    let s := (s.inc (F.LNK.LANE_PAT_ERR_ERR_CNT p l)).raise (F.LNK.EVT_PAT_ERR p)
    let win := ((s.port p).chkWin.getD l 0 * 2 ^ (min gap 64 + 1) + 1) % 2 ^ 64
    if 16 ≤ popCount 64 win then
      (s.setPort p { s.port p with chkWin := setNth (s.port p).chkWin l 0 }).setF (F.LNK.LANE_PAT_ERR_LOCK p l) 0
    else s.setPort p { s.port p with chkWin := setNth (s.port p).chkWin l win }
  else s

/-- LANE_PAT_CFG has been written: a checker whose enable or pattern changed seeds itself anew, and a generator that is switched on starts its pattern (R122, R123). -/
def State.patWritten (s : State) (p l was : Nat) : State :=
  let s := if bits was 5 5 ≠ s.f (F.LNK.LANE_PAT_CFG_CHK_EN p l) ∨ bits was 2 0 ≠ s.patOf p l then s.setF (F.LNK.LANE_PAT_ERR_LOCK p l) 0 else s
  if bits was 4 4 = 0 && s.on (F.LNK.LANE_PAT_CFG_GEN_EN p l) then
    s.setPort p { s.port p with genPos := setNth (s.port p).genPos l 0, patInv := setNth (s.port p).patInv l 0 } else s

/-- A write of LANE_INJ by an agent (R125): the armed injections of its bits. -/
def State.laneInj (s : State) (agent p l inj : Nat) : State :=
  if !s.injArmed then s.injIgnored agent (A.LNK.LANE_INJ p l)
  else
    let s := s.ok 0
    let s := if inj.testBit 0 && s.genOn p l then s.setPort p { s.port p with patInv := modNth (s.port p).patInv l (· + 1) } else s
    let s := if inj.testBit 1 then
      (s.inc (F.LNK.ERR_CNT0_STUFF_VIOL_CNT p)).raiseDet (F.LNK.EVT_STUFF_VIOL p) 7 p true else s
    if inj.testBit 2 then s.setPort p { s.port p with injMiss := setNth (s.port p).injMiss l 4 } else s

end Sys2Proof.Machine
end

