-- ==== Sys2Proof/Machine/CalSet.lean ====
section
/-! DEFINITION. The calibration values in use: the stored sets and their baseline (R475, R476, R604), the ramps (R477, R479) and the active values that the receive,
transmit and observation paths apply (R474). -/

namespace Sys2Proof.Machine

/-! ## Stored sets (R475, R476, R604) -/

/-- Number of quantities of a kind: 16 trims; gain, phase and delay of four carriers and 25 step gains; the same without steps; gain, phase, delay, eight taps and 25
steps; and the reciprocity entry. -/
def kindSize (k : Nat) : Nat := [16, 16, 37, 12, 44, 9].getD k 0

/-- The n-th quantity of a kind is a phase. -/
def isPhase (k n : Nat) : Bool :=
  ((k == 2 || k == 3) && decide (n < 12) && n % 3 == 1) || (k == 4 && n == 1) || (k == 5 && decide (n < 8) && n % 2 == 1)

/-- Byte offset, width in bytes and signedness of the n-th quantity of a kind in an entry of 512 bytes (R604). -/
def setField (k n : Nat) : Nat × Nat × Bool :=
  let corr := fun (base m : Nat) => if m % 3 = 0 then (base + 8 * (m / 3), 2, true) else if m % 3 = 1 then (base + 8 * (m / 3) + 2, 2, false)
    else (base + 8 * (m / 3) + 4, 4, true)
  match k with
  | 0 => (2 * n, 2, false)
  | 1 => (32 + 2 * n, 2, false)
  | 2 => if n < 12 then corr 64 n else (96 + 2 * (n - 12), 2, true)
  | 3 => corr 160 n
  | _ => if n < 3 then corr 192 n else if n < 19 then (200 + 2 * (n - 3), 2, true) else (232 + 2 * (n - 19), 2, true)

/-- A quantity of a missing entry: the mid-code of a trim; unity and zero for digital correctors, the first equaliser tap being 1.0 (R553). -/
def setDefault (k n : Nat) : Int := if k < 2 then 0x8000 else if k = 4 ∧ n = 3 then 0x4000 else 0

/-- The n-th quantity of kind k on path p at the i-th stored temperature. -/
def storedQty (set : Option (List Byte)) (k p i n : Nat) : Int :=
  match set with
  | none => setDefault k n
  | some b =>
    let at_ := 512 * (8 * p + i)
    if b.length < at_ + 512 then setDefault k n
    else
      let x := setField k n
      let v := ofLe ((b.drop (at_ + x.1)).take x.2.1)
      if x.2.2 then signed (8 * x.2.1) v else v

/-- The stored temperatures in 1/16 °C (R475). -/
def storedTemps : List Int := [-640, -160, 160, 480, 800, 1120, 1440, 1760]

/-- 960 times the baseline B(T) of a quantity, exact for every T in 1/16 °C (R476). -/
def baseline960 (set : Option (List Byte)) (k p n : Nat) (t : Int) : Int :=
  let t := max (-640) (min 1760 t)
  let i := min 6 ((storedTemps.takeWhile (fun x => x ≤ t)).length - 1)
  let t0 := storedTemps.getD i 0
  let span := storedTemps.getD (i + 1) 0 - t0
  let b0 := storedQty set k p i n
  b0 * 960 + (storedQty set k p (i + 1) n - b0) * (t - t0) * (960 / span)

/-- Sensor that CAL_TSRC assigns to a group: 0 to 7 RXG, 8 to 15 TXG (R486). -/
def State.groupSensor (s : State) (g : Nat) : Nat := bits (s.reg (A.CAL.CAL_TSRC (g / 4))).toNat (8 * (g % 4) + 4) (8 * (g % 4))

/-- Present reading of a sensor in 1/16 °C (R517, R526). -/
def State.sensorTemp (s : State) (x : Nat) : Int := s.fi (F.THM.S_TEMP_TEMP x)

/-- Path temperature of a kind: the RX group's for the receive kinds, the TX group's for the transmit kinds. -/
def State.pathTemp (s : State) (k p : Nat) : Int :=
  s.sensorTemp (s.groupSensor (if k = 1 ∨ k = 3 then 8 + p / 8 else p / 8))

/-- Whether the ramp in force is a ramp of a kind and path. -/
def Ramp.isOf (r : Ramp) (kind path : Nat) : Bool := r.kind == kind && r.path == path

/-- The i-th quantity of a ramp after k of its steps, as a numerator over `den × total`. -/
def Ramp.after (r : Ramp) (k i : Nat) : Int := r.old.getD i 0 * (r.total - k : Nat) + r.new.getD i 0 * (k : Int)

/-- The ramp of a kind and path. -/
def State.rampOf (s : State) (k p : Nat) : Option Ramp := s.cal.ramps.find? (fun r => r.isOf k p)

/-- Steps of a new ramp: RAMP, 0 read as 256. -/
def State.rampSteps (s : State) : Nat := if s.f F.CAL.CAL_CFG_RAMP = 0 then 256 else s.f F.CAL.CAL_CFG_RAMP

/-- Divisor of the deltas of a kind: deltas are kept 960 times over for the kinds with a baseline. -/
def kindDen (k : Nat) : Nat := if k = 5 then 1 else 960

/-- The value in effect of a ramp, as numerators with their divisor: its steps are folded in while it is under way. -/
def State.inEffect (s : State) (k p : Nat) : List Int × Nat :=
  match s.rampOf k p with
  | none => (List.replicate (kindSize k) 0, kindDen k)
  | some r =>
    if r.step = r.total then (r.new, r.den)
    else ((List.range (kindSize k)).map (fun i => r.after r.step i), r.den * r.total)

/-- Path temperature at which the baseline of a kind stands since the last slot boundary (R476). -/
def State.baseTemp (s : State) (k p : Nat) : Int := s.cal.temps.getD (s.groupSensor (if k = 1 ∨ k = 3 then 8 + p / 8 else p / 8)) 0

/-- At a slot boundary of R14 the baseline takes the last reading of each sensor that is at least 2.0 µs old (R476). -/
def State.calTemps (s : State) : State :=
  let old := s.cal.reads.filter (fun r => decide (r.2.1 + 2 * usU ≤ s.now))
  let temps := (List.range 48).map (fun x => match old.reverse.find? (fun r => r.1 == x) with
    | some r => r.2.2
    | none => s.cal.temps.getD x 0)
  { s with cal := { s.cal with temps := temps, reads := s.cal.reads.filter (fun r => decide (s.now < r.2.1 + 2 * usU)) } }

/-- A numerator at the nearest whole code, halves away from zero (R476). -/
def wholeCode (den : Nat) (v : Int) : Int :=
  let q : Int := ((2 * v.natAbs + den) / (2 * den) * den : Nat)
  if v < 0 then -q else q

/-- The active value of every quantity of kind k on path p, B(T) + D_applied, as numerators with their divisor; an analogue trim stands at a whole code (R476, R477). -/
def State.activeCal (s : State) (k p : Nat) : List Int × Nat :=
  let e := s.inEffect k p
  let m : Int := ((e.2 / kindDen k : Nat) : Int)
  let t := s.baseTemp k p
  let v := (List.range (kindSize k)).map (fun i => e.1.getD i 0 + m * (if k = 5 then 0 else baseline960 s.cal.set k p i t))
  (if k < 2 then v.map (wholeCode e.2) else v, e.2)

end Sys2Proof.Machine
end

