-- ==== Sys2Proof/Machine/Rx.lean ====
section
/-! DEFINITION. The receive path: carrier checks (R199 to R202, R214, R217, R227), gain control (R204 to R208), the spike blanker (R209, R210), the
detectors (R211 to R213), the FFT and the delivery of bins (R214, R215, R218 to R223); and the TDD pattern they follow (R496, R497). -/

namespace Sys2Proof.Machine

/-! ## The TDD pattern -/

/-- Type of symbol k of the n-th slot of the grid of R14: 0 D, 1 U, 2 G (R496). -/
def State.tddType (s : State) (n k : Nat) : Nat :=
  match s.gridScs with
  | none => 2
  | some scs =>
    let p := s.f F.AUX.TDD_CFG_PERIOD
    let slot := if p = 0 then 0 else n % slotsPerFrame scs % p
    bits (s.f (F.AUX.TDD_SLOT_TYPE slot)) (2 * k + 1) (2 * k)

/-- Type of a symbol given by its absolute index 14 n + k. -/
def State.tddAbs (s : State) (i : Nat) : Nat := s.tddType (i / 14) (i % 14)

/-- A turnround symbol (R497): every G symbol, and a U symbol next to a D symbol. -/
def State.turnSym (s : State) (i : Nat) : Bool :=
  s.tddAbs i == 2 || (s.tddAbs i == 1 && (s.tddAbs (i + 1) == 0 || (0 < i && s.tddAbs (i - 1) == 0)))

/-- Absolute indices of the symbols of the grid of R14 that overlap the span from a to b. -/
def State.overlapped (s : State) (a b : Nat) : List Nat :=
  match s.gridScs with
  | none => []
  | some scs =>
    let at_ := fun t => let n := slotAt scs (t - s.tim.t0); 14 * n + symAt scs n (t - s.slotInstant scs n)
    let i := at_ a
    let j := at_ (b - 1)
    (List.range (j + 1 - i)).map (i + ·)

/-- A symbol that may carry receive work: it overlaps no transmit or turnround symbol (R222, R497). -/
def State.rxAllowed (s : State) (a b : Nat) : Bool := (s.overlapped a b).all (fun i => s.tddAbs i == 1 && !s.turnSym i)

/-- A symbol that may carry transmit work: it overlaps transmit symbols only (R497). -/
def State.txAllowed (s : State) (a b : Nat) : Bool := (s.overlapped a b).all (fun i => s.tddAbs i == 0)

/-- Start and end instants of symbol k of the n-th slot of carrier c. -/
def State.symSpan (s : State) (c n k : Nat) : Nat × Nat :=
  let scs := s.carScs c
  (s.symInstant scs n k, if k = 13 then s.slotInstant scs (n + 1) else s.symInstant scs n (k + 1))

/-! ## Carrier checks -/

/-- ADC rate of the clock plan in use, in Hz. -/
def State.fsHz (s : State) : Nat := s.f (F.CLK.PLAN_FS_FS_KHZ (s.f F.CLK.CLK_STATUS_PLAN)) * 1000

/-- FFT size and rate, spacing and occupied half-width of a carrier (R199, R200). -/
def State.fftN (s : State) (c : Nat) : Nat := 2 ^ (9 + s.f (F.RXP.CAR_CFG_FFT_LOG c))
def State.spacing (s : State) (c : Nat) : Nat := 15000 * 2 ^ s.carScs c
def State.fftRate (s : State) (c : Nat) : Nat := s.fftN c * s.spacing c
def State.halfBand (s : State) (c : Nat) : Nat := 6 * s.f (F.RXP.CAR_CFG_NRB c) * s.spacing c
/-- The 48-bit NCO word W (R198). -/
def State.ncoW (s : State) (c : Nat) : Nat := s.f (F.RXP.CAR_NCO_LO_W_LO c) + 2 ^ 32 * s.f (F.RXP.CAR_NCO_HI_W_HI c)

/-- Cyclic prefix in samples of symbol k of the n-th slot of a carrier at F_fft (R214). -/
def State.cpLen (s : State) (c n k : Nat) : Nat :=
  let long := (k = 0 ∧ (s.carScs c ≠ 2 ∨ n % 2 = 0)) ∨ (k = 7 ∧ s.carScs c = 0)
  9 * s.fftN c / 128 + (if long then s.fftN c * 2 ^ s.carScs c / 128 else 0)

/-- Passband edge in thousandths of F_fft, highest F_fft, and the sample count in the group delay of a preset (R201). -/
def presetEdge (p : Nat) : Nat := [475, 475, 440, 410].getD p 475
def presetTop (p : Nat) : Nat := if p = 0 then 245760000 else 491520000
def presetG (p : Nat) : Nat := [88, 56, 30, 16].getD p 88

/-- D is 2^k or 3 × 2^k from 24 to 1,536 (R200). -/
def ratioOk (d : Nat) : Bool := 24 ≤ d && d ≤ 1536 && (List.range 11).any (fun k => d == 2 ^ k || d == 3 * 2 ^ k)

/-- The occupied band lies wholly inside one Nyquist zone with its margins (R199), in units of Hz × 100 × 2^48. -/
def State.zoneOk (s : State) (c : Nat) : Bool :=
  let fs := s.fsHz
  let fc := 100 * s.ncoW c * fs
  let h := 100 * 2 ^ 48 * s.halfBand c
  let u := fs * 2 ^ 48
  (u + h ≤ fc && fc + h ≤ 49 * u) || (51 * u + h ≤ fc && fc + h ≤ 99 * u)

/-- Limit of t_loc of R166 less 0.5 µs, in ns (R217). -/
def latencyLimit (scs : Nat) : Int := [4500, 2500, 1500].getD scs 1500

/-- The first failing check of a carrier: 0 none, 1 ZONE, 2 RATIO, 3 PASSBAND, 4 PRESET_RATE, 5 LATENCY, 6 ADVANCE, 7 RANGE
(R226, R227). -/
def State.rxCheck (s : State) (c : Nat) : Nat :=
  let preset := s.f (F.RXP.CAR_CFG_PRESET c)
  let ff := s.fftRate c
  let adv := s.f (F.RXP.CAR_FFT_ADVANCE c)
  let nrb := s.f (F.RXP.CAR_CFG_NRB c)
  if !s.zoneOk c then 1
  else if s.fsHz % ff ≠ 0 || !ratioOk (s.fsHz / ff) then 2
  else if presetEdge preset * ff < 1000 * s.halfBand c then 3
  else if presetTop preset < ff then 4
  else if (latencyLimit (s.carScs c) - 242) * ff < ((presetG preset : Int) + 19 - adv) * 1000000000 then 5
  else if 9 * s.fftN c < 128 * adv then 6
  else if nrb = 0 ∨ 275 < nrb ∨ s.f (F.RXP.CAR_BLANK_LEN c) = 0 ∨ s.f (F.RXP.CAR_BLANK_K c) < 8 ∨
    s.f (F.RXP.CAR_BLANK2_LIMIT c) = 0 then 7
  else 0

/-- The device-wide gain-control fields lie in their ranges (R205, R226, R227, R229). -/
def State.agcOk (s : State) : Bool :=
  s.f F.RXP.AGC_CFG_MODE != 3 && s.f F.RXP.AGC_CFG_ATTACK != 0 && s.f F.RXP.AGC_CFG_START ≤ 24 &&
  s.f F.RXP.AGC_CFG_MIN ≤ s.f F.RXP.AGC_CLIP_MAX && s.f F.RXP.AGC_CLIP_MAX ≤ 24 && s.f F.RXP.AGC_CLIP_CLIP_LIM != 0 &&
  (List.range 64).all (fun p => s.f (F.RXP.P_CTRL_ATTEN_MAN p) ≤ 24)

/-- A carrier check failed: RX_CFG_ERR records it and CFG_REFUSED is raised (R227). -/
def State.rxRefused (s : State) (c code : Nat) : State :=
  ((s.setF F.RXP.RX_CFG_ERR_CARRIER c).setF F.RXP.RX_CFG_ERR_CODE code).raise F.RXP.EVT_CFG_REFUSED

/-- The checks when the timeline enters RUN: a carrier that fails delivers INVALID symbols with cause CFG (R227). -/
def State.rxCheckRun (s : State) : State :=
  let cs := (List.range 4).filter s.carEn
  let badCs := cs.filter (fun c => s.rxCheck c != 0)
  let s := s.each badCs (fun s' c => s'.rxRefused c (s.rxCheck c))
  { s with rx := { s.rx with bad := badCs.foldl (fun m c => m + 2 ^ c) 0 } }

/-- What the RXP registers must keep at a write (R226, R228). -/
def State.rxLegal (s : State) (off : Nat) : Bool :=
  if 0x200 ≤ off ∧ off < 0x300 ∧ (off - 0x200) % 0x40 = 8 then
    let c := (off - 0x200) / 0x40
    1 ≤ s.f (F.RXP.CAR_CFG_NRB c) && s.f (F.RXP.CAR_CFG_NRB c) ≤ 275 && s.f (F.RXP.CAR_CFG_FFT_LOG c) ≤ 4
  else if off = 0x128 then 1 ≤ s.f F.RXP.BLK_CFG_COUNT
  else true

/-! ## Gain control -/

/-- The p-th receive path. -/
def State.rxp (s : State) (p : Nat) : RxPath := s.rx.paths.getD p {}
def State.setRxp (s : State) (p : Nat) (x : RxPath) : State := { s with rx := { s.rx with paths := setNth s.rx.paths p x } }

/-- PATH_EN of a receive path. -/
def State.rxEnabled (s : State) (p : Nat) : Bool := (s.mask64 F.RXP.PATH_EN_LO_EN F.RXP.PATH_EN_HI_EN).testBit p

/-- A path event: its P_EVT bit, and EVT_STATUS where the bit rises while enabled in P_EVT_EN (R225). -/
def State.rxEvt (s : State) (p bit : Nat) : State :=
  let rose := !(s.f (F.RXP.P_EVT_EVT p)).testBit bit && (s.f (F.RXP.P_EVT_EN_EN p)).testBit bit
  (s.setF (F.RXP.P_EVT_EVT p) (s.f (F.RXP.P_EVT_EVT p) ||| 2 ^ bit)).when rose
    (·.raise ⟨0x100E0000, bit, bit⟩)

/-- round(pk - target) of R206 for a peak code and TARGET in 0.5 dB below full scale: the largest n with
20 log10(pk / 8191) + TARGET / 2 ≥ n - 1/2, decided exactly on 40th powers. -/
def roundDb (pk target : Nat) : Int :=
  let l := (List.range 121).map (fun (i : Nat) => (i : Int) - 60)
  let ok := fun (n : Int) => decide ((8191 ^ 40 * 10 ^ (2 * n + 121).toNat : Nat) ≤ pk ^ 40 * 10 ^ (target + 122))
  ((l.filter ok).getLast?).getD (-60)

/-- pk - TARGET > 0.5 dB (R206). -/
def overTarget (pk target : Nat) : Bool := decide (8191 ^ 40 * 10 < pk ^ 40 * 10 ^ target)

/-- The attenuation a path takes at the first symbol of a receive period (R206). -/
def State.periodAtt (s : State) (p : Nat) : Nat :=
  match (s.rxp p).lastPk with
  | none => s.f F.RXP.AGC_CFG_START
  | some pk =>
    let a := (s.f (F.RXP.P_STATUS_ATT_NOW p) : Int) + roundDb pk (s.f F.RXP.AGC_CFG_TARGET)
    (max (s.f F.RXP.AGC_CFG_MIN : Int) (min (s.f F.RXP.AGC_CLIP_MAX) a)).toNat

/-- The paths that have receive work at an instant. -/
def State.rxWork (s : State) (p t : Nat) : Bool :=
  s.rx.jobs.any (fun j => j.mask.testBit p &&
    (s.symSpan j.carrier j.slot j.trig).1 ≤ t && t < (s.symSpan j.carrier j.slot (j.trig + j.nsym - 1)).2)

/-- The attenuation sources of one path at the start of a symbol of the grid of R14, in the order of R208. -/
def State.gainAtSymbol (s : State) (p : Nat) : State :=
  let x := s.rxp p
  let mode := s.f F.RXP.AGC_CFG_MODE
  let att := s.f (F.RXP.P_STATUS_ATT_NOW p)
  let work := s.rxWork p s.now
  let maxA := s.f F.RXP.AGC_CLIP_MAX
  let start := mode ≠ 0 ∧ work ∧ x.newPeriod
  let a0 := if mode = 0 then x.manSet.getD (s.f (F.RXP.P_CTRL_ATTEN_MAN p)) else att
  let a1 := if start then s.periodAtt p else a0
  let a2 := if mode = 2 ∧ x.attackDue then min (a1 + s.f F.RXP.AGC_CFG_ATTACK) maxA else a1
  let limit := (start ∧ a1 = maxA ∧ (x.lastPk.any (fun pk => overTarget pk (s.f F.RXP.AGC_CFG_TARGET)))) ∨
    (mode = 2 ∧ x.attackDue ∧ a1 = maxA)
  let s := s.setRxp p { x with attack := false, attackDue := x.attack, gainChg := decide (a2 ≠ att) || (x.setAt == some s.now && x.gainChg),
                               worked := x.worked || work, newPeriod := if work then false else x.newPeriod, pk := if start then none else x.pk }
  let s := s.setF (F.RXP.P_STATUS_ATT_NOW p) a2
  s.when limit (·.rxEvt p 4)

/-- A slot of the grid of R14 ends: a path without receive work in it starts a new period at its next work (R206). -/
def State.rxSlotEnd (s : State) : State :=
  { s with rx := { s.rx with paths := s.rx.paths.map (fun x =>
      if x.worked then { x with worked := false } else { x with newPeriod := true, lastPk := x.pk.or x.lastPk }) } }

/-- A TX→RX turnround ends the receive period of every path (R206, R497). -/
def State.rxPeriodEnd (s : State) : State :=
  { s with rx := { s.rx with paths := s.rx.paths.map (fun x =>
      { x with newPeriod := true, lastPk := x.pk.or x.lastPk }) } }

/-- No previous period: after a reset, a wake or Base camp (R206, R224). -/
def State.rxForget (s : State) : State :=
  { s with rx := { s.rx with paths := s.rx.paths.map (fun x => { x with newPeriod := true, lastPk := none, pk := none }) } }

/-! ## Blanker and detectors -/

/-- The envelope e(n) of a sample (R209). -/
def envelope (x : Cplx) : Nat := max x.re.natAbs x.im.natAbs + min x.re.natAbs x.im.natAbs / 2

/-- Insertion into a rising list, and sorting. -/
def insertSorted (a : Nat) : List Nat → List Nat
  | [] => [a]
  | b :: l => if a ≤ b then a :: b :: l else b :: insertSorted a l
def sortNat : List Nat → List Nat
  | [] => []
  | a :: l => insertSorted a (sortNat l)

/-- The median of an odd number of values. -/
def median (l : List Nat) : Nat := (sortNat l).getD (l.length / 2) 0

/-- The blanker over one symbol (R209, R210): samples, hang left, blanked so far; gives the samples, the count and the hang left for the next symbol. -/
def blankRun (es : List Nat) (L K floor hang limit : Nat) : Nat → Nat → Nat → List Cplx → List Cplx × Nat × Nat
  | _, h, cnt, [] => ([], cnt, h)
  | i, h, cnt, x :: l =>
    -- es holds three envelopes before the symbol, the symbol's own, and three behind it
    let m := median ((es.drop (i + 3 - (L - 1) / 2)).take L)
    let hit := K * m / 8 + 64 * floor < es.getD (i + 3) 0
    let bl := (hit || 0 < h) && cnt < limit
    let h' := if hit then hang else h - 1
    let r := blankRun es L K floor hang limit (i + 1) h' (if bl then cnt + 1 else cnt) l
    ((if bl then {} else x) :: r.1, r.2)

/-- One step of the envelope follower with 8 fraction bits (R212). -/
def envStep (att dec env e : Nat) : Nat :=
  let e8 := 256 * e
  if env < e8 then env + (e8 - env) / 2 ^ att else env - (env - e8) / 2 ^ dec

/-- A level in dBFS, units of 1/16 dB, saturating at -128 dB (R212). -/
def dbfs (num den : Nat) : Int := if num = 0 then -2048 else max (-2048) (Config.dbPower num den)

/-- The largest member of a list. -/
def listMax (l : List Nat) : Nat := l.foldl max 0

/-- A decimated sample whose compensated value leaves the 16-bit range (R203). -/
def Cplx.over16 (x : Cplx) : Bool := decide (x.re ≠ satS 16 x.re) || decide (x.im ≠ satS 16 x.im)

/-- Clips of a symbol (R203, R211): codes at LEVEL or above, and saturated samples of the carrier stream. -/
def State.clipCount (s : State) (codes : List Int) (xs : List Cplx) : Nat :=
  (codes.filter (fun c => s.f F.RXP.AGC_CLIP_LEVEL ≤ c.natAbs)).length + (xs.filter Cplx.over16).length

/-- The wideband detectors over one symbol's ADC codes (R211): PEAK, POWER, CLIP and the CLIP event; with receive work the peak of the period and a pending
attack (R206, R207). -/
def State.wideband (s : State) (p : Nat) (codes : List Int) (clip work : Bool) : State :=
  let pk := listMax (codes.map Int.natAbs)
  let sq := (codes.map (fun c => c.natAbs * c.natAbs)).foldl (· + ·) 0
  let power := dbfs (2 * sq) (codes.length * 8191 * 8191)
  let x := s.rxp p
  let s := (s.setF (F.RXP.P_WB_PEAK p) pk).setFi (F.RXP.P_WB_POWER p) power
  let s := if work then s.setRxp p { x with pk := some (max (x.pk.getD 0) pk), attack := clip && s.f F.RXP.AGC_CFG_MODE == 2 } else s
  if clip then (s.inc (F.RXP.P_CLIP_CLIP_CNT p)).rxEvt p 0 else s

/-- The blocker alarm after a symbol (R213). -/
def State.blocker (s : State) (p : Nat) : State :=
  let rms := ((List.range 4).filter s.carEn).map (fun c => s.fi (F.RXP.P_DET_A_RMS p c))
  let overRun := Config.blockerOver (s.fi (F.RXP.P_WB_POWER p)) rms (s.f (F.RXP.P_STATUS_ATT_NOW p)) (s.f F.RXP.BLK_CFG_THRESH)
  let x := s.rxp p
  let run := if overRun then min 15 (x.blkRun + 1) else 0
  (s.setRxp p { x with blkRun := run }).when (s.f F.RXP.BLK_CFG_COUNT ≤ run) (·.rxEvt p 1)

/-- Bins of a symbol (R215): the FFT of the window, rounded, saturated to 16 bits; and how many saturated. -/
def State.fftBins (s : State) (c : Nat) (win : List Cplx) : List Cplx × Nat :=
  let nrb := s.f (F.RXP.CAR_CFG_NRB c)
  let raw := (List.range (12 * nrb)).map (fun (i : Nat) =>
    Config.fftBin ((i : Int) - 6 * nrb) win (s.f (F.RXP.CAR_FFT_SHIFT c)) (s.f (F.RXP.CAR_FFT_ADVANCE c))
      (s.on (F.RXP.CAR_FFT_ADV_COMP c)))
  let sat := fun (x : Cplx) => ({ re := satS 16 x.re, im := satS 16 x.im } : Cplx)
  (raw.map sat, (raw.filter (fun x => sat x != x)).length)

/-- The synthesiser is locked and no settling window runs: the converter clock is usable (R222, R259). -/
def State.clockOk (s : State) : Bool := s.f F.CLK.CLK_STATUS_STATE == 2

/-- The converter clock was settling or unlocked at some time since an instant (R222, R493). -/
def State.clockBad (s : State) (a : Nat) : Bool := !s.clockOk || decide (a < s.clk.okSince)

/-- The cause that makes a symbol INVALID, 0 for none; the lowest code stands (R222); `fault`: a memory of RXP failed in it (R224). -/
def State.invCause (s : State) (p c a b : Nat) (fault : Bool) : Nat :=
  if s.clockBad a then 1
  else if s.rx.bad.testBit c || fault then 2
  else if (s.f F.THM.THM_STATUS_MUTED).testBit (p / 8) then 3
  else if !s.rxAllowed a b then 4
  else if !s.rxEnabled p then 5
  else 0

/-- A word of memory for a complex sample: I in bits 15:0 and Q in bits 31:16 (R218). -/
def cplxWord (x : Cplx) : Nat := code 16 x.re + 2 ^ 16 * code 16 x.im

/-- Size in bytes of the record of one path and symbol in memory (R218). -/
def State.rxRecSize (s : State) (c dest n k : Nat) : Nat :=
  64 + 4 * (if dest = 2 then s.fftN c + s.cpLen c n k else 12 * s.f (F.RXP.CAR_CFG_NRB c))

/-- Address of the record of path p and symbol k of a receive job: paths ascending, symbols ascending within each (R218). -/
def State.rxRecAddr (s : State) (j : RxJob) (p k : Nat) : Nat :=
  let perPath := ((List.range j.nsym).map (fun i => s.rxRecSize j.carrier j.dest j.slot (j.trig + i))).foldl (· + ·) 0
  let before := ((List.range (k - j.trig)).map (fun i => s.rxRecSize j.carrier j.dest j.slot (j.trig + i))).foldl (· + ·) 0
  let rank := ((List.range p).filter j.mask.testBit).length
  j.addr + rank * perPath + before

/-- Stages 2, 5 and 6 over a symbol (R209 to R213): with the raw codes, the decimated samples with three before and three behind, whether the samples are zeroed and
whether the path has work.  Gives the blanked samples, how many were blanked, and whether the symbol carries CLIP.  The envelope follower holds its value
without work (R212). -/
def State.rxDetect (s : State) (p c : Nat) (codes : List Int) (pre xs post : List Cplx) (zeroed work : Bool) : State × List Cplx × Nat × Bool :=
  let low := s.lowCarrier == some c
  let clip := decide (s.f F.RXP.AGC_CLIP_CLIP_LIM ≤ s.clipCount codes xs)
  let s := s.when low (·.wideband p codes clip work)
  let sat := fun (x : Cplx) => ({ re := satS 16 x.re, im := satS 16 x.im } : Cplx)
  let xs := if zeroed then xs.map (fun _ => ({} : Cplx)) else xs.map sat
  let es := (pre.map sat ++ xs ++ post.map sat).map envelope
  let L := 2 * s.f (F.RXP.CAR_BLANK_LEN c) + 1
  let lim := s.f (F.RXP.CAR_BLANK2_LIMIT c)
  let x := s.rxp p
  let bl := if s.on (F.RXP.CAR_BLANK_EN c) then
      blankRun es L (s.f (F.RXP.CAR_BLANK_K c)) (s.f (F.RXP.CAR_BLANK_FLOOR c)) (s.f (F.RXP.CAR_BLANK_HANG c)) lim 0 (x.hang.getD c 0) 0 xs
    else (xs, 0, 0)
  let ys := bl.1
  let blanked := bl.2.1
  let ye := ys.map envelope
  let sq := (ys.map (fun y => y.re.natAbs * y.re.natAbs + y.im.natAbs * y.im.natAbs)).foldl (· + ·) 0
  let env0 := x.env.getD c 0
  let env := if work then ye.foldl (envStep (s.f (F.RXP.CAR_DET_ATT c)) (s.f (F.RXP.CAR_DET_DEC c))) env0 else env0
  let s := s.setRxp p { x with env := setNth x.env c env, hang := setNth x.hang c bl.2.2 }
  let pkE := listMax ye
  let s := (s.setFi (F.RXP.P_DET_A_PEAK p c) (dbfs (pkE * pkE) (32767 * 32767))).setFi (F.RXP.P_DET_A_RMS p c)
    (dbfs sq (ys.length * 32767 * 32767))
  let s := (s.setF (F.RXP.P_DET_B_BLANK_CNT p c) (min 1023 blanked)).setF (F.RXP.P_DET_B_ENV p c) (min 65535 (env / 256))
  let s := s.when (s.on (F.RXP.CAR_ENV_TH_ENV_HI c) && s.f (F.RXP.CAR_ENV_TH_ENV_HI c) < env / 256) (·.rxEvt p 2)
  let s := s.when (s.on (F.RXP.CAR_ENV_TH_ENV_LO c) && env / 256 < s.f (F.RXP.CAR_ENV_TH_ENV_LO c)) (·.rxEvt p 3)
  let s := s.when low (·.blocker p)
  (s.when (lim ≤ blanked && s.on (F.RXP.CAR_BLANK_EN c)) (·.rxEvt p 5), ys, blanked, clip)

/-- The bins a path delivers for a symbol (R214, R215, R222, R223): zeros where it is INVALID, the last delivered symbol's where a calibration holds the path, else
those of the FFT window, CP - ADVANCE samples behind the nominal start; and how many saturated. -/
def State.rxBins (s : State) (p c inv : Nat) (held : Bool) (ys : List Cplx) : List Cplx × Nat :=
  let zero : List Cplx := List.replicate (12 * s.f (F.RXP.CAR_CFG_NRB c)) {}
  if inv ≠ 0 then (zero, 0)
  else if held then ((((s.rx.delivered.filter (fun b => b.path == p && b.carrier == c)).getLast?).map (·.bins)).getD zero, 0)
  else s.fftBins c ((ys.drop (ys.length - s.fftN c - s.f (F.RXP.CAR_FFT_ADVANCE c))).take (s.fftN c))

/-- A record of receive memory: the flag byte in 64 bytes, then a word per sample (R218). -/
def rxRecord (flags : Nat) (words : List Nat) : List Byte := BitVec.ofNat 8 flags :: List.replicate 63 0 ++ (words.map (leBytes 4)).flatten

/-- A symbol with receive work is delivered: its flag byte, the bins for BFM, and the records in memory, where a later command's destination replaces an earlier
one's (R218, R220, R221, R222). -/
def State.rxDeliver (s : State) (p c n k inv : Nat) (jobs : List RxJob) (ys : List Cplx) (blanked : Nat) (clip : Bool) : State :=
  let held := decide (inv = 0) && s.rx.hold.testBit p
  let out := s.rxBins p c inv held ys
  let s := if out.2 = 0 then s else (s.incBy (F.RXP.P_CNT_FFT_SAT_CNT p) out.2).rxEvt p 6
  let s := if inv = 0 then s else ((s.inc (F.RXP.P_CNT_INVALID_CNT p)).setF (F.RXP.P_STATUS_INV_CAUSE p) inv).rxEvt p 7
  let full := s.f (F.RXP.CAR_BLANK2_LIMIT c) ≤ blanked && s.on (F.RXP.CAR_BLANK_EN c)
  let flags := 128 * b2n (inv ≠ 0) + 64 * b2n held + 32 * b2n (out.2 ≠ 0) + 16 * b2n clip + 8 * b2n (blanked ≠ 0) + 4 * b2n full + 2 * b2n (s.rxp p).gainChg
  let s := s.setF (F.RXP.P_FLAGS_FLAGS p) (setBits (s.f (F.RXP.P_FLAGS_FLAGS p)) (8 * c + 7) (8 * c) flags)
  let r : RxBins := { path := p, carrier := c, slot := n, sym := k, flags := flags, bins := out.1, toBfm := jobs.any (fun j => j.dest == 0 || j.dest == 3) }
  let s := { s with rx := { s.rx with delivered := s.rx.delivered ++ [r] } }
  let memJob := fun (samples : Bool) => (jobs.filter (fun j => if samples then j.dest == 2 else j.dest == 1 || j.dest == 3)).getLast?
  let put := fun (s : State) (j : RxJob) (xs : List Cplx) =>
    s.engWrite 14 (s.frameOf (s.carScs c) n) (n % slotsPerFrame (s.carScs c)) (s.rxRecAddr j p k) (rxRecord flags (xs.map cplxWord))
  let s := match memJob false with
    | some j => put s j out.1
    | none => s
  match memJob true with
  | some j => put s j ys
  | none => s

/-- The converter of a receive path is in micro-rest, or its group in Ledge (R50, R51, R54). -/
def State.rxRests (s : State) (p : Nat) : Bool := s.pwr.micro.contains (64 + p) || (s.f F.PWR.LEDGE_STATUS_RX_LEDGE).testBit (p / 8)

/-- What the mixer and the decimation of a path and carrier work with (R197 to R204): the NCO word, the time since the start of frame 0, the ADC rate, D, the preset, the
attenuation whose compensation applies, the divisor of the correction values, and the corrections of kind RX_EQ with the attenuator's step gains (R474). -/
def State.rxParams (s : State) (p c t : Nat) : List Int :=
  let cal := s.activeCal 2 p
  [(s.ncoW c : Int), (s.tim.frame0 * frameU + (t - s.tim.t0) : Nat), s.fsHz, (s.fsHz / s.fftRate c : Nat), s.f (F.RXP.CAR_CFG_PRESET c),
    s.f (F.RXP.P_STATUS_ATT_NOW p), cal.2] ++ cal.1

/-- A symbol of a path and carrier ends (R197, R211 to R223).  Given are the raw ADC codes before, of and behind the symbol, from which stages 2 to 4 make the carrier's
samples; `fault`: a memory of RXP failed in the symbol (R224).  Without receive work the capture goes on for an enabled path whose converter does not rest: its detectors and
its blanker run, and nothing is delivered (R16, R50, R51). -/
def State.rxSymbolEnd (s : State) (p c : Nat) (before codes behind : List Int) (fault : Bool) : State :=
  let i := s.tim.symIdx.getD c 0 - 1
  let n := i / 14
  let k := i % 14
  let jobs := s.rx.jobs.filter (fun j => j.carrier == c && j.slot == n && j.mask.testBit p && j.trig ≤ k && k < j.trig + j.nsym)
  if !s.tlRun || !s.carEn c || (jobs.isEmpty && (!s.rxEnabled p || s.rxRests p)) then s
  else
    let span := s.symSpan c n k
    let s := s.advanceTo span.2
    let inv := s.invCause p c span.1 span.2 fault
    let len := s.fftN c + s.cpLen c n k
    let smp := fun (i : Nat) => Config.rxSample before codes behind (s.rxParams p c span.1) ((i : Int) - 3)
    let at_ := fun (i m : Nat) => (List.range m).map (fun j => smp (i + j))
    let d := s.rxDetect p c codes (at_ 0 3) (at_ 3 len) (at_ (len + 3) 3) (inv != 0) (!jobs.isEmpty)
    if jobs.isEmpty then d.1 else d.1.rxDeliver p c n k inv jobs d.2.1 d.2.2.1 d.2.2.2

/-! ## Receive commands -/

/-- RX_SYM captures symbols of the named paths (R218). -/
def State.rxSym (s : State) (j : RxJob) : State := { s with rx := { s.rx with jobs := s.rx.jobs ++ [j] } }

/-- The present instant is the nominal start of a symbol on the grid of R14. -/
def State.atSymbol (s : State) : Bool :=
  match s.gridScs with
  | none => false
  | some scs =>
    let n := s.slotNow scs
    (List.range 14).any (fun k => s.symInstant scs n k == s.now)

/-- GAIN_SET sets the attenuation of the named paths, in mode 0 only (R219); it is applied at the nominal start of a symbol on the grid of R14 (R204). -/
def State.gainSet (s : State) (atten mask : Nat) : State :=
  if s.f F.RXP.AGC_CFG_MODE = 0 then
    s.each (maskMembers mask 64) (fun s p =>
      let x := { s.rxp p with manSet := some atten, setAt := some s.now }
      if s.atSymbol then
        (s.setRxp p { x with gainChg := x.gainChg || decide (atten ≠ s.f (F.RXP.P_STATUS_ATT_NOW p)) }).setF (F.RXP.P_STATUS_ATT_NOW p) atten
      else s.setRxp p x)
  else s

/-- Receive work whose last symbol has ended is dropped, and bins older than a millisecond (the last of each path and carrier stay,
R223). -/
def State.rxDropOld (s : State) : State :=
  let old := fun (b : RxBins) => decide ((s.symSpan b.carrier b.slot b.sym).2 + 2 * msU < s.now)
  let newer := fun (b c : RxBins) => c.path == b.path && c.carrier == b.carrier && (b.slot < c.slot || (b.slot == c.slot && b.sym < c.sym))
  { s with rx := { s.rx with delivered := s.rx.delivered.filter (fun b => !old b || !s.rx.delivered.any (newer b)),
                             jobs := s.rx.jobs.filter (fun j => s.now < (s.symSpan j.carrier j.slot (j.trig + j.nsym - 1)).2 + msU) } }

end Sys2Proof.Machine
end

