-- ==== Sys2Proof/Machine/Nvm.lean ====
section
/-! DEFINITION. The NVM array, its records and their writes (R549 to R556), the load at start-up (R553, R601 to R604), and the life-cycle
state (R557, R558). -/

namespace Sys2Proof.Machine

/-! ## The array -/

/-- Bytes of the array from an offset. -/
def State.nvmBytes (s : State) (off n : Nat) : List Byte := memRead s.nvm.mem off n

/-- A little-endian 32-bit word of the array. -/
def State.nvmWord (s : State) (off : Nat) : Nat := ofLe (s.nvmBytes off 4)

/-- Offset of slot A or B of a record, and the slot size (R550). -/
def recSlot (id : Nat) (b : Bool) : Nat × Nat :=
  match id with
  | 0 => (if b then 0x2000 else 0x1000, 0x1000)
  | 1 => (if b then 0x30000 else 0x10000, 0x20000)
  | 2 => (if b then 0x51000 else 0x50000, 0x1000)
  | 3 => (if b then 0x53000 else 0x52000, 0x1000)
  | 4 => (if b then 0xE0000 else 0x60000, 0x80000)
  | _ => (0x160000 + 0x10000 * (id - 5) + (if b then 0x8000 else 0), 0x8000)

/-- The correct MAGIC and ID stand in a slot. -/
def State.slotMarked (s : State) (id : Nat) (b : Bool) : Bool :=
  let o := (recSlot id b).1
  s.nvmWord o == 0x4E565243 && (memGet s.nvm.mem (o + 4)).toNat == id

/-- A slot holds a valid copy (R551). -/
def State.copyValid (s : State) (id : Nat) (b : Bool) : Bool :=
  let o := (recSlot id b).1
  let len := s.nvmWord (o + 12)
  s.slotMarked id b && ofLe (s.nvmBytes (o + 56) 8) == 0xC3A55AC3C3A55AC3 && len % 8 == 0 && len + 64 ≤ (recSlot id b).2 &&
  s.nvm.bad.all (fun w => w < o / 8 || o / 8 + 8 + len / 8 ≤ w) && s.nvmWord (o + 16) == crc32ieee (s.nvmBytes (o + 64) len)

/-- The slot of the copy in force: the newer valid one, and slot A where neither is newer (R551). -/
def State.inForce (s : State) (id : Nat) : Option Bool :=
  let va := s.copyValid id false
  let vb := s.copyValid id true
  if va && vb then
    let d := (s.nvmWord ((recSlot id true).1 + 8) + 2 ^ 32 - s.nvmWord ((recSlot id false).1 + 8)) % 2 ^ 32
    some (decide (1 ≤ d ∧ d < 2 ^ 31))
  else if va then some false
  else if vb then some true
  else none

/-- The body of the copy in force. -/
def State.recBody (s : State) (id : Nat) : Option (List Byte) :=
  (s.inForce id).map (fun b => let o := (recSlot id b).1; s.nvmBytes (o + 64) (s.nvmWord (o + 12)))

/-! ## Items of the power-up record (R601) -/

/-- The items of a POWERUP body: kind, index and data. -/
def parseItems : Nat → List Byte → List (Nat × Nat × List Byte)
  | 0, _ => []
  | n + 1, l =>
    if l.length < 8 then []
    else
      let size := ofLe ((l.drop 4).take 4)
      (ofLe (l.take 2), ofLe ((l.drop 2).take 2), (l.drop 8).take size) :: parseItems n (l.drop (8 + size))

def State.powerItems (s : State) : List (Nat × Nat × List Byte) :=
  match s.recBody 1 with
  | some b => parseItems (b.length / 8) b
  | none => []

/-- The item of a kind and index that stands: the latest. -/
def State.powerItem (s : State) (kind idx : Nat) : Option (List Byte) :=
  ((s.powerItems.filter (fun i => i.1 == kind && i.2.1 == idx)).getLast?).map (·.2.2)

/-- Word w of the safe set of a path; without an item the identity set (R276, R601). -/
def State.safeWord (s : State) (p w : Nat) : Nat :=
  match s.powerItem 3 p with
  | some d => ofLe ((d.drop (4 * w)).take 4)
  | none => if w = 0 then 0x4000 else if w = 88 then 1 else if w = 91 then 1 else 0

/-- The BOOT item: ports, lane rate and boot address. -/
def State.bootPorts (s : State) : Nat := bits (((s.powerItem 2 0).getD []).getD 0 0).toNat 5 0
def State.bootRate (s : State) : Nat := bits (((s.powerItem 2 0).getD []).getD 1 0).toNat 1 0
def State.bootAddr (s : State) : Nat := bits (ofLe ((((s.powerItem 2 0).getD []).drop 2).take 2)) 11 0

/-! ## Life-cycle state (R557) -/

/-- Number of life-cycle words marked in sequence. -/
def State.lcMarks (s : State) : Nat :=
  let m := fun k => ofLe (s.nvmBytes (8 * k) 8) == 0x4C43000000000001 + k && s.nvm.bad.all (· != k)
  if m 0 then (if m 1 then (if m 2 then 3 else 2) else 1) else 0

/-- Bytes of the KEYS body: PRESENT and REVOKED, MIN_VERSION, and digest j. -/
def State.keysFlags (s : State) : Nat := (((s.recBody 0).getD []).getD 64 0).toNat
def State.minVersion (s : State) : Nat := ofLe ((((s.recBody 0).getD []).drop 68).take 4)
def State.keyDigest (s : State) (j : Nat) : List Byte := (((s.recBody 0).getD []).drop (32 * j)).take 32

/-- Digest slot j is present and not revoked. -/
def State.keyLive (s : State) (j : Nat) : Bool := s.keysFlags.testBit j && !s.keysFlags.testBit (2 + j)

/-- The digest slot that a public key matches, if it is live (R559, R561). -/
def State.keyMatch (s : State) (key : List Byte) : Option Nat :=
  [0, 1].find? (fun j => s.keyLive j && s.keyDigest j == sha256 key)

/-- KEY_STATUS and MIN_VERSION show the record in force. -/
def State.showKeys (s : State) : State :=
  ((s.setF F.NVM.KEY_STATUS_PRESENT (bits s.keysFlags 1 0)).setF F.NVM.KEY_STATUS_REVOKED (bits s.keysFlags 3 2)).setF
    F.NVM.MIN_VERSION_VERSION s.minVersion

/-! ## The regulatory record (R505, R603) -/

/-- Addresses of the registers of the record in body order. -/
def regRecAddrs : List Nat :=
  (List.range 16).map (fun i => 0x10170200 + 4 * i) ++ [0x10170300, 0x10170304] ++ (List.range 256).map (fun b => 0x10171000 + 4 * b)

/-- The body that REG_CTRL.SAVE builds from the registers. -/
def State.regRecBody (s : State) : List Byte := (regRecAddrs.map (fun a => leBytes 4 (s.reg a).toNat)).flatten

/-- The record in the registers is empty (R603). -/
def State.regEmpty (s : State) : Bool :=
  (List.range 8).all (fun i => !s.on (F.REG.RANGE_LO_EN i)) && s.f F.REG.PWR_LIM_P_PATH == 0x7FFF &&
  s.f F.REG.PWR_LIM_P_TOTAL == 0x7FFF && !s.on F.REG.DUTY_LIM_DUTY &&
  (List.range 256).all (fun b => s.f (F.REG.EXP_LIM_LIM b) == 0xFFFFFFFF)

/-- A stored REGULATORY body is empty. -/
def bodyEmpty (b : List Byte) : Bool :=
  let w := fun i => ofLe ((b.drop (4 * i)).take 4)
  (List.range 8).all (fun i => !(w (2 * i)).testBit 31) && w 16 == 0x7FFF7FFF && bits (w 17) 9 0 == 0 &&
  (List.range 256).all (fun i => w (18 + i) == 0xFFFFFFFF)

/-- REG takes its record at the load (R505, R553). -/
def State.loadReg (s : State) : State :=
  let body := (s.recBody 3).getD
    (List.replicate 64 0 ++ leBytes 4 0x7FFF7FFF ++ leBytes 4 0 ++ List.replicate 1024 0xFF)
  let s := s.each ((List.range 274).zip regRecAddrs) (fun s x => s.setReg x.2 (BitVec.ofNat 32 (ofLe ((body.drop (4 * x.1)).take 4))))
  (s.setF F.REG.REG_STATUS_LOCKED (b2n (s.lcMarks == 2))).setF F.REG.REG_STATUS_EMPTY (b2n s.regEmpty)

/-! ## The clock plans (R489, R602) -/

/-- The body that CLK_CTRL.SAVE builds from the registers. -/
def State.plansBody (s : State) : List Byte :=
  ((List.range 16).map (fun n => leBytes 4 (s.reg (0x10020200 + 16 * n)).toNat ++ leBytes 4 (s.reg (0x10020204 + 16 * n)).toNat ++
    leBytes 4 (s.reg (0x10020208 + 16 * n)).toNat ++ leBytes 4 0)).flatten ++
  leBytes 4 (s.f F.CLK.CLK_CFG_DEFAULT) ++ leBytes 4 0

/-- CLK takes its plans at the load; without a valid copy CP0 and CP1 take the values of the factory area, with CAL_VALID = 0
(R553; the area is read in the layout of R602, log entry 23).  The default plan comes into use (R6, R85, R511). -/
def State.loadPlans (s : State) : State :=
  let word := fun n i => match s.recBody 2 with
    | some b => ofLe ((b.drop (16 * n + 4 * i)).take 4)
    | none => if n < 2 then (if i = 1 then s.nvmWord (0x1E0000 + 16 * n + 4) % 2 ^ 31 else s.nvmWord (0x1E0000 + 16 * n + 4 * i)) else 0
  let dflt := match s.recBody 2 with
    | some b => bits (ofLe ((b.drop 256).take 4)) 3 0
    | none => 0
  let s := s.each (List.range 16) (fun s n =>
    ((s.setReg (0x10020200 + 16 * n) (BitVec.ofNat 32 (word n 0))).setReg (0x10020204 + 16 * n) (BitVec.ofNat 32 (word n 1))).setReg
      (0x10020208 + 16 * n) (BitVec.ofNat 32 (word n 2)))
  (s.setF F.CLK.CLK_CFG_DEFAULT dflt).setF F.CLK.CLK_STATUS_PLAN dflt

/-! ## The load (R553) -/

/-- A register whose NVM fields a REGISTER item may not name (R601); at a wake also those the AON domain keeps (R67, R75). -/
def itemIgnored (wake : Bool) (a : Nat) : Bool :=
  blkOf a == 24 || blkOf a == 23 || a == 0x10020108 || a == 0x10020100 || (0x10020200 ≤ a && a < 0x10020300) || a == 0x10000024 ||
  (wake && (a == 0x10010120 || a == 0x10010150))

/-- One REGISTER pair sets the NVM fields of a register (R601). -/
def State.applyItem (s : State) (wake : Bool) (a v : Nat) : State :=
  if itemIgnored wake a then s
  else match regSpec? a with
    | none => s
    | some r =>
      let fs := r.fields.filter (fun x => x.nvm && !(a == 0x100A0100 && x.lo == 0))
      s.setReg a (BitVec.ofNat 32 (mergeFields fs (s.reg a).toNat v))

/-- The record status registers at a load; torn slots are reported (R553). -/
def State.loadStatus (s : State) (id : Nat) : State :=
  let tornSlots := [false, true].filter (fun b => s.slotMarked id b && !s.copyValid id b)
  let force := s.inForce id
  let seq := match force with
    | some b => s.nvmWord ((recSlot id b).1 + 8)
    | none => 0
  let s := ((s.setF (F.NVM.REC_STATUS_VALID id) (b2n force.isSome)).setF (F.NVM.REC_STATUS_SLOT id) (b2n (force == some true))).setF
    (F.NVM.REC_STATUS_SEQ id) seq
  let s := s.setF (F.NVM.REC_STATUS_TORN id) (b2n (!tornSlots.isEmpty))
  s.each tornSlots (fun s b => (s.inc F.NVM.NVM_CNT0_TORN_CNT).raiseDet F.NVM.EVT_TORN 22 0 (s.nvm.tornInj.contains (id, b)))

/-- Every record is loaded from its copy in force, at step 3 of R85 and step 4 of R67. -/
def State.nvmLoad (s : State) (wake : Bool) : State :=
  let s := s.each (List.range 13) State.loadStatus
  let s := { s with nvm := { s.nvm with tornInj := [] } }
  let s := s.each (s.powerItems.filter (fun i => i.1 == 1)) (fun s i =>
    s.each (List.range (i.2.2.length / 8)) (fun s k =>
      s.applyItem wake (ofLe ((i.2.2.drop (8 * k)).take 4)) (ofLe ((i.2.2.drop (8 * k + 4)).take 4))))
  let s := if (s.powerItem 2 0).isSome then s.setF F.RTE.DEV_CFG_DEV_ADDR s.bootAddr else s
  let s := (s.setF F.NVM.LC_STATUS_STATE s.lcMarks).setF F.SYS.SYS_REV_GRADE (b2n Config.gradeF)
  let s := (s.setReg 0x10180120 (BitVec.ofNat 32 (s.nvmWord 0x18))).setReg 0x10180124 (BitVec.ofNat 32 (s.nvmWord 0x1C))
  let s := (s.showKeys.loadPlans).loadReg
  -- a thermistor without a THERMISTOR item reads as disabled (R601); thermistors are the sensors 40 to 47 (R516)
  let s := s.each (List.range 8) (fun s k => if (s.powerItem 4 k).isNone then s.setF (F.THM.S_CTRL_EN (40 + k)) 0 else s)
  s.setF F.SYS.BOOT_STATUS_NVM_BAD (b2n (s.inForce 1).isNone)

/-! ## Record writes (R552, R555, R556) -/

/-- Words a record write still has to write. -/
def NvmWrite.left (w : NvmWrite) : Nat := w.len / 8 + 9 - w.done

/-- NVM_STATUS shows the running write. -/
def State.nvmShow (s : State) : State :=
  match s.nvm.write with
  | some w => ((s.setF F.NVM.NVM_STATUS_BUSY 1).setF F.NVM.NVM_STATUS_ID w.id).setF F.NVM.NVM_STATUS_LEFT (min 0xFFFF w.left)
  | none => (s.setF F.NVM.NVM_STATUS_BUSY (b2n s.nvm.auth.isSome)).setF F.NVM.NVM_STATUS_LEFT 0

/-- A record write starts: into the slot that does not hold the copy in force (R552). -/
def State.nvmStart (s : State) (id : Nat) (src : NvmSource) (len : Nat) : State :=
  let w : NvmWrite := match s.inForce id with
    | some b => { id := id, slotB := !b, seq := (s.nvmWord ((recSlot id b).1 + 8) + 1) % 2 ^ 32, len := len, src := src,
                  torn := s.nvm.injTorn }
    | none => { id := id, slotB := false, seq := 1, len := len, src := src, torn := s.nvm.injTorn }
  ({ s with nvm := { s.nvm with write := some w, injTorn := false } }).nvmShow

/-- A record write is refused (R555). -/
def State.nvmRefuse (s : State) (code : Nat) : State :=
  ((s.setF F.NVM.NVM_STATUS_CODE code).inc F.NVM.NVM_CNT1_REFUSE_CNT).raise F.NVM.EVT_WRITE_REFUSED

/-- The life-cycle state is Deployed or Returned. -/
def State.afterDeployed (s : State) : Bool := 2 ≤ s.f F.NVM.LC_STATUS_STATE

/-- A write of NVM_CMD (R554, R555).  DESIGN CHOICE (log entry 81): in quiet-down, where no word write may start (R83, R527), it is refused with BUSY. -/
def State.nvmCmd (s : State) (id len : Nat) : State :=
  let src := s.f F.NVM.NVM_SRC_ADDR
  if s.nvm.write.isSome || s.nvm.auth.isSome || s.nvm.held || s.quieting then s.nvmRefuse 1
  else if id = 2 ∨ id = 3 ∨ 12 < id then s.nvmRefuse 2
  else if len % 8 ≠ 0 ∨ (recSlot id false).2 < len + 64 then s.nvmRefuse 3
  else if id ≤ 1 ∧ s.afterDeployed then s.nvmRefuse 4
  else if src % 64 ≠ 0 ∨ src < 0x04000000 ∨ 0x04200000 < src + len then s.nvmRefuse 5
  else s.nvmStart id (.msg src) len

/-- A SAVE of REG or CLK, or a KEYS write of the ROM: it waits for a busy controller, and after NVM agreed to a Bivouac prepare it
is refused, which counts but for the ROM's write (R555, R556, R562).  In quiet-down it does not start, and the reset or shutdown forgets it (R83, R527). -/
def State.nvmSave (s : State) (id : Nat) (src : NvmSource) (len : Nat) : State :=
  if s.nvm.held then (if id = 0 then s else s.inc F.NVM.NVM_CNT1_REFUSE_CNT).raise F.NVM.EVT_WRITE_REFUSED
  else if s.quieting then s
  else if s.nvm.write.isSome || s.nvm.auth.isSome then { s with nvm := { s.nvm with queue := s.nvm.queue ++ [(id, src, len)] } }
  else s.nvmStart id src len

/-- The eight bytes of body word i, read from the source as the word is written; a revocation stays set in KEYS (R552, R562). -/
def State.nvmBodyWord (s : State) (w : NvmWrite) (i : Nat) : List Byte :=
  let b := match w.src with
    | .msg a => memRead s.mem (a + 8 * i) 8
    | .reg => (s.regRecBody.drop (8 * i)).take 8
    | .clk => (s.plansBody.drop (8 * i)).take 8
    | .keys l => (l.drop (8 * i)).take 8
  if w.id = 0 ∧ i = 8 then
    BitVec.ofNat 8 ((b.getD 0 0).toNat ||| (4 * bits s.keysFlags 3 2)) :: b.drop 1
  else b

/-- Put eight bytes into a word of the array. -/
def State.nvmPut (s : State) (off : Nat) (l : List Byte) : State :=
  { s with nvm := { s.nvm with mem := memWrite s.nvm.mem off l, bad := s.nvm.bad.filter (· != off / 8) } }

/-- The word in flight of a running write is written; the write moves on to its next word. -/
def State.nvmWriteWord (s : State) (w : NvmWrite) : State :=
  let o := (recSlot w.id w.slotB).1
  let n := w.len / 8
  if w.done = 0 then
    { s.nvmPut (o + 56) (List.replicate 8 0) with nvm := { (s.nvmPut (o + 56) (List.replicate 8 0)).nvm with write := some { w with done := 1 } } }
  else if w.done ≤ n then
    let b := s.nvmBodyWord w (w.done - 1)
    let s := s.nvmPut (o + 64 + 8 * (w.done - 1)) b
    { s with nvm := { s.nvm with write := some { w with done := w.done + 1, body := w.body ++ b } } }
  else if w.done ≤ n + 7 then
    let hdr := leBytes 4 0x4E565243 ++ leBytes 1 w.id ++ leBytes 3 0 ++ leBytes 4 w.seq ++ leBytes 4 w.len ++
      leBytes 4 (crc32ieee w.body) ++ List.replicate 36 0
    let i := w.done - n - 1
    let s := s.nvmPut (o + 8 * i) ((hdr.drop (8 * i)).take 8)
    { s with nvm := { s.nvm with write := some { w with done := w.done + 1 } } }
  else
    let s := s.nvmPut (o + 56) (leBytes 8 0xC3A55AC3C3A55AC3)
    { s with nvm := { s.nvm with write := some { w with done := w.done + 1 } } }

/-- The next waiting SAVE starts. -/
def State.nvmNext (s : State) : State :=
  match s.nvm.queue with
  | [] => s.nvmShow
  | (id, src, len) :: l => ({ s with nvm := { s.nvm with queue := l } }).nvmStart id src len

/-- A record write ended: its status registers and WRITE_DONE (R555, R564). -/
def State.nvmFinish (s : State) (w : NvmWrite) : State :=
  let s := { s with nvm := { s.nvm with write := none } }
  let force := s.inForce w.id
  let s := ((s.setF (F.NVM.REC_STATUS_VALID w.id) (b2n force.isSome)).setF (F.NVM.REC_STATUS_SLOT w.id) (b2n (force == some true))).setF
    (F.NVM.REC_STATUS_SEQ w.id) (match force with
      | some b => s.nvmWord ((recSlot w.id b).1 + 8)
      | none => 0)
  let s := if w.id = 0 then s.showKeys else s
  let s := if w.id = 3 then s.setF F.REG.REG_STATUS_EMPTY (b2n s.regEmpty) else s
  (s.raise F.NVM.EVT_WRITE_DONE).nvmNext

/-- An NVM word write completes (R552). -/
def State.nvmWordDone (s : State) : State :=
  match s.nvm.write with
  | none => s
  | some w =>
    let s := s.nvmWriteWord w
    match s.nvm.write with
    | none => s
    | some w =>
      if w.done = w.len / 8 + 9 then s.nvmFinish w
      else if w.torn && w.done = w.len / 8 + 8 then
        let s := { s with nvm := { s.nvm with write := none, tornInj := s.nvm.tornInj ++ [(w.id, w.slotB)] } }
        (s.raise F.NVM.EVT_WRITE_REFUSED).nvmNext
      else s.nvmShow

/-- A reset with quiet-down or a shutdown: the word in flight completes and the write stops (R556). -/
def State.nvmHalt (s : State) : State :=
  let s := match s.nvm.write with
    | some w => s.nvmWriteWord w
    | none => s
  { s with nvm := { s.nvm with write := none, queue := [], auth := none, held := false, injTorn := false } }

/-- A POR or BOR may tear the word in flight, which then reads as uncorrectable (R556). -/
def State.nvmTear (s : State) : State :=
  match s.nvm.write with
  | none => { s with nvm := { s.nvm with queue := [], auth := none, held := false, injTorn := false } }
  | some w =>
    let o := (recSlot w.id w.slotB).1
    let n := w.len / 8
    let off := if w.done = 0 ∨ n + 7 < w.done then o + 56 else if w.done ≤ n then o + 64 + 8 * (w.done - 1) else o + 8 * (w.done - n - 1)
    let bad := if Config.tearsWord s.freeCnt then s.nvm.bad ++ [off / 8] else s.nvm.bad
    ({ s with nvm := { s.nvm with write := none, queue := [], bad := bad, auth := none, held := false, injTorn := false } }).tickFree

/-! ## Life-cycle requests (R558, R559) -/

/-- The first failing condition of a request, 0 for none. -/
def State.lcCode (s : State) (key target : Nat) : Nat :=
  let st := s.f F.NVM.LC_STATUS_STATE
  let ok := fun id => (s.inForce id).isSome
  if s.nvm.write.isSome || s.nvm.auth.isSome || s.quieting then 7
  else if key ≠ 0x5C ∨ target ≠ st + 1 then 1
  else if (target = 1 ∧ s.mode ≠ Mode.test) ∨ (target ≠ 1 ∧ s.mode ≠ Mode.baseCamp) then 2
  else if target ≠ 3 ∧ !(ok 1 && ok 4) then 3
  else if target = 2 ∧ !(ok 0 && ok 3) then 3
  else if target = 2 ∧ !(s.keyLive 0 || s.keyLive 1) then 4
  else if target = 2 ∧ bodyEmpty ((s.recBody 3).getD []) then 5
  else 0

/-- A life-cycle request is refused. -/
def State.lcRefuse (s : State) (code : Nat) : State := (s.setF F.NVM.LC_STATUS_CODE code).raise F.NVM.EVT_LC_REFUSED

/-- The controller marks the next life-cycle word (R557, R558). -/
def State.lcMark (s : State) (target : Nat) : State := s.nvmPut (8 * (target - 1)) (leBytes 8 (0x4C43000000000001 + (target - 1)))

/-- The authorisation of a Returned request passes (R559). -/
def State.lcAuthOk (s : State) : Bool :=
  let d := memRead s.mem (s.f F.NVM.LC_AUTH_ADDR_ADDR) 128
  let msg := s.nvmBytes 0x18 8 ++ [0x52, 0x45, 0x54, 0x55] ++ leBytes 4 s.lcMarks
  (s.keyMatch (d.take 64)).isSome && ecdsaOk (d.take 64) (d.drop 64) (sha256 msg)

end Sys2Proof.Machine
end

