-- ==== Sys2Proof/Machine/Tx.lean ====
section
/-! DEFINITION. The transmit path up to the mapped points, and its bookkeeping: the layer store (R231 to R236), whitening and mapping (R237 to
R243), carrier checks (R245, R247, R255, R262, R264), muting (R258 to R260), path fault (R257), power control (R252 to R254). -/

namespace Sys2Proof.Machine

/-- The p-th transmit path. -/
def State.txp (s : State) (p : Nat) : TxPath := s.tx.paths.getD p {}
def State.setTxp (s : State) (p : Nat) (x : TxPath) : State := { s with tx := { s.tx with paths := setNth s.tx.paths p x } }

/-- PATH_EN of a transmit path. -/
def State.txEnabled (s : State) (p : Nat) : Bool := (s.mask64 F.TXP.PATH_EN_LO_EN F.TXP.PATH_EN_HI_EN).testBit p

/-! ## Layer store -/

/-- Instant at which TXP fetches symbol k of the n-th slot of a carrier (R235). -/
def State.fetchInstant (s : State) (c n k : Nat) : Nat :=
  s.symInstant (s.carScs c) n k - s.f F.TXP.TX_TIMING_DL_LEAD * usU

/-- Absolute slot index nearest to the present of a frame number and slot. -/
def State.slotAbs (s : State) (scs frame slot : Nat) : Nat :=
  let spf := slotsPerFrame scs
  let cur := s.tlOff / frameU
  let d : Int := signed 10 ((frame + 1024 - (s.tim.frame0 + cur) % 1024) % 1024)
  (((cur : Int) + d) * spf + slot).toNat

/-- Bytes a block occupies in the store (R231). -/
def LBlock.size (b : LBlock) : Nat := (16 + b.body.length + 63) / 64 * 64 + 64

/-- Two blocks have the same key. -/
def LBlock.sameKey (a b : LBlock) : Bool :=
  a.carrier == b.carrier && a.slot == b.slot && a.sym == b.sym && a.layer == b.layer && a.iq == b.iq

/-- A layer-data payload with its sub-header taken apart, none where it is malformed (R232). -/
def State.layerBlock? (s : State) (pl : List Byte) : Option LBlock :=
  let at_ := fun i n => ofLe ((pl.drop i).take n)
  let fs := at_ 0 2
  let b2 := at_ 2 1
  let c := bits b2 3 2
  let fmt := bits b2 1 0
  let count := at_ 8 2
  let len := 16 + (if fmt = 0 then (count + 7) / 8 else 4 * count)
  if fmt ≤ 1 ∧ bits b2 7 4 ≤ 13 ∧ at_ 3 1 ≤ 31 ∧ pl.length = len ∧ bits fs 5 0 < slotsPerFrame (s.carScs c) then
    some { carrier := c, slot := s.slotAbs (s.carScs c) (bits fs 15 6) (bits fs 5 0), sym := bits b2 7 4, layer := at_ 3 1,
           iq := fmt == 1, off := at_ 4 4, count := count, body := pl.drop 16 }
  else none

/-- A malformed frame is counted by RTE (R169). -/
def State.rteMalformed (s : State) : State := (s.inc F.RTE.FRM_CNT0_MALFORMED_CNT).raise F.RTE.EVT_MALFORMED

/-- The outcome of an arriving layer block (R234); a stored one is written into the layer store, and one whose write is dropped (R87) is not there at its fetch (R231). -/
def State.layerBlock (s : State) (pl : List Byte) : State :=
  match s.layerBlock? pl with
  | none => s.rteMalformed
  | some b =>
    let fetch := s.fetchInstant b.carrier b.slot b.sym
    let scs := s.carScs b.carrier
    let four := s.slotInstant scs (b.slot + 4) - s.slotInstant scs b.slot
    let used := (s.tx.store.map LBlock.size).foldl (· + ·) 0
    if fetch < s.now ∨ !s.tlRun then (s.inc F.TXP.LSTORE_CNT0_LATE_CNT).raise F.TXP.EVT_LAYER_LATE
    else if s.now + four < fetch then s.inc F.TXP.LSTORE_CNT2_EARLY_CNT
    else if s.tx.store.any (fun a => a.sameKey b && a.off < b.off + b.count && b.off < a.off + a.count) then
      (s.inc F.TXP.LSTORE_CNT0_DUP_CNT).raise F.TXP.EVT_LAYER_DUP
    else if s.f F.TXP.LSTORE_SIZE * 65536 < used + b.size then
      (s.inc F.TXP.LSTORE_CNT1_OVF_CNT).raise F.TXP.EVT_LSTORE_OVF
    else
      let size := s.f F.TXP.LSTORE_SIZE * 65536
      let at_ := s.f F.TXP.LSTORE_BASE * 65536 + 64 * (Config.lstorePlace s.freeCnt % (size / 64 - b.size / 64 + 1))
      let img := pl ++ List.replicate (b.size - 64 - pl.length) 0 ++ (Config.lstoreIndex s.freeCnt).take 64
      let t := s.tickFree.engWrite 15 (s.frameOf scs b.slot) (b.slot % slotsPerFrame scs) at_ img
      if s.engRefused at_ img.length then t else { t with tx := { t.tx with store := t.tx.store ++ [b] } }

/-! ## Whitening and mapping -/

/-- One step of the whitening shift registers (R237). -/
def whitenStep (ab : Nat × Nat) : Nat × Nat :=
  let (a, b) := ab
  (a / 2 + 2 ^ 30 * b2n (a.testBit 3 != a.testBit 0), b / 2 + 2 ^ 30 * b2n (b.testBit 13 != b.testBit 0))

/-- n steps of the shift registers. -/
def whitenSkip : Nat → Nat × Nat → Nat × Nat
  | 0, ab => ab
  | n + 1, ab => whitenSkip n (whitenStep ab)

/-- The next n bits of the sequence. -/
def whitenBits : Nat → Nat × Nat → List Bool
  | 0, _ => []
  | n + 1, ab => (ab.1.testBit 0 != ab.2.testBit 0) :: whitenBits n (whitenStep ab)

/-- Bits c(i) to c(i + n - 1) of the whitening sequence. -/
def whitening (seedA seedB i n : Nat) : List Bool := whitenBits n (whitenSkip (i + 1024) (seedA, seedB))

/-- Bits per subcarrier of a group code (R239); none for a code that is malformed. -/
def codeBits (c : Nat) : Option Nat := [some 0, some 1, some 2, some 4, some 6, some 8, some 10].getD c (if c = 15 then some 0 else none)

/-- The level one axis of a square constellation takes from its bits (R240). -/
def qamLevel (g : List Bool) : Int :=
  let r := g.foldl (fun (nu : Bool × Nat) b => let n := nu.1 != b; (n, 2 * nu.2 + b2n n)) (false, 0)
  ((2 ^ g.length - 1 : Nat) : Int) - 2 * (r.2 : Nat)

/-- The largest n of at most k bits for which a falling predicate holds. -/
def largest (ok : Nat → Bool) : Nat → Nat → Nat
  | 0, n => n
  | k + 1, n => largest ok k (if ok (n + 2 ^ k) then n + 2 ^ k else n)

/-- |l| × 8,192 × 10^(gain / 80) / sqrt(2 × (4^m - 1) / 3) rounded to nearest, halves away from zero, decided exactly on 80th
powers and saturated (R240, R242); gain is in 0.25 dB. -/
def scaleLevel (m : Nat) (gain l : Int) : Int × Bool :=
  let lhs := fun n => (2 * n - 1) ^ 80 * (2 * (4 ^ m - 1)) ^ 40 * 10 ^ (128 - gain).toNat
  let rhs := (2 * l.natAbs * 8192) ^ 80 * 3 ^ 40 * 10 ^ 128
  let n := largest (fun n => decide (lhs n ≤ rhs)) 17 0
  let v : Int := if l < 0 then -(n : Int) else n
  (satS 16 v, satS 16 v != v)

/-- A received component scaled by 10^(gain / 80), rounded to nearest, halves away from zero, and saturated (R242; a received
unit-power point already stands at 8,192, R233). -/
def scaleIq (gain v : Int) : Int × Bool :=
  let n := largest (fun n => decide ((2 * n - 1) ^ 80 * 10 ^ (128 - gain).toNat ≤ (2 * v.natAbs) ^ 80 * 10 ^ 128)) 17 0
  let w : Int := if v < 0 then -(n : Int) else n
  (satS 16 w, satS 16 w != w)

/-- The even-numbered and the odd-numbered members of a list. -/
def evens {α : Type} : List α → List α
  | [] => []
  | [a] => [a]
  | a :: _ :: l => a :: evens l
def odds {α : Type} : List α → List α
  | [] => []
  | [_] => []
  | _ :: b :: l => b :: odds l

/-- The point of resource element r from its bits, and how many components saturated (R240 to R242). -/
def mapPoint (code : Nat) (gain : Int) (r : Nat) (bs : List Bool) : Cplx × Nat :=
  if code = 1 then
    let b : Int := if bs.headD false then -1 else 1
    let (x, sat) := scaleLevel 1 gain b
    if r % 2 = 0 then ({ re := x, im := x }, 2 * b2n sat) else ({ re := -x, im := x }, 2 * b2n sat)
  else
    let i := scaleLevel (bs.length / 2) gain (qamLevel (evens bs))
    let q := scaleLevel (bs.length / 2) gain (qamLevel (odds bs))
    ({ re := i.1, im := q.1 }, b2n i.2 + b2n q.2)

/-- Bit i of a layer's stream, if a stored block of its key holds it (R233). -/
def storedBit (bl : List LBlock) (i : Nat) : Option Bool :=
  (bl.find? (fun b => !b.iq && b.off ≤ i && i < b.off + b.count)).map (fun b =>
    (b.body.getD ((i - b.off) / 8) 0).toNat.testBit (7 - (i - b.off) % 8))

/-- Resource element r of a layer, if a stored block of its key holds it (R233). -/
def storedRe (bl : List LBlock) (r : Nat) : Option Cplx :=
  (bl.find? (fun b => b.iq && b.off ≤ r && r < b.off + b.count)).map (fun b =>
    let w := ofLe ((b.body.drop (4 * (r - b.off))).take 4)
    { re := signed 16 (w % 65536), im := signed 16 (w / 65536) })

/-- All values of a list, if every one is there. -/
def allSome {α : Type} : List (Option α) → Option (List α)
  | [] => some []
  | none :: _ => none
  | some a :: l => (allSome l).map (a :: ·)

/-- Cut a list into pieces of n. -/
def chunks {α : Type} (n : Nat) : Nat → List α → List (List α)
  | 0, _ => []
  | k + 1, l => l.take n :: chunks n k (l.drop n)

/-- The groups of one layer in one symbol from group g on: mapped points, saturated components, and whether a group lacked
data (R236, R242).  `base` is the index of the group's first bit in the symbol, `wh` the whitening bits from there. -/
def mapGroups (j : MapJob) (bl : List LBlock) : Nat → Nat → List Bool → List Nat → List Cplx × Nat × Bool
  | _, _, _, [] => ([], 0, false)
  | g, base, wh, code :: l =>
    let q := (codeBits code).getD 0
    let n := 12 * q
    let zero : List Cplx := List.replicate 12 {}
    let grp : List Cplx × Nat × Bool :=
      if code = 0 then (zero, 0, false)
      else if code = 15 then
        match allSome ((List.range 12).map (fun s => storedRe bl (12 * g + s))) with
        | some pts =>
          let ys := pts.map (fun x => (scaleIq j.gain x.re, scaleIq j.gain x.im))
          (ys.map (fun y => ({ re := y.1.1, im := y.2.1 } : Cplx)), (ys.map (fun y => b2n y.1.2 + b2n y.2.2)).foldl (· + ·) 0, false)
        | none => (zero, 0, true)
      else
        match allSome ((List.range n).map (fun i => storedBit bl (base + i))) with
        | some bs =>
          let bs := (bs.zip (wh.take n)).map (fun x => x.1 != x.2)
          let ps := ((List.range 12).zip (chunks q 12 bs)).map (fun x => mapPoint code j.gain (12 * g + x.1) x.2)
          (ps.map (·.1), (ps.map (·.2)).foldl (· + ·) 0, false)
        | none => (zero, 0, true)
    let r := mapGroups j bl (g + 1) (base + n) (wh.drop n) l
    (grp.1 ++ r.1, grp.2.1 + r.2.1, grp.2.2 || r.2.2)

/-- Length of a layer's bit stream for a symbol (R239). -/
def MapJob.symBits (j : MapJob) : Nat := (j.codes.map (fun c => 12 * (codeBits c).getD 0)).foldl (· + ·) 0

/-- The LAYER_MAP that stands for a layer in a symbol: the latest one (R243). -/
def State.mapFor (s : State) (c n k layer : Nat) : Option MapJob :=
  (s.tx.maps.filter (fun j => j.carrier == c && j.slot == n && j.layer == layer && j.trig ≤ k && k < j.trig + j.nsym)).getLast?

/-- Saturated samples count in a path's SAT_CNT, and TX_SAT is raised (R266, R269). -/
def State.txSat (s : State) (p n : Nat) : State := if n = 0 then s else (s.incBy (F.TXP.P_CNT_SAT_CNT p) n).raise F.TXP.EVT_TX_SAT

/-- The mapper fetches symbol k of the n-th slot of a carrier (R235, R236): each mapped layer takes its blocks, incomplete
groups map as NULL, and blocks of layers without a command are freed and counted. -/
def State.fetchSymbol (s : State) (c n k : Nat) : State :=
  let mine := s.tx.store.filter (fun b => b.carrier == c && b.slot == n && b.sym == k)
  let s := { s with tx := { s.tx with store := s.tx.store.filter (fun b => !(b.carrier == c && b.slot == n && b.sym == k)) } }
  let s := s.each (List.range 32) (fun s layer =>
    match s.mapFor c n k layer with
    | none => s
    | some j =>
      let i := (k - j.trig) * j.symBits
      let wh := if j.whiten then whitening j.seedA j.seedB i j.symBits else List.replicate j.symBits false
      let r := mapGroups j (mine.filter (fun b => b.layer == layer)) 0 0 wh j.codes
      let lp : LayerPts := { carrier := c, slot := n, sym := k, layer := layer, pts := r.1 }
      let s := { s with tx := { s.tx with points := s.tx.points ++ [lp] } }
      let s := if r.2.1 = 0 then s else s.each (List.range 64) (fun s p => s.txSat p r.2.1)
      s.when r.2.2 (fun s => (s.inc F.TXP.LSTORE_CNT1_MISS_CNT).raise F.TXP.EVT_LAYER_MISS))
  s.incBy F.TXP.LSTORE_CNT2_UNUSED_CNT (mine.filter (fun b => (s.mapFor c n k b.layer).isNone)).length

/-- A LAYER_MAP command takes effect (R238). -/
def State.layerMap (s : State) (j : MapJob) : State := { s with tx := { s.tx with maps := s.tx.maps ++ [j] } }

/-- A LAYER_MAP command from its payload words (R238). -/
def mapJobOf (c n trig : Nat) (pl : List Nat) (nrb : Nat) : MapJob :=
  let w := pl.getD 0 0
  { carrier := c, slot := n, trig := trig, nsym := bits w 3 0, layer := bits w 29 25, whiten := w.testBit 24,
    gain := signed 8 (bits w 23 16), seedA := pl.getD 1 0, seedB := pl.getD 2 0,
    codes := (List.range nrb).map (fun g => bits (pl.getD (3 + g / 8) 0) (4 * (g % 8) + 3) (4 * (g % 8))) }

/-- LAYER_MAP payload rules (R237 to R239). -/
def layerMapOk (trig : Nat) (pl : List Nat) (nrb : Nat) : Bool :=
  let w := pl.getD 0 0
  let codes := (List.range (8 * (pl.length - 3))).map (fun g => bits (pl.getD (3 + g / 8) 0) (4 * (g % 8) + 3) (4 * (g % 8)))
  pl.length == 3 + (nrb + 7) / 8 && bits w 31 30 == 0 && bits w 15 4 == 0 && signed 8 (bits w 23 16) ≤ 24 &&
  -128 ≤ signed 8 (bits w 23 16) && 1 ≤ bits w 3 0 && bits w 3 0 ≤ 14 && trig + bits w 3 0 ≤ 14 &&
  pl.getD 1 0 < 2 ^ 31 && pl.getD 2 0 < 2 ^ 31 && !(w.testBit 24 && pl.getD 1 0 == 0) &&
  codes.all (fun c => (codeBits c).isSome) && (codes.drop nrb).all (· == 0)

/-- A TX_SYM command takes effect (R261). -/
def State.txSym (s : State) (j : TxJob) : State := { s with tx := { s.tx with jobs := s.tx.jobs ++ [j] } }

/-- The paths that transmit a carrier in a symbol: the OR of the commands' masks (R261). -/
def State.txMask (s : State) (c n k : Nat) : Nat :=
  (s.tx.jobs.filter (fun j => j.carrier == c && j.slot == n && j.trig ≤ k && k < j.trig + j.nsym)).foldl (fun m j => m ||| j.mask) 0

/-- Work of symbols that have passed is dropped; layer blocks that no fetch took are freed and counted as unused (log entry 85). -/
def State.txDropOld (s : State) : State :=
  let keep := fun (c n : Nat) => decide (s.now < s.slotInstant (s.carScs c) (n + 1) + msU)
  let stale := s.tx.store.filter (fun b => !keep b.carrier b.slot)
  let s := { s with tx := { s.tx with maps := s.tx.maps.filter (fun j => keep j.carrier j.slot),
                                      jobs := s.tx.jobs.filter (fun j => keep j.carrier j.slot),
                                      points := s.tx.points.filter (fun j => keep j.carrier j.slot),
                                      store := s.tx.store.filter (fun b => keep b.carrier b.slot),
                                      paths := s.tx.paths.map (fun x => { x with mutes := x.mutes.filter (fun m => decide (s.now < m.2.1 + msU)) }) } }
  if stale.isEmpty then s else s.incBy F.TXP.LSTORE_CNT2_UNUSED_CNT stale.length

/-! ## Carrier checks -/

/-- The composite centre word (R255). -/
def State.txCentre (s : State) : Nat := s.f F.TXP.TX_CENTRE_LO_W_LO + 2 ^ 32 * s.f F.TXP.TX_CENTRE_HI_W_HI

/-- The layer-RE budget B of a spacing code (R264, R321). -/
def budgetB (scs : Nat) : Nat := [1310720, 655360, 327680].getD scs 327680

/-- Slowest enabled spacing. -/
def State.slowScs (s : State) : Nat := ((List.range 4).filter s.carEn).foldl (fun m c => min m (s.carScs c)) 2

/-- The first failing check of a carrier: 0 none, 1 SPAN, 2 RF_RANGE, 3 OVERLAP, 4 LATENCY, 5 RANGE, 6 MASK (R262, R267). -/
def State.txCheck (s : State) (c : Nat) : Nat :=
  let fs : Int := s.fsHz
  let w : Int := s.ncoW c
  let h : Int := s.halfBand c
  let u : Int := (2 ^ 48 : Nat)
  let off := (w * fs - 2 * fs * s.txCentre).natAbs
  let lead := s.f F.TXP.TX_TIMING_DL_LEAD
  let seg := fun i => s.on (F.TXP.CFR_MASK_LIMIT i) && s.fi (F.TXP.CFR_MASK_F_HI i) ≤ s.fi (F.TXP.CFR_MASK_F_LO i)
  if fs * 625 * u < 12288 * (off + h * u) then 1
  else if w * fs - h * u < 400000000 * u || 7200000000 * u < w * fs + h * u then 2
  else if 9 * s.fftN c / 1024 < s.f (F.TXP.CAR_TX_OVERLAP c) then 3
  else if lead * 1000000 * s.fftRate c < (500000 + budgetB s.slowScs * 50 + 495000) * s.fftRate c + 208 * 1000000000000 then 4
  else if lead < 5 ∨ 100 < lead ∨ s.f F.TXP.CFR_CFG2_EVM_LIM = 0 ∨ s.f F.TXP.PWR_LOOP_PERIOD = 0 then 5
  else if (List.range 16).any seg then 6
  else 0

/-- A carrier check failed (R262). -/
def State.txRefused (s : State) (c code : Nat) : State :=
  ((s.setF F.TXP.TX_CFG_ERR_CARRIER c).setF F.TXP.TX_CFG_ERR_CODE code).raise F.TXP.EVT_CFG_REFUSED

/-- The checks when the timeline enters RUN: a failing carrier is muted with cause CFG (R262). -/
def State.txCheckRun (s : State) : State :=
  let badCs := ((List.range 4).filter s.carEn).filter (fun c => s.txCheck c != 0)
  let s := s.each badCs (fun s c => s.txRefused c (s.txCheck c))
  { s with tx := { s.tx with bad := badCs.foldl (fun m c => m + 2 ^ c) 0 } }

/-- What the TXP registers must keep at a write (R267). -/
def State.txLegal (s : State) (off : Nat) : Bool :=
  if off = 0x120 then 5 ≤ s.f F.TXP.TX_TIMING_DL_LEAD && s.f F.TXP.TX_TIMING_DL_LEAD ≤ 100
  else if off = 0x124 then
    1 ≤ s.f F.TXP.LSTORE_SIZE && s.f F.TXP.LSTORE_SIZE ≤ 128 && s.f F.TXP.LSTORE_BASE + s.f F.TXP.LSTORE_SIZE ≤ 768
  else if 0x1000 ≤ off ∧ off < 0x5000 ∧ off % 0x100 = 4 then s.f (F.TXP.P_PC_VCH ((off - 0x1000) / 0x100)) ≤ 79
  else true

/-! ## Muting -/

/-- Whether path p belongs to the coexistence mask of an interface whose grant is deasserted for the coming symbol of carrier c (R504). -/
def State.coexMuted (s : State) (p c : Nat) : Bool :=
  [0, 1].any (fun i => s.tx.coexMute.testBit (4 * i + c) && (s.mask64 (F.AUX.COEX_MASK_LO_MASK i) (F.AUX.COEX_MASK_HI_MASK i)).testBit p)

/-- The lowest mute cause of a path's symbol on a carrier, 0 for none (R259, R260). -/
def State.muteCause (s : State) (p c : Nat) : Nat :=
  if !s.clockOk then 1
  else if s.on (F.TXP.P_STATUS_FAULT p) then 2
  else if s.tx.bad.testBit c then 3
  else if s.tx.regMute.testBit c then 4
  else if (s.f F.THM.THM_STATUS_MUTED).testBit (p / 8) then 5
  else if s.coexMuted p c then 6
  else 0

/-- A mute record enters the mute log; a full log drops it (R260). -/
def State.muteRecord (s : State) (c n k cause mask : Nat) : State :=
  let scs := s.carScs c
  let w0 := s.frameOf scs n * 2 ^ 20 + n % slotsPerFrame scs * 2 ^ 14 + k * 2 ^ 10 + c * 2 ^ 8 + cause
  let r := [w0, mask % 2 ^ 32, mask / 2 ^ 32, (maskMembers mask 64).length]
  if s.tx.mlog.length < 32 then
    let s := { s with tx := { s.tx with mlog := s.tx.mlog ++ [r] } }
    s.setF F.TXP.MLOG_STATUS_LEVEL s.tx.mlog.length
  else (s.inc F.TXP.MLOG_STATUS_DROP_CNT).raise F.TXP.EVT_MUTE_LOG_OVF

/-- A mute cause of the whole path, which makes the DAC input zero: SYNTH, FAULT, THERMAL or COEX (R258, R259). -/
def State.pathMuted (s : State) (p c : Nat) : Bool :=
  !s.clockOk || s.on (F.TXP.P_STATUS_FAULT p) || (s.f F.THM.THM_STATUS_MUTED).testBit (p / 8) || s.coexMuted p c

/-- A mute cause of the whole carrier, which makes its signal zero at stage 8: CFG or REG (R258, R259). -/
def State.carMuted (s : State) (c : Nat) : Bool := s.tx.bad.testBit c || s.tx.regMute.testBit c

/-- The mutes of symbol k of the n-th slot of a carrier; gives the paths that transmit (R258 to R260). -/
def State.muteSymbol (s : State) (c n k : Nat) : State × List Nat :=
  let work := (maskMembers (s.txMask c n k) 64).filter s.txEnabled
  let muted := work.filter (fun p => s.muteCause p c != 0)
  if muted.isEmpty then (s, work)
  else
    let cause := muted.foldl (fun m p => min m (s.muteCause p c)) 7
    let s1 := s.each muted (fun s' p => (s'.setF (F.TXP.P_STATUS_MUTE_CAUSE p) (s.muteCause p c)).inc (F.TXP.P_CNT_MUTE_CNT p))
    let span := s.symSpan c n k
    let s1 := s1.each muted (fun s' p => s'.setTxp p { s'.txp p with mutes := (s'.txp p).mutes ++ [(span.1, span.2, s.pathMuted p c)] })
    let s1 := s1.muteRecord c n k cause (muted.foldl (fun m p => m + 2 ^ p) 0)
    (s1.raise F.TXP.EVT_MUTED, work.filter (fun p => s.muteCause p c == 0))

/-- A read of MLOG_ENTRY3 removes the oldest record (R267). -/
def State.mlogPop (s : State) : State :=
  let s := s.ok ((s.tx.mlog.headD []).getD 3 0)
  let s := { s with tx := { s.tx with mlog := s.tx.mlog.drop 1 } }
  s.setF F.TXP.MLOG_STATUS_LEVEL s.tx.mlog.length

/-- A write of FAULT_CLR asks for the exit from fault at the next slot boundary of R14; it is ignored while DET_STATUS holds the bit of a detector that caused the fault
(R257, R567). -/
def State.faultClr (s : State) (p : Nat) : State :=
  if s.f F.FLT.DET_STATUS_OCC &&& (s.txp p).causes = 0 then s.setTxp p { s.txp p with faultClr := true } else s

/-- Requested exits from fault at a slot boundary (R257). -/
def State.faultExits (s : State) : State :=
  s.each (List.range 64) (fun s p =>
    if (s.txp p).faultClr then (s.setTxp p { s.txp p with faultClr := false, causes := 0 }).setF (F.TXP.P_STATUS_FAULT p) 0 else s)

/-! ## Path gain -/

/-- G_d of a path at a slot boundary (R252, R254), from P_REG and G_chain in 0.01 dB: the target part moves in full, the rest by
at most 0.25 dB, and the result is clamped. -/
def State.gainUpdate (s : State) (p : Nat) (pReg gChain : Int) : State :=
  let want := s.fi (F.TXP.P_CTRL_P_TGT p) - 100 * (s.f (F.TXP.P_STATUS_BACKOFF p) : Int)
  let clampReg := decide (pReg < want)
  let nom := min want pReg + 25 * (s.f F.TXP.CFR_CFG2_REF_LEVEL : Int)
  let target := nom - gChain + s.fi (F.TXP.P_GAIN_TRIM p)
  let x := s.txp p
  let moved := s.fi (F.TXP.P_GAIN_G_D p) + (nom - x.nom)
  let g := if x.gdSet then moved + max (-25) (min 25 (target - moved)) else target
  let gd := max (-3000) (min 600 g)
  let s := s.setTxp p { x with nom := nom, gdSet := true }
  let s := s.setFi (F.TXP.P_GAIN_G_D p) gd
  let s := s.when (gd != g) (·.raise F.TXP.EVT_GAIN_LIMIT)
  s.when clampReg (fun s => (s.inc (F.TXP.P_CNT2_REG_CLAMP_CNT p)).raiseDet F.TXP.EVT_REG_CLAMP 20 p false)

/-- TRIM after a power measurement (R253); `raw` is trim - e / 2^LOOP_K in 0.01 dB. -/
def State.trimTo (s : State) (p : Nat) (raw : Int) : State :=
  let t := max (-200) (min 200 raw)
  (s.setFi (F.TXP.P_GAIN_TRIM p) t).when (t != raw) (·.raise F.TXP.EVT_TRIM_LIMIT)

/-- Return from Base camp: the layer store is emptied (R265). -/
def State.txForget (s : State) : State := { s with tx := { s.tx with store := [], maps := [], jobs := [], points := [] } }

/-- A new grid: nothing of an older one stands in the path (R182). -/
def State.txRestart (s : State) (n : Nat) : State :=
  { s with tx := { s.tx with maps := [], jobs := [], points := [], sym := none, loopAt := n + s.f F.TXP.PWR_LOOP_PERIOD,
                             paths := s.tx.paths.map (fun x => { x with till := 0, mutes := [], pieces := [] }) } }

end Sys2Proof.Machine
end

