-- ==== Sys2Proof/Machine/Dpd.lean ====
section
/-! DEFINITION. Predistortion (R270 to R274), its coefficient banks and their swap (R275 to R278), the observation receivers and their
schedules (R279 to R285), adaptation records (R286 to R288) and the mask monitor (R289, R290). -/

namespace Sys2Proof.Machine

/-! ## Coefficient banks -/

/-- Word w of bank b of path p. -/
def State.coef (s : State) (p b w : Nat) : Nat := Store.get s.dpd.coef 0 (256 * p + 128 * b + w)
def State.setCoef (s : State) (p b w v : Nat) : State :=
  { s with dpd := { s.dpd with coef := Store.set s.dpd.coef 0 (256 * p + 128 * b + w) v } }

/-- Active and staging bank of a path. -/
def State.actBank (s : State) (p : Nat) : Nat := s.f (F.DPD.P_STATUS_ACTIVE_BANK p)
def State.stgBank (s : State) (p : Nat) : Nat := 1 - s.actBank p

/-- The safe set of a path is copied into a bank. -/
def State.loadSafe (s : State) (p b : Nat) : State := s.each (List.range 128) (fun s w => s.setCoef p b w (s.safeWord p w))

/-- Both banks of every path take the safe set (R276). -/
def State.loadSafeAll (s : State) : State :=
  s.each (List.range 64) (fun s p =>
    (((s.loadSafe p 0).loadSafe p 1).setF (F.DPD.P_STATUS_ACTIVE_BANK p) 0).setF (F.DPD.P_STATUS_STAGE_DIRTY p) 0)

/-- A write to the staging bank (R275). -/
def State.writeCoef (s : State) (p w v : Nat) : State := (s.setCoef p (s.stgBank p) w v).setF (F.DPD.P_STATUS_STAGE_DIRTY p) 1

/-- A read of the coefficient window (R275). -/
def State.readCoef (s : State) (p w : Nat) : Nat :=
  s.coef p (if s.on F.DPD.DPD_VIEW_ACTIVE then s.actBank p else s.stgBank p) w

/-- The neighbour entry j of a bank, if it is valid. -/
def State.nbr (s : State) (p b j : Nat) : Option Nat :=
  let e := bits (s.coef p b 90) (8 * j + 7) (8 * j)
  if e.testBit 7 then some (e % 128) else none

/-- The first failing check of a bank, 0 for none (R278). -/
def State.bankCode (s : State) (p b : Nat) : Nat :=
  let w91 := s.coef p b 91
  let nord := bits w91 2 0
  let ns := (List.range 4).filterMap (s.nbr p b)
  if nord = 0 ∨ 5 < nord then 1
  else if bits w91 31 10 ≠ 0 ∨ bits w91 7 7 ≠ 0 ∨ bits w91 3 3 ≠ 0 then 2
  else if ns.any (fun q => q == p || 63 < q) || (dedup ns).length != ns.length then 3
  else if bits (s.coef p b 88) 31 20 ≠ 0 ∨ bits (s.coef p b 89) 31 12 ≠ 0 ∨ (List.range 36).any (fun i => s.coef p b (92 + i) != 0) then 4
  else 0

/-- The banks of a path are exchanged (R277). -/
def State.exchange (s : State) (p : Nat) : State :=
  ((s.setF (F.DPD.P_STATUS_ACTIVE_BANK p) (s.stgBank p)).setF (F.DPD.P_STATUS_STAGE_DIRTY p) 0).inc (F.DPD.P_CNT_SWAP_CNT p)

/-- A swap of one path after the check of its staging bank (R277, R278). -/
def State.swapPath (s : State) (p : Nat) : State :=
  let c := s.bankCode p (s.stgBank p)
  if c = 0 then s.exchange p else (s.setF (F.DPD.P_STATUS_SWAP_CODE p) c).raise F.DPD.EVT_SWAP_REFUSED

/-- A mask revert waits for the present instant's slot boundary, so a swap of the path is not applied (R290). -/
def State.revertDue (s : State) (p : Nat) : Bool := s.dpd.reverts.any (fun r => r.1 == p && r.2 + 2 * usU ≤ s.now)

/-- Paths already named for a swap at the present instant (R277). -/
def State.swappedNow (s : State) : List Nat := if s.dpd.swapAt = s.now then s.dpd.swapped else []

/-- The paths of a list that are not named before for the present instant; they are named now (R277). -/
def State.nameSwaps (s : State) (l : List Nat) : State × List Nat :=
  let new := (dedup l).filter (fun p => !s.swappedNow.contains p)
  ({ s with dpd := { s.dpd with swapAt := s.now, swapped := s.swappedNow ++ new } }, new)

/-- DPD_SWAP: every named path swaps once (R277). -/
def State.dpdSwap (s : State) (mask : Nat) : State :=
  let r := s.nameSwaps ((maskMembers mask 64).filter (fun p => !s.revertDue p))
  r.1.each r.2 State.swapPath

/-- A write of P_CTRL.SWAP asks for a swap (R277). -/
def State.hostSwap (s : State) (p : Nat) : State := { s with dpd := { s.dpd with swaps := s.dpd.swaps ++ [(p, s.now)] } }

/-- At a slot boundary of R14: mask reverts at least 2.0 µs old, then host swaps (R277, R290). -/
def State.dpdBoundary (s : State) : State :=
  let due := fun (r : Nat × Nat) => decide (r.2 + 2 * usU ≤ s.now)
  let revs := dedup ((s.dpd.reverts.filter due).map (·.1))
  let sws := (dedup ((s.dpd.swaps.filter due).map (·.1))).filter (fun p => !revs.contains p)
  let s := { s with dpd := { s.dpd with reverts := s.dpd.reverts.filter (fun r => !due r), swaps := s.dpd.swaps.filter (fun r => !due r) } }
  let s := (s.nameSwaps revs).1
  let s := s.each revs (fun s p =>
    (((s.loadSafe p (s.stgBank p)).exchange p).setF (F.DPD.P_CTRL_ADAPT_HOLD p) 1).raise F.DPD.EVT_MASK_REVERT)
  let r := s.nameSwaps sws
  r.1.each r.2 State.swapPath

/-! ## The model (R270 to R272) -/

/-- Basis values with 17 fraction bits. -/
def trunc17 (i : Int) : Int := i / (2 ^ 17 : Nat)
def cmulR (x : Cplx) (r : Int) : Cplx := { re := trunc17 (x.re * r), im := trunc17 (x.im * r) }
def cmulT (x y : Cplx) : Cplx := { re := trunc17 (x.re * y.re - x.im * y.im), im := trunc17 (x.re * y.im + x.im * y.re) }
def cmulX (x y : Cplx) : Cplx := { re := x.re * y.re - x.im * y.im, im := x.re * y.im + x.im * y.re }
def cadd (x y : Cplx) : Cplx := { re := x.re + y.re, im := x.im + y.im }
def cconj (x : Cplx) : Cplx := { re := x.re, im := -x.im }
def cscale (k : Int) (x : Cplx) : Cplx := { re := k * x.re, im := k * x.im }
def csum (l : List Cplx) : Cplx := l.foldl cadd {}

/-- |x|² of a 15-fraction-bit sample, truncated to 17 fraction bits. -/
def mag2 (x : Cplx) : Int := (x.re * x.re + x.im * x.im) / (2 ^ 13 : Nat)

/-- A 16-bit complex word as a number. -/
def cplxOf (w : Nat) : Cplx := { re := signed 16 (w % 65536), im := signed 16 (w / 65536) }

/-- The basis terms of a path's bank, each with the coefficient word and the exponent of its kind; `x i` is the drive i samples ago
and `nb j i` that of neighbour j (R270, R275, R286 for the order). -/
def State.basis (s : State) (p b : Nat) (x : Nat → Cplx) (nb : Nat → Nat → Cplx) : List (Cplx × Nat × Nat) :=
  let w91 := s.coef p b 91
  let nord := min 5 (bits w91 2 0)
  let mem := bits w91 6 4 + 1
  let mc := bits w91 9 8 + 1
  let e88 := s.coef p b 88
  let e89 := s.coef p b 89
  let up := fun (v : Cplx) => cscale 4 v
  let main := ((List.range nord).map (fun o => (List.range mem).map (fun m =>
    ((List.range o).foldl (fun t _ => cmulR t (mag2 (x m))) (up (x m)), s.coef p b (8 * o + m), bits e88 (4 * o + 3) (4 * o))))).flatten
  let coup := ((List.range 4).map (fun j =>
    if (s.nbr p b j).isNone then []
    else ((List.range 3).map (fun t => (List.range mc).map (fun m =>
      let q := up (nb j m)
      let v := if t = 0 then q else if t = 1 then cmulR q (mag2 (x m)) else cmulT (cmulT (up (x m)) (up (x m))) (cconj q)
      (v, s.coef p b (40 + 12 * j + 4 * t + m), bits e89 (4 * t + 3) (4 * t))))).flatten)).flatten
  main ++ coup

/-- A sum of products of stage 11, held in 48 bits, with its rounding (R272). -/
def sumRound (v : Int) : Int := shrRound 17 (if satS 48 v = v then v else Config.sum48 v)

/-- One output sample of the predistorter, and how many components saturated (R272, R274). -/
def State.dpdSample (s : State) (p : Nat) (x : Nat → Cplx) (nb : Nat → Nat → Cplx) : Cplx × Nat :=
  if (s.mask64 F.DPD.DPD_EN_LO_EN F.DPD.DPD_EN_HI_EN).testBit p then
    let y := csum ((s.basis p (s.actBank p) x nb).map (fun t => cscale (2 ^ t.2.2 : Nat) (cmulX t.1 (cplxOf t.2.1))))
    let re := sumRound y.re
    let im := sumRound y.im
    ({ re := satS 16 re, im := satS 16 im }, b2n (satS 16 re != re) + b2n (satS 16 im != im))
  else (x 0, 0)

/-- The samples of a list of which the first `h` stand before the symbol: the one `m` before sample i of the symbol. -/
def sampleAgo (a : Array Cplx) (h i m : Nat) : Cplx := if m ≤ h + i then a.getD (h + i - m) {} else {}

/-- Samples kept in front of a symbol for the memory of stage 11: mem is at most 8 (R275). -/
def dpdHist : Nat := 7

/-- The predistorter over the last symbol of a path, from its drive and the effective drives of its neighbours, which hold `dpdHist` earlier samples (R270, R271). -/
def State.predistort (s : State) (p : Nat) : List Cplx × Nat :=
  let own := (s.txp p).drive.toArray
  let nbs := ((List.range 4).map (fun j => ((s.nbr p (s.actBank p) j).map (fun q => (s.txp q).eff.toArray)).getD #[])).toArray
  let r := (List.range (own.size - dpdHist)).map (fun i =>
    s.dpdSample p (sampleAgo own dpdHist i) (fun j => sampleAgo (nbs.getD j #[]) dpdHist i))
  (r.map (·.1), (r.map (·.2)).foldl (· + ·) 0)

/-! ## G_chain (R252) -/

/-- The G_chain table of a path: drain voltages and values (R252, R601). -/
def State.gainTable (s : State) (p : Nat) : List Int × List Int :=
  let d := (s.powerItem 6 p).getD []
  ((List.range 4).map (fun i => ((ofLe ((d.drop (2 * i)).take 2) : Nat) : Int)), (List.range 32).map (fun i => signed 16 (ofLe ((d.drop (8 + 2 * i)).take 2))))

/-- The mean of R252 in mV, as numerator and divisor; a channel never averaged counts as 0 (R544). -/
def State.vchMean (s : State) (chan : Nat) : Nat × Nat :=
  let x := Store.get s.hk.means (0, 1) chan
  (x.1 * 1250, x.2 * 4096)

/-- G_chain of a path at the temperature of its diode and the mean of its drain channel (R252). -/
def State.gChain (s : State) (p : Nat) : Int :=
  let t := s.gainTable p
  let v := s.vchMean (s.f (F.TXP.P_PC_VCH p))
  Config.gChain t.1 t.2 (s.sensorTemp (24 + p / 4)) v.1 v.2

/-! ## Observation receivers -/

/-- The k-th observation receiver. -/
def State.orx (s : State) (k : Nat) : OrxSt := s.dpd.orx.getD k {}
def State.setOrx (s : State) (k : Nat) (x : OrxSt) : State := { s with dpd := { s.dpd with orx := setNth s.dpd.orx k x } }

/-- Entry e of the schedule of ORX k (R281). -/
def State.schedEntry (s : State) (k e slot : Nat) : OrxEntry :=
  { kind := s.f (F.DPD.SCHED_KIND k e), tap := s.f (F.DPD.SCHED_TAP k e), sym := s.f (F.DPD.SCHED_CAP_SYM k e),
    ofs := s.f (F.DPD.SCHED_CAP_OFS k e), lg := s.f (F.DPD.SCHED_CAP_LOG k e), slot := slot }

/-- ORX k takes its next schedule entry at a slot boundary of R14 whose slot holds a transmit symbol (R282). -/
def State.orxTake (s : State) (k n : Nat) : State :=
  let x := s.orx k
  if !s.on (F.DPD.ORX_CTRL_RUN k) then s.setOrx k { x with started := false, running := false, entry := none }
  else if s.mode = Mode.calibrate then s
  else if (List.range 14).any (fun i => s.tddType n i == 0) then
    let e := if x.started then (s.f (F.DPD.ORX_STATUS_ENTRY k) + 1) % max 1 (s.f (F.DPD.ORX_CTRL_LEN k)) else 0
    let en := s.schedEntry k e n
    let s := s.setOrx k { x with started := true, running := true, entry := if en.kind = 3 then none else some en }
    (s.setF (F.DPD.ORX_STATUS_ENTRY k) e).setF (F.DPD.ORX_STATUS_TAP k) en.tap
  else s

/-- Capture window of an entry (R282): its start, and its end after CAP_LEN samples at F_c = Fs / 4. -/
def State.orxWindow (s : State) (e : OrxEntry) : Nat × Nat :=
  let scs := (s.gridScs).getD 0
  let a := s.symInstant scs e.slot e.sym + e.ofs * 38400
  (a, a + (1024 * 2 ^ e.lg * 4 * 384 * 1000000000 + s.fsHz - 1) / max 1 s.fsHz)

/-- An enabled carrier names the path in every symbol of the window, each a transmit symbol (R283). -/
def State.orxNamed (s : State) (p a b : Nat) : Bool :=
  ((List.range 4).filter s.carEn).any (fun c =>
    let scs := s.carScs c
    let at_ := fun t => let n := slotAt scs (t - s.tim.t0); 14 * n + symAt scs n (t - s.slotInstant scs n)
    s.txAllowed a b && (List.range (at_ (b - 1) + 1 - at_ a)).all (fun i =>
      (s.txMask c ((at_ a + i) / 14) ((at_ a + i) % 14)).testBit p))

/-- A schedule entry is missed (R283). -/
def State.hopMiss (s : State) (k code : Nat) : State :=
  ((s.setF (F.DPD.ORX_STATUS_MISS_REASON k) code).inc (F.DPD.ORX_CNT_MISS_CNT k)).raise F.DPD.EVT_HOP_MISS

/-- A capture saturated (R284). -/
def State.orxSat (s : State) (k p : Nat) (inj : Bool) : State :=
  let s := (s.inc (F.DPD.ORX_CNT_SAT_CNT k)).raiseDet F.DPD.EVT_ORX_SAT 18 k inj
  if s.on (F.DPD.ORX_CTRL_AUTORANGE k) then s.setF (F.DPD.P_OBS_OBS_ATT p) (min 24 (s.f (F.DPD.P_OBS_OBS_ATT p) + 3)) else s

/-- Number of terms of a bank (R286). -/
def State.numTerms (s : State) (p b : Nat) : Nat :=
  let w91 := s.coef p b 91
  min 5 (bits w91 2 0) * (bits w91 6 4 + 1) + 3 * ((List.range 4).filterMap (s.nbr p b)).length * (bits w91 9 8 + 1)

/-- A violation of the mask (R289, R290). -/
def State.maskViolation (s : State) (p : Nat) (inj : Bool) : State :=
  let s := (s.inc (F.DPD.P_CNT2_VIOL_CNT p)).raiseDet F.DPD.EVT_MASK_VIOL 19 p inj
  if s.on F.DPD.MASK_CFG_ACTION then { s with dpd := { s.dpd with reverts := s.dpd.reverts ++ [(p, s.now)] } } else s

/-- The tap values of path p in use, with their divisor (R280). -/
def State.tapValues (s : State) (p : Nat) : List Int := let v := s.activeCal 4 p; v.1 ++ [(v.2 : Int)]

/-- A MASK capture joins its average; a full average is compared with the enabled segments of the mask (R289). -/
def State.maskCapture (s : State) (p : Nat) (z : List Cplx) : State :=
  if s.on F.DPD.MASK_CFG_EN then
    let mine := (s.dpd.mask.filter (fun m => m.1 == p)).map (·.2) ++ [(z, s.tapValues p)]
    if mine.length < s.f F.DPD.MASK_CFG_AVG then { s with dpd := { s.dpd with mask := s.dpd.mask ++ [(p, z, s.tapValues p)] } }
    else
      let s := { s with dpd := { s.dpd with mask := s.dpd.mask.filter (fun m => m.1 != p) } }
      let segs := (List.range 16).filter (fun i => s.on (F.TXP.CFR_MASK_LIMIT i))
      let bands := ((List.range 4).filter s.carEn).map (fun c => ((s.ncoW c : Int) - 2 * s.txCentre, (s.halfBand c : Int)))
      let excess := segs.map (fun i => (Config.maskExcess mine bands
        (s.fi (F.TXP.CFR_MASK_F_LO i), s.fi (F.TXP.CFR_MASK_F_HI i), s.f (F.TXP.CFR_MASK_LIMIT i)) (s.f F.DPD.MASK_CFG_MARGIN), i))
      let inj := s.injHit 19 p
      let s := if inj then s.injTake 19 p else s
      match excess with
      | [] => s.when inj (·.maskViolation p inj)
      | x :: l =>
        let w := l.foldl (fun w y => if w.1 < y.1 then y else w) x
        let s := (s.setFi (F.DPD.P_MASK_WORST p) (satS 16 w.1)).setF (F.DPD.P_MASK_SEG p) w.2
        s.when (decide (0 < w.1) || inj) (·.maskViolation p inj)
  else s

/-- A capture window of ORX k ends (R283 to R289): with the largest ADC code magnitude, the observed samples and the drive over the window. -/
def State.orxEnd (s : State) (k peak : Nat) (z drive : List Cplx) (nbrs : List (List Cplx)) : State :=
  let x := s.orx k
  match x.entry with
  | none => s
  | some e =>
    let w := s.orxWindow e
    let s := s.advanceTo w.2
    let s := s.setOrx k { s.orx k with entry := none }
    let p := 8 * k + e.tap
    let inj := s.injHit 18 k
    let scs := (s.gridScs).getD 0
    let t := s.txp p
    let code :=
      if !s.orxNamed p w.1 w.2 || decide (s.slotInstant scs (e.slot + 1) < w.2) then 1
      else if s.on (F.TXP.P_STATUS_FAULT p) || !s.on (F.TXP.P_STATUS_SWITCH p) || t.mutes.any (fun m => decide (m.1 < w.2 ∧ w.1 < m.2.1)) then 2
      else if s.on (F.DPD.ORX_STATUS_HELD k) then 3
      else if e.kind = 1 ∧ x.stat.isSome then 4
      else if 8191 ≤ peak ∨ inj then 5
      else if e.kind = 1 ∧ s.on (F.DPD.P_CTRL_ADAPT_HOLD p) then 6
      else 0
    if code = 5 then ((if inj then s.injTake 18 k else s).orxSat k p inj).hopMiss k 5
    else if code ≠ 0 then s.hopMiss k code
    else if e.kind = 0 then
      let s := s.setFi (F.TXP.P_PWR_P_MEAS p) (satS 16 (Config.orxPower z (s.f (F.DPD.P_OBS_OBS_ATT p)) (s.tapValues p)))
      let s := s.setFi (F.DPD.P_OBS_L_OBS p) (satS 16 (Config.orxDrive drive))
      { s with dpd := { s.dpd with fresh := s.dpd.fresh.filter (· != p) ++ [p] } }
    else if e.kind = 1 then
      let b := s.actBank p
      let nt := s.numTerms p b
      let bank := (List.range 128).map (fun i => s.coef p b i)
      let r := Config.orxStats z drive nbrs bank (s.f (F.DPD.P_OBS_OBS_ATT p)) (s.tapValues p) (s.fi (F.TXP.P_GAIN_G_D p) + s.gChain p)
      let st : OrxStat := { path := p, frame := s.frameOf scs e.slot, slot := e.slot % slotsPerFrame scs, bank := b, nt := nt,
                            scale := r.1, energy := r.2.1, vals := r.2.2,
                            ready := s.now + (nt * (nt + 1) / 2 + nt) * (1024 * 2 ^ e.lg) * 384 * 10 / 128 + 5 * usU }
      s.setOrx k { s.orx k with stat := some st }
    else s.maskCapture p z

/-- The record of a statistic (R288). -/
def OrxStat.record (r : OrxStat) : List Byte :=
  leBytes 2 (64 * r.frame + r.slot) ++ leBytes 1 r.path ++ leBytes 1 r.nt ++ leBytes 1 (code 8 r.scale) ++ leBytes 1 r.bank ++ leBytes 2 0 ++
  leBytes 8 r.energy ++ List.replicate 48 0 ++ (r.vals.map (fun v => leBytes 4 (code 32 v.re) ++ leBytes 4 (code 32 v.im))).flatten

/-- ADAPT statistics are complete: the record is written into the ring of its ORX, or dropped (R287, R288). -/
def State.statReady (s : State) (k : Nat) : State :=
  match (s.orx k).stat with
  | none => s
  | some r =>
    let s := s.setOrx k { s.orx k with stat := none }
    let size := 64 + 8 * r.nt + 8 * (r.nt * (r.nt + 1) / 2)
    let slotB := s.f F.DPD.STAT_CFG_SLOT * 1024
    let depth := max 1 (s.f F.DPD.STAT_CFG_DEPTH)
    if (s.orx k).full || slotB < size then s.raise F.DPD.EVT_STAT_OVF
    else
      let wr := s.f (F.DPD.ORX_RING_WR k)
      let at_ := s.f F.DPD.STAT_CFG_BASE * 65536 + k * depth * slotB + wr * slotB
      let s := s.engWrite 16 r.frame r.slot at_ (r.record.take size)
      let wr' := (wr + 1) % depth
      let s := s.setF (F.DPD.ORX_RING_WR k) wr'
      let s := s.setOrx k { s.orx k with full := decide (wr' = s.f (F.DPD.ORX_RING_RD k)) }
      (s.inc (F.DPD.P_CNT2_ADAPT_CNT r.path)).raise F.DPD.EVT_STAT_READY

/-- A write of RD frees slots of the ring (R288). -/
def State.ringRead (s : State) (k rd : Nat) : State :=
  let old := s.f (F.DPD.ORX_RING_RD k)
  let s := s.setF (F.DPD.ORX_RING_RD k) rd
  if rd = old then s else s.setOrx k { s.orx k with full := false }

/-- A power update finds no fresh measurement (R285). -/
def State.pwrStale (s : State) (p : Nat) : State := (s.inc (F.DPD.P_CNT_PWR_STALE_CNT p)).raise F.DPD.EVT_PWR_STALE

/-- What the DPD registers must keep after a write (R281, R293 to R295). -/
def State.dpdLegal (s : State) (off : Nat) : Bool :=
  if off = 0x120 then
    1 ≤ s.f F.DPD.STAT_CFG_DEPTH && s.f F.DPD.STAT_CFG_DEPTH ≤ 8 && 1 ≤ s.f F.DPD.STAT_CFG_SLOT && s.f F.DPD.STAT_CFG_SLOT ≤ 32 &&
    s.f F.DPD.STAT_CFG_BASE * 64 + 8 * s.f F.DPD.STAT_CFG_DEPTH * s.f F.DPD.STAT_CFG_SLOT ≤ 640 * 64
  else if off = 0x130 then s.on F.DPD.MASK_CFG_AVG
  else if 0x200 ≤ off ∧ off < 0x400 ∧ off % 0x40 = 0 then
    let l := s.f (F.DPD.ORX_CTRL_LEN ((off - 0x200) / 0x40))
    1 ≤ l && l ≤ 32
  else if 0x800 ≤ off ∧ off < 0xC00 then
    let k := (off - 0x800) / 0x80
    let e := off % 0x80 / 4
    s.f (F.DPD.SCHED_CAP_SYM k e) ≤ 13 && s.f (F.DPD.SCHED_CAP_LOG k e) ≤ 4
  else true

/-- A return from Base camp: every schedule restarts at entry 0 (R291). -/
def State.dpdRestart (s : State) : State :=
  { s with dpd := { s.dpd with orx := s.dpd.orx.map (fun x => { x with started := false, entry := none }) } }

/-- An ADAPT capture is under way or its statistics are still being computed (R291). -/
def State.dpdBusy (s : State) : Bool := s.dpd.orx.any (fun x => x.stat.isSome || x.entry.any (fun e => e.kind == 1))

end Sys2Proof.Machine
end

