-- ==== Sys2Proof/Machine/Ctx.lean ====
section
/-! DEFINITION. User contexts and sounding: opening and closing (R298 to R302), SND (R303), the queue, captures and batches (R305 to R308),
context states and overflow (R309, R310), header and estimate pages (R299, R300, R346). -/

namespace Sys2Proof.Machine

/-! ## Pages and header -/

/-- RBG and the number of groups of a carrier (R300). -/
def State.rbg (s : State) (c : Nat) : Nat := [8, 4, 2].getD (s.carScs c) 2
def State.numGroups (s : State) (c : Nat) : Nat := (s.f (F.RXP.CAR_CFG_NRB c) + s.rbg c - 1) / s.rbg c

/-- Byte address of a pool page (R299). -/
def State.pageAddr (s : State) (i : Nat) : Nat := s.f F.BFM.CTX_POOL_BASE * 65536 + 4096 * i

/-- Estimate pages in use, besides a list of pages still to be freed. -/
def State.pagesUsed (s : State) (held : List Nat) : List Nat :=
  held ++ (s.bfm.ctxs.map (fun c => (c.2.ports.map (·.pages)).flatten)).flatten

/-- Number of free estimate pages. -/
def State.freePages (s : State) (held : List Nat) : Nat := 16 * s.f F.BFM.CTX_POOL_SIZE - 384 - (s.pagesUsed held).length

/-- The lowest-numbered free pages (R299). -/
def State.takePages (s : State) (held : List Nat) (n : Nat) : List Nat :=
  let used := s.pagesUsed held
  ((List.range (16 * s.f F.BFM.CTX_POOL_SIZE)).filter (fun i => 384 ≤ i && !used.contains i)).take n

/-- POOL_STATUS and CTX_COUNT show the present contexts (R316). -/
def State.showCtx (s : State) (held : List Nat) : State :=
  let free := s.freePages held
  let s := (s.setF F.BFM.POOL_STATUS_FREE free).setF F.BFM.POOL_STATUS_LOW_FREE (min free (s.f F.BFM.POOL_STATUS_LOW_FREE))
  let n := fun k => (s.bfm.ctxs.filter (fun c => c.2.st == k)).length
  ((s.setF F.BFM.CTX_COUNT_OPEN_N s.bfm.ctxs.length).setF F.BFM.CTX_COUNT_ACTIVE_N (n 1)).setF F.BFM.CTX_COUNT_STALE_N (n 2)

/-- The header page of a context (R299, R346); none: an EMPTY one. -/
def headerPage (c : Option Ctx) : List Byte :=
  match c with
  | none => List.replicate 4096 0
  | some c =>
    let port := fun (j : Nat) => match (if j ≤ c.nports then c.ports[j]? else none) with
      | some p =>
        leBytes 2 p.age ++ leBytes 1 (code 8 p.qual) ++ leBytes 1 p.ng ++
          ((List.range 5).map (fun i => leBytes 2 (p.pages.getD i 0))).flatten ++ leBytes 8 p.valid ++ leBytes 2 0
      | none => List.replicate 24 0
    leBytes 2 c.user ++ leBytes 1 (c.st + 4 * c.carrier + 16 * c.nports) ++ List.replicate 13 0 ++
      port 0 ++ port 1 ++ port 2 ++ port 3 ++ List.replicate 16 0 ++
      leBytes 2 c.lastDl ++ leBytes 2 c.lastUl ++ leBytes 1 (code 8 c.sinr) ++ leBytes 1 c.fbLast ++ leBytes 2 c.fbSlots ++
      List.replicate 3960 0

/-- BFM writes the header page of a context. -/
def State.writeHeader (s : State) (i : Nat) : State :=
  if s.wiping then s
  else { s with mem := memWrite s.mem (s.pageAddr i) (headerPage (Store.find? s.bfm.ctxs i)) }

/-! ## Contexts -/

/-- Replace or remove a context. -/
def State.setCtx (s : State) (i : Nat) (c : Ctx) : State := { s with bfm := { s.bfm with ctxs := Store.insert s.bfm.ctxs i c } }
def State.dropCtx (s : State) (i : Nat) : State := { s with bfm := { s.bfm with ctxs := Store.erase s.bfm.ctxs i } }

/-- The open context with a key that is not closing (R298, R302). -/
def State.ctxOf (s : State) (user carrier : Nat) : Option (Nat × Ctx) :=
  s.bfm.ctxs.find? (fun c => c.2.user == user && c.2.carrier == carrier && c.2.closing.isNone)

/-- CTX_RESULT of an agent. -/
def State.ctxResult (s : State) (agent st idx : Nat) : State :=
  { s with bfm := { s.bfm with results := Store.insert s.bfm.results agent (st * 2 ^ 28 + idx) } }

/-- A write to CTX_OPEN (R301). -/
def State.ctxOpen (s : State) (agent user carrier nports : Nat) : State :=
  if !s.carEn carrier then s.ctxResult agent 4 0
  else match s.ctxOf user carrier with
    | some (i, _) => s.ctxResult agent 2 i
    | none =>
      match (List.range 384).find? (fun i => (Store.find? s.bfm.ctxs i).isNone) with
      | none => ((s.inc F.BFM.CTX_CNT_FULL_CNT).raise F.BFM.EVT_CTX_FULL).ctxResult agent 1 0
      | some i =>
        let s := s.setCtx i { user := user, carrier := carrier, nports := nports }
        ((s.writeHeader i).showCtx []).ctxResult agent 0 i

/-- A write to CTX_CLOSE (R302). -/
def State.ctxClose (s : State) (agent idx : Nat) : State :=
  match Store.find? s.bfm.ctxs idx with
  | some c => if c.closing.isNone then (s.setCtx idx { c with closing := some s.now }).ctxResult agent 0 idx else s.ctxResult agent 3 idx
  | none => s.ctxResult agent 3 idx

/-! ## SND -/

/-- Fields of a sounding descriptor (R303). -/
def descUser (a : Nat) : Nat := bits a 31 16
def descPort (a : Nat) : Nat := bits a 15 14
def descComb (a : Nat) : Nat := [2, 4, 8].getD (bits a 13 12) 2
def descNsym (b : Nat) : Nat := bits b 12 10

/-- The rules of one descriptor (R303). -/
def descOk (trig nrb a b : Nat) : Bool :=
  let comb := bits a 13 12
  let csMax := [8, 12, 6].getD comb 8
  let m := 12 * bits b 21 13 / descComb a
  comb ≤ 2 && bits a 11 9 < descComb a && bits a 8 5 < csMax && bits a 4 0 ≤ 29 && (!b.testBit 31 || 72 ≤ m) &&
  1 ≤ bits b 21 13 && bits b 21 13 % 4 == 0 && bits b 30 22 + bits b 21 13 ≤ nrb && 1 ≤ descNsym b && descNsym b ≤ 4 &&
  trig + descNsym b ≤ 14 && bits b 9 0 == 0

/-- Descriptors of an SND payload. -/
def sndDescs (pl : List Nat) : List (Nat × Nat) := (List.range (bits (pl.getD 0 0) 7 0)).map (fun d => (pl.getD (1 + 2 * d) 0, pl.getD (2 + 2 * d) 0))

/-- SND payload rules (R303). -/
def sndOk (trig nrb : Nat) (pl : List Nat) : Bool :=
  let n := bits (pl.getD 0 0) 7 0
  1 ≤ n && n ≤ 127 && bits (pl.getD 0 0) 31 8 == 0 && pl.length == 1 + 2 * n && (sndDescs pl).all (fun d => descOk trig nrb d.1 d.2)

/-- An SND command takes effect (R303). -/
def State.snd (s : State) (j : SndCmd) : State := { s with bfm := { s.bfm with snds := s.bfm.snds ++ [j] } }

/-! ## Joins, captures and batches -/

/-- Units of the capture buffer in use. -/
def State.bufUsed (s : State) : List Nat := (s.bfm.caps.map (·.units)).flatten

/-- The capture of a carrier and symbol joins the buffer if it fits: the lowest free units (R306). -/
def State.keepCapture (s : State) (c slot sym : Nat) : State :=
  if s.bfm.caps.any (fun k => k.carrier == c && k.slot == slot && k.sym == sym) then s
  else
    let need := (s.f (F.RXP.CAR_CFG_NRB c) * 3 + 63) / 64
    let used := s.bufUsed
    let us := ((List.range (s.f F.BFM.SND_BUF_SIZE)).filter (fun u => !used.contains u)).take need
    if us.length < need then s
    else
      let ds := s.rx.delivered.filter (fun d => d.carrier == c && d.slot == slot && d.sym == sym && d.toBfm)
      let bins := ds.map (fun d => (d.path, !(d.flags.testBit 7 || d.flags.testBit 6), d.bins))
      let k : SndCapture := { carrier := c, slot := slot, sym := sym, units := us, bins := bins }
      { s with bfm := { s.bfm with caps := s.bfm.caps ++ [k] } }

/-- Symbols a job names. -/
def SndJob.syms (j : SndJob) : List Nat := (List.range (descNsym j.wb)).map (j.trig + ·)

/-- Captures that no job names are freed (R306). -/
def State.sndFree (s : State) : State :=
  let named := fun (k : SndCapture) => (s.bfm.queue ++ s.bfm.batch).any (fun j =>
    j.carrier == k.carrier && j.slot == k.slot && j.syms.contains k.sym)
  { s with bfm := { s.bfm with caps := s.bfm.caps.filter named } }

/-- SND_STATUS shows the queue, the batch and the captures that are still named (R316). -/
def State.sndShow (s : State) : State :=
  let s := s.sndFree
  ((s.setF F.BFM.SND_STATUS_QLEN s.bfm.queue.length).setF F.BFM.SND_STATUS_INFLIGHT s.bfm.batch.length).setF F.BFM.SND_STATUS_BUF_USED
    (s.bufUsed.length % 128)

/-- One descriptor joins the queue, or is refused (R305, R306). -/
def State.sndJoin (s : State) (eng : Nat) (c : SndCmd) (d : Nat × Nat) : State :=
  match s.ctxOf (descUser d.1) c.carrier with
  | none => (s.inc F.BFM.SND_CNT3_NOCTX_CNT).raise F.BFM.EVT_NOCTX
  | some (i, cx) =>
    if cx.nports < descPort d.1 then (s.inc F.BFM.SND_CNT3_NOCTX_CNT).raise F.BFM.EVT_NOCTX
    else
      let j : SndJob := { ctx := i, port := descPort d.1, wa := d.1, wb := d.2, carrier := c.carrier, slot := c.slot, eng := eng, trig := c.trig }
      let same := fun (q : SndJob) => q.ctx == i && q.port == j.port
      let sup := s.bfm.queue.any same
      if !sup && 1024 ≤ s.bfm.queue.length then (s.inc F.BFM.SND_CNT1_QFULL_CNT).raise F.BFM.EVT_SND_QFULL
      else
        let s := if sup then
            ({ s with bfm := { s.bfm with queue := s.bfm.queue.filter (fun q => !same q) } } : State).sndFree.inc F.BFM.SND_CNT3_SUPERSEDE_CNT
          else s
        let s := s.each j.syms (fun s k => s.keepCapture j.carrier j.slot k)
        let kept := j.syms.all (fun k => s.bfm.caps.any (fun x => x.carrier == j.carrier && x.slot == j.slot && x.sym == k))
        if kept then { s with bfm := { s.bfm with queue := s.bfm.queue ++ [j] } }
        else (s.sndFree.inc F.BFM.SND_CNT1_BUF_CNT).raise F.BFM.EVT_SND_BUF_FULL

/-- Insert a command by carrier, symbol and command order (R305). -/
def insertSnd (c : SndCmd) : List SndCmd → List SndCmd
  | [] => [c]
  | d :: l => if c.carrier < d.carrier ∨ (c.carrier = d.carrier ∧ (c.trig < d.trig ∨ (c.trig = d.trig ∧ c.order < d.order))) then c :: d :: l else d :: insertSnd c l

/-- The joins at an engine boundary: jobs whose capture slot has ended (R296, R305). -/
def State.sndJoins (s : State) (eng : Nat) : State :=
  let due := fun (c : SndCmd) => decide (s.slotInstant (s.carScs c.carrier) (c.slot + 1) ≤ s.now)
  let cs := (s.bfm.snds.filter due).foldl (fun l c => insertSnd c l) []
  let s := { s with bfm := { s.bfm with snds := s.bfm.snds.filter (fun c => !due c) } }
  s.each cs (fun s c => s.each c.descs (fun s d => s.sndJoin (eng - 1) c d))

/-- STALE_AGE in engine slots. -/
def State.staleAge (s : State) : Nat := s.f F.BFM.SND_CFG_STALE_AGE

/-- Jobs of a batch: BATCH, at most 64 while the engine grid is 60 kHz (R307). -/
def State.batchMax (s : State) : Nat := min (s.f F.BFM.SND_CFG_BATCH) (if s.gridScs = some 2 then 64 else 128)

/-- The next batch: jobs too old are removed, and take no place (R307). -/
def State.takeBatch (s : State) (eng : Nat) : Nat → State
  | 0 => s
  | n + 1 =>
    match s.bfm.queue with
    | [] => s
    | j :: l =>
      if j.eng + s.staleAge ≤ eng then
        ((({ s with bfm := { s.bfm with queue := l } }).inc F.BFM.SND_CNT2_AGED_CNT).raise F.BFM.EVT_SND_DROP).takeBatch eng n
      else if s.bfm.batch.length < s.batchMax then
        ({ s with bfm := { s.bfm with queue := l, batch := s.bfm.batch ++ [j] } }).takeBatch eng n
      else s

/-- The bins of each antenna for the symbols of a job; none where one did not reach BFM valid (R304). -/
def State.jobBins (s : State) (j : SndJob) : List (Option (List (List Cplx))) :=
  (List.range 64).map (fun a => allSome (j.syms.map (fun k =>
    (s.bfm.caps.find? (fun x => x.carrier == j.carrier && x.slot == j.slot && x.sym == k)).bind (fun x =>
      (x.bins.find? (fun b => b.1 == a && b.2.1)).map (·.2.2)))))

/-- A group of a carrier contains sounded subcarriers: every resource block of the sounded range holds some (R303, R304). -/
def State.sounded (s : State) (c wb g : Nat) : Bool :=
  let first := bits wb 30 22
  let rbg := s.rbg c
  decide (rbg * g < first + bits wb 21 13) && decide (first < min (s.f (F.RXP.CAR_CFG_NRB c)) (rbg * g + rbg))

/-- The groups of an estimate as stored: EXP from -127 to 127 and mantissas within ±127; invalid antennas and groups without sounded subcarriers store mantissas 0, and such a
group EXP 0x80 (R304). -/
def State.estGroups (s : State) (j : SndJob) (valid : Nat) (est : List (Int × List Cplx)) : List (Int × List Cplx) :=
  let lim := fun (v : Int) => max (-127) (min 127 v)
  (List.range (s.numGroups j.carrier)).map (fun g =>
    if s.sounded j.carrier j.wb g then
      let e := est.getD g (0, [])
      (lim e.1, (List.range 64).map (fun a => if valid.testBit a then { re := lim (e.2.getD a {}).re, im := lim (e.2.getD a {}).im } else {}))
    else (-128, List.replicate 64 {}))

/-- The estimate page number q of a port (R300). -/
def estPage (idx port first : Nat) (gs : List (Int × List Cplx)) : List Byte :=
  let part := (gs.drop first).take 31
  leBytes 2 idx ++ leBytes 1 port ++ leBytes 1 first ++ leBytes 1 part.length ++ List.replicate 27 0 ++
  (part.map (fun g => leBytes 1 (code 8 g.1))).flatten ++ List.replicate (31 - part.length) 0 ++ List.replicate 65 0 ++
  (part.map (fun g => (g.2.map (fun v => leBytes 1 (code 8 v.re) ++ leBytes 1 (code 8 v.im))).flatten)).flatten

/-- One job of the batch commits (R308, R310); `held` are the pages freed after the last job. -/
def State.commitJob (s : State) (held : List Nat) (j : SndJob) (late : Bool) : State × List Nat :=
  match Store.find? s.bfm.ctxs j.ctx with
  | none => (s, held)
  | some c =>
    if late then
      (((s.inc F.BFM.SND_CNT0_LATE_CNT).raise F.BFM.EVT_SND_LATE).resultOvf 17 (s.frameOf (s.carScs j.carrier) j.slot) (j.slot % slotsPerFrame (s.carScs j.carrier)), held)
    else
      let ants := s.jobBins j
      let valid := ((List.range 64).zip ants).foldl (fun m x => m + (if x.2.isSome then 2 ^ x.1 else 0)) 0
      if valid = 0 then ((s.inc F.BFM.SND_CNT2_NOPATH_CNT).raise F.BFM.EVT_SND_DROP, held)
      else
        let ng := s.numGroups j.carrier
        let need := (ng + 30) / 31
        if s.freePages held < need then
          let old := (c.ports.map (·.pages)).flatten
          let s := s.setCtx j.ctx { c with st := 3, ports := c.ports.map (fun p => { p with pages := [], fresh := false }) }
          ((s.inc F.BFM.CTX_CNT_OVF_CNT).raise F.BFM.EVT_CTX_OVERFLOW, held ++ old)
        else
          let est := Config.sndEst ants j.wa j.wb (s.rbg j.carrier)
          let gs := s.estGroups j valid est.1
          let pages := s.takePages held need
          let age := 64 * s.frameOf (s.carScs j.carrier) j.slot + j.slot % slotsPerFrame (s.carScs j.carrier)
          let old := (c.ports.getD j.port {}).pages
          let p : CtxPort := { cap := some j.eng, age := age, qual := max (-128) (min 127 est.2), ng := ng, pages := pages, valid := valid, fresh := true }
          let s := s.setCtx j.ctx { c with ports := setNth c.ports j.port p }
          let m := ((List.range need).zip pages).foldl (fun m x => memWrite m (s.pageAddr x.2) (estPage j.ctx j.port (31 * x.1) gs)) s.mem
          let s := if s.wiping then s else { s with mem := m }
          (s.inc F.BFM.SND_CNT0_DONE_CNT, held ++ old)

/-- The jobs at positions of the batch in flight. -/
def State.jobsAt (s : State) (at_ : List Nat) : List SndJob := at_.filterMap (fun i => s.bfm.batch[i]?)

/-- The previous batch commits in batch order; `late` are the jobs whose result was not written in time (R308). -/
def State.commitBatch (s : State) (late : List SndJob) : State :=
  let r := s.bfm.batch.foldl (fun (x : State × List Nat) j => x.1.commitJob x.2 j (late.contains j)) (s, [])
  let s := { r.1 with bfm := { r.1.bfm with batch := [] } }
  -- the fewest free pages were met before the old ones are freed
  (s.showCtx r.2).showCtx []

/-- State of a context after the commit (R309). -/
def Ctx.nextState (c : Ctx) (eng age : Nat) : Nat :=
  let ps := c.ports.take (c.nports + 1)
  if c.st = 3 ∧ ps.any (fun p => !p.fresh) then 3
  else if ps.any (fun p => match p.cap with
      | none => true
      | some e => decide (e + age ≤ eng)) then 2
  else 1

/-- Closes complete at the first engine boundary at least 2.0 µs after the write (R302). -/
def State.ctxCloses (s : State) : State :=
  let due := (s.bfm.ctxs.filter (fun c => c.2.closing.any (fun t => t + 2 * usU ≤ s.now))).map (·.1)
  s.each due (fun s i =>
    let s := { s with bfm := { s.bfm with queue := s.bfm.queue.filter (fun j => j.ctx != i),
                                          batch := s.bfm.batch.filter (fun j => j.ctx != i) } }
    (s.dropCtx i).writeHeader i)

/-- Context states update (R309). -/
def State.ctxStates (s : State) (eng : Nat) : State :=
  s.each (s.bfm.ctxs.map (·.1)) (fun s i =>
    match Store.find? s.bfm.ctxs i with
    | none => s
    | some c =>
      if c.closing.isSome then s
      else
        let st := c.nextState eng s.staleAge
        let s := s.setCtx i { c with st := st }
        let s := if c.st = 1 ∧ st = 2 then s.raise F.BFM.EVT_CTX_STALE else s
        s.writeHeader i)

/-- The grid-of-beams table is taken for the engine slot that begins (R311). -/
def State.takeGob (s : State) : State :=
  let base := s.f F.BFM.GOB_CFG_BASE * 65536
  let cells := s.mem.filter (fun c => base ≤ c.1 && c.1 < base + 65536)
  { s with bfm := { s.bfm with gob := cells } }

/-- An engine boundary passes (R296): closes, the commit, joins, the next batch, and the states of the slot it opens.  In Base camp the grid only counts (R314). -/
def State.engineBoundary (s : State) (late : List Nat) : State :=
  match s.gridScs with
  | none => s
  | some scs =>
    if s.tlCounts then
      let n := s.bfm.engIdx
      let s := s.advanceTo (s.slotInstant scs n)
      let s := { s with bfm := { s.bfm with engIdx := n + 1 } }
      if s.mode = Mode.baseCamp then s
      else
        let s := s.takeGob
        let late := s.jobsAt (late ++ s.bfm.lateJobs)
        let s := ((s.ctxCloses.commitBatch late).sndFree.sndJoins n)
        let s := s.takeBatch n (s.bfm.queue.length)
        ((s.ctxStates n).showCtx []).sndShow
    else s

/-- BFM refuses rest with BUSY while a batch is in flight, with QUEUE while a job waits (R314). -/
def State.bfmRest (s : State) : Nat := if !s.bfm.batch.isEmpty || !s.bfm.pend.isEmpty then 1 else if !s.bfm.queue.isEmpty then 2 else 0

/-! ## Reading estimates -/

/-- The estimate of a context port in a group: EXP and the 64 mantissas, read from its page (R300); none where no estimate is stored. -/
def State.estimate (s : State) (c : Ctx) (port g : Nat) : Option (Int × List Cplx) :=
  let p := c.ports.getD port {}
  match p.pages[g / 31]? with
  | none => none
  | some page =>
    let a := s.pageAddr page
    let e := (memGet s.mem (a + 32 + g % 31)).toNat
    if e = 0x80 ∨ p.ng ≤ g then none
    else some (signed 8 e, (List.range 64).map (fun i =>
      { re := signed 8 (memGet s.mem (a + 128 + 128 * (g % 31) + 2 * i)).toNat,
        im := signed 8 (memGet s.mem (a + 129 + 128 * (g % 31) + 2 * i)).toNat }))

/-- Entry e of the grid-of-beams table, as it stood at the last engine boundary (R311). -/
def State.gobEntry (s : State) (e : Nat) : List Cplx :=
  (List.range 64).map (fun a => cplxOf (ofLe (memRead s.bfm.gob (s.f F.BFM.GOB_CFG_BASE * 65536 + 256 * e + 4 * a) 4)))

end Sys2Proof.Machine
end

