-- ==== Sys2Proof/Machine/Sched.lean ====
section
/-! DEFINITION. Scheduling (R318 to R320), the layer-RE budget and its trim (R321 to R323), and the arithmetic of weights (R327 to R329, R342,
R343). -/

namespace Sys2Proof.Machine

/-! ## Scheduling commands -/

/-- A scheduling command from its header and payload (R318, R319). -/
def schedOf (ul : Bool) (e : CmdEntry) (slot : Nat) : SchedJob :=
  let w := fun i => (e.payload.getD i 0).toNat
  { ul := ul, carrier := e.carrier, slot := slot, trig := e.trig, user := bits (w 0) 31 16, port := bits (w 0) 15 14,
    layer := bits (w 0) 13 9, prio := bits (w 0) 8 5, nsym := bits (w 0) 3 0, fb := bits (w 1) 31 24, gFirst := bits (w 1) 23 16,
    gCount := bits (w 1) 15 8, out := bits (w 2) 31 30, mod := bits (w 2) 29 27, dmrs := bits (w 2) 26 13, dport := bits (w 2) 12 10,
    cinit := bits (w 3) 30 0, leader := e.leader }

/-- Payload rules of DL_SCHED and UL_SCHED (R318, R319). -/
def schedOk (ul : Bool) (trig ng : Nat) (pl : List Nat) : Bool :=
  let w := fun i => pl.getD i 0
  let n := bits (w 0) 3 0
  let inSpan := (List.range 14).all (fun k => !(w 2).testBit (13 + k) || (trig ≤ k && k < trig + n))
  pl.length == (if ul then 4 else 2) && bits (w 0) 4 4 == 0 && 1 ≤ n && n ≤ 14 && trig + n ≤ 14 && 1 ≤ bits (w 1) 15 8 &&
  bits (w 1) 23 16 + bits (w 1) 15 8 ≤ ng && bits (w 1) 7 0 == 0 &&
  (!ul || (bits (w 2) 31 30 != 3 && bits (w 2) 9 0 == 0 && !(w 3).testBit 31 && bits (w 2) 29 27 ≤ 6 && inSpan &&
    (bits (w 2) 31 30 == 0 || (bits (w 2) 26 13 != 0 && bits (w 2) 29 27 != 0))))

/-- A scheduling command takes effect on its slot (R320). -/
def State.schedule (s : State) (j : SchedJob) : State := { s with bfm := { s.bfm with scheds := s.bfm.scheds ++ [j] } }

/-- A command names a layer in a symbol. -/
def SchedJob.names (j : SchedJob) (ul : Bool) (c n k layer : Nat) : Bool :=
  j.ul == ul && j.carrier == c && j.slot == n && j.layer == layer && j.trig ≤ k && k < j.trig + j.nsym

/-- The command that stands for a layer in a symbol: the latest (R320); none where the layer is not scheduled or was dropped. -/
def State.standing (s : State) (ul : Bool) (c n k layer : Nat) : Option SchedJob :=
  match (s.bfm.scheds.filter (fun j => j.names ul c n k layer)).getLast? with
  | some j => if j.dropped.testBit k then none else some j
  | none => none

/-- The layers scheduled in a symbol of a carrier. -/
def State.scheduled (s : State) (ul : Bool) (c n k : Nat) : List SchedJob := (List.range 32).filterMap (fun l => s.standing ul c n k l)

/-- Resource elements of a layer in one symbol (R321). -/
def State.layerRe (s : State) (j : SchedJob) : Nat :=
  let rbg := s.rbg j.carrier
  12 * (min (s.f (F.RXP.CAR_CFG_NRB j.carrier)) (rbg * (j.gFirst + j.gCount)) - rbg * j.gFirst)

/-- SHARE of a leader core. -/
def State.share (s : State) (L : Nat) : Nat := if L = 0 then s.f F.BFM.BUDGET_CFG_SHARE_LC0 else s.f F.BFM.BUDGET_CFG_SHARE_LC1

/-- A layer is dropped before another: lower priority, then higher carrier, then higher layer (R322). -/
def dropBefore (a b : SchedJob) : Bool :=
  a.prio < b.prio || (a.prio == b.prio && (b.carrier < a.carrier || (a.carrier == b.carrier && b.layer < a.layer)))

/-- The layer to drop from a set. -/
def pickDrop : List SchedJob → Option SchedJob
  | [] => none
  | a :: l => match pickDrop l with
    | none => some a
    | some b => if dropBefore a b then some a else some b

/-- The trim of one symbol and direction: the layers dropped, each with the reason (true: layer limit) (R322). -/
def trimSet (re : SchedJob → Nat) (limit budget : Nat) : Nat → List SchedJob → List (SchedJob × Bool)
  | 0, _ => []
  | n + 1, set =>
    let total := (set.map re).foldl (· + ·) 0
    if limit < set.length || budget < total then
      match pickDrop set with
      | none => []
      | some j => (j, decide (limit < set.length)) :: trimSet re limit budget n (set.filter (fun x => x != j))
    else []

/-- A trim record enters the log; a full log drops it (R322). -/
def State.trimRecord (s : State) (ul : Bool) (reason : Bool) (c layer sym n : Nat) : State :=
  let scs := s.carScs c
  let r := b2n ul * 2 ^ 31 + b2n reason * 2 ^ 30 + c * 2 ^ 28 + layer * 2 ^ 23 + sym * 2 ^ 19 + n % slotsPerFrame scs * 2 ^ 13 + s.frameOf scs n
  if s.bfm.trimLog.length < 32 then
    let s := { s with bfm := { s.bfm with trimLog := s.bfm.trimLog ++ [r] } }
    s.setF F.BFM.TRIM_STATUS_LEVEL s.bfm.trimLog.length
  else (s.inc F.BFM.TRIM_STATUS_DROP_CNT).raise F.BFM.EVT_TRIM_LOG_OVF

/-- The trim of a leader core's slot n (R322); gives whether a layer was dropped. -/
def State.trimSlot (s : State) (L n : Nat) : State × Bool :=
  let cars := (List.range 4).filter (fun c => s.carEn c && s.carLeader c == L)
  let scs := (s.leaderScs L).getD 0
  let budget := budgetB scs * s.share L / 256
  let limit := 64 * s.share L / 256
  let cases_ := ([false, true].map (fun ul => (List.range 14).map (fun k => (ul, k)))).flatten
  let r := cases_.foldl (fun (x : State × List (Bool × Nat × Nat)) uk =>
    let set := (cars.map (fun c => x.1.scheduled uk.1 c n uk.2)).flatten
    (trimSet x.1.layerRe limit budget set.length set).foldl (fun (x : State × List (Bool × Nat × Nat)) d =>
      let j := d.1
      let mark := fun (i : SchedJob) => if i == j then { i with dropped := i.dropped ||| 2 ^ uk.2 } else i
      let s := { x.1 with bfm := { x.1.bfm with scheds := x.1.bfm.scheds.map mark } }
      let s := s.inc F.BFM.WGT_CNT0_TRIM_CNT
      let key := (uk.1, j.carrier, j.layer)
      if x.2.contains key then (s, x.2)
      else ((s.trimRecord uk.1 d.2 j.carrier j.layer uk.2 n).raise F.BFM.EVT_LAYER_TRIM, x.2 ++ [key])) x) (s, [])
  (r.1, !r.2.isEmpty)

/-- Issuing order of R19 (cores 0 and 1 are LC0 and LC1): entries of a table by core, then push order. -/
def orderEntries (l : List CmdEntry) : List CmdEntry :=
  ((List.range 34).map (fun i => l.filter (fun (e : CmdEntry) => e.issuer == i))).flatten

/-- The scheduling content of a leader core's staging table is fixed and trimmed, at the seal or the weight instant (R322). -/
def State.fixSched (s : State) (L : Nat) : State :=
  let x := s.ldr L
  if x.fixed || !x.target then s
  else
    let n := s.slotIdxOf L
    let es := orderEntries (s.staging.filter (fun (e : CmdEntry) => e.leader == L && e.blk == 17 && (e.op == 0x401 || e.op == 0x402)))
    let s := s.each es (fun s e => s.schedule (schedOf (e.op == 0x402) e n))
    let r := s.trimSlot L n
    r.1.setLdr L { r.1.ldr L with fixed := true, trimmed := r.2 }

/-- Scheduling of a leader core's slot whose table was discarded (R16). -/
def State.unschedule (s : State) (L n : Nat) : State :=
  { s with bfm := { s.bfm with scheds := s.bfm.scheds.filter (fun j => !(j.leader == L && j.slot == n)) } }

/-- A read of TRIM_LOG removes the oldest record (R349). -/
def State.trimPop (s : State) : State :=
  let s := s.ok (s.bfm.trimLog.headD 0)
  let s := { s with bfm := { s.bfm with trimLog := s.bfm.trimLog.drop 1 } }
  s.setF F.BFM.TRIM_STATUS_LEVEL s.bfm.trimLog.length

/-! ## Arithmetic -/

/-- x × 2^t rounded under R215. -/
def scaleRound (t x : Int) : Int := if 0 ≤ t then x * (2 ^ t.toNat : Nat) else shrRound (-t).toNat x

/-- A component fits a 16-bit mantissa. -/
def fits16 (v : Int) : Bool := -32768 ≤ v && v ≤ 32767

/-- The smallest exponent, counted up from e0, at which every component of x × 2^e fits 16 bits, and the mantissas there. -/
def blockFloat (x : List Cplx) (e : Int) : Nat → Int → List Cplx × Int
  | 0, w => (x.map (fun v => { re := scaleRound (e - w) v.re, im := scaleRound (e - w) v.im }), w)
  | n + 1, w =>
    let y := x.map (fun v => ({ re := scaleRound (e - w) v.re, im := scaleRound (e - w) v.im } : Cplx))
    if y.all (fun v => fits16 v.re && fits16 v.im) then (y, w) else blockFloat x e n (w + 1)

/-- One Gram entry Σ conj(h_i) h_j as an integer at scale 2^GSHIFT, saturated to 32 bits (R328, R329). -/
def gramEntry (gshift : Int) (hi hj : List Cplx × Int) : Cplx × Bool :=
  let v := csum ((hi.1.zip hj.1).map (fun x => cmulX (cconj x.1) x.2))
  let t := hi.2 + hj.2 + gshift
  let re := scaleRound t v.re
  let im := scaleRound t v.im
  ({ re := satS 32 re, im := satS 32 im }, satS 32 re != re || satS 32 im != im)

/-- The upper triangle of G, row by row (R332). -/
def gramUpper (gshift : Int) (hs : List (List Cplx × Int)) : List Cplx :=
  ((List.range hs.length).map (fun i => ((List.range hs.length).filter (fun j => i ≤ j)).map (fun j =>
    (gramEntry gshift (hs.getD i ([], 0)) (hs.getD j ([], 0))).1))).flatten

/-- Column l of v = H M exactly, with the exponent at which 16,384 × 2^WEXP stands for 1.0 (R328, R329); M holds 16-bit mantissas in the order l then
m, at 2^(EXP - 15). -/
def weightExact (hs : List (List Cplx × Int)) (m : List Cplx) (mexp : Int) (l : Nat) : List Cplx × Int :=
  let n := hs.length
  let lo := hs.foldl (fun a h => min a h.2) 0
  let v := (List.range 64).map (fun a => csum ((List.range n).map (fun i =>
    let h := hs.getD i ([], 0)
    cscale ((2 ^ (h.2 - lo).toNat : Nat) : Int) (cmulX (h.1.getD a {}) (m.getD (l * n + i) {})))))
  (v, lo + mexp - 1)

/-- A vector times a factor with 16 fraction bits, rounded to 16-bit mantissas with one exponent (R329, R343; log entry 26). -/
def roundVec (v : List Cplx) (e : Int) (factor : Nat) : List Cplx × Int := blockFloat (v.map (cscale (factor : Int))) (e - 16) 200 (-100)

/-- The largest number whose square is at most x, bit by bit. -/
def isqrt (x : Nat) : Nat := largest (fun n => decide (n * n ≤ x)) 96 0

/-! ## Exposure guard (R342, R343) -/

/-- Word a of entry b of the steering table. -/
def State.steerWords (s : State) (b : Nat) : List Nat :=
  (List.range 64).map (fun a => ofLe (memRead s.mem (s.f F.BFM.EXP_STEER_BASE * 65536 + 256 * b + 4 * a) 4))

/-- Energy of bin b over the history: the last 49 complete sub-windows and the current one. -/
def State.expH (s : State) (b : Nat) : Nat := (s.bfm.expHist.take 50).foldl (fun n w => n + w.getD b 0) 0

/-- The factors of the layers of a slot, from c_l,b of each layer: f_l with 16 fraction bits (65,536: unscaled); the energies after scaling enter the
current sub-window (R343).  Slots of Listen and host Ledge add nothing (R344). -/
def State.expGuard (s : State) (layers : List (Nat × Nat × List Nat)) : State × List (Nat × Nat × Nat) :=
  if !s.on F.BFM.EXP_CFG_EN || layers.isEmpty || s.mode != Mode.serve || s.hostLedge then (s, layers.map (fun l => (l.1, l.2.1, 65536)))
  else
    let T := s.f F.BFM.EXP_CFG_WIN
    let e := (List.range 256).map (fun b => (layers.map (fun l => l.2.2.getD b 0)).foldl (· + ·) 0)
    let lim := fun b => s.f (F.REG.EXP_LIM_LIM b)
    let bound := fun b => lim b != 0xFFFFFFFF
    let above := (List.range 256).filter (fun b => bound b && decide (lim b * T < s.expH b + e.getD b 0))
    let overRun := above.filter (fun b => e.getD b 0 != 0)
    let sb := fun b => isqrt ((lim b * T - s.expH b) * 2 ^ 32 / e.getD b 0)
    let fs := layers.map (fun l =>
      let hit := overRun.filter (fun b => s.f F.BFM.EXP_CFG_SHARE * e.getD b 0 ≤ 256 * l.2.2.getD b 0)
      (l.1, l.2.1, min 65536 (hit.foldl (fun m b => min m (sb b)) 65536)))
    let e' := (List.range 256).map (fun b =>
      ((layers.zip fs).map (fun x => x.1.2.2.getD b 0 * x.2.2.2 * x.2.2.2 / 2 ^ 32)).foldl (· + ·) 0)
    let res := (List.range 256).any (fun b => bound b && decide (lim b * T < s.expH b + e'.getD b 0))
    let scaled := (fs.filter (fun f => f.2.2 < 65536)).length
    let hist := match s.bfm.expHist with
      | [] => [e']
      | c :: l => (List.range 256).map (fun b => c.getD b 0 + e'.getD b 0) :: l
    let s := { s with bfm := { s.bfm with expHist := hist } }
    let s := s.setF F.BFM.EXP_STATUS_MIN_F (min 0xFFFF (fs.foldl (fun m f => min m f.2.2) 65536))
    let s := s.setF F.BFM.EXP_STATUS_SCALED_N above.length
    let s := if scaled = 0 then s else (s.incBy F.BFM.EXP_CNT_SCALE_CNT scaled).raise F.BFM.EVT_EXP_SCALE
    let s := s.when res (fun s => (s.inc F.BFM.EXP_CNT_RES_CNT).raise F.BFM.EVT_EXP_RESIDUAL)
    (s, fs)

/-- EXP_AVG of bin b as read (R349). -/
def State.expAvg (s : State) (b : Nat) : Nat :=
  let d := s.f (F.REG.EXP_LIM_LIM b) * s.f F.BFM.EXP_CFG_WIN
  if d = 0 then (if s.expH b = 0 then 0 else 0xFFFFFFFF) else min 0xFFFFFFFF (s.expH b * 65536 / d)

/-- A frame boundary passes, and those of a coast before it: sub-windows of 2 × WIN frames roll (R344). -/
def State.expFrame (s : State) : State :=
  let frame := s.tlOff / frameU
  let n := s.bfm.expFrames + (frame - s.bfm.expLast)
  let per := max 1 (2 * s.f F.BFM.EXP_CFG_WIN)
  { s with bfm := { s.bfm with expLast := frame, expFrames := n % per,
                               expHist := (List.replicate (min 50 (n / per)) [] ++ s.bfm.expHist).take 50 } }

/-- A write to WIN clears the history (R344). -/
def State.expForget (s : State) : State := { s with bfm := { s.bfm with expHist := [], expFrames := 0 } }

/-- Energies c_l,b of the layers of a slot from their sampled groups (R342): (carrier, layer, energies by bin); `re` gives the REs of each symbol of a
layer's group, with its GAIN. -/
def State.expLayers (s : State) (ws : List Weight) (re : Weight → List (Nat × Int)) : List (Nat × Nat × List Nat) :=
  let step := 2 ^ s.f F.BFM.EXP_CFG_GSTEP
  let keys := (ws.map (fun w => (w.carrier, w.layer))).eraseDups
  keys.map (fun k =>
    let mine := ws.filter (fun w => w.carrier == k.1 && w.layer == k.2 && w.group % step == 0)
    (k.1, k.2, (List.range 256).map (fun b =>
      (mine.map (fun w => Config.expEnergy (s.steerWords b) w.vec w.wexp (re w))).foldl (· + ·) 0)))

end Sys2Proof.Machine
end

