-- ==== Sys2Proof/Machine/PSum.lean ====
section
/-! DEFINITION. Partial sums: PSUM frames, their keys and hold instants (R157 to R161), the Gram sums at the head (R333) and the uplink output
(R338 to R341). -/

namespace Sys2Proof.Machine

/-! ## Uplink output (R338 to R341) -/

/-- The settings of the uplink output at the start of symbol i of a carrier, kept for the stages that follow its FFT window (R25). -/
def State.ulNote (s : State) (c i : Nat) : State :=
  { s with bfm := { s.bfm with ulCfg := (c, i, (s.reg A.BFM.UL_CFG).toNat) :: s.bfm.ulCfg.take 127 } }

/-- The machine with UL_CFG as it stood at the start of symbol k of the n-th slot of a carrier (R25). -/
def State.ulView (s : State) (c n k : Nat) : State :=
  match s.bfm.ulCfg.find? (fun (x : Nat × Nat × Nat) => x.1 == c && x.2.1 == 14 * n + k) with
  | some x => s.setReg A.BFM.UL_CFG (BitVec.ofNat 32 x.2.2)
  | none => s

/-- A VC2 frame of uplink output (R341): sub-header and value bytes. -/
def State.sendUl (s : State) (c n k fmt layer offset count flags : Nat) (body : List Byte) : State :=
  let scs := s.carScs c
  let dst := (s.ulView c n k).f F.BFM.UL_CFG_UL_DST
  if dst = 0 then s
  else
    let pay := leBytes 2 (64 * s.frameOf scs n + n % slotsPerFrame scs) ++ leBytes 1 (16 * k + 4 * c + fmt) ++ leBytes 1 layer ++
      leBytes 4 offset ++ leBytes 2 count ++ leBytes 1 flags ++ List.replicate 5 0 ++ body
    s.send { typ := 1, vc := 2, flags := 0, hops := s.f F.RTE.DEV_CFG_HOP_LIMIT, dst := dst, src := s.f F.RTE.DEV_CFG_DEV_ADDR, payload := pay }

/-- Values cut into frames of at most `per` values of `bitsPer` bits each, most significant bit first for soft bits (R233, R341). -/
def State.sendUlValues (s : State) (c n k fmt layer flags per : Nat) (enc : List Nat → List Byte) : Nat → Nat → List Nat → State
  | 0, _, _ => s
  | m + 1, off, vals =>
    if vals.isEmpty then s
    else
      let part := vals.take per
      (s.sendUl c n k fmt layer off part.length flags (enc part)).sendUlValues c n k fmt layer flags per enc m (off + part.length)
        (vals.drop per)

/-- n-bit fields as bytes in the bit stream of R233. -/
def packBits (n : Nat) (l : List Nat) : List Byte :=
  let bs := (l.map (fun v => (List.range n).map (fun i => v.testBit (n - 1 - i)))).flatten
  (List.range ((bs.length + 7) / 8)).map (fun i =>
    BitVec.ofNat 8 ((List.range 8).foldl (fun b j => 2 * b + b2n (bs.getD (8 * i + j) false)) 0))

/-- The scheduled uplink layers of a symbol, with the index of each layer's first value in the key stream (R338). -/
def State.ulStream (s : State) (c n k : Nat) : List (SchedJob × Nat) :=
  ((s.scheduled true c n k).foldl (fun (x : List (SchedJob × Nat) × Nat) j => (x.1 ++ [(j, x.2)], x.2 + s.layerRe j)) ([], 0)).1

/-- Length of the key stream of an uplink symbol. -/
def State.ulLength (s : State) (c n k : Nat) : Nat := ((s.scheduled true c n k).map s.layerRe).foldl (· + ·) 0

/-- The sums of a symbol's stream in order of OFFSET. -/
def State.ulSums (s : State) (c n k : Nat) : List PsKey :=
  s.bfm.sums.filter (fun x => x.carrier == c && x.abs == n && x.sym == k && x.kind == 0)

/-- The values y of a stretch of a symbol's stream; a value without a sum is zero. -/
def State.ulValues (s : State) (c n k off cnt : Nat) : List Cplx :=
  let ks := s.ulSums c n k
  (List.range cnt).map (fun i =>
    match ks.find? (fun x => x.offset ≤ off + i && off + i < x.offset + x.count) with
    | some x => match x.terms.head? with
      | some t => t.vals.getD (off + i - x.offset) {}
      | none => {}
    | none => {})

/-- Engine slot in which symbol k of the n-th slot of a carrier begins (R324). -/
def State.engOf (s : State) (c n k : Nat) : Nat := slotAt ((s.gridScs).getD 0) (s.symInstant (s.carScs c) n k - s.tim.t0)

/-- FLAGS of an uplink frame (R341): DEGR and SAT of the sums, HOLE of a symbol, FB of the layer's weights. -/
def State.ulFlags (s : State) (j : SchedJob) (n k : Nat) : Nat :=
  let ks := s.ulSums j.carrier n k
  let degr := ks.any (fun x => x.terms.any (·.degr))
  let sat := ks.any (fun x => x.terms.any (·.sat))
  let hole := s.rx.delivered.any (fun d => d.carrier == j.carrier && d.slot == n && d.sym == k && (d.flags.testBit 7 || d.flags.testBit 6))
  let e := s.engOf j.carrier n k
  let fb := (List.range j.gCount).any (fun g => !s.bfm.weights.any (fun w =>
    w.1 == e && w.2.ul && w.2.carrier == j.carrier && w.2.layer == j.layer && w.2.group == j.gFirst + g && !w.2.fb))
  b2n degr + 2 * b2n hole + 4 * b2n fb + 8 * b2n sat

/-- The output of a layer for a symbol as IQ32 (R341). -/
def State.ulIq (s : State) (j : SchedJob) (n k off : Nat) : State :=
  let vals := (s.ulValues j.carrier n k off (s.layerRe j)).map cplxWord
  s.sendUlValues j.carrier n k 0 j.layer (s.ulFlags j n k) 1020 (fun l => (l.map (leBytes 4)).flatten) 20 0 vals

/-- The soft bits and the SINR of a layer after its last symbol (R339 to R341). -/
def State.ulSoft (s : State) (j : SchedJob) (n : Nat) : State :=
  let c := j.carrier
  let re := s.layerRe j
  let perG := 12 * s.rbg c
  let offs := fun k => ((s.ulStream c n k).find? (fun x => x.1.layer == j.layer)).map (·.2)
  let ds := ((List.range 14).filter j.dmrs.testBit).filterMap (fun k => (offs k).map (fun o => (k, s.ulValues c n k o re)))
  let ests := (List.range j.gCount).map (fun g =>
    Config.dmrsEst (ds.map (fun d => (d.1, (d.2.drop (g * perG)).take perG))) j.cinit j.dport j.dmrs (j.gFirst + g))
  let w := if j.out = 1 then 4 else 6
  let s := s.each ((List.range j.nsym).map (j.trig + ·)) (fun s k =>
    if j.dmrs.testBit k then s
    else match offs k with
      | none => s
      | some o =>
        let ys := s.ulValues c n k o re
        let ls := (((List.range re).zip ys).map (fun x =>
          let e := ests.getD (x.1 / perG) ({}, 0)
          (List.range ((codeBits j.mod).getD 0)).map (fun b =>
            code w (satS w (Config.llr x.2 e.1 e.2 j.mod x.1 ((s.ulView c n k).f F.BFM.UL_CFG_LLR_Q) b))))).flatten
        s.sendUlValues c n k j.out j.layer (s.ulFlags j n k) (4080 * 8 / w / 2 * 2) (packBits w) 40 0 ls)
  let sinrs := ests.map (fun e => max (-127) (min 127 e.2))
  let s := s.sendUlValues c n (j.trig + j.nsym - 1) 3 j.layer (s.ulFlags j n (j.trig + j.nsym - 1)) 4080 (fun l => l.map (BitVec.ofNat 8 ·)) 2 0
    (sinrs.map (code 8))
  match s.ctxOf j.user c with
  | some (i, cx) => s.setCtx i { cx with sinr := if sinrs.isEmpty then cx.sinr else sinrs.foldl (· + ·) 0 / (sinrs.length : Int) }
  | none => s

/-- A sum of an uplink key reaches the combiner of the head; when its symbol is complete the outputs leave (R338, R341). -/
def State.ulSum (s : State) (key : PsKey) : State :=
  let s := { s with bfm := { s.bfm with sums := s.bfm.sums ++ [key] } }
  let c := key.carrier
  let n := key.abs
  let have_ : Nat := ((s.ulSums c n key.sym).map (·.count)).foldl (· + ·) 0
  if have_ < s.ulLength c n key.sym then s
  else s.each (s.ulStream c n key.sym) (fun s x =>
    if x.1.out = 0 then s.ulIq x.1 n key.sym x.2
    else if key.sym + 1 = x.1.trig + x.1.nsym then s.ulSoft x.1 n
    else s)

/-! ## Gram sums at the head (R332, R333) -/

/-- The open groups of a carrier and engine slot in the order of the Gram stream: downlink before uplink, ascending group (R332). -/
def State.gramGroups (s : State) (n c : Nat) : List (Nat × OpenGroup) :=
  let g := s.bfm.pend.filter (fun p => p.1 == n && p.2.carrier == c)
  let order := fun (ul : Bool) => ((List.range 256).map (fun i => g.filter (fun p => p.2.ul == ul && p.2.group == i))).flatten
  order false ++ order true

/-- The entries of a Gram sum enter their groups; a group whose entries travelled in a degraded or saturated frame is bad (R333). -/
def State.gramSum (s : State) (key : PsKey) : State :=
  match key.terms.head? with
  | none => s
  | some t =>
    let gs := s.gramGroups (key.abs + 1) key.carrier
    let starts := (gs.foldl (fun (x : List ((Nat × OpenGroup) × Nat) × Nat) g =>
      (x.1 ++ [(g, x.2)], x.2 + g.2.layers.length * (g.2.layers.length + 1) / 2)) ([], 0)).1
    let upd := starts.map (fun x =>
      let g := x.1.2
      let len := g.layers.length * (g.layers.length + 1) / 2
      let lo := max x.2 key.offset
      let hi := min (x.2 + len) (key.offset + key.count)
      if hi ≤ lo then (x.1, g)
      else
        let gram := (List.range len).map (fun i =>
          if lo ≤ x.2 + i ∧ x.2 + i < hi then t.vals.getD (x.2 + i - key.offset) {} else g.gram.getD i {})
        (x.1, { g with gram := gram, got := g.got + (hi - lo), bad := g.bad || t.degr || t.sat || t.poison }))
    let pend := s.bfm.pend.map (fun p => match upd.find? (fun u => u.1 == p) with
      | some u => (p.1, u.2)
      | none => p)
    { s with bfm := { s.bfm with pend := pend } }

/-! ## Keys (R157 to R161) -/

/-- A PSUM payload taken apart: the key without terms, NCONTRIB and the values; none where it is malformed (R157). -/
def State.psParse (s : State) (pl : List Byte) : Option (PsKey × Nat × List Cplx) :=
  let at_ := fun i n => ofLe ((pl.drop i).take n)
  let b2 := at_ 2 1
  let fmt := at_ 3 1
  let cnt := at_ 8 2
  let size := if fmt = 0 then 4 else 8
  if fmt ≤ 1 ∧ bits b2 1 0 ≤ 1 ∧ 1 ≤ cnt ∧ cnt ≤ (if fmt = 0 then 1020 else 510) ∧ pl.length = 16 + cnt * size then
    let c := bits b2 3 2
    let kind := bits b2 1 0
    let scs := if kind = 0 then s.carScs c else (s.gridScs).getD 0
    let val := fun i => let w := at_ (16 + size * i) size
      if fmt = 0 then cplxOf w else ({ re := signed 32 (w % 2 ^ 32), im := signed 32 (w / 2 ^ 32) } : Cplx)
    some ({ frame := at_ 0 2 / 64, slot := at_ 0 2 % 64, sym := bits b2 7 4, carrier := c, kind := kind, offset := at_ 4 4, fmt := fmt,
            count := cnt, abs := s.slotAbs scs (at_ 0 2 / 64) (at_ 0 2 % 64) }, at_ 10 2 % 4096, (List.range cnt).map val)
  else none

/-- Two blocks have the same key. -/
def PsKey.same (a b : PsKey) : Bool :=
  a.frame == b.frame && a.slot == b.slot && a.sym == b.sym && a.carrier == b.carrier && a.kind == b.kind && a.offset == b.offset

/-- Identity of a key for the list of resolved keys. -/
def PsKey.id (a : PsKey) : Nat × Nat × Nat × Nat × Nat × Nat := (a.frame, a.slot, a.sym, a.carrier, a.kind, a.offset)

/-- Hold instant of a key (R159). -/
def State.holdInstant (s : State) (k : PsKey) : Nat :=
  if k.kind = 0 then (s.symSpan k.carrier k.abs k.sym).2 + s.f F.RTE.PS_HOLD_HOLD_UL * 3840
  else
    let scs := (s.gridScs).getD 0
    let stop := if k.sym = 13 then s.slotInstant scs (k.abs + 1) else s.symInstant scs k.abs (k.sym + 1)
    stop + s.f F.RTE.PS_HOLD_HOLD_GRAM * 38400

/-- The instant since which a logical port is UP: that of the member that has been UP longest (R153, R159). -/
def State.upSince (s : State) (o : Nat) : Nat :=
  match ((s.members o).filter s.portUp?).map (fun p => (s.port p).upAt) with
  | [] => 0
  | t :: l => l.foldl min t

/-- The logical ports whose terms are awaited (R158, R159): those of the active IN_MASK that reached UP before the slot in progress began. -/
def State.psAwaited (s : State) : List Nat :=
  let scs := (s.gridScs).getD 0
  (dedup ((maskMembers s.psInMask 6).map s.logical)).filter (fun o => s.outUp o && decide (s.upSince o ≤ s.slotInstant scs (s.slotNow scs)))

/-- Saturation of a sum to the wire width of its format. -/
def psSat (fmt : Nat) (v : Cplx) : Cplx := { re := satS (if fmt = 0 then 16 else 32) v.re, im := satS (if fmt = 0 then 16 else 32) v.im }

/-- The payload of an output (R157, R158). -/
def PsKey.payload (k : PsKey) (ncon : Nat) (vals : List Cplx) : List Byte :=
  leBytes 2 (64 * k.frame + k.slot) ++ leBytes 1 (16 * k.sym + 4 * k.carrier + k.kind) ++ leBytes 1 k.fmt ++ leBytes 4 k.offset ++
  leBytes 2 k.count ++ leBytes 2 ncon ++ leBytes 4 0 ++
  (vals.map (fun v => if k.fmt = 0 then leBytes 4 (cplxWord v) else leBytes 4 (code 32 v.re) ++ leBytes 4 (code 32 v.im))).flatten

/-- A key is resolved: its terms are summed, saturated once, and the output is sent on OUT or handed to BFM (R158, R159, R161).
`missing`: an awaited term was absent. -/
def State.psResolve (s : State) (k : PsKey) (missing : Bool) : State :=
  let s := { s with bfm := { s.bfm with keys := s.bfm.keys.filter (fun x => !x.same k), doneKeys := (k.id :: s.bfm.doneKeys).take 65536 } }
  let head := s.on F.RTE.PS_CFG_HEAD
  -- without a local block the first term gives FORMAT and COUNT; a term unlike it counts as absent
  let alike := k.terms.filter (fun t => t.fmt == k.fmt && t.vals.length == k.count)
  let ts := if head then alike.filter (fun t => !t.poison) else alike
  let missing := missing || ts.length != k.terms.length
  let sum := (List.range k.count).map (fun i => csum (ts.map (fun t => t.vals.getD i {})))
  let out := sum.map (psSat k.fmt)
  let satHere := decide (out ≠ sum)
  let ncon := (ts.map (·.ncon)).foldl (· + ·) 0
  let degr := missing || ts.any (·.degr)
  let sat := satHere || ts.any (·.sat)
  let poison := ts.any (·.poison)
  let s := s.when satHere (fun s => (s.inc F.RTE.PS_CNT1_SAT_CNT).raise F.RTE.EVT_PS_SAT)
  let s := s.when missing (fun s => (s.inc F.RTE.PS_CNT0_DEGR_CNT).raise F.RTE.EVT_PS_DEGRADED)
  if head then
    let s := s.setF F.RTE.PS_STATUS_LAST_NCONTRIB ncon
    let complete := !degr && !poison && ncon == s.f F.RTE.PS_EXPECT_EXPECT
    let s := s.when (decide (s.f F.RTE.PS_EXPECT_EXPECT < ncon)) (fun s => (s.inc F.RTE.PS_CNT2_MISMATCH_CNT).raise F.RTE.EVT_PS_MISMATCH)
    let s := s.when (!complete) (·.detBit F.SYS.DET_STATUS_CHAIN_LATE)
    let k' := { k with terms := [{ src := 7, fmt := k.fmt, ncon := ncon, degr := !complete, sat := sat, poison := poison, vals := out }] }
    if k.kind = 0 then s.ulSum k' else s.gramSum k'
  else
    let fr : Frame := { typ := 2, vc := 3, flags := 16 * b2n degr + 8 * b2n sat, hops := s.f F.RTE.DEV_CFG_HOP_LIMIT,
                        dst := s.f F.RTE.PS_EXPECT_PS_HEAD, src := s.f F.RTE.DEV_CFG_DEV_ADDR, seq := s.txSeq.getD 3 0,
                        payload := k.payload ncon out }
    let s := { s with txSeq := modNth s.txSeq 3 (fun n => (n + 1) % 65536) }
    s.enqueue (s.logical s.psOut) { fr := fr, len := fr.payload.length, pcrc := pcrc fr.payload, poison := poison,
                                    poisonAt := if poison then s.f F.RTE.DEV_CFG_DEV_ADDR else 0 }

/-- All awaited terms of a key are present (R159). -/
def State.psReady (s : State) (k : PsKey) : Bool :=
  k.terms.any (fun t => t.src == 6) && s.psAwaited.all (fun p => k.terms.any (fun t => t.src == p))

/-- The entry of a key changes in its place, or joins the end of the list, and is resolved if its terms are all present. -/
def State.psPut (s : State) (k : PsKey) : State :=
  let old := s.bfm.keys
  let keys := if old.any (fun x => x.same k) then old.map (fun x => if x.same k then k else x) else old ++ [k]
  let s := { s with bfm := { s.bfm with keys := keys } }
  if s.psReady k then s.psResolve k false else s

/-- A mismatched block of a key (R159). -/
def State.psMismatch (s : State) : State := (s.inc F.RTE.PS_CNT2_MISMATCH_CNT).raise F.RTE.EVT_PS_MISMATCH

/-- A port, or the bond it belongs to, is one whose terms are taken in (R158). -/
def State.psTakes (s : State) (port : Nat) : Bool :=
  s.on F.RTE.PS_CFG_EN && ((maskMembers s.psInMask 6).map s.logical).contains (s.logical port)

/-- A PSUM frame arrives from a port as a term of its key, its header at the instant `head` (R158, R159).  A term whose FORMAT or COUNT differs from the local block is
dropped; before the local block is there, all terms wait for it. -/
def State.psFrame (s : State) (port : Nat) (f : Frame) (poison : Bool) (head : Nat) : State :=
  match s.psParse f.payload with
  | none => s.rteMalformed
  | some (k, ncon, vals) =>
    if !s.psTakes port then s
    else if decide (s.holdInstant k < head) || s.bfm.doneKeys.contains k.id then (s.inc F.RTE.PS_CNT0_LATE_CNT).raise F.RTE.EVT_PS_LATE
    else
      let t : PsTerm := { src := s.logical port, fmt := k.fmt, ncon := ncon, degr := frameDegr f, sat := frameSat f, poison := poison, vals := vals }
      match s.bfm.keys.find? (fun (x : PsKey) => x.same k) with
      | none => s.psPut { k with terms := [t] }
      | some x =>
        if x.terms.any (fun y => y.src == 6 && (y.fmt != t.fmt || y.vals.length != t.vals.length)) then s.psMismatch
        else if x.terms.any (fun y => y.src == t.src) then s
        else s.psPut { x with terms := x.terms ++ [t] }

/-- Bytes of the local blocks that wait (R160). -/
def State.psBytes (s : State) : Nat :=
  (s.bfm.keys.map (fun k => if k.terms.any (fun t => t.src == 6) then k.count * (if k.fmt = 0 then 4 else 8) else 0)).foldl (· + ·) 0

/-- A local block is ready: it enters the accumulator buffer; a full buffer resolves its oldest key first (R158, R160). -/
def State.psLocal (s : State) (k : PsKey) (vals : List Cplx) : State :=
  if !s.on F.RTE.PS_CFG_EN then
    -- not in a chain: BFM takes its own block as the full sum (R338)
    let k' := { k with terms := [{ src := 6, fmt := k.fmt, ncon := 1, degr := false, sat := false, poison := false, vals := vals }] }
    if k.kind = 0 && !s.bfm.sums.any (fun x => x.same k) then s.ulSum k' else s
  else if s.bfm.doneKeys.contains k.id || s.bfm.keys.any (fun x => x.same k && x.terms.any (fun t => t.src == 6)) then s
  else
    let size := k.count * (if k.fmt = 0 then 4 else 8)
    let s := if 524288 < s.psBytes + size then
        match s.bfm.keys.find? (fun x => x.terms.any (fun t => t.src == 6)) with
        | some old => ((s.inc F.RTE.PS_CNT1_OVF_CNT).raise F.RTE.EVT_PS_OVF).psResolve old true
        | none => s
      else s
    let t : PsTerm := { src := 6, fmt := k.fmt, ncon := 1, degr := false, sat := false, poison := false, vals := vals }
    match s.bfm.keys.find? (fun (x : PsKey) => x.same k) with
    | none => s.psPut { k with terms := [t] }
    | some x =>
      -- terms whose format or count differ from the local block count as absent (R159)
      let fits := fun (y : PsTerm) => y.fmt == k.fmt && y.vals.length == k.count
      let s := s.each (x.terms.filter (fun y => !fits y)) (fun s _ => s.psMismatch)
      let s := { s with bfm := { s.bfm with keys := s.bfm.keys.filter (fun (y : PsKey) => !y.same k) } }
      s.psPut { k with terms := x.terms.filter fits ++ [t], due := x.due }

/-- The earliest hold instant of a waiting key. -/
def State.nextHold (s : State) : Option PsKey :=
  (s.bfm.keys.filter (fun k => !k.due)).foldl (fun (o : Option PsKey) k => match o with
    | none => some k
    | some x => if s.holdInstant k < s.holdInstant x then some k else some x) none

/-- A key at its hold instant may still gain a term: a PSUM frame is arriving whose header passed the check in time, from a port whose term is absent (R159). -/
def State.psArriving (s : State) (k : PsKey) : Bool :=
  s.psAwaited.any (fun o => !k.terms.any (fun t => t.src == o) &&
    (s.port o).rx.any (fun r => r.hdr.typ == 2 && r.outs.contains 6 && decide (r.at_ ≤ s.holdInstant k)))

/-- The keys past their hold instant for which no frame in time still arrives: their present terms are summed and sent with DEGR (R159). -/
def State.psDue (s : State) : State := s.each (s.bfm.keys.filter (fun k => k.due && !s.psArriving k)) (fun s k => s.psResolve k true)

/-- The hold instant of the next key passes (R159). -/
def State.psHold (s : State) : State :=
  match s.nextHold with
  | none => s
  | some k =>
    let s := s.advanceTo (s.holdInstant k)
    if s.psArriving k then s.psPut { k with due := true } else s.psResolve k true

end Sys2Proof.Machine
end

