-- ==== Sys2Proof/Machine/Weights.lean ====
section
/-! DEFINITION. Weights: the choice of computed weights or a fallback entry (R312, R324 to R326), their computation (R327 to R331, R342, R343), core
frames (R333 to R335), the local blocks of the combiner (R338) and of the Gram stream (R332), and the precoder (R337). -/

namespace Sys2Proof.Machine

/-! ## Which symbols, jobs and users an engine slot serves -/

/-- Symbols (slot, symbol) of a carrier that begin in engine slot n (R324). -/
def State.engSyms (s : State) (c n : Nat) : List (Nat × Nat) :=
  let g := (s.gridScs).getD 0
  let scs := s.carScs c
  let a := slotAt scs (s.slotInstant g n - s.tim.t0)
  let b := slotAt scs (s.slotInstant g (n + 1) - s.tim.t0)
  ((List.range (b + 1 - a)).map (fun i => (List.range 14).filterMap (fun k =>
    if s.engOf c (a + i) k = n then some (a + i, k) else none))).flatten

/-- The standing job of a layer in an engine slot that covers group g: the first in symbol order (R326; log entry 27). -/
def State.jobIn (s : State) (ul : Bool) (c n layer g : Nat) : Option SchedJob :=
  (s.engSyms c n).findSome? (fun x => (s.standing ul c x.1 x.2 layer).filter (fun j => j.gFirst ≤ g && g < j.gFirst + j.gCount))

/-- How a layer is served in a group (R312, R320): 0 computed, 1 entry FB, 2 STALE or OVERFLOW, 3 without context. -/
def State.serveKind (v : State) (j : SchedJob) (g : Nat) : Nat :=
  match v.ctxOf j.user j.carrier with
  | none => 3
  | some (_, c) =>
    if c.nports < j.port then 3
    else if c.st ≠ 1 then 2
    else if (List.range (c.nports + 1)).any (fun p => (v.estimate c p g).isNone) then 1
    else 0

/-- The contexts as they will stand at the boundary that opens engine slot n (R325). -/
def State.ctxAhead (s : State) (scs n : Nat) : State :=
  let v := { s with now := s.slotInstant scs n }
  (v.ctxCloses.commitBatch (s.jobsAt s.bfm.lateJobs)).ctxStates n

/-! ## Vectors -/

/-- Groups of eight paths muted in the slot being computed (R327, R522). -/
def State.mutedAhead (s : State) : Nat := s.thm.muteNext

/-- Path a takes part in a direction (R327). -/
def State.wgtPath (s : State) (ul : Bool) (c : Ctx) (port a : Nat) : Bool :=
  (c.ports.getD port {}).valid.testBit a && (if ul then s.rxEnabled a else s.txEnabled a) && !s.mutedAhead.testBit (a / 8)

/-- The reciprocity entry of a path for a carrier in the slot being computed: gain, phase and delay as numerators, and their divisor (R327, R479). -/
def State.recipOf (s : State) (p c : Nat) : Int × Int × Int × Nat :=
  match s.cal.ramps.find? (fun r => r.isOf 5 p) with
  | none => (0, 0, 0, 1)
  | some r => (r.after r.next (2 * c), r.after r.next (2 * c + 1), r.after r.next 8, r.den * r.total)

/-- RECIP entry of path p is valid. -/
def State.recipValid (s : State) (p : Nat) : Bool := (s.mask64 F.CAL.RECIP_VALID_LO_VALID F.CAL.RECIP_VALID_HI_VALID).testBit p

/-- h_l of a layer in a group, corrected for the downlink (R327, R329). -/
def State.layerVec (s v : State) (j : SchedJob) (g : Nat) : List Cplx × Int :=
  match v.ctxOf j.user j.carrier with
  | none => (List.replicate 64 {}, 0)
  | some (_, c) =>
    match v.estimate c j.port g with
    | none => (List.replicate 64 {}, 0)
    | some (e, m) =>
      let h := ((List.range 64).zip m).map (fun x => if s.wgtPath j.ul c j.port x.1 then x.2 else {})
      if j.ul then (h, e)
      else Config.dlVector h e ((List.range 64).map (fun a => s.recipOf a j.carrier)) g

/-- QUAL of a layer's port. -/
def State.layerQual (v : State) (j : SchedJob) : Int :=
  match v.ctxOf j.user j.carrier with
  | none => 0
  | some (_, c) => (c.ports.getD j.port {}).qual

/-- The fallback weights of a layer in a group (R311, R328, R338). -/
def State.fbWeight (s : State) (j : SchedJob) (g : Nat) : Weight :=
  { ul := j.ul, carrier := j.carrier, group := g, layer := j.layer, vec := s.gobEntry j.fb,
    wexp := if j.ul then s.fi F.BFM.UL_CFG_FB_EXP else 0, fb := true }

/-! ## Finishing a slot's weights -/

/-- Put weights beside those held. -/
def State.addWeights (s : State) (n : Nat) (ws : List Weight) : State :=
  { s with bfm := { s.bfm with weights := s.bfm.weights ++ ws.map (fun w => (n, w)) } }

/-- The groups of a layer fall back for engine slot n (R329, R330). -/
def State.groupFb (s : State) (n : Nat) (g : OpenGroup) : State :=
  s.addWeights n (g.layers.filterMap (fun l => (s.jobIn g.ul g.carrier n l g.group).map (fun j => s.fbWeight j g.group)))

/-- REs and GAIN of a layer's sampled group in each symbol of a carrier's slots of engine slot n, from the LAYER_MAP commands staged or in force (R342). -/
def State.groupRe (s : State) (n : Nat) (w : Weight) : List (Nat × Int) :=
  let c := w.carrier
  let L := s.carLeader c
  let rbg := s.rbg c
  let nrb := s.f (F.RXP.CAR_CFG_NRB c)
  let lo := rbg * w.group
  let re := 12 * (min nrb (lo + rbg * 2 ^ s.f F.BFM.EXP_CFG_GSTEP) - lo)
  let maps := fun (cn : Nat) =>
    let src := if cn = s.slotIdxOf L then s.staging else s.live
    (orderEntries (src.filter (fun (e : CmdEntry) => e.leader == L && e.blk == 15 && e.op == 0x201 && e.carrier == c))).map (fun (e : CmdEntry) =>
      mapJobOf c cn e.trig (e.payload.map (·.toNat)) nrb)
  (s.engSyms c n).filterMap (fun x =>
    match s.standing false c x.1 x.2 w.layer with
    | none => none
    | some j =>
      if j.gFirst ≤ w.group && w.group < j.gFirst + j.gCount then
        ((maps x.1).filter (fun m => m.layer == w.layer && m.trig ≤ x.2 && x.2 < m.trig + m.nsym)).getLast?.map (fun m => (re, m.gain))
      else none)

/-- A context's record of served slots (R346). -/
def State.noteServed (s : State) (scs n : Nat) (ws : List Weight) : State :=
  let shown := 64 * s.frameOf scs n + n % slotsPerFrame scs
  let jobs := (ws.filterMap (fun w => (s.jobIn w.ul w.carrier n w.layer w.group).map (fun j => (j, w.fb)))).eraseDups
  s.each (s.bfm.ctxs.map (·.1)) (fun s i =>
    match Store.find? s.bfm.ctxs i with
    | none => s
    | some c =>
      let mine := jobs.filter (fun x => x.1.user == c.user && x.1.carrier == c.carrier)
      let fbs := mine.filter (·.2)
      let c := if mine.any (fun x => !x.2 && !x.1.ul) then { c with lastDl := shown } else c
      let c := if mine.any (fun x => !x.2 && x.1.ul) then { c with lastUl := shown } else c
      let c := match fbs.getLast? with
        | some x => { c with fbLast := x.1.fb, fbSlots := min 0xFFFF (c.fbSlots + 1) }
        | none => c
      if mine.isEmpty then s else s.setCtx i c)

/-- All groups of a direction of engine slot n are settled: the exposure guard runs over the downlink, and every weight takes its 16-bit mantissas
(R329, R331, R342, R343). -/
def State.finishDir (s : State) (scs n : Nat) (ul : Bool) : State :=
  let mine := fun (w : Nat × Weight) => w.1 == n && w.2.ul == ul
  let raw := (s.bfm.weights.filter mine).map (·.2)
  let places := (List.range raw.length).zip raw
  let lost := places.filter (fun x => !x.2.fb && !Config.wgtFits (s.f F.BFM.WGT_BUF_SIZE) x.1)
  let s := if lost.isEmpty then s else (s.incBy F.BFM.WGT_CNT2_WOVF_CNT lost.length).raise F.BFM.EVT_WGT_OVF
  let raw := places.map (fun x =>
    if lost.any (fun y => y.1 == x.1) then ((s.jobIn ul x.2.carrier n x.2.layer x.2.group).map (fun j => s.fbWeight j x.2.group)).getD x.2 else x.2)
  let g := if ul then (s, []) else s.expGuard (s.expLayers raw (s.groupRe n))
  let s := g.1
  let fac := fun (w : Weight) => ((g.2.find? (fun f => f.1 == w.carrier && f.2.1 == w.layer)).map (·.2.2)).getD 65536
  let fin := raw.map (fun w => let r := roundVec w.vec w.wexp (fac w); { w with vec := r.1, wexp := r.2 })
  let s := { s with bfm := { s.bfm with weights := s.bfm.weights.filter (fun w => !mine w) ++ fin.map (fun w => (n, w)) } }
  s.noteServed scs n fin

/-- The directions of engine slot n whose groups are all settled by a change. -/
def State.settleDirs (s : State) (n : Nat) (uls : List Bool) : State :=
  match s.gridScs with
  | none => s
  | some scs => s.each uls (fun s ul => if s.bfm.pend.any (fun p => p.1 == n && p.2.ul == ul) then s else s.finishDir scs n ul)

/-- Weights of a group from its core (R328, R329). -/
def State.coreWeights (s : State) (n : Nat) (g : OpenGroup) (m : List Cplx) (mexp : Int) : State :=
  s.addWeights n ((List.range g.layers.length).map (fun i =>
    let v := weightExact g.vecs m mexp i
    { ul := g.ul, carrier := g.carrier, group := g.group, layer := g.layers.getD i 0, vec := v.1, wexp := v.2, fb := false }))

/-- A factorisation meets a pivot that is not positive (R329). -/
def State.wgtSing (s : State) : State := (s.inc F.BFM.WGT_CNT1_SING_CNT).raise F.BFM.EVT_WGT_SING

/-- The core of a group from its Gram entries (R328). -/
def State.coreOf (s : State) (g : OpenGroup) (gram : List Cplx) : Option (List Cplx × Int) :=
  Config.core (s.f F.BFM.WGT_CFG_ALGO) (s.f F.BFM.WGT_CFG_RHO) g.ul g.quals gram

/-! ## The weight instant -/

/-- One group of a direction and carrier at the weight instant: the choice of R312, and the weights or the open group. -/
def State.weightGroup (s v : State) (n c : Nat) (ul : Bool) (g : Nat) : State :=
  let jobs := (List.range 32).filterMap (fun l => s.jobIn ul c n l g)
  let set := jobs.filter (fun j => v.serveKind j g == 0)
  let fbs := jobs.filter (fun j => v.serveKind j g != 0)
  let s := s.addWeights n (fbs.map (fun j => s.fbWeight j g))
  if set.isEmpty then s
  else
    let og : OpenGroup := { ul := ul, carrier := c, group := g, layers := set.map (·.layer), all := jobs.map (·.layer),
                            vecs := set.map (fun j => s.layerVec v j g), quals := set.map v.layerQual, gram := [] }
    if s.on F.BFM.WGT_CFG_CHAIN && s.on F.RTE.PS_CFG_EN then { s with bfm := { s.bfm with pend := s.bfm.pend ++ [(n, og)] } }
    else match s.coreOf og (gramUpper (s.fi F.BFM.WGT_CFG_GSHIFT) og.vecs) with
      | none => s.wgtSing.groupFb n og
      | some m => s.coreWeights n og m.1 m.2

/-- The weight instant of the next engine slot passes (R324 to R326, R345); `late` are the positions of the batch whose sounding results have not been
written by now (R325). -/
def State.weightInstant (s : State) (late : List Nat) : State :=
  match s.gridScs with
  | none => s
  | some scs =>
    let n := s.bfm.wgtIdx
    if s.tlRun && 1 ≤ n then
      let s := s.advanceTo (s.symInstant scs (n - 1) (s.f F.BFM.WGT_CFG_WSYM))
      let s := { s with bfm := { s.bfm with wgtIdx := n + 1, lateJobs := late, weights := s.bfm.weights.filter (fun w => n ≤ w.1 + 2) } }
      let s := s.each [0, 1] (fun s L => match s.leaderScs L with
        | none => s
        | some l =>
          let t := s.slotInstant l (s.slotIdxOf L)
          if (s.ldr L).target && s.slotInstant scs n ≤ t && t < s.slotInstant scs (n + 1) then s.fixSched L else s)
      if s.bfm.committed then
        let v := s.ctxAhead scs n
        let cars := (List.range 4).filter s.carEn
        let all := ((List.range 4).map (fun c => ([false, true].map (fun ul => (List.range (s.numGroups c)).map (fun g => (c, ul, g)))).flatten)).flatten
        let all := all.filter (fun x => cars.contains x.1)
        -- counted once per user and slot, and once per slot (R312, R327)
        let jobs := (all.map (fun x => (List.range 32).filterMap (fun l => s.jobIn x.2.1 x.1 n l x.2.2))).flatten
        let users := fun (k : Nat) => ((jobs.filter (fun j => v.serveKind j j.gFirst == k)).map (fun j => (j.user, j.carrier))).eraseDups.length
        let s := s.incBy F.BFM.FB_CNT_STALE_SERVE_CNT (users 2)
        let s := if users 3 = 0 then s else (s.incBy F.BFM.FB_CNT_NOCTX_SERVE_CNT (users 3)).raise F.BFM.EVT_NOCTX
        let bad := jobs.any (fun j => !j.ul && v.serveKind j j.gFirst == 0 && (List.range 64).any (fun a =>
          !s.recipValid a && (match v.ctxOf j.user j.carrier with
            | some (_, cx) => s.wgtPath false cx j.port a
            | none => false)))
        let s := if bad then (s.inc F.BFM.WGT_CNT2_RECIP_CNT).raise F.BFM.EVT_RECIP_INVALID else s
        let s := s.each all (fun s x => s.weightGroup v n x.1 x.2.1 x.2.2)
        s.settleDirs n [false, true]
      else s
    else s

/-! ## Deadlines and cores -/

/-- Index of a direction. -/
def dirIdx (ul : Bool) : Nat := if ul then 1 else 0

/-- The weight deadline of engine slot n in a direction: the fetch instant of its first downlink symbol, or the nominal end of its first uplink symbol (R330); none where the
slot has no such symbol. -/
def State.deadlineAt (s : State) (ul : Bool) (n : Nat) : Option Nat :=
  let at_ := fun (c : Nat) => (s.engSyms c n).filterMap (fun x =>
    let w := s.symSpan c x.1 x.2
    if ul then (if s.rxAllowed w.1 w.2 then some w.2 else none) else if s.txAllowed w.1 w.2 then some (s.fetchInstant c x.1 x.2) else none)
  ((((List.range 4).filter s.carEn).map at_).flatten).foldl (fun (m : Option Nat) t => some (min (m.getD t) t)) none

/-- The weight deadline of a direction passes (R330); `late` names groups (carrier, group) of computed weights that are not complete by now. -/
def State.weightDeadline (s : State) (ul : Bool) (late : List (Nat × Nat)) : State :=
  let n := s.bfm.dead.getD (dirIdx ul) 0
  if s.tlRun && n < s.bfm.wgtIdx then
    let s := s.advanceTo ((s.deadlineAt ul n).getD s.now)
    let s := { s with bfm := { s.bfm with dead := setNth s.bfm.dead (dirIdx ul) (n + 1) } }
    let open_ := (s.bfm.pend.filter (fun p => p.1 == n && p.2.ul == ul)).map (·.2)
    let isLate := fun (w : Nat × Weight) => w.1 == n && w.2.ul == ul && !w.2.fb && late.contains (w.2.carrier, w.2.group)
    let lateW := s.bfm.weights.filter isLate
    let lateG := ((lateW.map (fun w => (w.2.carrier, w.2.group)))).eraseDups
    let cnt : Nat := open_.length + lateG.length
    if cnt = 0 then s
    else
      let s := { s with bfm := { s.bfm with pend := s.bfm.pend.filter (fun p => !(p.1 == n && p.2.ul == ul)), weights := s.bfm.weights.filter (fun w => !isLate w) } }
      let fbs := lateW.filterMap (fun w => (s.jobIn ul w.2.carrier n w.2.layer w.2.group).map (fun j => s.fbWeight j w.2.group))
      let s := (s.addWeights n fbs).each open_ (fun s g => s.groupFb n g)
      let s := if open_.isEmpty then s else s.settleDirs n [ul]
      let s := (s.incBy F.BFM.WGT_CNT0_WLATE_CNT cnt).raise F.BFM.EVT_WGT_LATE
      s.resultOvf 17 (s.frameOf ((s.gridScs).getD 0) n) (n % slotsPerFrame ((s.gridScs).getD 0))
  else s

/-- One group word and its core in a core frame (R334). -/
def coreGroup (g L : Nat) (core : Option (List Cplx × Int)) : List Byte :=
  match core with
  | none => leBytes 4 (g + 2 ^ 8 * (L - 1) + 2 ^ 13)
  | some (m, e) => leBytes 4 (g + 2 ^ 8 * (L - 1) + 2 ^ 24 * code 8 e) ++ (m.map (fun x => leBytes 4 (cplxWord x))).flatten

/-- Whole groups packed into payloads of at most 4,096 bytes (R334). -/
def packGroups : List (List Byte) → Nat × List Byte → List (Nat × List Byte)
  | [], cur => if cur.1 = 0 then [] else [cur]
  | g :: l, cur => if 4096 < 16 + cur.2.length + g.length ∧ cur.1 ≠ 0 then cur :: packGroups l (1, g) else packGroups l (cur.1 + 1, cur.2 ++ g)

/-- The core frames of a carrier and direction are multicast on VC5 (R333, R334). -/
def State.sendCores (s : State) (n c : Nat) (ul : Bool) (gs : List (List Byte)) : State :=
  let scs := (s.gridScs).getD 0
  s.each (packGroups gs (0, [])) (fun s p =>
    let pay := leBytes 2 (64 * s.frameOf scs n + n % slotsPerFrame scs) ++ leBytes 1 (16 + 4 * c + 2 * b2n ul) ++ leBytes 1 p.1 ++
      List.replicate 12 0 ++ p.2
    s.send { typ := 1, vc := 5, flags := 128, hops := s.f F.RTE.DEV_CFG_HOP_LIMIT, dst := s.f F.BFM.CHAIN_CFG_CORE_MC,
             src := s.f F.RTE.DEV_CFG_DEV_ADDR, payload := pay })

/-- The head finishes inverting the summed Gram matrices (R333). -/
def State.coresComplete (s : State) : State :=
  let n := s.bfm.wgtIdx - 1
  let mine := s.bfm.pend.filter (fun p => p.1 == n)
  if s.on F.RTE.PS_CFG_HEAD && !mine.isEmpty then
    let len := fun (g : OpenGroup) => g.layers.length * (g.layers.length + 1) / 2
    let core := fun (g : OpenGroup) => if g.bad || g.got < len g then none else s.coreOf g g.gram
    let groups := ((([0, 1, 2, 3] : List Nat).map (s.gramGroups n)).flatten).map (fun p => (p.2, core p.2))
    let s1 := { s with bfm := { s.bfm with pend := s.bfm.pend.filter (fun p => p.1 != n) } }
    let s1 := s1.each groups (fun s x =>
      if x.1.bad || x.1.got < len x.1 then ((s.inc F.BFM.WGT_CNT1_WDEGR_CNT).raise F.BFM.EVT_WGT_DEGR).groupFb n x.1
      else match x.2 with
        | none => s.wgtSing.groupFb n x.1
        | some m => s.coreWeights n x.1 m.1 m.2)
    let streams := (([0, 1, 2, 3].map (fun c => [(c, false), (c, true)])).flatten)
    let s1 := s1.each streams (fun s cd =>
      s.sendCores n cd.1 cd.2 ((groups.filter (fun x => x.1.carrier == cd.1 && x.1.ul == cd.2)).map (fun x =>
        coreGroup x.1.group x.1.layers.length x.2)))
    s1.settleDirs n [false, true]
  else s

/-- The groups of a core frame: group, L, and the core (none: FB); none where the frame is malformed (R334). -/
def parseCores : Nat → List Byte → Option (List (Nat × Nat × Option (List Cplx × Int)))
  | 0, l => if l.isEmpty then some [] else none
  | n + 1, l =>
    let w := ofLe (l.take 4)
    let L := bits w 12 8 + 1
    let words := if w.testBit 13 then 0 else L * L
    if l.length < 4 + 4 * words ∨ bits w 23 14 ≠ 0 then none
    else
      let m := (List.range words).map (fun i => cplxOf (ofLe ((l.drop (4 + 4 * i)).take 4)))
      (parseCores n (l.drop (4 + 4 * words))).map ((bits w 7 0, L, if w.testBit 13 then none else some (m, signed 8 (bits w 31 24))) :: ·)

/-- A group of a core frame forms its weights on a device with HEAD = 0 (R335): a core over the layers this device computes, or over all layers of the
group, where a layer served locally from a fallback entry gets a zero column (log entry 28). -/
def State.coreApply (s : State) (n : Nat) (g : OpenGroup) (L : Nat) (core : Option (List Cplx × Int)) : State :=
  let s := { s with bfm := { s.bfm with pend := s.bfm.pend.filter (fun p => !(p.1 == n && p.2 == g)) } }
  match core with
  | none => s.groupFb n g
  | some (m, e) =>
    if L = g.layers.length then s.coreWeights n g m e
    else if L = g.all.length then
      let zero : List Cplx := List.replicate 64 {}
      let vecs := g.all.map (fun l => if g.layers.contains l then g.vecs.getD (g.layers.idxOf l) (zero, 0) else (zero, 0))
      let lost := g.all.filter (fun l => !g.layers.contains l)
      let s := { s with bfm := { s.bfm with weights := s.bfm.weights.filter (fun w =>
        !(w.1 == n && w.2.ul == g.ul && w.2.carrier == g.carrier && w.2.group == g.group && lost.contains w.2.layer)) } }
      let ws := (List.range g.all.length).map (fun i =>
        let l := g.all.getD i 0
        let v := if g.layers.contains l then weightExact vecs m e i else (zero, 0)
        ({ ul := g.ul, carrier := g.carrier, group := g.group, layer := l, vec := v.1, wexp := v.2, fb := lost.contains l } : Weight))
      ((s.addWeights n ws).incBy F.BFM.BF_CNT1_LOCAL_FB_CNT lost.length).raise F.BFM.EVT_LOCAL_FB
    else s.groupFb n g

/-- A VC5 core frame arrives (R334, R335). -/
def State.coreFrame (s : State) (pl : List Byte) (poison : Bool) : State :=
  let at_ := fun i k => ofLe ((pl.drop i).take k)
  let b2 := at_ 2 1
  let scs := (s.gridScs).getD 0
  match parseCores (at_ 3 1) (pl.drop 16) with
  | none => s.rteMalformed
  | some gs =>
    if pl.length < 16 ∨ bits b2 7 4 ≠ 1 ∨ b2.testBit 0 ∨ (List.range 12).any (fun i => at_ (4 + i) 1 != 0) then s.rteMalformed
    else if poison || s.on F.RTE.PS_CFG_HEAD then s
    else
      let n := s.slotAbs scs (at_ 0 2 / 64) (at_ 0 2 % 64)
      let ul := b2.testBit 1
      let c := bits b2 3 2
      let s := s.each gs (fun s x =>
        match s.bfm.pend.find? (fun p => p.1 == n && p.2.ul == ul && p.2.carrier == c && p.2.group == x.1) with
        | none => s
        | some p => s.coreApply n p.2 x.2.1 x.2.2)
      if gs.any (fun x => s.bfm.weights.any (fun w => w.1 == n && w.2.group == x.1)) && !s.bfm.pend.any (fun p => p.1 == n && p.2.ul == ul) then
        s.settleDirs n [ul]
      else s

/-! ## Combiner and precoder -/

/-- The weights of a layer in a group of an engine slot: those held, or the fallback entry (R312, R345). -/
def State.weightFor (s : State) (n : Nat) (j : SchedJob) (g : Nat) : Weight :=
  match s.bfm.weights.find? (fun w => w.1 == n && w.2.ul == j.ul && w.2.carrier == j.carrier && w.2.layer == j.layer && w.2.group == g) with
  | some w => w.2
  | none => s.fbWeight j g

/-- Saturated values of the precoder or combiner (R337, R338). -/
def State.bfSat (s : State) (n : Nat) : State := if n = 0 then s else (s.incBy F.BFM.BF_CNT0_BF_SAT_CNT n).raise F.BFM.EVT_BF_SAT

/-- Saturation of a point to 16 bits per component, and how many components saturate. -/
def sat16 (x : Cplx) : Cplx × Nat :=
  let y : Cplx := { re := satS 16 x.re, im := satS 16 x.im }
  (y, b2n (y.re != x.re) + b2n (y.im != x.im))

/-- z_l(k) of one layer and subcarrier before saturation (R338). -/
def combine (shift : Int) (w : Weight) (bins : List (Nat × List Cplx)) (k : Nat) : Cplx :=
  let v := csum (bins.map (fun b => cmulX (cconj (w.vec.getD b.1 {})) (b.2.getD k {})))
  { re := scaleRound (shift + w.wexp - 14) v.re, im := scaleRound (shift + w.wexp - 14) v.im }

/-- The bins BFM received for a symbol, zero where INVALID or STALE, with whether any was zeroed (R338). -/
def State.combineBins (s : State) (c n k : Nat) : List (Nat × List Cplx) × Bool :=
  let ds := s.rx.delivered.filter (fun d => d.carrier == c && d.slot == n && d.sym == k && d.toBfm)
  let bad := fun (d : RxBins) => d.flags.testBit 7 || d.flags.testBit 6
  ((ds.filter (fun d => !bad d)).map (fun d => (d.path, d.bins)), ds.any bad)

/-- The local block of frame `part` of an uplink symbol's key stream is ready (R338): its values enter the accumulator, or the combiner's output. -/
def State.ulBlock (s : State) (c k part : Nat) : State :=
  let i := s.tim.symIdx.getD c 0 - 1
  let abs := if k ≤ i % 14 then 14 * (i / 14) + k else 14 * (i / 14 - 1) + k
  let n := abs / 14
  let len := s.ulLength c n k
  let off := 1020 * part
  if !s.tlCounts || len ≤ off then s
  else
    let cnt := min 1020 (len - off)
    let e := s.engOf c n k
    let bins := s.combineBins c n k
    let v := s.ulView c n k
    let shift : Int := 13 - (v.f F.BFM.UL_CFG_UL_SHIFT : Int)
    let stream := s.ulStream c n k
    let value := fun (p : Nat) =>
      match stream.find? (fun x => x.2 ≤ p && p < x.2 + s.layerRe x.1) with
      | none => (({}, 0) : Cplx × Nat)
      | some (j, o) =>
        let sc := 12 * s.rbg c * j.gFirst + (p - o)
        sat16 (combine shift (v.weightFor e j (sc / (12 * s.rbg c))) bins.1 sc)
    let vals := (List.range cnt).map (fun i => value (off + i))
    let holes := if bins.2 then (stream.filter (fun x => off ≤ x.2 && x.2 < off + cnt)).length else 0
    let s := if holes = 0 then s else (s.incBy F.BFM.BF_CNT0_HOLE_CNT holes).raise F.BFM.EVT_UL_HOLE
    let s := s.bfSat ((vals.map (·.2)).foldl (· + ·) 0)
    let scs := s.carScs c
    s.psLocal { frame := s.frameOf scs n, slot := n % slotsPerFrame scs, sym := k, carrier := c, kind := 0, offset := off, fmt := 0,
                count := cnt, abs := n } (vals.map (·.1))

/-- The local block of frame `part` of a carrier's Gram stream is ready (R332). -/
def State.gramBlock (s : State) (c part : Nat) : State :=
  match s.gridScs with
  | none => s
  | some scs =>
    let n := s.bfm.wgtIdx - 2
    let vals := ((s.gramGroups (n + 1) c).map (fun p => gramUpper (s.fi F.BFM.WGT_CFG_GSHIFT) p.2.vecs)).flatten
    let off := 510 * part
    if vals.length ≤ off then s
    else
      let part := (vals.drop off).take 510
      s.psLocal { frame := s.frameOf scs n, slot := n % slotsPerFrame scs, sym := s.f F.BFM.WGT_CFG_WSYM, carrier := c, kind := 1, offset := off,
                  fmt := 1, count := part.length, abs := n } part

/-- X_a(k) of one path and subcarrier before saturation, from the weights and points of the layers of its group (R337). -/
def precode (pshift : Nat) (terms : List (Cplx × Int × Cplx)) : Cplx :=
  let lo := terms.foldl (fun m t => min m t.2.1) 0
  let v := csum (terms.map (fun t => cscale (2 ^ (t.2.1 - lo).toNat : Nat) (cmulX (cconj t.1) t.2.2)))
  { re := scaleRound ((pshift : Int) + lo - 14) v.re, im := scaleRound ((pshift : Int) + lo - 14) v.im }

/-- The bins X_a of a path in symbol k of the n-th slot of a carrier, and how many components saturated (R337). -/
def State.precodePath (s : State) (a c n k : Nat) : List Cplx × Nat :=
  let e := s.engOf c n k
  let sched := s.scheduled false c n k
  let pts := s.tx.points.filter (fun p => p.carrier == c && p.slot == n && p.sym == k)
  let per := 12 * s.rbg c
  let r := (List.range (s.numGroups c)).map (fun g =>
    let ls := (sched.filter (fun j => j.gFirst ≤ g && g < j.gFirst + j.gCount)).filterMap (fun j =>
      (pts.find? (fun p => p.layer == j.layer)).map (fun p => let w := s.weightFor e j g; (w.vec.getD a {}, w.wexp, (p.pts.drop (per * g)).take per)))
    let cnt := min per (12 * s.f (F.RXP.CAR_CFG_NRB c) - per * g)
    (List.range cnt).map (fun i => sat16 (precode (s.f F.BFM.WGT_CFG_PSHIFT) (ls.map (fun l => (l.1, l.2.1, l.2.2.getD i {}))))))
  (r.flatten.map (·.1), (r.flatten.map (·.2)).foldl (· + ·) 0)

/-- Mapped layers that are not scheduled in a symbol count (R320). -/
def State.unscheduled (s : State) (c n k : Nat) : State :=
  let pts := s.tx.points.filter (fun p => p.carrier == c && p.slot == n && p.sym == k)
  let cnt : Nat := (pts.filter (fun p => (s.standing false c n k p.layer).isNone)).length
  if cnt = 0 then s else (s.incBy F.BFM.BF_CNT1_UNSCHED_CNT cnt).raise F.BFM.EVT_UNSCHED

/-! ## Legality -/

/-- Regions of BFM in 64 KB units: first unit and size (R316, R348). -/
def State.bfmRegions (s : State) : List (Nat × Nat) :=
  [(s.f F.BFM.CTX_POOL_BASE, s.f F.BFM.CTX_POOL_SIZE), (s.f F.BFM.SND_BUF_BASE, s.f F.BFM.SND_BUF_SIZE), (s.f F.BFM.GOB_CFG_BASE, 1),
   (s.f F.BFM.WGT_BUF_BASE, s.f F.BFM.WGT_BUF_SIZE), (s.f F.BFM.EXP_STEER_BASE, 1)]

/-- No two regions overlap. -/
def noOverlap : List (Nat × Nat) → Bool
  | [] => true
  | a :: l => l.all (fun b => a.1 + a.2 ≤ b.1 || b.1 + b.2 ≤ a.1) && noOverlap l

/-- The weight symbol lies after the maximum batch time in every engine slot (R325): 20 µs + 1.25 µs per job. -/
def State.wsymOk (s : State) (wsym batch : Nat) : Bool :=
  match s.gridScs with
  | none => true
  | some scs => [0, 1].all (fun n => 20 * usU + batch * 480000 < symStart scs n wsym * smpU)

/-- A break of a stated range by the BFM registers of R348, or of R325. -/
def State.bfmRange (s : State) : Bool :=
  1 ≤ s.f F.BFM.WGT_CFG_WSYM && s.f F.BFM.WGT_CFG_WSYM ≤ 12 && s.wsymOk (s.f F.BFM.WGT_CFG_WSYM) (s.f F.BFM.SND_CFG_BATCH) &&
  s.f F.BFM.WGT_CFG_ALGO != 3 && s.f F.BFM.WGT_CFG_PSHIFT ≤ 4 && 1 ≤ s.f F.BFM.UL_CFG_LLR_Q &&
  s.f F.BFM.BUDGET_CFG_SHARE_LC0 + s.f F.BFM.BUDGET_CFG_SHARE_LC1 ≤ 256 && 16 ≤ s.f F.BFM.WGT_BUF_SIZE && s.f F.BFM.WGT_BUF_SIZE ≤ 128 &&
  s.f F.BFM.WGT_BUF_BASE + s.f F.BFM.WGT_BUF_SIZE ≤ 768 && s.f F.BFM.EXP_CFG_GSTEP ≤ 4 && 1 ≤ s.f F.BFM.EXP_CFG_WIN &&
  s.f F.BFM.EXP_CFG_WIN ≤ 360 && 1 ≤ s.f F.BFM.EXP_CFG_SHARE && s.f F.BFM.EXP_STEER_BASE ≤ 767

/-- Ranges and overlaps of the context registers (R316). -/
def State.bfmCtxLegal (s : State) : Bool :=
  25 ≤ s.f F.BFM.CTX_POOL_SIZE && s.f F.BFM.CTX_POOL_BASE + s.f F.BFM.CTX_POOL_SIZE ≤ 768 && s.on F.BFM.SND_CFG_BATCH &&
  s.f F.BFM.SND_CFG_BATCH ≤ (if s.gridScs = some 2 then 64 else 128) && 1 ≤ s.f F.BFM.SND_CFG_STALE_AGE && 13 ≤ s.f F.BFM.SND_BUF_SIZE && s.f F.BFM.SND_BUF_SIZE ≤ 128 &&
  s.f F.BFM.SND_BUF_BASE + s.f F.BFM.SND_BUF_SIZE ≤ 768 && s.f F.BFM.GOB_CFG_BASE ≤ 767 && noOverlap (s.bfmRegions.take 3)

/-- The code WGT_STATUS takes for a tentative write of a BFM register, 0 where the write is legal (R316, R348, R349). -/
def State.bfmCode (s : State) (off : Nat) : Nat :=
  if 0x200 ≤ off ∧ off < 0x21C then (if !s.bfmRange then 1 else if !noOverlap s.bfmRegions then 2 else 0)
  else if 0x100 ≤ off ∧ off ≤ 0x130 then (if s.bfmCtxLegal then 0 else 3)
  else 0

end Sys2Proof.Machine
end

