-- ==== Sys2Proof/Machine/TxOut.lean ====
section
/-! DEFINITION. The transmit path from the bins to the DAC (R244 to R258): iFFT, windowed overlap, channel filters, composite, crest-factor reduction,
path gain, predistortion, and the states of the DAC and its output switch. -/

namespace Sys2Proof.Machine

/-- The list held under a key, empty where there is none. -/
def assocGet (l : List (Nat × List Cplx)) (k : Nat) : List Cplx := ((l.find? (fun x => x.1 == k)).map (·.2)).getD []

/-- The list with the entry of a key replaced. -/
def assocSet (l : List (Nat × List Cplx)) (k : Nat) (v : List Cplx) : List (Nat × List Cplx) := l.filter (fun x => x.1 != k) ++ [(k, v)]

/-- Saturation of samples to 16 bits, with the number of saturated components. -/
def satAll (l : List Cplx) : List Cplx × Nat :=
  let r := l.map sat16
  (r.map (·.1), (r.map (·.2)).foldl (· + ·) 0)

/-- Cyclic prefix, windowing, and the tail of the symbol before, as many samples as that symbol's own W (R23, R245). -/
def overlapSymbol (W cp N : Nat) (u tail : List Cplx) : List Cplx :=
  let ua := u.toArray
  let ta := tail.toArray
  (List.range (cp + N)).map (fun i =>
    let x := ua.getD ((i + N * 2 - cp) % N) {}
    if i < max W tail.length then Config.overlapSample W tail.length i x (ta.getD i {}) else x)

/-- A tap word of filter slot f of a carrier (R268). -/
def State.tap (s : State) (c f i : Nat) : Cplx := cplxOf (s.reg (0x100F8000 + 0x1000 * c + 0x200 * f + 4 * i)).toNat

/-- One channel-filter slot over a symbol, with the 95 samples before it (R246). -/
def State.filterSlot (s : State) (c f : Nat) (hist xs : List Cplx) : List Cplx × Nat :=
  let all := (List.replicate (95 - hist.length) ({} : Cplx) ++ hist ++ xs).toArray
  if (s.f (F.TXP.CAR_TX_FILT_EN c)).testBit f then
    let taps := ((List.range 96).map (s.tap c f))
    satAll ((List.range xs.length).map (fun i =>
      let v := csum ((List.range 96).map (fun j => cmulX (taps.getD j {}) (all.getD (95 + i - j) {})))
      ({ re := shrRound 15 v.re, im := shrRound 15 v.im } : Cplx)))
  else ((List.range xs.length).map (fun i => all.getD (95 + i - 48) {}), 0)

/-- The symbol of a carrier on one path up to its channel filters: iFFT, overlap and filters; `fresh`: the symbol follows a turnround (R24, R244 to R246).  A muted carrier
is zero at stage 8 (R258). -/
def State.txCarrier (s : State) (p c n k : Nat) (bins : List Cplx) (fresh : Bool) : State :=
  let N := s.fftN c
  let shift := s.f (F.TXP.CAR_TX_SHIFT c)
  let u := if bins.isEmpty then (List.replicate N {}, 0) else satAll ((List.range N).map (Config.ifft bins N shift))
  let x := s.txp p
  let tail := if fresh then [] else assocGet x.prev c
  let w := s.f (F.TXP.CAR_TX_OVERLAP c)
  let y := overlapSymbol w (s.cpLen c n k) N u.1 tail
  let r := [0, 1, 2, 3].foldl (fun (a : List Cplx × Nat × List (Nat × List Cplx)) f =>
    let o := s.filterSlot c f (assocGet a.2.2 (4 * c + f)) a.1
    (o.1, a.2.1 + o.2, assocSet a.2.2 (4 * c + f) (a.1.drop (a.1.length - 95)))) (y, u.2, x.fir)
  let span := s.symSpan c n k
  let out := if s.carMuted c then List.replicate r.1.length {} else r.1
  (s.setTxp p { x with prev := assocSet x.prev c (u.1.take w), fir := r.2.2,
                       pieces := x.pieces ++ [{ carrier := c, start := span.1, stop := span.2, samples := out }] }).txSat p r.2.1

/-! ## Stages 8 to 12 over a symbol of the grid of R14 -/

/-- Index since the timeline's origin of the first sample of rate Fs × num / 4 at or after an instant. -/
def State.rateIdx (s : State) (num t : Nat) : Nat := ((t - s.tim.t0) * s.fsHz * num + 4 * 384000000000 - 1) / (4 * 384000000000)

/-- Instant of the i-th sample of that rate. -/
def State.rateAt (s : State) (num i : Nat) : Nat := s.tim.t0 + i * (4 * 384000000000) / max 1 (s.fsHz * num)

/-- The whole path is muted at an instant (R258). -/
def TxPath.mutedAt (x : TxPath) (t : Nat) : Bool := x.mutes.any (fun m => m.2.2 && decide (m.1 ≤ t) && decide (t < m.2.1))

/-- |x|² of a sample as an integer. -/
def magSq (v : Cplx) : Nat := v.re.natAbs * v.re.natAbs + v.im.natAbs * v.im.natAbs

/-- Stage 8: the composite of a path between two instants, before its saturation (R247). -/
def State.compositeOf (s : State) (p a b : Nat) : List Cplx :=
  let x := s.txp p
  let eq := s.activeCal 3 p
  let cars := ((List.range 4).filter s.carEn).map (fun c =>
    ((x.pieces.filter (fun q => q.carrier == c)).map (fun q => (q.start - s.tim.t0, q.samples)),
     [(s.fftN c : Int), s.carScs c, (s.ncoW c : Int) - 2 * s.txCentre, eq.1.getD (3 * c) 0, eq.1.getD (3 * c + 1) 0, eq.1.getD (3 * c + 2) 0, eq.2]))
  let i := s.rateIdx 1 a
  (List.range (s.rateIdx 1 b - i)).map (fun j => Config.compositeSample cars [(s.fsHz : Int), s.tim.frame0, (i + j : Nat)])

/-- Stage 9: the composite behind the CFR, before its saturation; `hist` stands before it (R249 to R251). -/
def State.cfrOf (s : State) (p : Nat) (hist y : List Cplx) : List Cplx :=
  let segs := (List.range 16).map (fun i => (s.fi (F.TXP.CFR_MASK_F_LO i), s.fi (F.TXP.CFR_MASK_F_HI i), s.f (F.TXP.CFR_MASK_LIMIT i)))
  let cars := ((List.range 4).filter s.carEn).map (fun c =>
    [(s.f (F.TXP.CAR_CFR_WEIGHT c) : Int), (s.ncoW c : Int) - 2 * s.txCentre, (s.halfBand c : Int), (s.fftN c : Int), (s.carScs c : Int)])
  let params := [s.f F.TXP.CFR_CFG_THRESH, s.f F.TXP.CFR_CFG_ITER + 1, s.f F.TXP.CFR_CFG2_EVM_LIM, s.f F.TXP.CFR_CFG2_REF_LEVEL, s.fsHz]
  if s.on F.TXP.CFR_CFG_EN then (List.range y.length).map (Config.cfr hist y params (s.txp p).ePrev cars segs) else y

/-- Stages 8 to 10 of a path over a symbol: composite, crest-factor reduction and path gain, with what they report (R247 to R252, R269, R271).  The effective drive is that of
stage 10 while the switch is closed and the path is neither muted, in fault nor in micro-rest. -/
def State.txDrive (s : State) (a b p : Nat) : State :=
  let x := s.txp p
  let c0 := satAll (s.compositeOf p a b)
  let y := s.cfrOf p x.comp c0.1
  let th := s.f F.TXP.CFR_CFG_THRESH
  let res : Nat := if s.on F.TXP.CFR_CFG_EN then (y.filter (fun v => th * th < magSq v)).length else 0
  let c1 := satAll y
  let e := (c1.1.map magSq).foldl (· + ·) 0
  let s := if res = 0 then s else (s.incBy (F.TXP.P_CNT2_CFR_RES_CNT p) res).raise F.TXP.EVT_CFR_RESIDUAL
  let s := s.setFi (F.TXP.P_PWR_LDIG p) (dbfs e (c1.1.length * 32767 * 32767))
  let g := satAll (c1.1.map (Config.applyGain (s.fi (F.TXP.P_GAIN_G_D p))))
  let s := s.txSat p (c0.2 + c1.2 + g.2)
  let live := s.on (F.TXP.P_STATUS_SWITCH p) && !s.on (F.TXP.P_STATUS_FAULT p) && !s.pwr.micro.contains p
  let i := s.rateIdx 1 a
  let eff := ((List.range g.1.length).zip g.1).map (fun (v : Nat × Cplx) => if live && !x.mutedAt (s.rateAt 1 (i + v.1)) then v.2 else {})
  let keep := fun (l : List Cplx) => List.replicate (dpdHist - l.length) ({} : Cplx) ++ l.drop (l.length - dpdHist)
  s.setTxp p { s.txp p with
    comp := c0.1.drop (c0.1.length - 254), drive := keep x.drive ++ g.1, eff := keep x.eff ++ eff, ePrev := if a < x.till then some e else none,
    pieces := x.pieces.filter (fun q => decide (a < q.stop)) }

/-- A code of stage 12 at the DAC: zero in a muted symbol of the path, whose edges are ramped over MUTE_RAMP samples at F_c inside it (R258). -/
def State.mutedCode (s : State) (x : TxPath) (t : Nat) (v : Int) : Int :=
  match x.mutes.find? (fun m => m.2.2 && decide (m.1 ≤ t) && decide (t < m.2.1)) with
  | none => v
  | some m =>
    let r := s.f F.TXP.TX_TIMING_MUTE_RAMP
    let d := min (t - m.1) (m.2.1 - t)
    if d * s.fsHz < r * 4 * 384000000000 then satS 16 (Config.muteEdge r d v) else 0

/-- Stages 11 to 13 of a path over a symbol: predistortion, and the codes of the DAC while it presents the output (R255, R256, R258, R270 to R274). -/
def State.txCodes (s : State) (a b p : Nat) : State :=
  let d := s.predistort p
  let x := s.txp p
  let il := s.activeCal 1 p
  let i := s.rateIdx 8 a
  let raw := (List.range (s.rateIdx 8 b - i)).map (fun j =>
    Config.dacCode x.out d.1 ([(s.fsHz : Int), s.txCentre, s.tim.frame0, (i + j : Nat), il.2] ++ il.1))
  let clipped := (raw.filter (fun v => satS 16 v != v)).length
  let codes := ((List.range raw.length).zip raw).map (fun v => s.mutedCode x (s.rateAt 8 (i + v.1)) (satS 16 v.2))
  let s := s.txSat p (d.2 + clipped)
  s.setTxp p { s.txp p with out := d.1, codes := if 2 ≤ x.dac then codes else [] }

/-- Once the symbol of the grid of R14 in progress has ended, stages 8 to 13 have taken every enabled path over it: the neighbours' drives stand before any path is predistorted
(R230, R271). -/
def State.txRun (s : State) : State :=
  match s.tx.sym with
  | none => s
  | some (a, b) =>
    if b ≤ s.now then
      let paths := (List.range 64).filter s.txEnabled
      let s := { s with tx := { s.tx with sym := none } }
      (s.each paths (State.txDrive · a b)).each paths (State.txCodes · a b)
    else s

/-- DAC and switch of a path as a symbol starts: work closes the switch, and in a muted symbol the output is zero (R256, R258). -/
def State.txOutput (s : State) (p : Nat) : State :=
  let x := s.txp p
  let work := decide (s.now < x.till)
  if s.on (F.TXP.P_STATUS_FAULT p) then s.setTxp p { x with dac := min 1 x.dac }
  else
    let s := if work then s.setF (F.TXP.P_STATUS_SWITCH p) 1 else s
    s.setTxp p { x with dac := if work && x.mutedAt s.now then 2 else if work || s.on (F.TXP.P_STATUS_SWITCH p) then 3 else x.dac }

/-- Symbol k of the n-th slot of a carrier is transmitted: mutes, bins and carrier signals of every enabled path, and the outputs of the paths with work; with the lowest
carrier a symbol of the grid of R14 begins (R244 to R261, R337). -/
def State.txSymbolOut (s : State) (c n k : Nat) : State :=
  let span := s.symSpan c n k
  let s := ((s.muteSymbol c n k).1).unscheduled c n k
  let named := (maskMembers (s.txMask c n k) 64).filter s.txEnabled
  let fresh := match s.gridScs with
    | none => true
    | some _ => (s.overlapped span.1 span.2).any (fun i => i = 0 || s.tddAbs (i - 1) != 0)
  let paths := (List.range 64).filter s.txEnabled
  let s := s.each paths (fun s p =>
    if named.contains p then
      let b := s.precodePath p c n k
      let s := s.setTxp p { s.txp p with till := max (s.txp p).till span.2 }
      ((s.bfSat b.2).txCarrier p c n k b.1 fresh)
    else s.txCarrier p c n k [] fresh)
  let low := s.lowCarrier == some c
  let s := if low then { s with tx := { s.tx with sym := some span } } else s
  s.each (if low then paths else named) State.txOutput

/-- DAC and switch of every path outside Listen and Serve work (R256): off with its domain, or quiet with the switch open. -/
def State.txQuiet (s : State) (dac : Nat) : State :=
  s.each (List.range 64) (fun s p => (s.setTxp p { s.txp p with dac := dac, till := 0 }).setF (F.TXP.P_STATUS_SWITCH p) 0)

end Sys2Proof.Machine
end

