-- ==== Sys2Proof/Machine/Rad.lean ====
section
/-! DEFINITION. Random-access detection (R351 to R366). -/

namespace Sys2Proof.Machine

/-! ## Search slots -/

/-- L, Δf_RA in Hz, N_dft and F_ra of search s (R352, R365). -/
def State.raL (s : State) (q : Nat) : Nat := if s.on (F.RAD.S_FMT_LONG q) then 839 else 139
def State.raDf (s : State) (q : Nat) : Nat := [1250, 5000, 15000, 30000, 60000].getD (s.f (F.RAD.S_FMT_DF q)) 0
def State.raDft (s : State) (q : Nat) : Nat := if s.on (F.RAD.S_FMT_LONG q) then 1024 else 256
def State.raRate (s : State) (q : Nat) : Nat := s.raDf q * s.raDft q
def State.raCar (s : State) (q : Nat) : Nat := s.f (F.RAD.S_FMT_CARRIER q)

/-- U of a root entry. -/
def State.raRoot (s : State) (e : Nat) : Nat := bits (s.reg (0x10120400 + 4 * e)).toNat 9 0

/-- A number of the form 2^k or 3 × 2^k. -/
def isRatio (n : Nat) : Bool := (List.range 20).any (fun k => n == 2 ^ k || n == 3 * 2 ^ k)

/-- The first failing check of a search slot: 1 RATIO, 2 BAND, 3 ROOTS, 4 RANGE; 0 none (R353, R364). -/
def State.raCheck (s : State) (q : Nat) : Nat :=
  let L := s.raL q
  let c := s.raCar q
  let df := s.f (F.RAD.S_FMT_DF q)
  let ncs := s.f (F.RAD.S_FMT_N_CS q)
  let first := s.f (F.RAD.S_ROOT_ROOT_FIRST q)
  let cnt := s.f (F.RAD.S_ROOT_ROOT_COUNT q)
  let npre := s.f (F.RAD.S_ROOT_NPRE q)
  if 4 < df then 4
  else if s.fftRate c % s.raRate q ≠ 0 ∨ !isRatio (s.fftRate c / s.raRate q) then 1
  else if (s.on (F.RAD.S_FMT_LONG q) && 2 ≤ df) || (!s.on (F.RAD.S_FMT_LONG q) && df < 2) then 4
  else if 12 * s.f (F.RXP.CAR_CFG_NRB c) * s.spacing c < (s.f (F.RAD.S_FREQ_FREQ_OFS q) + L) * s.raDf q then 2
  else if (List.range cnt).any (fun e => s.raRoot (first + e) == 0 || L ≤ s.raRoot (first + e)) ∨ cnt * (L / max 1 ncs) < npre then 3
  else if ncs = 0 ∨ L < ncs ∨ s.f (F.RAD.S_FMT_N_REP q) = 0 ∨ 12 < s.f (F.RAD.S_FMT_N_REP q) ∨ npre = 0 ∨ 64 < npre ∨ cnt = 0 ∨ 64 < first + cnt then 4
  else 0

/-- A search slot failed its checks (R353). -/
def State.raRefused (s : State) (q code : Nat) : State :=
  ((s.setF F.RAD.RA_CFG_ERR_SLOT q).setF F.RAD.RA_CFG_ERR_CODE code).raise F.RAD.EVT_CFG_REFUSED

/-- The checks when the timeline enters RUN (R353). -/
def State.raCheckRun (s : State) : State :=
  let bad := (List.range 8).filter (fun q => s.on (F.RAD.S_FMT_EN q) && s.raCheck q != 0)
  let s1 := s.each bad (fun s' q => s'.raRefused q (s.raCheck q))
  { s1 with rad := { s1.rad with bad := bad.foldl (fun m q => m + 2 ^ q) 0 } }

/-- What the RAD registers must keep at a write (R364, R365). -/
def State.radLegal (s : State) (off : Nat) : Bool :=
  if off = 0x104 then s.f F.RAD.RA_RING_DEPTH != 1 && s.f F.RAD.RA_RING_BASE ≤ 767
  else if 0x200 ≤ off ∧ off < 0x300 ∧ off % 0x20 = 0 then s.f (F.RAD.S_FMT_DF ((off - 0x200) / 0x20)) ≤ 4
  else true

/-! ## Occasions -/

/-- Start of an occasion, and the window of a search (R351, R352). -/
def State.raStart (s : State) (c n k ofs : Nat) : Nat := s.symInstant (s.carScs c) n k + ofs * 384000000000 / max 1 (s.fftRate c)
def State.raWindow (s : State) (q start : Nat) : Nat × Nat :=
  let len := s.f (F.RAD.S_FMT_N_CP q) + s.f (F.RAD.S_FMT_N_REP q) * s.raDft q
  (start, start + len * 384000000000 / max 1 (s.raRate q))

/-- RA_OCC rules (R351, R352). -/
def State.raOccOk (s : State) (c n k : Nat) (pl : List Nat) : Bool :=
  let sm := bits (pl.getD 0 0) 7 0
  let start := s.raStart c n k (pl.getD 1 0)
  pl.length == 2 && bits (pl.getD 0 0) 31 8 == 0 && sm != 0 && (maskMembers sm 8).all (fun q =>
    let w := s.raWindow q start
    s.carEn (s.raCar q) && decide (w.2 ≤ s.symInstant (s.carScs c) n k + 2 * msU) && s.rxAllowed w.1 w.2)

/-- The state with the search slots, roots and paths that an occasion took: fields applied at a later boundary leave it alone (R22, R25). -/
def State.asTaken (s : State) (o : RaOcc) : State := s.each o.latch (fun s x => s.setReg x.1 x.2)

/-- Searches of an occasion that run: enabled, and not failed at RUN. -/
def State.raRun (s : State) (o : RaOcc) (q : Nat) : Bool := o.smask.testBit q && s.on (F.RAD.S_FMT_EN q) && !s.rad.bad.testBit q

/-- RA_STATUS shows the occasions. -/
def State.raShow (s : State) : State :=
  (s.setF F.RAD.RA_STATUS_BUSY (b2n (!s.rad.open_.isEmpty || !s.rad.queue.isEmpty))).setF F.RAD.RA_STATUS_QLEN (s.rad.queue.length - 1)

/-- RA_OCC opens an occasion (R351, R356). -/
def State.raOcc (s : State) (c n k smask ofs : Nat) : State :=
  let start := s.raStart c n k ofs
  let qs := (maskMembers smask 8).filter (fun q => s.on (F.RAD.S_FMT_EN q) && !s.rad.bad.testBit q)
  let stop := qs.foldl (fun m q => max m (s.raWindow q start).2) start
  let beams := (List.range 8).map (fun q => (List.range 16).map (fun b => s.gobEntry ((s.f (F.RAD.S_BEAM_BEAM_BASE q) + b) % 256)))
  let latch := ((List.range 64).map (fun i => 0x10120200 + 4 * i) ++ (List.range 64).map (fun i => 0x10120400 + 4 * i) ++ [0x10120114, 0x10120118]).map
    (fun a => (a, s.reg a))
  let o : RaOcc := { carrier := c, slot := n, trig := k, smask := smask, start := start, stop := stop, beams := beams, latch := latch }
  let r := { s.rad with open_ := s.rad.open_ ++ [o] }
  ({ s with rad := r }).raShow

/-- An occasion ends before another (R361). -/
def occBefore (a b : RaOcc) : Bool := a.stop < b.stop || (a.stop == b.stop && a.carrier < b.carrier)

/-- The open occasion whose last window ends first. -/
def firstOcc : List RaOcc → Option RaOcc
  | [] => none
  | a :: l => match firstOcc l with
    | none => some a
    | some b => if occBefore b a then some b else some a

/-- Paths that take part in occasions. -/
def State.raPaths (s : State) : List Nat := maskMembers (s.mask64 F.RAD.RA_PATH_LO_EN F.RAD.RA_PATH_HI_EN) 64

/-- A path's receive symbols overlapping a window carry INVALID or STALE (R355). -/
def State.raExcluded (s : State) (p c a b : Nat) : Bool :=
  s.invCause p c a b false != 0 || s.rx.hold.testBit p ||
  s.rx.delivered.any (fun d => d.path == p && d.carrier == c && (d.flags.testBit 7 || d.flags.testBit 6) &&
    decide ((s.symSpan c d.slot d.sym).1 < b ∧ a < (s.symSpan c d.slot d.sym).2))

/-- The last window of an occasion ends (R361), with the stage-5 samples of its searches' windows by path: it queues, or is dropped where eight wait. -/
def State.occQueued (s : State) (data : List (List (List Cplx))) : State :=
  match firstOcc s.rad.open_ with
  | none => s
  | some o =>
    let s := s.advanceTo o.stop
    let s := { s with rad := { s.rad with open_ := s.rad.open_.erase o } }
    let v := s.asTaken o
    let qs := (List.range 8).filter (v.raRun o)
    let excl := (List.range 8).map (fun q => if qs.contains q then
      let w := v.raWindow q o.start
      (v.raPaths.filter (fun p => v.raExcluded p (v.raCar q) w.1 w.2)).foldl (fun m p => m + 2 ^ p) 0 else 0)
    if 9 ≤ s.rad.queue.length then ((s.inc F.RAD.RA_CNT0_DROP_CNT).raise F.RAD.EVT_OCC_DROP).raShow
    else
      let s := if excl.any (· != 0) then (s.inc F.RAD.RA_CNT2_HOLE_CNT).raise F.RAD.EVT_RA_HOLE else s
      ({ s with rad := { s.rad with queue := s.rad.queue ++ [{ o with data := data, excl := excl }] } }).raShow

/-! ## Detection -/

/-- A detection: search, preamble, beam, delay, |c|² and the ratio |c|² / N_b as a fraction. -/
structure RaDet where
  search : Nat
  pre : Nat
  beam : Nat
  delay : Nat
  pow : Nat
  den : Nat
  num : Nat
deriving DecidableEq, Repr

/-- The ratio of one detection exceeds that of another. -/
def RaDet.above (a b : RaDet) : Bool := b.num * a.den < a.num * b.den

/-- The best candidate: the largest ratio, the first of equals. -/
def bestDet : List RaDet → Option RaDet
  | [] => none
  | a :: l => match bestDet l with
    | none => some a
    | some b => if b.above a then some b else some a

/-- The detections of one search of an occasion (R354 to R358). -/
def State.raSearch (s : State) (o : RaOcc) (q : Nat) : List RaDet :=
  let L := s.raL q
  let ex := o.excl.getD q 0
  let paths := s.raPaths.filter (fun p => !ex.testBit p)
  if paths.isEmpty then []
  else
    let ncs := s.f (F.RAD.S_FMT_N_CS q)
    let per := L / max 1 ncs
    let npre := s.f (F.RAD.S_ROOT_NPRE q)
    let roots := (npre + per - 1) / max 1 per
    let c := s.raCar q
    let prm := [s.f (F.RAD.S_FMT_N_CP q), s.f (F.RAD.S_FMT_N_REP q), s.raDft q, s.f (F.RAD.S_FREQ_FREQ_OFS q), L, s.fftRate c, s.raRate q,
                s.f (F.RXP.CAR_CFG_NRB c), s.spacing c]
    let ys := paths.map (fun p => (p, Config.raElements ((o.data.getD q []).getD p []) prm))
    let beams := (List.range 16).map (fun b =>
      let w := (o.beams.getD q []).getD b []
      let yb := (List.range L).map (fun n => csum (ys.map (fun y => cmulX (cconj (w.getD y.1 {})) (y.2.getD n {}))))
      (List.range roots).map (fun r => (List.range L).map (Config.raPower yb (s.raRoot (s.f (F.RAD.S_ROOT_ROOT_FIRST q) + r)) L)))
    (List.range npre).filterMap (fun v =>
      let c := v % per * ncs
      let cands := ((List.range 16).map (fun b =>
        let pw := beams.getD b []
        let tot := (pw.map (fun l => l.foldl (· + ·) 0)).foldl (· + ·) 0
        (List.range ncs).map (fun d =>
          let x := (pw.getD (v / per) []).getD ((c + L - d % L) % L) 0
          ({ search := q, pre := v, beam := b, delay := d, pow := x, num := x * (L * roots), den := tot } : RaDet)))).flatten
      bestDet (cands.filter (fun x => x.den != 0 && decide (10 ^ s.f (F.RAD.S_BEAM_THRESH q) * x.den ^ 40 ≤ x.num ^ 40))))

/-- Insert a detection by falling ratio; equals keep their order (R359). -/
def insertDet (a : RaDet) : List RaDet → List RaDet
  | [] => [a]
  | b :: l => if a.above b then a :: b :: l else b :: insertDet a l

/-- The 256 detections with the largest ratio, in ascending search and preamble (R359, R360). -/
def keepDets (l : List RaDet) : List RaDet :=
  let kept := (l.foldl (fun acc d => insertDet d acc) []).take 256
  l.filter kept.contains

/-- SNR of a detection in 0.25 dB, rounded and saturated (R360). -/
def RaDet.snr (d : RaDet) : Nat := largest (fun n => decide (10 ^ (2 * n - 1) * d.den ^ 80 ≤ d.num ^ 80)) 8 0

/-- The record of a detection (R360). -/
def State.raRecord (s : State) (d : RaDet) : List Byte :=
  let p := dbfs d.pow ((s.f (F.RAD.S_FMT_N_REP d.search) * s.raL d.search * 32767) ^ 2)
  leBytes 8 (d.snr * 2 ^ 56 + code 12 (satS 12 p) * 2 ^ 44 + d.beam * 2 ^ 40 + d.search * 2 ^ 37 + d.pre * 2 ^ 30 + d.delay * 2 ^ 20)

/-- The result of the occasion being processed is written and sent (R359, R360). -/
def State.raDone (s : State) : State :=
  match s.rad.queue with
  | [] => s
  | o :: rest =>
    let s := { s with rad := { s.rad with queue := rest } }
    let v := s.asTaken o
    let qs := (List.range 8).filter (v.raRun o)
    let found := (qs.map (v.raSearch o)).flatten
    let dets := keepDets found
    let lost : Nat := found.length - dets.length
    let s := if lost = 0 then s else (s.incBy F.RAD.RA_CNT0_DISC_CNT lost).raise F.RAD.EVT_RA_DISCARD
    let scs := s.carScs o.carrier
    let flag := fun (q : Nat) =>
      if qs.contains q then
        1 + 2 * b2n (o.excl.getD q 0 != 0) + 4 * b2n (v.raPaths.all (fun p => (o.excl.getD q 0).testBit p))
      else 0
    let body := leBytes 2 (64 * s.frameOf scs o.slot + o.slot % slotsPerFrame scs) ++ leBytes 1 (16 * o.trig + 4 * o.carrier) ++ leBytes 1 o.smask ++
      leBytes 2 dets.length ++ leBytes 2 found.length ++ ((List.range 8).map (fun q => leBytes 1 (flag q))).flatten ++
      (dets.map v.raRecord).flatten
    let depth := if s.f F.RAD.RA_RING_DEPTH = 0 then 16 else s.f F.RAD.RA_RING_DEPTH
    let wr := s.f F.RAD.RA_RING_PTR_WR
    let s := if (wr + 1) % depth = s.f F.RAD.RA_RING_PTR_RD then (s.inc F.RAD.RA_CNT1_OVF_CNT).raise F.RAD.EVT_RING_OVF
      else
        let a := s.f F.RAD.RA_RING_BASE * 65536 + 4096 * wr
        let t := s.engWrite 18 (s.frameOf scs o.slot) (o.slot % slotsPerFrame scs) a body
        if s.engRefused a body.length then t else t.setF F.RAD.RA_RING_PTR_WR ((wr + 1) % depth)
    let dst : Nat := s.f F.RAD.RA_CFG_RA_DST
    let s := if dst = 0 then s else
      s.send { typ := 1, vc := 2, flags := 0, hops := s.f F.RTE.DEV_CFG_HOP_LIMIT, dst := dst, src := s.f F.RTE.DEV_CFG_DEV_ADDR, payload := body }
    ((s.inc F.RAD.RA_CNT1_OCC_CNT).raise F.RAD.EVT_RA_DONE).raShow

/-- RAD refuses rest with BUSY (R362). -/
def State.radBusy (s : State) : Bool := !s.rad.open_.isEmpty || !s.rad.queue.isEmpty

/-- The queue empties at a return from Base camp (R362). -/
def State.radForget (s : State) : State := ({ s with rad := { s.rad with open_ := [], queue := [] } }).raShow

end Sys2Proof.Machine
end

