-- ==== Sys2Proof/Machine/CoreRegs.lean ====
section
/-! DEFINITION. The register files of a Therik core (R370 to R374, R402, R405): reading and writing a register by its code, the status
register, SCL, EXPO and BLK, and the flags. -/

namespace Sys2Proof.Machine

/-- Core n. -/
def State.core (s : State) (n : Nat) : Core := s.cores.getD n {}

/-- Put back core n. -/
def State.setCore (s : State) (n : Nat) (c : Core) : State := { s with cores := setNth s.cores n c }

/-- Modify core n. -/
def State.modCore (s : State) (n : Nat) (g : Core → Core) : State := s.setCore n (g (s.core n))

/-! ## Files -/

def Core.gReg (c : Core) (i : Nat) : Word := c.g.getD i 0
def Core.aReg (c : Core) (i : Nat) : Acc40 := c.a.getD i 0
def Core.pReg (c : Core) (i : Nat) : Word := c.p.getD i 0
def Core.mReg (c : Core) (i : Nat) : Word := c.m.getD i 0
def Core.lReg (c : Core) (i : Nat) : Nat := c.l.getD i 0
def Core.setG (c : Core) (i : Nat) (w : Word) : Core := { c with g := setNth c.g i w }
def Core.setA (c : Core) (i : Nat) (w : Acc40) : Core := { c with a := setNth c.a i w }
def Core.setP (c : Core) (i : Nat) (w : Word) : Core := { c with p := setNth c.p i w }

/-! ## Status register (R374) -/

/-- Bits of SR. -/
def SR.v : Nat := 0
def SR.c : Nat := 1
def SR.z : Nat := 2
def SR.n : Nat := 3
def SR.aov : Nat := 6
def SR.sat : Nat := 7
def SR.ie : Nat := 15

def Core.srBit (c : Core) (b : Nat) : Bool := c.sr.getLsbD b
def Core.setSr (c : Core) (b : Nat) (v : Bool) : Core := { c with sr := BitVec.ofNat 32 (setBits c.sr.toNat b b (b2n v)) }
def Core.ipl (c : Core) : Nat := bits c.sr.toNat 14 12
def Core.setIpl (c : Core) (l : Nat) : Core := { c with sr := BitVec.ofNat 32 (setBits c.sr.toNat 14 12 l) }

/-- SR as a write leaves it: reserved bits 0, IPL at most 4 (R374). -/
def srWrite (w : Nat) : Word :=
  BitVec.ofNat 32 (bits w 15 15 * 2 ^ 15 + min (bits w 14 12) 4 * 2 ^ 12 + bits w 7 6 * 2 ^ 6 + bits w 3 0)

/-- N and Z of a result (R403). -/
def Core.flagNZ (c : Core) (r : Word) : Core := (c.setSr SR.n r.msb).setSr SR.z (r == 0)

/-- N, Z, C and V of a result. -/
def Core.flagAll (c : Core) (r : Word) (cy ov : Bool) : Core := ((c.flagNZ r).setSr SR.c cy).setSr SR.v ov

/-- Set SR.SAT where a value was clamped; it is sticky. -/
def Core.sticky (c : Core) (b : Nat) (hit : Bool) : Core := if hit then c.setSr b true else c

/-! ## SCL, EXPO and BLK (R385, R386) -/

def Core.sclShift (c : Core) : Int := signed 8 (bits c.scl.toNat 7 0)
def Core.sclRnd (c : Core) : Nat := bits c.scl.toNat 25 24
def Core.sclGuard (c : Core) : Nat := bits c.scl.toNat 17 16
def Core.sclBlock (c : Core) : Bool := c.scl.getLsbD 31

/-- A write of SCL: SHIFT is clamped to -8 to 31, the shift in force becomes SHIFT clamped to 0 to 24, and E becomes 0 (R385, R386). -/
def Core.writeScl (c : Core) (w : Nat) : Core :=
  let sh := max (-8) (min 31 (signed 8 (bits w 7 0)))
  { c with scl := BitVec.ofNat 32 (bits w 31 31 * 2 ^ 31 + bits w 25 24 * 2 ^ 24 + bits w 17 16 * 2 ^ 16 + code 8 sh),
           blkShift := (max 0 (min 24 sh)).toNat, blkE := 0 }

/-- EXPO as a write leaves it: LAST and SUM (R386). -/
def expoWrite (w : Nat) : Word := BitVec.ofNat 32 (bits w 31 24 * 2 ^ 24 + bits w 15 0)

/-- BLKEND (R386). -/
def Core.blkend (c : Core) : Core :=
  let sum := (bits c.expo.toNat 15 0 + c.blkShift) % 2 ^ 16
  let sh := (max 0 (min 24 ((c.blkE : Int) - 16 + (c.sclGuard : Int)))).toNat
  { c with expo := BitVec.ofNat 32 (c.blkShift % 256 * 2 ^ 24 + sum), blkShift := sh, blkE := 0 }

/-! ## Registers by code (R402, R405) -/

/-- CID of core n (R373). -/
def State.cid (s : State) (n : Nat) : Word :=
  BitVec.ofNat 32 (b2n (n < 2) * 2 ^ 31 + s.f (F.TKC.C_STATUS_EPOCH n) * 2 ^ 16 + (if n < 2 then 0 else (n - 2) / 8) * 2 ^ 8 + n)

/-- PC and SR saved by the most recent interrupt entry still open, 0 without one. -/
def Core.savedTop (c : Core) : Nat × Word :=
  match c.open_ with
  | l :: _ => c.save.getD l (0, 0)
  | [] => (0, 0)

/-- The special register s(i) as read. -/
def Core.special (c : Core) (cid : Word) (i : Nat) : Word :=
  match i with
  | 0 => BitVec.ofNat 32 c.pc
  | 1 => c.sr
  | 2 => c.scl
  | 3 => c.expo
  | 4 => c.link
  | 5 => c.vbar
  | 6 => BitVec.ofNat 32 c.savedTop.1
  | 7 => c.savedTop.2
  | 14 => cid
  | 15 => BitVec.ofNat 32 (c.blkShift * 256 + c.blkE)
  | _ => if 8 ≤ i ∧ i < 14 then c.lp.getD (i - 8) 0 else 0

/-- A register of R402 as read; an accumulator is no source. -/
def Core.readCode (c : Core) (cid : Word) (x : Nat) : Word :=
  if x < 0x10 then c.gReg x
  else if x < 0x18 then 0
  else if x < 0x20 then c.pReg (x - 0x18)
  else if x < 0x24 then c.mReg (x - 0x20)
  else if x < 0x28 then BitVec.ofNat 32 (c.lReg (x - 0x24))
  else c.special cid (x - 0x30)

/-- An accumulator write by the ALU opens its window of one issue (R378). -/
def Core.window (c : Core) (reg kind left : Nat) : Core := { c with win := { reg := reg, kind := kind, left := left } :: c.win }

/-- Write a register by its code (R405). -/
def Core.writeCode (c : Core) (x : Nat) (w : Word) : Core :=
  if x < 0x10 then c.setG x w
  else if x < 0x18 then (c.setA (x - 0x10) (w.signExtend 40)).window x 1 1
  else if x < 0x20 then c.setP (x - 0x18) w
  else if x < 0x24 then { c with m := setNth c.m (x - 0x20) w }
  else if x < 0x28 then { c with l := setNth c.l (x - 0x24) (w.toNat % 2 ^ 17) }
  else match x with
    | 0x31 => { c with sr := srWrite w.toNat }
    | 0x32 => c.writeScl w.toNat
    | 0x33 => { c with expo := expoWrite w.toNat }
    | 0x34 => { c with link := w }
    | 0x35 => { c with vbar := BitVec.ofNat 32 (w.toNat / 16 * 16) }
    | _ => if 0x38 ≤ x ∧ x < 0x3E then { c with lp := setNth c.lp (x - 0x38) w } else c

end Sys2Proof.Machine
end

