-- ==== Sys2Proof/Machine/CoreAlu.lean ====
section
/-! DEFINITION. What the arithmetic instructions of a Therik core compute: ALU, ALU-immediate, MAC and scaled moves (R371, R372, R385, R386, R403 to
R411). -/

namespace Sys2Proof.Machine

/-! ## Flags of sums, shifts and packed operations -/

/-- Write a result and set the flags of an addition (R403). -/
def Core.addTo (c : Core) (rd : Nat) (x y : Word) : Core :=
  let r := x + y
  (c.setG rd r).flagAll r (decide (2 ^ 32 ≤ x.toNat + y.toNat)) (x.toInt + y.toInt != r.toInt)

/-- The flags of a subtraction (R403). -/
def Core.subFlags (c : Core) (x y : Word) : Core :=
  let r := x - y
  c.flagAll r (decide (y.toNat ≤ x.toNat)) (x.toInt - y.toInt != r.toInt)

/-- Write a result and set N and Z. -/
def Core.nzTo (c : Core) (rd : Nat) (r : Word) : Core := (c.setG rd r).flagNZ r

/-- Shifts: the kind (0 left, 1 logical right, 2 arithmetic right), with the last bit out in C; an amount of 0 leaves C (R404). -/
def Core.shiftTo (c : Core) (kind rd : Nat) (x : Word) (n : Nat) : Core :=
  let r := if kind = 0 then x <<< n else if kind = 1 then x >>> n else x.sshiftRight n
  let out := if kind = 0 then x.getLsbD (32 - n) else x.getLsbD (n - 1)
  let c := c.nzTo rd r
  if n = 0 then c else c.setSr SR.c out

/-- The I and Q halves of a packed word as integers. -/
def loHalf (w : Word) : Int := signed 16 (bits w.toNat 15 0)
def hiHalf (w : Word) : Int := signed 16 (bits w.toNat 31 16)

/-- A packed word from two integers, each saturated to 16 bits. -/
def packSat (i q : Int) : Word := BitVec.ofNat 32 (code 16 (satS 16 i) + 2 ^ 16 * code 16 (satS 16 q))

/-- Whether packing clamps a component. -/
def packClamps (i q : Int) : Bool := satS 16 i != i || satS 16 q != q

/-- Write a packed result; a clamp sets SR.SAT. -/
def Core.packTo (c : Core) (rd : Nat) (i q : Int) : Core := (c.setG rd (packSat i q)).sticky SR.sat (packClamps i q)

/-- Redundant sign bits of a word, 0 to 31 (NORM). -/
def redundantSign (w : Word) : Nat := ((List.range 31).reverse.takeWhile (fun i => w.getLsbD i == w.msb)).length

/-- An accumulator result: it wraps modulo 2^40 and a wrap sets SR.AOV (R371). -/
def Core.accTo (c : Core) (k : Nat) (i : Int) : Core :=
  (c.setA k (BitVec.ofInt 40 i)).sticky SR.aov (satS 40 i != i)

/-- An ALU write to an accumulator (R404), which opens the window of one issue (R378). -/
def Core.accAlu (c : Core) (k : Nat) (i : Int) : Core := (c.accTo k i).window (0x10 + k) 1 1

/-! ## ALU and ALU-immediate -/

/-- The ALU operations of R404. -/
def Core.alu (c : Core) (op : AluOp) (rd ra rb : Nat) : Core :=
  let x := c.gReg ra
  let y := c.gReg rb
  match op with
  | .add => c.addTo rd x y
  | .sub => (c.setG rd (x - y)).subFlags x y
  | .and_ => c.nzTo rd (x &&& y)
  | .or_ => c.nzTo rd (x ||| y)
  | .xor_ => c.nzTo rd (x ^^^ y)
  | .shl => c.shiftTo 0 rd x (y.toNat % 32)
  | .shr => c.shiftTo 1 rd x (y.toNat % 32)
  | .asr => c.shiftTo 2 rd x (y.toNat % 32)
  | .min_ => c.nzTo rd (if x.toInt ≤ y.toInt then x else y)
  | .max_ => c.nzTo rd (if x.toInt ≤ y.toInt then y else x)
  | .abs_ =>
    let most := x == 0x80000000#32
    let r := if most then 0x7FFFFFFF#32 else if x.msb then -x else x
    (c.nzTo rd r).setSr SR.v most
  | .cmp => c.subFlags x y
  | .tst => c.flagNZ (x &&& y)
  | .mul16 => c.nzTo rd (BitVec.ofInt 32 (loHalf x * loHalf y))
  | .norm =>
    let r := BitVec.ofNat 32 (redundantSign x)
    (c.setG rd r).setSr SR.z (r == 0)
  | .cadd => c.packTo rd (loHalf x + loHalf y) (hiHalf x + hiHalf y)
  | .csub => c.packTo rd (loHalf x - loHalf y) (hiHalf x - hiHalf y)
  | .conj => c.packTo rd (loHalf x) (-hiHalf x)
  | .aset => c.accAlu rd x.toInt
  | .aadd => c.accAlu rd ((c.aReg rd).toInt + (c.aReg ra).toInt)
  | .asub => c.accAlu rd ((c.aReg rd).toInt - (c.aReg ra).toInt)
  | .ashr => c.accAlu rd ((c.aReg rd).toInt / (2 ^ min (x.toNat % 64) 40 : Nat))
  | .aneg => c.accAlu rd (-(c.aReg rd).toInt)

/-- The ALU-immediate operations with RD, RA and IMM14 (R406). -/
def Core.immOp (c : Core) (op : ImmOp) (rd ra imm14 : Nat) : Core :=
  let x := c.gReg ra
  let sx := BitVec.ofInt 32 (signed 14 imm14)
  let zx := BitVec.ofNat 32 imm14
  match op with
  | .addi => c.addTo rd x sx
  | .andi => c.nzTo rd (x &&& zx)
  | .ori => c.nzTo rd (x ||| zx)
  | .xori => c.nzTo rd (x ^^^ zx)
  | .shli => c.shiftTo 0 rd x (imm14 % 32)
  | .shri => c.shiftTo 1 rd x (imm14 % 32)
  | .asri => c.shiftTo 2 rd x (imm14 % 32)
  | .cmpi => c.subFlags x sx

/-- PADDI: a pointer plus an immediate, with no circular rule (R406). -/
def Core.paddi (c : Core) (p imm14 : Nat) : Core := c.setP p (c.pReg p + BitVec.ofInt 32 (signed 14 imm14))

/-! ## MAC -/

/-- The two addends of a MAC (R372, R408): the operation (0 CMAC, 1 RMAC2, 2 CMUL, 3 RMUL2), conjugation, negation, and the operand words. -/
def macAddends (op : Nat) (cj ng : Bool) (x y : Word) : Int × Int :=
  let sg : Int := if ng then -1 else 1
  if op % 2 = 0 then
    let cs : Int := if cj then -1 else 1
    (sg * (loHalf x * loHalf y - cs * (hiHalf x * hiHalf y)), sg * (hiHalf x * loHalf y + cs * (loHalf x * hiHalf y)))
  else (sg * (loHalf x * loHalf y), sg * (hiHalf x * loHalf y))

/-- A MAC into pair k; its accumulator writes open the windows of two issues (R378, R408). -/
def Core.mac (c : Core) (op k : Nat) (cj ng : Bool) (x y : Word) : Core :=
  let d := macAddends op cj ng x y
  let base := fun (i : Nat) => if op < 2 then (c.aReg i).toInt else 0
  (((c.accTo (2 * k) (base (2 * k) + d.1)).accTo (2 * k + 1) (base (2 * k + 1) + d.2)).window (0x10 + 2 * k) 2 2).window
    (0x10 + 2 * k + 1) 2 2

/-! ## Scaled moves -/

/-- Rounding of R385: to nearest with halves up, truncation, or to nearest with ties to even. -/
def roundShift (rnd n : Nat) (v : Int) : Int :=
  let d : Int := (2 ^ n : Nat)
  if rnd = 1 then v / d
  else if rnd = 2 then
    let q := v / d
    let r := 2 * (v % d)
    if r < d then q else if r > d then q + 1 else q + q % 2
  else (v + (2 ^ (n - 1) : Nat)) / d

/-- A component scaled by a shift (R385), before saturation. -/
def scaleBy (rnd : Nat) (sh : Int) (v : Int) : Int :=
  if 0 < sh then roundShift rnd sh.toNat v else v * (2 ^ (-sh).toNat : Nat)

/-- MVW: a word move, always with SHIFT (R385, R411). -/
def Core.mvw (c : Core) (g a : Nat) : Core :=
  let v := scaleBy c.sclRnd c.sclShift (c.aReg a).toInt
  (c.setG g (BitVec.ofInt 32 (satS 32 v))).sticky SR.sat (satS 32 v != v)

/-- The smallest two's-complement width that holds a value (R386). -/
def widthOf (i : Int) : Nat := ((List.range 40).find? (fun w => 1 ≤ w && satS w i == i)).getD 40

/-- MVP: a packed move of a pair; in block mode E becomes the largest width of the values moved (R385, R386, R411). -/
def Core.mvp (c : Core) (g a : Nat) : Core :=
  let sh : Int := if c.sclBlock then (c.blkShift : Int) else c.sclShift
  let i := (c.aReg a).toInt
  let q := (c.aReg (a + 1)).toInt
  let c := c.packTo g (scaleBy c.sclRnd sh i) (scaleBy c.sclRnd sh q)
  if c.sclBlock then { c with blkE := max c.blkE (max (widthOf i) (widthOf q)) } else c

/-! ## Addressing (R376, R377) -/

/-- Reversal of the low 16 bits. -/
def rev16 (v : Nat) : Nat := (List.range 16).foldl (fun r i => r + b2n (v.testBit i) * 2 ^ (15 - i)) 0

/-- A pointer with an amount added in reverse carry over bits 15:0 (R376). -/
def bitRevAdd (p m : Word) : Word :=
  let lo := rev16 ((rev16 (p.toNat % 2 ^ 16) + rev16 (m.toNat % 2 ^ 16)) % 2 ^ 16)
  BitVec.ofNat 32 (p.toNat / 2 ^ 16 * 2 ^ 16 + lo)

/-- The smallest power of two that is at least a length. -/
def powTwoAbove (l : Nat) : Nat := ((List.range 18).map (2 ^ ·)).find? (l ≤ ·) |>.getD (2 ^ 17)

/-- The circular post-update of pointer i by an amount for an access of w bytes; none where R377 makes it ILLEGAL. -/
def Core.circular (c : Core) (i w : Nat) (d : Int) : Option Word :=
  let l := c.lReg i
  let p := c.pReg i
  if l = 0 then some (p + BitVec.ofInt 32 d)
  else if l % w ≠ 0 ∨ 65536 < l ∨ l < d.natAbs then none
  else
    let z := powTwoAbove l
    let base := p.toNat / z * z
    some (BitVec.ofNat 32 (base + ((((p.toNat - base : Nat) : Int) + d) % (l : Int)).toNat))

end Sys2Proof.Machine
end

