-- ==== Sys2Proof/Machine/CoreCtl.lean ====
section
/-! DEFINITION. States of a Therik core, its watchdog, faults and interrupt sources (R379 to R384, R388 to R396). -/

namespace Sys2Proof.Machine

/-! ## States (R390) -/

def CoreState.off : Nat := 0
def CoreState.stopped : Nat := 1
def CoreState.running : Nat := 2
def CoreState.waiting : Nat := 3
def CoreState.fault : Nat := 4
def CoreState.resetting : Nat := 5

/-- C_STATUS.STATE of core n. -/
def State.coreState (s : State) (n : Nat) : Nat := s.f (F.TKC.C_STATUS_STATE n)

/-- The core's watchdog counts: it is RUNNING or WAITING (R388). -/
def countsWdt (st : Nat) : Bool := st == 2 || st == 3

/-- One unit of the watchdog, 10 µs. -/
def wdtU : Nat := 10 * usU

/-- Time the watchdog of a core has counted. -/
def State.wdtTime (s : State) (n : Nat) : Nat :=
  (s.core n).wdtAcc + (match (s.core n).wdtSince with
    | some t => s.now - t
    | none => 0)

/-- C_WDT_CNT.CNT as read. -/
def State.wdtCount (s : State) (n : Nat) : Nat := min (s.wdtTime n / wdtU) 0xFFFF

/-- Set the time a watchdog has counted; source 0 is no longer pending (R382). -/
def State.wdtSet (s : State) (n t : Nat) : State :=
  s.modCore n (fun c => { c with wdtAcc := t, wdtSince := if countsWdt (s.coreState n) then some s.now else none, warned := false,
                                 pend := c.pend &&& 1022 })

/-- The watchdog count becomes 0 (R388). -/
def State.kick (s : State) (n : Nat) : State := s.wdtSet n 0

/-- A core changes state; the watchdog counts while it is RUNNING or WAITING and holds its count otherwise (R388, R390). -/
def State.setCoreState (s : State) (n st : Nat) : State :=
  let t := s.wdtTime n
  let s := s.modCore n (fun c => { c with wdtAcc := t, wdtSince := if countsWdt st then some s.now else none })
  s.setF (F.TKC.C_STATUS_STATE n) st

/-- Power domain of core n (R367). -/
def coreDom (n : Nat) : Nat := if n < 2 then Dom.core else Dom.cl ((n - 2) / 8)

/-- Words of core memory (R367): base of the global window, of the instruction memory and of the data memory of core n. -/
def imemBase (n : Nat) : Nat := 0x06000000 + 0x00100000 * n
def dmemBase (n : Nat) : Nat := imemBase n + 0x00080000
def dmemSize : Nat := 0x40000

/-- Delay slots and a repeat are over (R383): the boundary at which an interrupt or a stop may be taken. -/
def Core.atBoundary (c : Core) : Bool := c.slots == 0 && c.rep == 0

/-! ## Registered waits (R419) -/

/-- A Belay semaphore. -/
def State.sem (s : State) (n : Nat) : Sem := s.mbx.sems.getD n {}
def State.setSem (s : State) (n : Nat) (x : Sem) : State := { s with mbx := { s.mbx with sems := setNth s.mbx.sems n x } }

/-- The semaphore an agent waits for. -/
def State.waitsFor (s : State) (g : Nat) : Option Nat :=
  (List.range 64).find? (fun n => (s.sem n).queue.contains g || (s.sem n).ovf.contains g)

/-- Places that free in a queue are taken by the oldest of the overflow set (R458). -/
def Sem.fill (x : Sem) : Sem :=
  { x with queue := x.queue ++ x.ovf.take (8 - x.queue.length), ovf := x.ovf.drop (8 - x.queue.length) }

/-- An agent leaves the queue or overflow set it waits in. -/
def State.leaveQueue (s : State) (g : Nat) : State :=
  match s.waitsFor g with
  | some n => s.setSem n ({ s.sem n with queue := (s.sem n).queue.filter (· != g), ovf := (s.sem n).ovf.filter (· != g) } : Sem).fill
  | none => s

/-- An arrival is removed from its barrier. -/
def State.leaveBarrier (s : State) (n : Nat) : State :=
  { s with mbx := { s.mbx with arrived := s.mbx.arrived.map (fun l => l.filter (· != n)) } }

/-- A registered wait of a core is withdrawn: by a stop, a fault or a reset. -/
def State.withdraw (s : State) (n : Nat) : State :=
  ((s.leaveQueue n).leaveBarrier n).modCore n (fun c => { c with wait := none, got := none })

/-! ## Faults (R394) -/

def CoreFault.illegal : Nat := 1
def CoreFault.hazard : Nat := 2
def CoreFault.align : Nat := 3
def CoreFault.bus : Nat := 4
def CoreFault.ifetch : Nat := 5
def CoreFault.ecc : Nat := 6
def CoreFault.wdt : Nat := 7

/-- The core enters FAULT at its pc: results in flight complete, and an ECC fault is an occurrence of detector 2 (R394, R565).  A registered
wait is withdrawn (DEDUCED). -/
def State.coreFault (s : State) (n cause addr : Nat) (inj : Bool) : State :=
  let s := (s.withdraw n).modCore n (fun c => { c with win := [], wait := none, got := none, hold := none, rep := 0, stopReq := false, stepping := false })
  let s := s.setCoreState n CoreState.fault
  let s := (s.setF (F.TKC.C_STATUS_CAUSE n) cause).setF (F.TKC.C_FAULT_ADDR_ADDR n) (if cause = 3 ∨ cause = 4 ∨ cause = 6 then addr else 0)
  if cause = CoreFault.ecc then s.raiseDet F.TKC.EVT_FAULT 2 n inj else s.raise F.TKC.EVT_FAULT

/-! ## Windows (R378, R379) -/

/-- One issue passes: windows shrink. -/
def Core.passIssues (c : Core) (k : Nat) : Core :=
  { c with win := (c.win.map (fun w => { w with left := w.left - k })).filter (fun w => 0 < w.left) }

/-- Count issues in ISSUE_CNT. -/
def State.countIssues (s : State) (n k : Nat) : State :=
  s.setF (F.TKC.C_CNT0_ISSUE_CNT n) ((s.f (F.TKC.C_CNT0_ISSUE_CNT n) + k) % 2 ^ 32)

/-- General registers an operand spec of a MAC reads. -/
def specReads (x : Nat) : List Nat := if x.testBit 9 then [] else [bits x 7 4]

/-- General registers an instruction reads (R379, R404 to R425). -/
def Op.readsG (o : Op) : List Nat :=
  match o with
  | .alu op _ ra rb =>
    (match op with
     | .abs_ | .norm | .conj | .aset | .ashr => [ra]
     | .aadd | .asub | .aneg => []
     | _ => [ra, rb])
  | .movr _ src => if src < 0x10 then [src] else []
  | .imm _ _ ra _ => [ra]
  | .lli rd _ => if rd < 0x10 then [rd] else []
  | .mac _ _ _ _ xs ys => specReads xs ++ specReads ys
  | .store w g _ _ _ => if w = 3 then [g, g + 1] else [g]
  | .dual xst yst gx _ _ gy _ _ => (if xst then [gx] else []) ++ (if yst then [gy] else [])
  | .jump _ g | .rptr g | .loopr _ _ g => [g]
  | .send _ ga gb => [ga, ga + 1, gb]
  | .ring _ gb => [gb]
  | .push _ _ _ gh _ => [gh]
  | _ => []

/-- Accumulators an instruction reads, and whether it is a scaled move (R378). -/
def Op.readsA (o : Op) : List Nat × Bool :=
  match o with
  | .alu op rd ra _ =>
    (match op with
     | .aadd | .asub => ([rd, ra], false)
     | .ashr | .aneg => ([rd], false)
     | _ => ([], false))
  | .mvw _ a => ([a], true)
  | .mvp _ a => ([a, a + 1], true)
  | _ => ([], false)

/-- A register read falls inside an open window (R379): a load closes its register to every reader, an ALU write to an accumulator
closes it to scaled moves, a MAC write closes it to every reader but an accumulating MAC. -/
def Core.hazard (c : Core) (o : Op) : Bool :=
  let ra := o.readsA
  c.win.any (fun w =>
    if w.kind = 0 then o.readsG.contains w.reg
    else if w.kind = 1 then ra.2 && ra.1.contains (w.reg - 0x10)
    else ra.1.contains (w.reg - 0x10))

/-! ## Interrupt sources (R382) -/

/-- Agents' inbox of messages. -/
def State.inboxOf (s : State) (g : Nat) : List (Nat × Nat) := s.mbx.inbox.getD g []

/-- Doorbell bits of an agent. -/
def State.dbPend (s : State) (g : Nat) : Nat := s.mask64 (F.MBX.DB_PEND_LO_PEND g) (F.MBX.DB_PEND_HI_PEND g)

/-- Sources pending at core n: INBOX, DOORBELL and COMPLETION stand as long as their owner's condition, WDT_WARN until the watchdog count is set, and the others, which have
no owner, until they are taken (R382; log entry 87). -/
def State.coreSources (s : State) (n : Nat) : Nat :=
  (s.core n).pend ||| (2 * b2n (!(s.inboxOf n).isEmpty)) ||| (4 * b2n (s.dbPend n != 0)) |||
    (64 * b2n (!(s.arb.rings.getD n []).isEmpty))

/-- Raise a source of a core. -/
def State.raiseSrc (s : State) (n src : Nat) : State :=
  if n < 34 && s.coreState n != CoreState.off then s.modCore n (fun c => { c with pend := c.pend ||| 2 ^ src }) else s

/-- Level of a source: 4 for WDT_WARN, else that of C_INT (R382). -/
def State.srcLevel (s : State) (n src : Nat) : Nat :=
  if src = 0 then 4 else bits (s.reg (A.TKC.C_INT n)).toNat (2 * src + 1) (2 * src)

/-- The source an interrupt entry takes now, if one may be taken (R383): the highest level first, then the lowest source. -/
def State.srcTaken (s : State) (n : Nat) : Option Nat :=
  let c := s.core n
  let may := (List.range 10).filter (fun x =>
    (s.coreSources n).testBit x && c.ipl < s.srcLevel n x && (s.srcLevel n x == 4 || c.srBit SR.ie))
  may.foldl (fun (b : Option Nat) x => match b with
    | some y => if s.srcLevel n y < s.srcLevel n x then some x else b
    | none => some x) none

/-- Entry into a vector: PC and SR are saved in the slot of the level, IPL becomes the level, and the core continues at
VBAR + 16 × source after two issues (R383). -/
def Core.enter (c : Core) (src lvl : Nat) : Core :=
  let c := { c with save := setNth c.save lvl (c.pc, c.sr), open_ := lvl :: c.open_,
                    pend := if src ≤ 2 ∨ src = 6 then c.pend else c.pend &&& (1023 - 2 ^ src) }
  ({ c.setIpl lvl with pc := (c.vbar.toNat + 16 * src) % 2 ^ 32 }).passIssues 2

/-- A core is held in a non-local access (R369). -/
def State.inAccess (s : State) (n : Nat) : Bool := s.coreState n == CoreState.waiting && (s.core n).hold.isSome

/-- INTERRUPT_ENTRY (R383): a core that runs, or waits in a wait of R419, takes a pending source at an issue boundary; an interrupted wait keeps
its registration. -/
def State.interruptEntry (s : State) (n : Nat) : State :=
  let c := s.core n
  if countsWdt (s.coreState n) && !s.resting 0 && !s.inAccess n && c.atBoundary && !c.stepping then
    match s.srcTaken n with
    | some src =>
      let s := (s.setCore n (c.enter src (s.srcLevel n src))).countIssues n 2
      s.setCoreState n CoreState.running
    | none => s
  else s

/-- RETI from level l (R383, R426). -/
def Core.reti (c : Core) : Core :=
  let l := c.ipl
  let v := c.save.getD l (0, 0)
  { c with pc := v.1, sr := v.2, open_ := c.open_.filter (· != l) }

/-! ## Domains and START (R390, R391, R396) -/

/-- A core with its registers at their reset values; its watchdog count and instruction memory are kept (R393). -/
def Core.cleared (c : Core) : Core := { wdtAcc := c.wdtAcc, wdtSince := c.wdtSince }

/-- A domain of cores is switched on: its cores go from OFF to STOPPED with their registers at reset values (R390). -/
def State.coresOn (s : State) (d : Nat) : State :=
  s.each ((List.range 34).filter (fun n => coreDom n == d && s.coreState n == CoreState.off)) (fun s n =>
    (s.setCore n {}).setCoreState n CoreState.stopped)

/-- A domain of cores is switched off. -/
def State.coresOff (s : State) (d : Nat) : State :=
  s.each ((List.range 34).filter (fun n => coreDom n == d)) (fun s n =>
    (s.setCore n {}).setCoreState n CoreState.off)

/-- A core starts at a pc with no open slots, repeats or windows (R391, R394). -/
def State.coreRun (s : State) (n pc : Nat) : State :=
  let s := s.modCore n (fun c => { c with pc := pc, slots := 0, target := none, rep := 0, win := [], wait := none, got := none, hold := none,
                                          stopReq := false, stepping := false })
  (s.setF (F.TKC.C_STATUS_CAUSE n) 0).setCoreState n CoreState.running

/-- A stop completes and withdraws a registered wait (R419): the core is STOPPED, and TKC raises STOPPED for a requested stop. -/
def State.coreHalt (s : State) (n : Nat) (event : Bool) : State :=
  let s := (s.withdraw n).modCore n (fun c => { c with win := [], wait := none, got := none, hold := none, stopReq := false, stepping := false })
  (s.setCoreState n CoreState.stopped).when event (·.raise F.TKC.EVT_STOPPED)

/-- After an issue a requested stop or a single step ends at the first boundary (R391). -/
def State.afterIssue (s : State) (n : Nat) : State :=
  let c := s.core n
  if s.coreState n == CoreState.running && c.atBoundary then
    if c.stopReq then s.coreHalt n true else if c.stepping then s.coreHalt n false else s
  else s

/-! ## Watchdog events (R388, R389) -/

/-- The watchdog reaches WARN: source 0 and WDT_WARN, an occurrence of detector 23. -/
def State.wdtWarn (s : State) (n : Nat) (inj : Bool) : State :=
  ((s.modCore n (fun c => { c with warned := true })).raiseSrc n 0).raiseDet F.TKC.EVT_WDT_WARN 23 n inj

/-- Instant at which a watchdog reaches a count. -/
def State.wdtInstant (s : State) (n k : Nat) : Nat :=
  match (s.core n).wdtSince with
  | some t => t + (k * wdtU - (s.core n).wdtAcc)
  | none => s.now

/-- The expiry of LC0 or LC1 escalates to a device reset (R389). -/
def State.wdtEscalates (s : State) (n : Nat) : Bool :=
  (n == 0 && s.on F.TKC.WDT_CFG_ESC_LC0) || (n == 1 && s.on F.TKC.WDT_CFG_ESC_LC1)

end Sys2Proof.Machine
end

