-- ==== Sys2Proof/Machine/Agents.lean ====
section
/-! DEFINITION. Mailboxes, doorbells, pools, Belay semaphores, barriers and waits of the 36 agents, and the reset of an agent (chapter 16, R417
to R421, R437, R438). -/

namespace Sys2Proof.Machine

def Agent.mpA : Nat := 34
def Agent.mpB : Nat := 35

/-- Sync status codes (R418). -/
def Sync.ok : Nat := 0
def Sync.empty : Nat := 1
def Sync.collide : Nat := 2
def Sync.down : Nat := 3
def Sync.peerReset : Nat := 4
def Sync.stale : Nat := 5
def Sync.busy : Nat := 6
def Sync.cycle : Nat := 7
def Sync.broken : Nat := 8
def Sync.timeout : Nat := 9
def Sync.notOwner : Nat := 10
def Sync.notMember : Nat := 11

/-- Present epoch of an agent: CID.EPOCH of a core, HOST_CTRL.EPOCH of a host (R447). -/
def epochFld (g : Nat) : Fld := if g < 34 then F.TKC.C_STATUS_EPOCH g else F.MBX.HOST_CTRL_EPOCH (g - 34)
def State.epochOf (s : State) (g : Nat) : Nat := s.f (epochFld g)

/-! ## Going on after an instruction (R378, R415) -/

/-- The next pc after the instruction at an address outside delay slots and repeats: the loop rule, level 1 first (R415). -/
def Core.loopNext (c : Core) : Core :=
  let pc := BitVec.ofNat 32 c.pc
  let lp := fun (i : Nat) => c.lp.getD i 0
  let put := fun (l : List Word) (i : Nat) (w : Word) => setNth l i w
  let hit1 := pc == lp 4 && lp 5 != 0
  let l1 := if hit1 then put c.lp 5 (lp 5 - 1) else c.lp
  let back1 := hit1 && lp 5 != 1
  let hit0 := !back1 && pc == lp 1 && lp 2 != 0
  let l0 := if hit0 then put l1 2 (lp 2 - 1) else l1
  let back0 := hit0 && lp 2 != 1
  { c with lp := l0, pc := if back1 then (lp 3).toNat else if back0 then (lp 0).toNat else (c.pc + 4) % 2 ^ 32 }

/-- After an instruction that is no branch: the last delay slot continues at the target, others at the next address (R378, R413). -/
def Core.advance (c : Core) : Core :=
  if c.slots = 0 then c.loopNext
  else { c with slots := c.slots - 1, target := if c.slots = 1 then none else c.target,
                pc := if c.slots = 1 then c.target.getD ((c.pc + 4) % 2 ^ 32) else (c.pc + 4) % 2 ^ 32 }

/-- The wait instruction of core n completes with a change of its registers, and the core goes on. -/
def State.coreFinish (s : State) (n : Nat) (g : Core → Core) : State :=
  let s := s.modCore n (fun c => (g { c with wait := none, got := none }).advance)
  (s.setCoreState n CoreState.running).afterIssue n

/-- The register that receives the status of a wait. -/
def Op.waitGs (o : Op) : Nat :=
  match o with
  | .recvw gs _ | .acq gs _ | .bar gs _ | .wsym gs _ _ => gs
  | _ => 0

/-- A registered wait of core n ends with a status: at once where the core stands in it, else when the instruction runs again (R419). -/
def State.coreWaitEnds (s : State) (n code : Nat) : State :=
  match (s.core n).wait with
  | some o =>
    if s.coreState n == CoreState.waiting && !s.inAccess n then s.coreFinish n (fun c => c.setG o.waitGs (BitVec.ofNat 32 code))
    else s.modCore n (fun c => { c with got := some code })
  | none => s

/-! ## Messages (R447 to R451) -/

def State.setInbox (s : State) (g : Nat) (l : List (Nat × Nat)) : State :=
  { s with mbx := { s.mbx with inbox := setNth s.mbx.inbox g l } }

/-- Take the oldest message of agent g: status and the two words (R451). -/
def State.recvTake (s : State) (g : Nat) : State × Nat × Nat × Nat :=
  match s.inboxOf g with
  | [] => (s, Sync.empty, 0, 0)
  | (w0, w1) :: l =>
    let s := s.setInbox g l
    if bits w1 31 30 == s.epochOf (bits w1 29 24) then (s, Sync.ok, w0, w1)
    else ((s.inc F.MBX.MBX_CNT0_STALE_CNT).raise F.MBX.EVT_STALE, Sync.stale, w0, w1)

/-- Registers of a receive: the pair, then the status (R417); EMPTY leaves the pair. -/
def Core.recvRegs (c : Core) (gs ga st w0 w1 : Nat) : Core :=
  let c := if st = Sync.empty then c else (c.setG ga (BitVec.ofNat 32 w0)).setG (ga + 1) (BitVec.ofNat 32 w1)
  c.setG gs (BitVec.ofNat 32 st)

/-- Power domain of an agent's inbox (R448). -/
def agentDom (g : Nat) : Nat := if g < 34 then coreDom g else Dom.ctl

/-- A message displaces the newest one of a full inbox (R449), an occurrence of detector 11; an injected one finds the inbox full. -/
def State.collide (s : State) (g : Nat) (lost : Option (Nat × Nat)) (inj : Bool) : State :=
  let s := s.inc (F.MBX.INBOX_STATUS_COLL_CNT g)
  let s := match lost with
    | some m => s.setF (F.MBX.INBOX_STATUS_DISPLACED g) (bits m.2 29 24)
    | none => s
  s.raiseDet F.MBX.EVT_COLLIDE 11 g inj

/-- A waiting RECVW of core g takes the message that entered its inbox (R417). -/
def State.recvWake (s : State) (g : Nat) : State :=
  match (s.core g).wait with
  | some (.recvw gs ga) =>
    if g < 34 && s.coreState g == CoreState.waiting && !s.inAccess g && !(s.inboxOf g).isEmpty then
      let r := s.recvTake g
      r.1.coreFinish g (fun c => c.recvRegs gs ga r.2.1 r.2.2.1 r.2.2.2)
    else s
  | _ => s

/-- A send of a message by agent h to agent g: its one status, and its effect (R447 to R450). -/
def State.sendMsg (s : State) (h g ptr w1 : Nat) : State × Nat :=
  let w1 := w1 % 2 ^ 24 + h * 2 ^ 24 + s.epochOf h * 2 ^ 30
  if !s.domOn (agentDom g) || (g < 34 && (s.coreState g == CoreState.resetting || s.coreState g == CoreState.off)) then
    ((s.inc F.MBX.MBX_CNT0_DOWN_CNT).raise F.MBX.EVT_DOWN, Sync.down)
  else
    let peer := s.mbx.peer.contains (h, g)
    let s := { s with mbx := { s.mbx with peer := s.mbx.peer.filter (· != (h, g)) } }
    let box := s.inboxOf g
    let real := 4 ≤ box.length
    let inj := s.injHit 11 g
    let s := s.injTake 11 g
    let full := real || inj
    let kept := if full then box.dropLast else box
    let s := s.when full (·.collide g box.getLast? (inj && !real))
    let s := s.setInbox g (kept ++ [(ptr % 2 ^ 32, w1)])
    let s := if g = Agent.mpA then s.raise F.MBX.EVT_INBOX_A else if g = Agent.mpB then s.raise F.MBX.EVT_INBOX_B else s
    (s.recvWake g, if peer then Sync.peerReset else if full then Sync.collide else Sync.ok)

/-! ## Doorbells (R452, R453) -/

/-- Agent h rings agent g's doorbell.  In Test a ring to a core whose domain is off has that domain come on (R453). -/
def State.ringBell (s : State) (h g : Nat) : State :=
  let m := s.dbPend g ||| 2 ^ h
  let s := s.setMask64 (F.MBX.DB_PEND_LO_PEND g) (F.MBX.DB_PEND_HI_PEND g) m
  if g = Agent.mpA then s.raise F.MBX.EVT_DOORBELL_A
  else if g = Agent.mpB then s.raise F.MBX.EVT_DOORBELL_B
  else if s.mode == Mode.test && !s.domOn (coreDom g) then { s with mbx := { s.mbx with ringWake := s.mbx.ringWake ++ [(g, h)] } }
  else s

/-! ## Semaphores (R457 to R461) -/

/-- A free semaphore is given to an agent; a BROKEN mark clears on the grant (R457, R461). -/
def State.giveSem (s : State) (n g : Nat) : State × Nat :=
  let st := if (s.sem n).broken then Sync.broken else Sync.ok
  (s.setSem n { s.sem n with owner := some (g, s.epochOf g), broken := false }, st)

/-- The walk of the wait-for graph from an owner (R459). -/
def State.walkFinds (s : State) (q : Nat) : Nat → Nat → Bool
  | 0, _ => false
  | k + 1, x =>
    if x = q then true
    else match s.waitsFor x with
      | some t => (match (s.sem t).owner with
        | some o => s.walkFinds q k o.1
        | none => false)
      | none => false

/-- An acquire that would close a cycle is refused (R459). -/
def State.closesCycle (s : State) (q n : Nat) : Bool :=
  match (s.sem n).owner with
  | some o => s.walkFinds q 36 o.1
  | none => false

/-- A queued acquire of a host ends (R471, R472). -/
def State.hostAcqEnds (s : State) (g code : Nat) : State :=
  let i := g - 34
  ((s.setF (F.BLY.HOST_STATUS_CODE i) code).setF (F.BLY.HOST_STATUS_QUEUED i) 0).raise (if i = 0 then F.BLY.EVT_GRANT_A else F.BLY.EVT_GRANT_B)

/-- The acquire of a waiter ends with a status: the source of a core is raised and its wait ends, or its host is told. -/
def State.acqEnds (s : State) (g code src : Nat) : State :=
  if g < 34 then (s.raiseSrc g src).coreWaitEnds g code else s.hostAcqEnds g code

/-- A semaphore passes to the head of its queue with a status, or becomes free, BROKEN where the status is (R460, R461). -/
def State.passSem (s : State) (n code : Nat) : State :=
  match (s.sem n).queue with
  | g :: l =>
    let s := s.setSem n ({ s.sem n with owner := some (g, s.epochOf g), broken := false, queue := l } : Sem).fill
    s.acqEnds g code 7
  | [] => s.setSem n { s.sem n with owner := none, broken := code == Sync.broken }

/-- A semaphore becomes BROKEN (R461). -/
def State.breakSem (s : State) (n : Nat) : State :=
  ((s.inc F.BLY.BLY_CNT1_BROKEN_CNT).raise F.BLY.EVT_BROKEN).passSem n Sync.broken

/-- A release (R460). -/
def State.release (s : State) (g n : Nat) : State × Nat :=
  if (s.sem n).owner == some (g, s.epochOf g) then (s.passSem n Sync.ok, Sync.ok)
  else ((s.inc F.BLY.BLY_CNT2_NOTOWNER_CNT).raise F.BLY.EVT_NOTOWNER, Sync.notOwner)

/-- An acquire that waits no longer is counted as timed out: TIMEOUT_CNT and detector 9 (R462). -/
def State.acqTimeout (s : State) (g : Nat) (inj : Bool) : State :=
  (s.inc F.BLY.BLY_CNT0_TIMEOUT_CNT).raiseDet F.BLY.EVT_TIMEOUT 9 g inj

/-- An acquire refused with CYCLE (R459). -/
def State.refuseCycle (s : State) (g : Nat) (inj : Bool) : State :=
  (s.inc F.BLY.BLY_CNT0_CYCLE_CNT).raiseDet F.BLY.EVT_CYCLE 10 g inj

/-- A waiter joins the queue, or beyond 8 the overflow set (R458). -/
def State.joinQueue (s : State) (g n : Nat) : State :=
  if (s.sem n).queue.length < 8 then s.setSem n { s.sem n with queue := (s.sem n).queue ++ [g] }
  else ((s.setSem n { s.sem n with ovf := (s.sem n).ovf ++ [g] }).inc F.BLY.BLY_CNT1_QOVF_CNT).raise F.BLY.EVT_QOVF

/-- ACQ and TRYACQ of semaphore n by agent g: a status, or none where the agent now waits (R457 to R459, R570). -/
def State.acquire (s : State) (g n : Nat) (wait : Bool) : State × Option Nat :=
  let s := s.when wait (·.leaveQueue g)
  let cyc := s.closesCycle g n
  if wait && s.injHit 10 g then
    let s := s.injTake 10 g
    (s.refuseCycle g (!cyc), some Sync.cycle)
  else if (s.sem n).owner.isNone then
    let r := s.giveSem n g
    (r.1, some r.2)
  else if !wait then (s, some Sync.busy)
  else if cyc then (s.refuseCycle g false, some Sync.cycle)
  else if s.injHit 9 g then ((s.injTake 9 g).acqTimeout g true, some Sync.timeout)
  else (s.joinQueue g n, none)

/-! ## Barriers (R420, R421) -/

/-- Member mask of a barrier. -/
def State.barMembers (s : State) (b : Nat) : Nat := s.mask64 (F.TKC.BAR_MEM_LO_MEM b) (F.TKC.BAR_MEM_HI_MEM b)
def State.arrivedAt (s : State) (b : Nat) : List Nat := s.mbx.arrived.getD b []
def State.setArrived (s : State) (b : Nat) (l : List Nat) : State := { s with mbx := { s.mbx with arrived := setNth s.mbx.arrived b l } }

/-- The generation of a barrier closes, and every waiting member continues with a status (R420). -/
def State.barClose (s : State) (b code : Nat) : State :=
  let l := s.arrivedAt b
  let s := (s.setArrived b []).incMod (F.TKC.BAR_STATUS_GEN b)
  s.each l (fun s n => s.coreWaitEnds n code)

/-- A core arrives at a barrier: its status, or none where it now waits (R420). -/
def State.barArrive (s : State) (n b : Nat) : State × Option Nat :=
  let mem := s.barMembers b
  if !mem.testBit n then (s, some Sync.notMember)
  else
    let l := s.arrivedAt b ++ [n]
    if (maskMembers mem 34).all (fun k => l.contains k) then (s.barClose b Sync.ok, some Sync.ok)
    else (s.setArrived b l, none)

/-! ## Ends of waits (R419, R462) -/

/-- Wait limit of an agent in units of `now`; none where WAIT_TMO is 0. -/
def State.waitTmo (s : State) (g : Nat) : Option Nat :=
  if s.f (F.MBX.WAIT_TMO_TMO g) = 0 then none else some (s.f (F.MBX.WAIT_TMO_TMO g) * usU)

/-- A RECVW ends with TIMEOUT (R462). -/
def State.recvTimeout (s : State) (n : Nat) : State :=
  (((s.inc F.MBX.MBX_CNT1_RX_TMO_CNT).raise F.MBX.EVT_RECV_TIMEOUT).raiseSrc n 8).coreWaitEnds n Sync.timeout

/-- The wait timeout of core n expires in the wait it has registered; a wait that has already ended stands (R463). -/
def State.coreWaitTimeout (s : State) (n : Nat) : State :=
  if (s.core n).got.isSome then s
  else match (s.core n).wait with
    | some (.recvw _ _) => if (s.inboxOf n).isEmpty then s.recvTimeout n else s
    | some (.acq _ _) => ((s.leaveQueue n).acqTimeout n false).acqEnds n Sync.timeout 8
    | some (.bar _ _) => ((s.leaveBarrier n).raiseSrc n 8).coreWaitEnds n Sync.timeout
    | _ => s

/-- WAIT_TIMEOUT (R462): the WAIT_TMO of an agent has passed since the first issue of its wait, or since its host acquire. -/
def State.waitTimeout (s : State) (g : Nat) : State :=
  match s.waitTmo g with
  | none => s
  | some t =>
    if g < 34 then
      if (s.core g).wait.isSome && (s.core g).got.isNone then (s.advanceTo ((s.core g).waitAt + t)).coreWaitTimeout g else s
    else if s.on (F.BLY.HOST_STATUS_QUEUED (g - 34)) then
      (((s.advanceTo (s.mbx.hostAt.getD (g - 34) 0 + t)).leaveQueue g).acqTimeout g false).hostAcqEnds g Sync.timeout
    else s

/-! ## Pools (R455, R456) -/

/-- Bytes of a pool: 64-byte units, 0 read as 32,768. -/
def poolBytes (size : Nat) : Nat := 64 * (if size = 0 then 32768 else size)

/-- Whether the pool registers of agent g form a pool of message memory that overlaps no other valid or orphaned pool. -/
def State.poolFits (s : State) (g k : Nat) : Bool :=
  let lo := fun (a j : Nat) => s.f (F.MBX.POOL_BASE_BASE a j)
  let hi := fun (a j : Nat) => lo a j + poolBytes (s.f (F.MBX.POOL_CFG_SIZE a j))
  lo g k % 64 == 0 && decide (0x04000000 ≤ lo g k) && decide (hi g k ≤ 0x04200000) &&
  (List.range 36).all (fun a => [0, 1].all (fun j =>
    (a == g && j == k) || !(s.on (F.MBX.POOL_CFG_VALID a j) || s.on (F.MBX.POOL_CFG_ORPHANED a j)) ||
      decide (hi a j ≤ lo g k) || decide (hi g k ≤ lo a j)))

/-- The valid pools of a reset agent become ORPHANED (R456). -/
def State.orphanPools (s : State) (g : Nat) : State :=
  s.each [0, 1] (fun s k =>
    if s.on (F.MBX.POOL_CFG_VALID g k) && !s.on (F.MBX.POOL_CFG_ORPHANED g k) then
      (s.setF (F.MBX.POOL_CFG_ORPHANED g k) 1).raise F.MBX.EVT_ORPHAN
    else s)

/-! ## Resets (R393, R454) -/

/-- The reset of agent g: inbox, PEER_RESET pairs, epoch, waits, semaphores, barriers and pools together (R454, R420, R438). -/
def State.agentReset (s : State) (g : Nat) : State :=
  let bars := (List.range 16).filter (fun b => g < 34 && (s.barMembers b).testBit g && !(s.arrivedAt b).isEmpty)
  let s := s.setInbox g []
  let s := { s with mbx := { s.mbx with peer := s.mbx.peer.filter (fun (p : Nat × Nat) => p.2 != g) ++ (List.range 36).map (fun h => (h, g)) } }
  let s := s.incMod (epochFld g)
  let s := if g < 34 then s.withdraw g else (s.leaveQueue g).setF (F.BLY.HOST_STATUS_QUEUED (g - 34)) 0
  let s := s.each ((List.range 64).filter (fun n => ((s.sem n).owner.map Prod.fst) == some g)) State.breakSem
  let s := s.each bars (fun s b => (s.inc (F.TKC.BAR_STATUS_BROKEN_CNT b)).barClose b Sync.broken)
  s.orphanPools g

/-- C_CTRL.RESET of core n (R393): the wait is abandoned, an access in progress completes first, the registers return to their reset values,
and the transfers in flight complete without posting. -/
def State.coreReset (s : State) (n : Nat) : State :=
  let held := s.inAccess n
  let c := s.core n
  let s := s.agentReset n
  let s := s.setCoreState n CoreState.resetting
  let s := s.setF (F.TKC.C_STATUS_CAUSE n) 0
  let s := s.setCore n (if held then { s.core n with hold := c.hold } else (s.core n).cleared)
  { s with arb := { s.arb with rings := setNth s.arb.rings n [],
                               posts := s.arb.posts.map (fun p => if p.agent == n then { p with mute := true } else p) } }

/-- The data memory wipe of a core reset ends, and the core is STOPPED (R393). -/
def State.coreResetDone (s : State) (n : Nat) : State :=
  if n < 34 && s.coreState n == CoreState.resetting && (s.core n).hold.isNone then
    ({ s with mem := memClear s.mem (dmemBase n) dmemSize } : State).setCoreState n CoreState.stopped
  else s

/-- C_CTRL.STOP (R391): an open wait is abandoned with the pc naming it, an access completes first, and a running core stops at its next
allowed boundary. -/
def State.coreStop (s : State) (n : Nat) : State :=
  if !countsWdt (s.coreState n) then s
  else if s.inAccess n then s.modCore n (fun c => { c with stopReq := true })
  else if s.coreState n == CoreState.waiting || (s.core n).atBoundary then
    s.coreHalt n true
  else s.modCore n (fun c => { c with stopReq := true })

/-- The domain of core n is on, as R453 and the core's own commands need it. -/
def State.coreLive (s : State) (n : Nat) : Bool := n < 34 && s.coreState n != CoreState.off

end Sys2Proof.Machine
end

