-- ==== Sys2Proof/Machine/Arb.lean ====
section
/-! DEFINITION. The arbiter of context memory (chapter 15): requests, burst boundaries, the lottery, starvation, posted transfers and their
completions, and the error correction of the memories (R429, R395, R570). -/

namespace Sys2Proof.Machine

/-! ## Requesters and banks -/

/-- The class of a request (R430): cores, hosts and CAL are best effort, the engines and the array real time, a port by its frame's channel. -/
def reqRt (id : Nat) (vcRt : Bool) : Bool := (6 ≤ id && id ≤ 9) || (10 ≤ id && id ≤ 15 && vcRt)

/-- Tickets of a best-effort requester (R442). -/
def State.tickets (s : State) (id : Nat) : Nat := bits (s.reg (0x100B0110 + 4 * (id / 4))).toNat (8 * (id % 4) + 7) (8 * (id % 4))

def State.bank (s : State) (b : Nat) : ArbBank := Store.get s.arb.banks {} b
def State.setBank (s : State) (b : Nat) (x : ArbBank) : State := { s with arb := { s.arb with banks := Store.set s.arb.banks {} b x } }

/-- The age of a request at a count of sample-fabric cycles (R433). -/
def ArbReq.age (r : ArbReq) (cyc : Nat) : Nat := (cyc + 2 ^ 32 - r.stamp % 2 ^ 32) % 2 ^ 32

/-- One step of the LFSR (R434). -/
def lfsrStep (v : Nat) : Nat :=
  let b := (bits v 15 15 + bits v 13 13 + bits v 12 12 + bits v 10 10) % 2
  (2 * v + b) % 2 ^ 16

/-- Sixteen steps. -/
def lfsrDraw (v : Nat) : Nat := (List.range 16).foldl (fun x _ => lfsrStep x) v

/-- The oldest of a list of requests; equal stamps go to the lower requester (R433). -/
def oldestReq (cyc : Nat) (l : List ArbReq) : Option ArbReq :=
  l.foldl (fun (b : Option ArbReq) r => match b with
    | some o => if o.age cyc < r.age cyc ∨ (o.age cyc = r.age cyc ∧ r.id < o.id) then some r else b
    | none => some r) none

/-- The requests that take part in a decision: of each requester only its oldest (R433). -/
def leadReqs (cyc : Nat) (l : List ArbReq) : List ArbReq :=
  (List.range 19).filterMap (fun id => oldestReq cyc (l.filter (fun r => r.id == id)))

/-- The lottery winner among the best-effort requests of a bank, after a draw (R434). -/
def State.lottery (s : State) (cyc : Nat) (be : List ArbReq) : Option ArbReq :=
  let v := s.f F.ARB.LFSR_STATE_STATE
  let lead := leadReqs cyc be
  let t := (lead.map (fun r => s.tickets r.id)).sum
  if t = 0 then oldestReq cyc be
  else
    let r := v * t / 2 ^ 16
    (lead.foldl (fun (acc : Nat × Option ArbReq) q =>
      let sum := acc.1 + s.tickets q.id
      (sum, if acc.2.isNone && decide (r < sum) then some q else acc.2)) (0, none)).2

/-- A wait ends in a grant: MAX_WAIT keeps the longest wait of its class in units of 64 cycles (R439). -/
def State.noteWait (s : State) (r : ArbReq) (cyc : Nat) : State :=
  let x := if r.rt then F.ARB.MAX_WAIT_RT else F.ARB.MAX_WAIT_BE
  s.setF x (max (s.f x) (min (r.age cyc / 64) 0xFFFF))

/-- A request is granted the bank. -/
def State.grantReq (s : State) (b cyc : Nat) (r : ArbReq) (rtRun : Nat) : State :=
  (s.setBank b { waiting := (s.bank b).waiting.erase r, owner := some r.id, rtRun := rtRun }).noteWait r cyc

/-- The decision of R435 at a burst boundary of a bank with waiting requests; a bank without them falls idle.  Once ARB has stopped for a rest entry it grants nothing
(R55). -/
def State.burstBoundary (s : State) (b cyc : Nat) : State :=
  let x := s.bank b
  let rt := x.waiting.filter (fun r => r.rt)
  let be := x.waiting.filter (fun r => !r.rt)
  if s.resting 17 then s.setBank b { x with owner := none }
  else if rt ≠ [] ∧ (be = [] ∨ x.rtRun < 15) then
    match oldestReq cyc rt with
    | some r => s.grantReq b cyc r (if be = [] then 0 else x.rtRun + 1)
    | none => s
  else if be ≠ [] then
    let s := s.setF F.ARB.LFSR_STATE_STATE (lfsrDraw (s.f F.ARB.LFSR_STATE_STATE))
    match s.lottery cyc be with
    | some r => (s.when (decide (rt ≠ [])) (·.inc F.ARB.ARB_CNT0_FLOOR_CNT)).grantReq b cyc r 0
    | none => s
  else s.setBank b { x with owner := none, rtRun := 0 }

/-! ## Starvation (R439) -/

/-- A waiting request's age has passed the threshold of its class; a threshold of 0 disables it. -/
def State.isStarved (s : State) (cyc : Nat) (r : ArbReq) : Bool :=
  let t := 64 * (if r.rt then s.f F.ARB.ARB_CFG_THRESH_RT else s.f F.ARB.ARB_CFG_THRESH_BE)
  t != 0 && t < r.age cyc && !r.starved

/-- A starvation is flagged, counted and raised: an occurrence of detector 12. -/
def State.flagStarve (s : State) (r : ArbReq) (inj : Bool) : State :=
  let s := s.setF F.ARB.STARVE_FLAG (s.f F.ARB.STARVE_FLAG ||| 2 ^ r.id)
  (s.inc F.ARB.ARB_CNT1_STARVE_CNT).raiseDet (if r.rt then F.ARB.EVT_STARVE_RT else F.ARB.EVT_STARVE_BE) 12 r.id inj

/-- STARVE: the requests of a bank whose age exceeds their threshold at a count of cycles are flagged, each once. -/
def State.starve (s : State) (b cyc : Nat) : State :=
  let x := s.bank b
  let hit := x.waiting.filter (s.isStarved cyc)
  let s1 := s.setBank b { x with waiting := x.waiting.map (fun r => if s.isStarved cyc r then { r with starved := true } else r) }
  s1.each hit (fun s' r => s'.flagStarve r false)

/-! ## Requests (R431, R433, R436) -/

/-- A request that is not granted is parked, counted once where the queue of 16 is full; an injected starvation acts on a wait (R436, R570). -/
def State.parkReq (s : State) (b : Nat) (r : ArbReq) : State :=
  let x := s.bank b
  let s := s.when (decide (16 ≤ x.waiting.length)) (fun s => (s.inc F.ARB.ARB_CNT0_QFULL_CNT).raise F.ARB.EVT_QFULL)
  let inj := s.injHit 12 r.id
  let s := (s.injTake 12 r.id).when inj (·.flagStarve r true)
  s.setBank b { x with waiting := x.waiting ++ [{ r with starved := inj }] }

/-- ARB refuses an access of n bytes by a core or a host before arbitration (R431). -/
def State.ctxRefused (s : State) (a n : Nat) (write : Bool) : Bool := (write && s.inHeader a n) || s.inWgtBuf a n

/-- Requesters that stand for cores and hosts. -/
def reqIsAgent (id : Nat) : Bool := id ≤ 5 || id == 16 || id == 17

/-- The bursts of a transfer of n beats at an address: none of them crosses a 1 KB boundary, and so none is longer than 16 beats (R428).  `k` bounds their number. -/
def burstsOf : Nat → Nat → Nat → List (Nat × Nat)
  | 0, _, _ => []
  | k + 1, a, n =>
    let m := min n (16 - a / 64 % 16)
    if n = 0 then [] else (a, m) :: burstsOf k (a / 64 * 64 + 64 * m) (n - m)

/-- A burst reaches its bank: an idle bank without waiting requests grants it in the next cycle, else it is parked (R435, R436). -/
def State.burstRequest (s : State) (id : Nat) (rt : Bool) (cyc : Nat) (q : Nat × Nat) : State :=
  let b := q.1 / 0x80000
  let x := s.bank b
  let r : ArbReq := { id := id, rt := rt, stamp := cyc % 2 ^ 32, beats := q.2 }
  if x.owner.isNone && x.waiting.isEmpty && !s.resting 17 then s.setBank b { x with owner := some id, rtRun := 0 }
  else s.parkReq b r

/-- ARB_REQUEST: a transfer of a requester at an address reaches ARB at a count of cycles; its requester splits it into bursts, and each is arbitrated on its own (R428,
R431, R433, R436).  A transfer that leaves context memory is refused (R427). -/
def State.arbRequest (s : State) (id a : Nat) (write vcRt : Bool) (beats cyc : Nat) : State :=
  if 18 < id ∨ 0x03000000 < a / 64 * 64 + 64 * beats ∨ !s.domOn Dom.ctx ∨ s.wiping ∨ (reqIsAgent id && s.ctxRefused a (64 * beats) write) then s
  else s.each (burstsOf beats a beats) (State.burstRequest · id (reqRt id vcRt) cyc)

/-- BANK_STATUS as read (R442). -/
def State.bankStatus (s : State) : Nat :=
  let x := s.bank (s.f F.ARB.BANK_SEL_BANK)
  2 ^ 16 * min 16 x.waiting.length + 2 ^ 8 * x.rtRun + x.owner.getD 0x1F

/-! ## Error correction -/

/-- The error an access to n bytes at an address finds: none, single-bit or uncorrectable; an armed injection of detectors 0 to 2 on a byte
of it is consumed (R570). -/
def State.injEcc (s : State) (a n : Nat) : Option Injection :=
  s.flt.injs.find? (fun i => i.det ≤ 2 && decide (a ≤ i.addr) && decide (i.addr < a + n))

def State.dropInj (s : State) (i : Injection) : State := { s with flt := { s.flt with injs := s.flt.injs.erase i } }

/-- A read of context memory of n bytes: whether it is uncorrectable (R429). -/
def State.ctxEcc (s : State) (a n : Nat) : State × Bool :=
  match s.injEcc a n with
  | none => (s, false)
  | some i =>
    let s := s.dropInj i
    if i.double then
      (((s.inc F.ARB.ECC_CNT_UE_CNT).setF F.ARB.ECC_LOG_ADDR i.addr).raiseDet F.ARB.EVT_ECC_UE 1 0 true, true)
    else ((s.inc F.ARB.ECC_CNT_CE_CNT).raiseDet F.ARB.EVT_ECC_CE 0 0 true, false)

/-- A read of a memory of core k: a single-bit error is counted in its ECC_CNT (R395). -/
def State.coreEcc (s : State) (k a n : Nat) : State × Bool :=
  match s.injEcc a n with
  | none => (s, false)
  | some i => if i.double then (s.dropInj i, true) else ((s.dropInj i).inc (F.TKC.C_CNT1_ECC_CNT k), false)

/-! ## Posted transfers (R437, R438) -/

/-- Bytes of a posted transfer. -/
def ArbPost.bytes (p : ArbPost) : Nat := 64 * p.beats

/-- Ring entries an agent has not read, and its transfers in flight. -/
def State.postUnread (s : State) (g : Nat) : Nat := (s.arb.rings.getD g []).length
def State.postOut (s : State) (g : Nat) : Nat := (s.arb.posts.filter (fun (p : ArbPost) => p.agent == g)).length

/-- The data memory address of POST_LOC, in the global map: a core may name its own data memory there or at its local window (R437). -/
def localAddr (g a : Nat) : Nat := if g < 34 && 0x0F000000 ≤ a && a < 0x0F040000 then dmemBase g + (a - 0x0F000000) else a

/-- POST_LOC with its length lies where R437 allows it. -/
def postLocOk (g a n : Nat) : Bool :=
  let x := localAddr g a
  (decide (0x04000000 ≤ x) && decide (x + n ≤ 0x04200000)) ||
  (decide (g < 34) && decide (dmemBase g ≤ x) && decide (x + n ≤ dmemBase g + dmemSize))

/-- The refusal code of a posted transfer: 0 none, 1 FULL, 2 ALIGN, 3 RANGE (R437). -/
def State.postCode (s : State) (p : ArbPost) : Nat :=
  if 16 ≤ s.postOut p.agent + s.postUnread p.agent then 1
  else if p.ctx % 64 ≠ 0 ∨ p.loc % 64 ≠ 0 then 2
  else if 0x03000000 ≤ p.ctx ∨ 1024 < p.ctx % 1024 + p.bytes ∨ !postLocOk p.agent p.loc p.bytes then 3
  else 0

/-- A write of POST_CMD launches the transfer of agent g, or refuses it (R437). -/
def State.postCmd (s : State) (g w : Nat) : State :=
  let p : ArbPost := { agent := g, ctx := s.f (F.ARB.POST_CTX_ADDR g), loc := s.f (F.ARB.POST_LOC_ADDR g), write := w.testBit 31,
                       beats := bits w 3 0 + 1, tag := bits w 23 16 }
  let code := s.postCode p
  if code = 0 then { s with arb := { s.arb with posts := s.arb.posts ++ [p] } }
  else ((s.setF (F.ARB.POST_STATUS_CODE g) code).inc F.ARB.ARB_CNT1_POST_REFUSE_CNT).raise F.ARB.EVT_POST_REFUSED

/-- An entry enters an agent's completion ring (R438). -/
def State.postEntry (s : State) (p : ArbPost) (st : Nat) : State :=
  let e := 2 ^ 31 + p.ctx / 0x80000 * 2 ^ 24 + p.tag * 2 ^ 16 + st * 2 ^ 8
  let s := { s with arb := { s.arb with rings := modNth s.arb.rings p.agent (· ++ [e]) } }
  if p.agent = Agent.mpA then s.raise F.ARB.EVT_COMP_A else if p.agent = Agent.mpB then s.raise F.ARB.EVT_COMP_B else s

/-- The data of a posted transfer moves: status 0 OK, 1 ECC, 2 ERROR where ARB or the local memory refuses it. -/
def State.postMove (s : State) (p : ArbPost) : State × Nat :=
  let loc := localAddr p.agent p.loc
  let lost := p.agent < 34 && 0x06000000 ≤ loc && (s.coreState p.agent == CoreState.resetting || s.coreState p.agent == CoreState.off)
  if s.wiping || s.ctxRefused p.ctx p.bytes p.write || s.bootLocks (if p.write then p.ctx else loc) p.bytes || lost then (s, 2)
  else if p.write then
    let r := if 0x06000000 ≤ loc then s.coreEcc p.agent loc p.bytes else (s, false)
    if r.2 then (r.1, 1)
    else
      let m := memWrite r.1.mem p.ctx (memRead r.1.mem loc p.bytes)
      ({ r.1 with mem := m }, 0)
  else
    let r := s.ctxEcc p.ctx p.bytes
    if r.2 then (r.1, 1)
    else
      let m := memWrite r.1.mem loc (memRead r.1.mem p.ctx p.bytes)
      ({ r.1 with mem := m }, 0)

/-- POST_COMPLETE: the k-th transfer in flight of agent g completes; after a reset of its core it posts nothing (R438). -/
def State.postComplete (s : State) (g k : Nat) : State :=
  match (s.arb.posts.filter (fun (p : ArbPost) => p.agent == g))[k]? with
  | none => s
  | some p =>
    let r := ({ s with arb := { s.arb with posts := s.arb.posts.erase p } } : State).postMove p
    if p.mute then r.1 else r.1.postEntry p r.2

/-- A read of COMP_POP returns and removes the oldest entry of agent g; 0 when the ring is empty (R438). -/
def State.compPop (s : State) (g : Nat) : State × Nat :=
  match s.arb.rings.getD g [] with
  | [] => (s, 0)
  | e :: l => ({ s with arb := { s.arb with rings := setNth s.arb.rings g l } }, e)

end Sys2Proof.Machine
end

