-- ==== Sys2Proof/Machine/Cal.lean ====
section
/-! DEFINITION. Calibration (chapter 17): stored sets and their baseline, ramps, full and in-service runs and their results, and pending bits. -/

namespace Sys2Proof.Machine

/-! ## Ramps (R477, R479) -/

/-- The end of a phase ramp on the shorter arc from its start (R479), over a divisor. -/
def shorterArc (den : Nat) (a b : Int) : Int :=
  let turn : Int := 65536 * (den : Int)
  let d := (b - a) % turn
  a + (if 2 * d ≤ turn then d else d - turn)

/-- A new value of kind k on path p enters the ramp from the value in effect, shifted by what a new baseline takes over (R477, R479); both are over kindDen. -/
def State.startRamp (s : State) (k p : Nat) (new shift : List Int) : State :=
  let e := s.inEffect k p
  let m : Int := ((e.2 / kindDen k : Nat) : Int)
  let old := (List.range (kindSize k)).map (fun i => e.1.getD i 0 + m * shift.getD i 0)
  let fin := (List.range (kindSize k)).map (fun i =>
    let v := m * new.getD i 0
    if isPhase k i then shorterArc e.2 (old.getD i 0) v else v)
  let r : Ramp := { kind := k, path := p, old := old, new := fin, den := e.2, total := s.rampSteps, ready := s.now }
  { s with cal := { s.cal with ramps := s.cal.ramps.filter (fun r => !r.isOf k p) ++ [r] } }

/-- At a weight instant each ramp under way, or whose result is at least 2.0 µs old, takes its step for the slot being computed (R479). -/
def State.rampPlan (s : State) : State :=
  { s with cal := { s.cal with ramps := s.cal.ramps.map (fun r =>
      if 0 < r.step ∨ 0 < r.next ∨ r.ready + 2 * usU ≤ s.now then { r with next := min (r.next + 1) r.total } else r) } }

/-- RAMP_STEP: at its boundary the slot takes the steps it was computed with. -/
def State.rampStep (s : State) : State :=
  { s with cal := { s.cal with ramps := s.cal.ramps.map (fun r => { r with step := r.next }) } }

/-- Words 0 to 5 of the reciprocity entry of path p as read (R488), rounded down. -/
def State.recipWord (s : State) (p w : Nat) : Nat :=
  match s.rampOf 5 p with
  | none => if w = 5 then b2n (s.recipValid p) * 2 ^ 31 else 0
  | some r =>
    let q := fun (i : Nat) => r.after r.step i / ((r.den * r.total : Nat) : Int)
    if w < 4 then code 16 (q (2 * w)) * 2 ^ 16 + code 16 (q (2 * w + 1))
    else if w = 4 then code 32 (q 8)
    else b2n (s.recipValid p) * 2 ^ 31 + min 255 (r.total - r.step)

/-! ## Pending bits (R478) -/

def State.pendRx (s : State) : Nat := s.mask64 F.CAL.PEND_RX_LO_PEND F.CAL.PEND_RX_HI_PEND
def State.pendTx (s : State) : Nat := s.mask64 F.CAL.PEND_TX_LO_PEND F.CAL.PEND_TX_HI_PEND
def State.setPendRx (s : State) (m : Nat) : State := s.setMask64 F.CAL.PEND_RX_LO_PEND F.CAL.PEND_RX_HI_PEND m
def State.setPendTx (s : State) (m : Nat) : State := s.setMask64 F.CAL.PEND_TX_LO_PEND F.CAL.PEND_TX_HI_PEND m
def State.recipMask (s : State) : Nat := s.mask64 F.CAL.RECIP_VALID_LO_VALID F.CAL.RECIP_VALID_HI_VALID
def State.setRecipMask (s : State) (m : Nat) : State := s.setMask64 F.CAL.RECIP_VALID_LO_VALID F.CAL.RECIP_VALID_HI_VALID m

/-- A temperature has moved by more than k × THRESH (0.1 °C units against 1/16 °C). -/
def State.movedBy (s : State) (k : Nat) (a b : Int) : Bool := decide (k * s.f F.CAL.CAL_CFG_THRESH * 16 < (a - b).natAbs * 10)

/-- A RECIP entry ages: its bit clears and RECIP_AGED is raised; the entry stays in use (R478). -/
def State.recipAge (s : State) (p : Nat) : State := (s.setRecipMask (s.recipMask &&& (2 ^ 64 - 1 - 2 ^ p))).raise F.CAL.EVT_RECIP_AGED

/-- A reading of a sensor is kept for the baseline, and compared with the temperatures of the last runs of the paths of its groups (R476, R478). -/
def State.calReading (s : State) (x : Nat) : State :=
  let t := s.sensorTemp x
  let s := { s with cal := { s.cal with reads := s.cal.reads ++ [(x, s.now, t)] } }
  s.each (List.range 64) (fun s p =>
    let rx := s.groupSensor (p / 8) == x
    let tx := s.groupSensor (8 + p / 8) == x
    let hitRx := rx && s.movedBy 1 t (s.fi (F.CAL.P_TEMP_T_RX_LAST p))
    let hitTx := tx && s.movedBy 1 t (s.fi (F.CAL.P_TEMP_T_TX_LAST p))
    let s := s.when hitRx (fun s => (s.setPendRx (s.pendRx ||| 2 ^ p)).raise F.CAL.EVT_CAL_PEND)
    let s := s.when hitTx (fun s => (s.setPendTx (s.pendTx ||| 2 ^ p)).raise F.CAL.EVT_CAL_PEND)
    let aged := (rx && s.movedBy 2 t (s.fi (F.CAL.RECIP_TEMP_T_RX_RUN p))) || (tx && s.movedBy 2 t (s.fi (F.CAL.RECIP_TEMP_T_TX_RUN p)))
    s.when (s.recipValid p && aged) (·.recipAge p))

/-! ## Results (R477, R481, R483) -/

/-- CAL_STATUS.STATE follows what runs: 1 a full run, 2 an in-service run (R486). -/
def State.calShow (s : State) : State :=
  if s.f F.CAL.CAL_STATUS_STATE = 1 then s else s.setF F.CAL.CAL_STATUS_STATE (if s.cal.runs.isEmpty then 0 else 2)

/-- A path-run fails (R483). -/
def State.calFail (s : State) (p code : Nat) : State :=
  ((((s.setF F.CAL.CAL_STATUS_FAIL_CODE code).setF F.CAL.CAL_STATUS_FAIL_PATH p).inc F.CAL.CAL_CNT_FAIL_CNT).raise F.CAL.EVT_CAL_FAIL)

/-- A path-run completes: RUNS, the time of completion and RUN_DONE (R483, R487). -/
def State.calDone (s : State) (k : Nat) : State :=
  let s := s.incMod (F.CAL.KIND_RUNS_RUNS k)
  let s := (s.setF (F.CAL.KIND_LAST_FRAME k) s.logFrame).setF (F.CAL.KIND_LAST_SLOT k) s.slotOfFrame
  (s.setF (F.CAL.KIND_LAST_TB0_TB0 k) (s.tb 0).ns).raise F.CAL.EVT_RUN_DONE

/-- The result of a path-run enters the ramp: the delta from the baseline at the path temperature, or the measurement of RECIP (R477); the pending bit of RX_EQ
and TX_EQ clears (R478). -/
def State.calEnter (s : State) (k p : Nat) (v : List Int) : State :=
  let t := s.pathTemp k p
  let new := (List.range (kindSize k)).map (fun i => if k = 5 then v.getD i 0 else 960 * v.getD i 0 - baseline960 s.cal.set k p i t)
  let s := (s.startRamp k p new []).calDone k
  if k = 2 then (s.setPendRx (s.pendRx &&& (2 ^ 64 - 1 - 2 ^ p))).setFi (F.CAL.P_TEMP_T_RX_LAST p) t
  else if k = 3 then (s.setPendTx (s.pendTx &&& (2 ^ 64 - 1 - 2 ^ p))).setFi (F.CAL.P_TEMP_T_TX_LAST p) t
  else if k = 5 then
    ((s.setRecipMask (s.recipMask ||| 2 ^ p)).setFi (F.CAL.RECIP_TEMP_T_RX_RUN p) t).setFi (F.CAL.RECIP_TEMP_T_TX_RUN p) (s.pathTemp 3 p)
  else s

/-! ## The legs of a run (R482, R483) -/

/-- The run measures in symbol k of its slot, and its TX leg does. -/
def CalRun.covers (r : CalRun) (c n k : Nat) : Bool := r.carrier == c && r.slot == n && decide (r.trig ≤ k) && decide (k < r.trig + r.nsym)
def CalRun.txLeg (r : CalRun) (k : Nat) : Bool := r.kind == 3 || (r.kind == 5 && decide (k < r.trig + r.nsym / 2))

/-- The code with which a run fails as a symbol of it begins, 0 for none: SYNTH, NO_TX or MUTED (R483). -/
def State.legBegins (s : State) (r : CalRun) (n k : Nat) : Nat :=
  let named := (List.range 4).any (fun d => (s.txMask d n k).testBit r.path)
  if !s.clockOk then 4
  else if r.txLeg k && !named then 1
  else if r.txLeg k && s.muteCause r.path r.carrier != 0 then 2
  else 0

/-- The code with which a run fails as a symbol of it ends, 0 for none: the clock settled or was unlocked, or the path was muted or in fault, at some time in it (R483). -/
def State.legEnds (s : State) (r : CalRun) (n k : Nat) : Nat :=
  let w := s.symSpan r.carrier n k
  if s.clockBad w.1 then 4
  else if r.txLeg k && (s.on (F.TXP.P_STATUS_FAULT r.path) || (s.txp r.path).mutes.any (fun m => m.2.2 && decide (m.1 < w.2) && decide (w.1 < m.2.1))) then 2
  else 0

/-- The runs of a carrier that measure in symbol k of slot n note why they fail; the first reason stands. -/
def State.legMark (s : State) (c n k : Nat) (why : CalRun → Nat → Nat → Nat) : State :=
  { s with cal := { s.cal with runs := s.cal.runs.map (fun r => if r.covers c n k && r.fail == 0 then { r with fail := why r n k } else r) } }

/-! ## Reciprocity (R481) -/

/-- A reciprocity measurement of path p from the tone responses of its legs, as the entry holds it: gain in 0.01 dB and phase in 2^-16 turn of every carrier, and the delay. -/
def State.recipFit (s : State) (p : Nat) (legs : List Int) : List Int :=
  let tap := s.activeCal 4 p
  let ncos := ((List.range 4).filter s.carEn).map (fun (c : Nat) => ((c : Int), (s.ncoW c : Int)))
  let q := Config.recipFit ((tap.2 : Int) :: tap.1) ncos s.fsHz legs
  (List.range 9).map (fun i => if i = 8 then satS 32 (q i) else if i % 2 = 0 then satS 16 (q i) else q i % 65536)

/-- The two measurements of a run agree on every enabled carrier within TOL_G and TOL_PH, and the gain lies within 6 dB of the stored expectation (R481). -/
def State.recipAgrees (s : State) (p : Nat) (a b : List Int) : Bool :=
  ((List.range 4).filter s.carEn).all (fun c =>
    let d := ((a.getD (2 * c + 1) 0 - b.getD (2 * c + 1) 0) % 65536).toNat
    decide ((a.getD (2 * c) 0 - b.getD (2 * c) 0).natAbs ≤ 5 * s.f F.CAL.CAL_TOL_TOL_G) &&
    decide (min d (65536 - d) * 3600 ≤ 65536 * s.f F.CAL.CAL_TOL_TOL_PH) &&
    decide ((a.getD (2 * c) 0 - Config.recipExpected p c).natAbs ≤ 600))

/-- The values of a path-run of kind k, from what was measured: for RECIP, both measurements' tone responses, one after the other, which give the first measurement's
entry, or none where R481 refuses it. -/
def State.calValues (s : State) (k p : Nat) (v : List Int) : Option (List Int) :=
  if k = 5 then
    let a := s.recipFit p (v.take (v.length / 2))
    if s.recipAgrees p a (s.recipFit p (v.drop (v.length / 2))) then some a else none
  else some v

/-- A path-run ends: with the code of a failure noted in its symbols, with SAT where an ORX capture saturated, with TOL where R481 refuses the result, else with its values
(R481, R483). -/
def State.calEnds (s : State) (k p noted : Nat) (sat : Bool) (v : List Int) : State :=
  if noted ≠ 0 then s.calFail p noted
  else if sat then s.calFail p 3
  else match s.calValues k p v with
    | some x => s.calEnter k p x
    | none => s.calFail p 7

/-- CAL_RESULT: a path-run of a kind completes with what was measured, or with SAT where a capture saturated (code 3).  An in-service run completes after its last symbol
(R483). -/
def State.calResult (s : State) (k p fail : Nat) (v : List Int) : State :=
  match s.cal.fullRuns.find? (fun r => r.1 == k && r.2.1 == p) with
  | some r =>
    let tx := k == 3 || k == 5
    let noted := if !s.clockOk then 4
      else if tx && (s.on (F.TXP.P_STATUS_FAULT p) || (s.f F.THM.THM_STATUS_MUTED).testBit (p / 8)) then 2 else 0
    ({ s with cal := { s.cal with fullRuns := s.cal.fullRuns.erase r } } : State).calEnds k p noted (fail == 3) v
  | none =>
    match s.cal.runs.find? (fun r => r.kind == k && r.path == p) with
    | some r =>
      let last := r.trig + r.nsym - 1
      let s := s.advanceTo (s.symSpan r.carrier r.slot last).2
      let noted := if r.fail ≠ 0 then r.fail else s.legEnds r r.slot last
      (({ s with cal := { s.cal with runs := s.cal.runs.erase r } } : State).calEnds k p noted (fail == 3) v).calShow
    | none => s

/-! ## Full run (R480) -/

/-- A full run is in progress. -/
def State.fullRun (s : State) : Bool := s.f F.CAL.CAL_STATUS_STATE == 1

/-- Kind measured in a slot of the full run; the first RECIP slot gives no result of its own. -/
def fullKind (slot : Nat) : Option Nat := [some 0, some 1, some 2, some 3, none, some 5].getD (slot % 6) none

/-- Whether a path takes part in a kind: its receive side and its transmit side enabled as the kind needs them. -/
def State.calTakes (s : State) (k p : Nat) : Bool :=
  (k == 1 || k == 3 || s.rxEnabled p) && (k == 0 || k == 2 || s.txEnabled p)

/-- DACs and switches in a slot of the full run: in the slots of TX_CONV the DAC of the path under measurement drives its internal load with the switch open, in those of
TX_EQ and RECIP its output; every other DAC presents its quiet code with the switch open (R256, R480). -/
def State.fullOutputs (s : State) (slot : Nat) : State :=
  s.each (List.range 64) (fun s p =>
    let k := [0, 1, 2, 3, 5, 5].getD (slot % 6) 0
    let loop := p % 8 == slot / 6 && (k == 1 || k == 3 || k == 5) && s.calTakes k p && !s.on (F.TXP.P_STATUS_FAULT p)
    (s.setTxp p { s.txp p with dac := if loop then 3 else min 1 (s.txp p).dac }).setF (F.TXP.P_STATUS_SWITCH p) (b2n (loop && k != 1)))

/-- A slot of the full run begins: each ORX runs one kind on one tap. -/
def State.fullSlot (s : State) (slot : Nat) : State :=
  let s := (s.setF F.CAL.CAL_STATUS_FULL_SLOT slot).fullOutputs slot
  let keep := s.cal.fullRuns.filter (fun r => decide (slot ≤ r.2.2 + 1))
  let more := match fullKind slot with
    | some k => ((List.range 8).map (fun o => 8 * o + slot / 6)).filter (s.calTakes k) |>.map (fun p => (k, p, slot))
    | none => []
  { s with cal := { s.cal with fullRuns := keep ++ more } }

/-- Start a full run: the paths' receive side is held (R223). -/
def State.fullStart (s : State) : State :=
  let s := { s with cal := { s.cal with fullAt := none, autoWait := false } }
  (s.setF F.CAL.CAL_STATUS_STATE 1).fullSlot 0

/-- The full run ends after its 48 slots. -/
def State.fullDone (s : State) : State :=
  (((s.setF F.CAL.CAL_STATUS_STATE 0).calShow).txQuiet 1).raise F.CAL.EVT_FULL_DONE

/-- A change of mode leaves a full run, and in-service runs fail with ABORT (R480, R483). -/
def State.calModeChange (s : State) : State :=
  let s := if s.fullRun then
      let s := ({ s with cal := { s.cal with fullRuns := [] } } : State).txQuiet 1
      ((s.setF F.CAL.CAL_STATUS_STATE 0).inc F.CAL.CAL_CNT_ABORT_CNT).raise F.CAL.EVT_RUN_ABORT
    else s
  let rs := s.cal.runs
  let s1 := { s with cal := { s.cal with runs := [], fullAt := none, autoWait := false }, rx := { s.rx with hold := 0 } }
  (s1.each rs (fun s' r => s'.calFail r.path 6)).calShow

/-- FULL_RUN_SLOT: a slot boundary of R14 passes (R476, R480). -/
def State.calSlot (s : State) : State :=
  let s := s.calTemps
  let s := { s with cal := { s.cal with used := s.cal.used.filter (fun u => decide (s.now < u.2.1)) } }
  if s.fullRun then
    let n := s.f F.CAL.CAL_STATUS_FULL_SLOT + 1
    if n < 48 then s.fullSlot n else s.fullDone
  else if s.mode = Mode.calibrate && (s.cal.autoWait || (match s.cal.fullAt with
    | some t => decide (t + 2 * usU ≤ s.now)
    | none => false)) then s.fullStart
  else s

/-- A write of CAL_CTRL.FULL may start a run: in Calibrate, with none in progress (R480). -/
def State.fullAllowed (s : State) : Bool := s.mode == Mode.calibrate && !s.fullRun && !s.resting 3

/-- CAL_CTRL.FULL (R480). -/
def State.calFull (s : State) : State := { s with cal := { s.cal with fullAt := some s.now } }

/-- CAL_CTRL.RELOAD: the stored set enters every path and kind as a new result with no delta of its own (R475, R479). -/
def State.calReload (s : State) : State :=
  let old := s.cal.set
  let set := s.recBody 4
  let s := { s with cal := { s.cal with set := set } }
  let s := s.each (List.range 5) (fun s k => s.each (List.range 64) (fun s p =>
    let t := s.pathTemp k p
    let shift := (List.range (kindSize k)).map (fun i => baseline960 old k p i t - baseline960 set k p i t)
    s.startRamp k p [] shift))
  (s.incMod (F.CAL.KIND_RUNS_RUNS 4)).raise F.CAL.EVT_RELOADED

/-! ## In-service runs (R482) -/

/-- Modes that allow a kind (R482). -/
def State.calModeOk (s : State) (k : Nat) : Bool := s.mode == Mode.serve || (s.mode == Mode.listen && (k == 0 || k == 2))

/-- Symbols of a CAL_RUN: all of the types its kind allows; type 0 transmit, 1 receive, 2 guard (R482). -/
def State.calSymsOk (s : State) (c n trig nsym k : Nat) : Bool :=
  let kinds := fun (i : Nat) => (let w := s.symSpan c n (trig + i); s.overlapped w.1 w.2).map s.tddAbs
  let tx := fun (i : Nat) => (kinds i).all (· == 0)
  let rx := fun (i : Nat) => (kinds i).all (· != 0)
  let is := List.range nsym
  decide (trig + nsym ≤ 14) && (match k with
    | 0 | 2 => decide (2 ≤ nsym) && is.all rx
    | 3 => decide (2 ≤ nsym) && is.all tx
    | 5 => decide (4 ≤ nsym) && nsym % 2 == 0 && is.all (fun i => if i < nsym / 2 then tx i else rx i)
    | _ => false)

/-- No two paths of one ORX group. -/
def onePerGroup (mask : Nat) : Bool := (List.range 8).all (fun k => decide ((maskMembers (mask / 2 ^ (8 * k)) 8).length ≤ 1))

/-- The payload of a CAL_RUN for slot n of a carrier is well formed (R482). -/
def State.calRunOk (s : State) (c n trig : Nat) (pl : List Nat) : Bool :=
  let w0 := pl.getD 0 0
  let mask := pl.getD 1 0 + 2 ^ 32 * pl.getD 2 0
  let keep := bits w0 2 0 + 16 * bits w0 7 4
  w0 == keep && s.calSymsOk c n trig (bits w0 7 4) (bits w0 2 0) && onePerGroup mask

/-- CAL_RUN executes at its trigger symbol (R482, R483): paths whose ORX an earlier command of the slot uses fail with BUSY, a mode that does not
allow the kind fails with ABORT, and a full run leaves it without effect. -/
def State.calRun (s : State) (c n trig : Nat) (pl : List Nat) : State :=
  let w0 := pl.getD 0 0
  let k := bits w0 2 0
  let mask := pl.getD 1 0 + 2 ^ 32 * pl.getD 2 0
  if s.fullRun then s
  else
    let a := (s.symSpan c n 0).1
    let b := (s.symSpan c n 13).2
    let s := s.each (maskMembers mask 64) (fun s p =>
      if !s.calModeOk k then s.calFail p 6
      else if s.cal.used.any (fun u => decide (u.1 < b) && decide (a < u.2.1) && u.2.2 == p / 8) then s.calFail p 5
      else
        let r : CalRun := { kind := k, path := p, carrier := c, slot := n, trig := trig, nsym := bits w0 7 4 }
        { s with cal := { s.cal with runs := s.cal.runs ++ [r], used := s.cal.used ++ [(a, b, p / 8)] } })
    s.calShow

/-- A symbol begins where another ends: the legs note why they fail, and receive paths of groups under measurement are held (R482, R483). -/
def State.calSymbol (s : State) (c n k : Nat) : State :=
  let i := 14 * n + k - 1
  let s := (if n = 0 ∧ k = 0 then s else s.legMark c (i / 14) (i % 14) s.legEnds).legMark c n k s.legBegins
  let hold := (s.cal.runs.filter (fun r => r.covers c n k && !r.txLeg k)).foldl (fun m r => m ||| (255 * 2 ^ (8 * (r.path / 8)))) 0
  { s with rx := { s.rx with hold := if s.fullRun then 2 ^ 64 - 1 else hold } }

/-- The ORX held for calibration in the slot that begins: in a full run all, else those a CAL_RUN of the live tables names (R482). -/
def State.calHold (s : State) : State :=
  let mask := (s.live.filter (fun (e : CmdEntry) => e.blk == 19 && e.op == 0x600)).foldl (fun m e =>
    m ||| ((e.payload.getD 1 0).toNat + 2 ^ 32 * (e.payload.getD 2 0).toNat)) 0
  s.each (List.range 8) (fun s k => s.setF (F.DPD.ORX_STATUS_HELD k) (b2n (s.fullRun || bits mask (8 * k + 7) (8 * k) != 0)))

/-- CAL measures or computes, and refuses rest with BUSY (R483). -/
def State.calBusy (s : State) : Bool := s.fullRun || !s.cal.runs.isEmpty || !s.cal.fullRuns.isEmpty

/-- What the CAL registers must keep after a write (R486). -/
def State.calLegal (s : State) (off : Nat) : Bool :=
  if off = 0x100 then 1 ≤ s.f F.CAL.CAL_CFG_THRESH
  else if 0x130 ≤ off ∧ off < 0x140 then (List.range 4).all (fun k => bits (s.reg (A.CAL.CAL_TSRC ((off - 0x130) / 4))).toNat (8 * k + 7) (8 * k + 5) == 0)
  else true

/-- A reset or a wake: every delta is 0, the reciprocity table is invalid, and the stored set is the loaded record (R91, R477). -/
def State.calLoad (s : State) : State :=
  let set := s.recBody 4
  { s with cal := { set := set } }

end Sys2Proof.Machine
end

