-- ==== Sys2Proof/Machine/Clk.lean ====
section
/-! DEFINITION. The converter clock synthesiser (R489 to R495, R511): plans, switches, the settling window, loss of lock and relock. -/

namespace Sys2Proof.Machine

/-- STATE of CLK_STATUS (R511). -/
def ClkSt.off : Nat := 0
def ClkSt.locking : Nat := 1
def ClkSt.locked : Nat := 2
def ClkSt.calibrating : Nat := 3
def ClkSt.settling : Nat := 4
def ClkSt.failed : Nat := 5

def State.clkState (s : State) : Nat := s.f F.CLK.CLK_STATUS_STATE
def State.setClkState (s : State) (v : Nat) : State := s.setF F.CLK.CLK_STATUS_STATE v
def State.plan (s : State) : Nat := s.f F.CLK.CLK_STATUS_PLAN

/-- A settling window or a full calibration is open (R493). -/
def State.clkWindow (s : State) : Bool := s.clkState == ClkSt.calibrating || s.clkState == ClkSt.settling

/-- A frequency word under another converter rate, rounded with halves up (R492). -/
def rescale (w old new : Nat) : Nat := if new = 0 then w else (2 * w * old + new) / (2 * new)

/-- Every frequency word in units of a converter rate takes the rate of another plan, which comes into use (R492). -/
def State.convertWords (s : State) (plan : Nat) : State :=
  let old := s.fsHz
  let new := s.f (F.CLK.PLAN_FS_FS_KHZ plan) * 1000
  let s := s.each (List.range 4) (fun s c =>
    let w := rescale (s.ncoW c) old new % 2 ^ 48
    (s.setF (F.RXP.CAR_NCO_LO_W_LO c) (w % 2 ^ 32)).setF (F.RXP.CAR_NCO_HI_W_HI c) (w / 2 ^ 32))
  let t := rescale s.txCentre old new % 2 ^ 48
  let s := (s.setF F.TXP.TX_CENTRE_LO_W_LO (t % 2 ^ 32)).setF F.TXP.TX_CENTRE_HI_W_HI (t / 2 ^ 32)
  let s := s.setF F.NLR.NL_NCO_FREQ (rescale (s.f F.NLR.NL_NCO_FREQ) old new % 2 ^ 32)
  s.setF F.CLK.CLK_STATUS_PLAN plan

/-- Under a plan an enabled carrier or search slot would fail its checks (R491, code CARRIER). -/
def State.planBreaks (s : State) (plan : Nat) : Bool :=
  let v := s.convertWords plan
  (List.range 4).any (fun c => s.carEn c && (v.rxCheck c != 0 || v.txCheck c != 0)) ||
  (List.range 8).any (fun q => s.on (F.RAD.S_FMT_EN q) && v.raCheck q != 0)

/-- Transmit symbols in progress are muted with cause SYNTH as a settling window begins inside them (R259, R493). -/
def State.muteOngoing (s : State) (c : Nat) : State :=
  let i := s.tim.symIdx.getD c 0
  let n := (i - 1) / 14
  let k := (i - 1) % 14
  let span := s.symSpan c n k
  let named := (maskMembers (s.txMask c n k) 64).filter s.txEnabled
  let fresh := named.filter (fun p => !(s.txp p).mutes.any (fun m => m.1 == span.1 && m.2.1 == span.2))
  if !s.tlRun || !s.carEn c || i == 0 || decide (span.2 ≤ s.now) || decide (s.now ≤ span.1) || named.isEmpty then s
  else
    let s := s.each named (fun s p =>
      (s.setTxp p { s.txp p with mutes := (s.txp p).mutes ++ [(span.1, span.2, true)], dac := if (s.txp p).dac = 3 then 2 else (s.txp p).dac }).setF
        (F.TXP.P_STATUS_MUTE_CAUSE p) 1)
    if fresh.isEmpty then s
    else
      let s := s.each fresh (fun s p => s.inc (F.TXP.P_CNT_MUTE_CNT p))
      (s.muteRecord c n k 1 (fresh.foldl (fun m p => m + 2 ^ p) 0)).raise F.TXP.EVT_MUTED

/-- A window opens: 40 µs with stored calibration, 4,005 µs with full calibration (R493, R494). -/
def State.openWindow (s : State) (full : Bool) (stage : Nat) : State :=
  let s := if s.clockOk then s.each (List.range 4) State.muteOngoing else s
  ({ s with clk := { s.clk with winEnd := s.now + (if full then 4005 else 40) * usU, locked := false, stage := stage } } : State).setClkState
    (if full then ClkSt.calibrating else ClkSt.settling)

/-- PLAN_SWITCH_START (R492, R493). -/
def State.startSwitch (s : State) (plan : Nat) (full : Bool) : State :=
  let s := s.convertWords plan
  let s := { s with clk := { s.clk with armed := none } }
  (s.setF F.CLK.CLK_STATUS_ARMED 0).openWindow (full || !s.on (F.CLK.PLAN_CAL0_CAL_VALID plan)) 0

/-- Absolute index of a slot boundary named by FRAME and SLOT on the grid of R14. -/
def State.boundaryOf (s : State) (frame slot : Nat) : Nat := s.slotAbs ((s.gridScs).getD 0) frame slot

/-- The refusal code of a PLAN_SWITCH, 0 for none (R491). -/
def State.switchCode (s : State) (plan frame slot : Nat) : Nat :=
  if s.clk.armed.isSome || s.clkWindow || s.f F.PWR.REST_STATUS_STATE != 0 then 1
  else if !s.on (F.CLK.PLAN_FS_VALID plan) then 2
  else if s.tlRun && decide (s.slotInstant ((s.gridScs).getD 0) (s.boundaryOf frame slot) < s.now + 100 * usU) then 3
  else if s.planBreaks plan then 4
  else 0

/-- A write of PLAN_SWITCH (R491). -/
def State.planSwitch (s : State) (w : Nat) : State :=
  let plan := bits w 30 27
  let frame := bits w 26 17
  let slot := bits w 16 11
  let code := s.switchCode plan frame slot
  if code ≠ 0 then (s.setF F.CLK.CLK_STATUS_CODE code).raise F.CLK.EVT_SWITCH_REFUSED
  else if s.tlRun then
    ({ s with clk := { s.clk with armed := some (plan, w.testBit 31, frame, slot) } } : State).setF F.CLK.CLK_STATUS_ARMED 1
  else s.startSwitch plan (w.testBit 31)

/-- An armed switch starts at its slot boundary: the n-th of the grid of R14 (R491). -/
def State.switchSlot (s : State) (n : Nat) : State :=
  match s.clk.armed with
  | some (plan, full, frame, slot) => if s.boundaryOf frame slot = n then s.startSwitch plan full else s
  | none => s

/-- CLK_CTRL.CANCEL (R491). -/
def State.clkCancel (s : State) : State :=
  ({ s with clk := { s.clk with armed := none } } : State).setF F.CLK.CLK_STATUS_ARMED 0

/-- CLK_CTRL.SAVE (R490, R602). -/
def State.clkSave (s : State) : State := s.nvmSave 2 .clk 264

/-- CLK_CTRL.CAL: a full calibration of the present plan; none while a window is open, the synthesiser is off or CLK has stopped for a rest entry (R55, R490, R493). -/
def State.clkCal (s : State) : State :=
  if s.clkWindow || s.clkState == ClkSt.off || s.resting 19 then s else s.openWindow true 0

/-- Loss of lock: an occurrence of detector 17, and a relock from the stored calibration (R494). -/
def State.clkLost (s : State) (inj : Bool) : State :=
  ((s.inc F.CLK.CLK_CNT_UNLOCK_CNT).raiseDet F.CLK.EVT_UNLOCK 17 0 inj).openWindow false 1

/-- UNLOCK: the loop loses lock; inside a window the window runs to its end (R494, R495). -/
def State.clkUnlock (s : State) : State :=
  if s.clkState = ClkSt.locked then s.clkLost false
  else { s with clk := { s.clk with locked := false } }

/-- The converter clock is usable from now on. -/
def State.clkUsable (s : State) : State := { s.setClkState ClkSt.locked with clk := { s.clk with okSince := s.now } }

/-- SYNTH_LOCK: the loop gains lock; after the SYN domain has come on this is the first lock (R490).  Without a readable power-up record it never does (R86). -/
def State.synthLock (s : State) : State :=
  if s.on F.SYS.BOOT_STATUS_NVM_BAD ∨ s.clkState = ClkSt.off ∨ s.clkState = ClkSt.failed ∨ s.clk.locked then s
  else
    let s := { s with clk := { s.clk with locked := true } }
    let s := s.raise F.CLK.EVT_LOCKED
    if s.clkState = ClkSt.locking then s.clkUsable else s

/-- SYNTH_CAL_DONE: a full calibration completes and replaces that of the plan in use (R490). -/
def State.synthCalDone (s : State) (band trim residual : Nat) : State :=
  if s.clkState = ClkSt.calibrating then
    let p := s.plan
    let s := (s.setF (F.CLK.PLAN_CAL0_VCO_BAND p) band).setF (F.CLK.PLAN_CAL0_LOOP_TRIM p) trim
    let s := (s.setF (F.CLK.PLAN_CAL1_PHASE_RES p) residual).setF (F.CLK.PLAN_CAL0_CAL_VALID p) 1
    let s := (s.inc F.CLK.CLK_CNT_CAL_CNT).raise F.CLK.EVT_CAL_DONE
    s.setClkState ClkSt.settling
  else s

/-- SETTLING_WINDOW_END: with lock the switch is done; without it R494 applies (R493, R494). -/
def State.windowEnd (s : State) : State :=
  if s.clkWindow then
    let s := s.advanceTo s.clk.winEnd
    if s.clk.locked then s.clkUsable.raise F.CLK.EVT_SWITCH_DONE
    else if s.clk.stage = 0 then s.clkLost false
    else if s.clk.stage = 1 ∧ s.on F.CLK.CLK_CFG_AUTO_CAL then s.openWindow true 2
    else (s.setClkState ClkSt.failed).raise F.CLK.EVT_SYNTH_FAIL
  else s

/-- What the CLK registers must keep after a write (R511). -/
def State.clkLegal (s : State) (off : Nat) : Bool :=
  if 0x200 ≤ off ∧ off < 0x300 ∧ off % 0x10 = 0 then
    let f := s.f (F.CLK.PLAN_FS_FS_KHZ ((off - 0x200) / 0x10))
    decide (7500000 ≤ f) && decide (f ≤ 11800000)
  else true

/-- A plan counts as running while it is in use or armed. -/
def State.planRuns (s : State) (n : Nat) : Bool :=
  (s.clkState != ClkSt.off && s.plan == n) || (match s.clk.armed with
    | some a => a.1 == n
    | none => false)

/-- CLK refuses rest with BUSY (R495). -/
def State.clkBusy (s : State) : Bool := s.clk.armed.isSome || s.clkWindow

/-- The synthesiser is abandoned by a reset or shutdown, or switched off (R495). -/
def State.clkOff (s : State) : State := ({ s with clk := {} } : State).setClkState ClkSt.off

/-- The SYN domain comes on: locking from the stored calibration, or calibrating without one; without a readable power-up record there is no plan and it stays off
(R86, R490). -/
def State.clkOn (s : State) : State :=
  ({ s with clk := {} } : State).setClkState (if s.on F.SYS.BOOT_STATUS_NVM_BAD then ClkSt.off else ClkSt.locking)

end Sys2Proof.Machine
end

