-- ==== Sys2Proof/Machine/FrontEnd.lean ====
section
/-! DEFINITION. Front-end pins, bias DACs and coexistence wires (R496 to R504, R513), and the regulatory record (R505 to R509, R515). -/

namespace Sys2Proof.Machine

/-! ## PA_EN and TRSW (R498, R499) -/

/-- PA_EN of a path may be high (R499). -/
def State.paAllowed (s : State) (p : Nat) : Bool :=
  s.mode == Mode.serve && !s.quieting && s.txEnabled p && !s.on (F.TXP.P_STATUS_FAULT p) && !(s.f F.THM.THM_STATUS_MUTED).testBit (p / 8)

/-- Mask of the paths with a property. -/
def pathMask (ok : Nat → Bool) : Nat := ((List.range 64).filter ok).foldl (fun m p => m + 2 ^ p) 0

/-- In Calibrate the paths whose TX_EQ the full run measures have PA_EN high (R480). -/
def State.calPaths (s : State) : Nat :=
  let n := s.f F.CAL.CAL_STATUS_FULL_SLOT
  if s.fullRun && n % 6 == 3 then pathMask (fun p => p % 8 == n / 6 && s.calTakes 3 p) else 0

/-- The pins follow what lowers them at once; in Calibrate they follow the full run (R499). -/
def State.pinsFollow (s : State) : State :=
  let s := if s.aux.pa = 0 then s else { s with tim := { s.tim with nlTxAt := max s.tim.nlTxAt s.now } }
  if s.quieting then { s with aux := { s.aux with pa := 0, trsw := 0 } }
  else if s.mode = Mode.calibrate then { s with aux := { s.aux with pa := s.calPaths, trsw := s.calPaths } }
  else
    let m := pathMask s.paAllowed
    { s with aux := { s.aux with pa := s.aux.pa &&& m, trsw := s.aux.trsw &&& m } }

/-- Absolute symbol index of the grid of R14 at the present. -/
def State.symNow (s : State) : Nat :=
  match s.gridScs with
  | none => 0
  | some scs => let n := s.slotNow scs; 14 * n + symAt scs n (s.tlOff - slotStart scs n * smpU)

/-- Nominal start of symbol i of the grid of R14. -/
def State.symStartAt (s : State) (i : Nat) : Nat := s.symInstant ((s.gridScs).getD 0) (i / 14) (i % 14)

/-- The first symbol from the present on with a property, within one pattern period. -/
def State.nextSym (s : State) (ok : Nat → Bool) : Option Nat := ((List.range 1200).map (· + s.symNow)).find? ok

/-- A TX→RX turnround begins at the end of symbol i; an RX→TX turnround ends at the start of symbol i (R497). -/
def State.endsTx (s : State) (i : Nat) : Bool := s.tddAbs i == 0 && s.tddAbs (i + 1) != 0
def State.beginsTx (s : State) (i : Nat) : Bool := s.tddAbs i == 0 && 1 ≤ i && s.tddAbs (i - 1) != 0

/-- TX_RX_TURNROUND: PA_EN falls 0.7 µs and TRSW goes to the receive side 1.2 µs after the nominal end of the last D symbol (R498). -/
def State.txRxTurn (s : State) : State :=
  if s.tlRun then
    match s.nextSym (fun i => s.endsTx i && decide (s.now ≤ s.symStartAt (i + 1))) with
    | none => s
    | some i =>
      let t := s.symStartAt (i + 1)
      let s := s.advanceTo t
      { s with aux := { s.aux with pa := 0, trsw := 0, paAt := t + 7 * usU / 10, trswAt := t + 12 * usU / 10 },
               tim := { s.tim with nlTxAt := max s.tim.nlTxAt (t + 12 * usU / 10) } }
  else s

/-- RX_TX_TURNROUND: TRSW goes to the transmit side 1.6 µs and PA_EN rises 1.0 µs before the nominal start of the first D symbol (R498). -/
def State.rxTxTurn (s : State) : State :=
  if s.tlRun then
    match s.nextSym (fun i => s.beginsTx i && decide (s.now + 2 * usU ≤ s.symStartAt i)) with
    | none => s
    | some i =>
      let t := s.symStartAt i
      let s := s.advanceTo (t - 2 * usU)
      let m := pathMask s.paAllowed
      { s with aux := { s.aux with pa := m, trsw := m, paAt := t - usU, trswAt := t - 16 * usU / 10 }, tim := { s.tim with nlTxAt := max s.tim.nlTxAt t } }
  else s

/-! ## Bias DACs (R500 to R502) -/

def State.dac (s : State) (n : Nat) : BiasDac := s.aux.dacs.getD n {}
def State.setDac (s : State) (n : Nat) (x : BiasDac) : State := { s with aux := { s.aux with dacs := setNth s.aux.dacs n x } }

/-- The largest code whose output is at or below a limit in mV, for a range (R500). -/
def biasMax (range limit : Nat) : Nat := min 4095 (limit * 4096 / (if range = 0 then 1250 else 2500))

/-- Apply a value of 4,096 × RANGE + CODE to a DAC: a major transition or a range change holds the old output (R501). -/
def State.biasApply (s : State) (n v : Nat) : State :=
  let x := s.dac n
  if v / 256 = x.out / 256 then s.setDac n { x with out := v }
  else (s.setDac n { x with target := some v }).setF (F.AUX.BIAS_BUSY n) 1

/-- A write of BIASn (R500 to R502). -/
def State.biasWrite (s : State) (n w : Nat) : State :=
  let range := bits w 12 12
  let top := biasMax range (s.f (F.AUX.BIAS_LIM_LIMIT n))
  let s := if top < bits w 11 0 then (s.inc F.AUX.BIAS_CNT_BIAS_CLAMP_CNT).raise F.AUX.EVT_BIAS_CLAMP else s
  let v := 4096 * range + min top (bits w 11 0)
  let s := (s.setF (F.AUX.BIAS_RANGE n) range).setF (F.AUX.BIAS_CODE n) (v % 4096)
  if s.on (F.AUX.BIAS_HELD n) || s.quieting then s
  else if s.on (F.AUX.BIAS_BUSY n) then s.setDac n { s.dac n with queued := some v }
  else s.biasApply n v

/-- BIAS_HOLD_RELEASE: the new output is released, and a write that arrived during the hold is applied (R501). -/
def State.biasRelease (s : State) (n : Nat) : State :=
  match (s.dac n).target with
  | none => s
  | some v =>
    let q := (s.dac n).queued
    let s := (s.setDac n { out := v }).setF (F.AUX.BIAS_BUSY n) 0
    match q with
    | some u => s.biasApply n u
    | none => s

/-- A DAC takes its safe code and range, bypassing the deglitcher (R502). -/
def State.biasSafe (s : State) (n : Nat) : State :=
  (s.setDac n { out := 4096 * s.f (F.AUX.BIAS_SAFE_RANGE n) + s.f (F.AUX.BIAS_SAFE_CODE n) }).setF (F.AUX.BIAS_BUSY n) 0

/-- Every DAC takes its safe value: step 3 of R85, step 4 of R67, quiet-down and shutdown (R502). -/
def State.biasAllSafe (s : State) : State := s.each (List.range 136) State.biasSafe

/-- A DAC is safe-held: those of a path in fault, all amplifier DACs in Calibrate, and in quiet-down those that were (R502). -/
def State.biasHeld (s : State) (n : Nat) : Bool := n < 128 && (s.mode == Mode.calibrate || (s.quieting && s.on (F.AUX.BIAS_HELD n)) || s.on (F.TXP.P_STATUS_FAULT (n / 2)))

/-- Safe-holds begin and end; at the end the written value applies (R501, R502). -/
def State.biasFollow (s : State) : State :=
  s.each (List.range 128) (fun s n =>
    if s.biasHeld n then
      if s.on (F.AUX.BIAS_HELD n) then s else (s.biasSafe n).setF (F.AUX.BIAS_HELD n) 1
    else if s.on (F.AUX.BIAS_HELD n) then
      (s.setF (F.AUX.BIAS_HELD n) 0).biasApply n (4096 * s.f (F.AUX.BIAS_RANGE n) + s.f (F.AUX.BIAS_CODE n))
    else s)

/-! ## Coexistence (R503, R504) -/

/-- Pair n acts: enabled, in Serve when it asks to transmit, in Listen or Serve when it asks for quiet. -/
def State.coexActs (s : State) (n : Nat) : Bool :=
  s.on (F.AUX.COEX_CFG_EN n) && (s.mode == Mode.serve || (s.on (F.AUX.COEX_CFG_DIR n) && s.mode == Mode.listen)) && s.tlRun

/-- Instant of the next edge of COEX_REQn, LEAD µs before the turnround that opens a run of its direction, or at the end of the one that
closes it (R503). -/
def State.coexEdge (s : State) (n : Nat) (rise : Bool) : Option Nat :=
  let lead := s.f (F.AUX.COEX_CFG_LEAD n) * usU
  let from_ := fun (ok : Nat → Bool) (at_ : Nat → Nat) => (s.nextSym (fun i => ok i && decide (s.now ≤ at_ i))).map at_
  match s.on (F.AUX.COEX_CFG_DIR n), rise with
  | false, true => from_ s.beginsTx (fun i => s.symStartAt i - 2 * usU - lead)
  | false, false => from_ s.endsTx (fun i => s.symStartAt (i + 1) + 2 * usU)
  | true, true => from_ s.endsTx (fun i => s.symStartAt (i + 1) - lead)
  | true, false => from_ s.beginsTx s.symStartAt

/-- COEX_REQ_EDGE (R503). -/
def State.coexReqEdge (s : State) (n : Nat) (rise : Bool) : State :=
  if n < 2 && s.coexActs n then
    match s.coexEdge n rise with
    | none => s
    | some t =>
      let s := s.advanceTo t
      { s with aux := { s.aux with coexReq := setBits s.aux.coexReq n n (b2n rise) } }
  else s

/-- A pair that does not act asserts nothing. -/
def State.coexFollow (s : State) : State :=
  s.each [0, 1] (fun s n => if s.coexActs n then s else { s with aux := { s.aux with coexReq := setBits s.aux.coexReq n n 0 } })

/-- COEX_GNT_SAMPLE: the level of COEX_GNTn 1.0 µs before the next symbol of carrier c, where that symbol is of the pair's direction (R504). -/
def State.coexSample (s : State) (n c : Nat) (level : Bool) : State :=
  if n < 2 && c < 4 && s.coexActs n && s.carEn c then
    let i := s.tim.symIdx.getD c 0
    let scs := s.carScs c
    let s := s.advanceTo (s.symInstant scs (i / 14) (i % 14) - usU)
    let w := s.symSpan c (i / 14) (i % 14)
    let dir := s.on (F.AUX.COEX_CFG_DIR n)
    let mine := if dir then s.rxAllowed w.1 w.2 else s.txAllowed w.1 w.2
    if !mine || level == s.on (F.AUX.COEX_CFG_GNT_POL n) then s
    else if dir then (s.inc (F.AUX.COEX_CNT_GNT_LOW_CNT n)).raise F.AUX.EVT_COEX_DENY
    else (({ s with tx := { s.tx with coexMute := s.tx.coexMute ||| 2 ^ (4 * n + c) } } : State).inc (F.AUX.COEX_CNT_MUTE_CNT n)).raise
      F.AUX.EVT_COEX_MUTE
  else s

/-- The samples for a symbol of carrier c are used up once the symbol has been transmitted. -/
def State.coexClear (s : State) (c : Nat) : State :=
  { s with tx := { s.tx with coexMute := s.tx.coexMute &&& (255 - 2 ^ c - 2 ^ (4 + c)) } }

/-- What the AUX registers must keep after a write (R496, R513). -/
def State.auxLegal (s : State) (off : Nat) : Bool :=
  if off = 0x100 then s.tddPeriodOk
  else if 0x110 ≤ off ∧ off < 0x200 then
    let v := s.f (F.AUX.TDD_SLOT_TYPE ((off - 0x110) / 4))
    (List.range 14).all (fun k => bits v (2 * k + 1) (2 * k) != 3)
  else if 0xC00 ≤ off ∧ off < 0x1000 then s.f (F.AUX.BIAS_LIM_LIMIT ((off - 0xC00) / 4)) ≤ 2500
  else true

/-! ## The regulatory record (R505 to R509) -/

/-- Some range is enabled. -/
def State.rangesOn (s : State) : Bool := (List.range 8).any (fun i => s.on (F.REG.RANGE_LO_EN i))

/-- The occupied band of a carrier lies wholly inside one enabled range (R506), in units of Hz × 2^48. -/
def State.rangeOk (s : State) (c : Nat) : Bool :=
  let fc := s.ncoW c * s.fsHz
  let h := 2 ^ 48 * s.halfBand c
  (List.range 8).any (fun i => s.on (F.REG.RANGE_LO_EN i) &&
    decide (s.f (F.REG.RANGE_LO_F_LO i) * 100000 * 2 ^ 48 + h ≤ fc) && decide (fc + h ≤ s.f (F.REG.RANGE_HI_F_HI i) * 100000 * 2 ^ 48))

/-- Carriers that fail the check of R506. -/
def State.rangeFails (s : State) : Nat :=
  if s.rangesOn then ((List.range 4).filter (fun c => s.carEn c && !s.rangeOk c)).foldl (fun m c => m + 2 ^ c) 0 else 0

/-- The carriers REG mutes: those outside the permitted ranges, and all once the duty limit is reached (R506, R508). -/
def State.regMuteNow (s : State) : State :=
  { s with tx := { s.tx with regMute := if s.aux.dutyMute then 15 else s.rangeFails } }

/-- RANGE_MUTE at a slot boundary: counted once per slot while a carrier fails (R506). -/
def State.rangeSlot (s : State) : State :=
  let s := s.regMuteNow
  if s.rangeFails = 0 then s else (s.inc F.REG.REG_CNT0_RANGE_CNT).raiseDet F.REG.EVT_RANGE_MUTE 20 0 false

/-- q(p) of R507: the target less the back-off, at most P_PATH; in 0.01 dBm. -/
def State.pathQ (s : State) (p : Nat) : Int :=
  min (s.fi (F.TXP.P_CTRL_P_TGT p) - 100 * (s.f (F.TXP.P_STATUS_BACKOFF p) : Int)) (s.fi F.REG.PWR_LIM_P_PATH)

/-- TOTAL_CLAMP at a slot boundary: delta over the paths that R499 allows to transmit (R507). -/
def State.totalSlot (s : State) : State :=
  let qs := ((List.range 64).filter s.paAllowed).map s.pathQ
  let d := if qs.isEmpty || s.f F.REG.PWR_LIM_P_TOTAL == 0x7FFF then 0 else Config.totalDelta qs (s.fi F.REG.PWR_LIM_P_TOTAL)
  let s := s.setF F.REG.REG_STATUS_DELTA (min d 0xFFFF)
  if d = 0 then s else (s.inc F.REG.REG_CNT1_TOTAL_CNT).raiseDet F.REG.EVT_TOTAL_CLAMP 20 0 false

/-- P_REG of a path (R507). -/
def State.pReg (s : State) (p : Nat) : Int := s.pathQ p - (s.f F.REG.REG_STATUS_DELTA : Int)

/-- The duty count has reached its limit, a part of a frame's symbols (R508). -/
def State.dutyReached (s : State) : Bool :=
  s.f F.REG.DUTY_LIM_DUTY != 0 && decide (s.f F.REG.DUTY_LIM_DUTY * (14 * slotsPerFrame ((s.gridScs).getD 0)) / 1000 ≤ s.aux.dutyCnt)

/-- Once the limit is reached, every later symbol of the frame is muted (R508). -/
def State.dutyCheck (s : State) : State :=
  if s.dutyReached then ({ s with aux := { s.aux with dutyMute := true } } : State).regMuteNow else s

/-- A frame boundary restarts the duty count (R508). -/
def State.dutyFrame (s : State) : State := (({ s with aux := { s.aux with dutyCnt := 0, dutyMute := false } } : State).regMuteNow).dutyCheck

/-- A symbol of the grid of R14 begins: it has been counted neither as transmitted nor as muted. -/
def State.dutyBegin (s : State) : State := { s with aux := { s.aux with dutySeen := 0 } }

/-- A symbol of a carrier is transmitted within the present symbol of the grid of R14: `work` where a TX_SYM names a path in it, and `sent` where not every such path is muted.
The symbol of the grid counts once, as transmitted or as muted by the duty limit (R508). -/
def State.dutySymbol (s : State) (work sent : Bool) : State :=
  if s.f F.REG.DUTY_LIM_DUTY = 0 || !work then s
  else if s.aux.dutyMute then
    if s.aux.dutySeen.testBit 1 then s
    else
      let s := { s with aux := { s.aux with dutySeen := s.aux.dutySeen ||| 2 } }
      (s.inc F.REG.REG_CNT0_DUTY_CNT).raiseDet F.REG.EVT_DUTY_MUTE 20 0 false
  else if sent && !s.aux.dutySeen.testBit 0 then
    ({ s with aux := { s.aux with dutyCnt := s.aux.dutyCnt + 1, dutySeen := s.aux.dutySeen ||| 1 } } : State).dutyCheck
  else s

/-- REG_CTRL.SAVE; ignored after Deployed (R505, R515, R603). -/
def State.regSave (s : State) : State := if s.afterDeployed then s else s.nvmSave 3 .reg 1096

/-- What the REG registers must keep after a write (R515): edges of an enabled range, limits. -/
def State.regLegal (s : State) (off : Nat) : Bool :=
  if 0x200 ≤ off ∧ off < 0x240 then
    let i := (off - 0x200) / 8
    let lo := s.f (F.REG.RANGE_LO_F_LO i)
    let hi := s.f (F.REG.RANGE_HI_F_HI i)
    if off % 8 = 0 then !s.on (F.REG.RANGE_LO_EN i) || (decide (4000 ≤ lo) && decide (lo ≤ 72000))
    else decide (hi ≤ 72000) && decide (lo < hi)
  else if off = 0x304 then s.f F.REG.DUTY_LIM_DUTY ≤ 1000
  else true

/-! ## Quiet-down (R83) -/

/-- QUIET_DOWN: every DAC to its quiet code with the switch open, the bias DACs to their safe values, PA_EN low and TRSW with it (R83, R499). -/
def State.quietDown (s : State) : State :=
  let s := (s.txQuiet 1).biasAllSafe
  { s with aux := { s.aux with pa := 0, trsw := 0 } }

end Sys2Proof.Machine
end

