-- ==== Sys2Proof/Machine/Thm.lean ====
section
/-! DEFINITION. Thermal management (chapter 19): sensor readings and their cross-check, the throttle ladder, the start of a hardware
shutdown, and the AON comparator. -/

namespace Sys2Proof.Machine

/-! ## Sensors (R516 to R519, R524 to R526) -/

/-- Sensor x is enabled. -/
def State.sensorOn (s : State) (x : Nat) : Bool := s.on (F.THM.S_CTRL_EN x)

def State.sensorFailed (s : State) (x : Nat) : Bool := s.on (F.THM.S_STATUS_FAILED x)

/-- THM measures: its domain is on and no shutdown is under way (R517, R527). -/
def State.thmRuns (s : State) : Bool := s.domOn Dom.hk && s.thm.shdn.isNone && !s.thm.off

/-- A threshold in whole °C, in 1/16 °C. -/
def State.degrees (s : State) (x : Fld) : Int := 16 * (s.f x : Int)

/-- Thresholds of sensor x in 1/16 °C (R518). -/
def State.warnAt (s : State) (x : Nat) : Int := s.degrees (F.THM.S_THR_WARN x)
def State.throtAt (s : State) (x : Nat) : Int := s.degrees (F.THM.S_THR_THROT x)
def State.shdnAt (s : State) (x : Nat) : Int := s.degrees (F.THM.S_THR_SHDN x)

/-- Latest raw values of the usable neighbours of a sensor: enabled, not failed and read before (R524). -/
def State.neighbours (s : State) (x : Nat) : List Int :=
  let w := s.f (F.THM.S_NBR_NBR x)
  let ids := ((List.range 4).map (fun j => bits w (8 * j + 7) (8 * j))).filter (fun b => b.testBit 7)
  ((ids.map (· % 64)).filter (fun n => decide (n < 48) && s.sensorOn n && !s.sensorFailed n && s.thm.seen.contains n)).map
    (fun n => s.fi (F.THM.S_TEMP_RAW n))

/-- A raw value deviates from the neighbours by more than 15 °C (R524). -/
def deviates (raw : Int) (nb : List Int) : Bool := nb.all (fun v => v + 240 < raw) || nb.all (fun v => raw < v - 240)

/-- Highest value of a list that is not empty. -/
def topOf : List Int → Option Int
  | [] => none
  | v :: l => some (l.foldl max v)

/-- State of a sensor after a reading of T (R519); a deviating or failed sensor never goes down (R519, R525).  The first reading after FAIL_CLR sets the state afresh (R526). -/
def State.sensorNext (s : State) (x : Nat) (t : Int) (up : Bool) : Nat :=
  let st := if !up && s.thm.fresh.contains x then 0 else s.f (F.THM.S_STATUS_STATE x)
  if s.throtAt x ≤ t then 2
  else if st = 0 ∧ s.warnAt x ≤ t then 1
  else if up then st
  else if st = 2 ∧ t < s.throtAt x - s.degrees (F.THM.S_THR_HYST_T x) then 1
  else if st = 1 ∧ t < s.warnAt x - s.degrees (F.THM.S_THR_HYST_W x) then 0
  else st

/-- Interval code of a sensor after a reading of T (R517). -/
def State.sensorInterval (s : State) (x : Nat) (t : Int) : Nat :=
  if s.shdnAt x - 48 ≤ t then 0 else if s.throtAt x - 80 ≤ t then 1 else 2

/-- Instant at which a sensor's interval ends (R517). -/
def State.readDue (s : State) (x : Nat) : Nat :=
  s.thm.readAt.getD x 0 + [20 * usU, 100 * usU, msU].getD (s.f (F.THM.S_STATUS_INTERVAL x)) msU

/-- A sensor becomes FAILED (R524). -/
def State.sensorFail (s : State) (x : Nat) (inj : Bool) : State :=
  let s := (s.setF (F.THM.S_STATUS_FAILED x) 1).inc F.THM.THM_CNT_FAIL_CNT
  let m := s.mask64 F.THM.THM_FAIL_LO_FAILED F.THM.THM_FAIL_HI_FAILED ||| 2 ^ x
  (s.setMask64 F.THM.THM_FAIL_LO_FAILED F.THM.THM_FAIL_HI_FAILED m).raiseDet F.THM.EVT_SENSOR_FAIL 14 x inj

/-- T − THROT of a sensor in 1/16 °C. -/
def State.margin (s : State) (x : Nat) : Int := s.sensorTemp x - s.throtAt x

/-- The sensor with the largest margin, the lower index on ties, among those enabled and read. -/
def State.hottest (s : State) : Option Nat :=
  ((List.range 48).filter (fun x => s.sensorOn x && s.thm.seen.contains x)).foldl (fun b x => match b with
    | none => some x
    | some y => if s.margin y < s.margin x then some x else some y) none

/-- THM_STATUS.HOTTEST and THM_HOT (R531). -/
def State.hotShow (s : State) : State :=
  match s.hottest with
  | none => s
  | some x => ((s.setF F.THM.THM_STATUS_HOTTEST x).setFi F.THM.THM_HOT_TEMP (s.sensorTemp x)).setFi F.THM.THM_HOT_MARGIN (s.margin x)

/-! ## The ladder (R520 to R523) -/

def State.step_ (s : State) : Nat := s.f F.THM.THM_STATUS_STEP
def State.level (s : State) : Nat := s.f F.THM.THM_STATUS_LEVEL

/-- Level and back-off in dB of a position (R520). -/
def levelOf (step muteMax : Nat) : Nat :=
  if step = 0 then 0 else if step = 1 then 1 else if step ≤ 7 then 2 else if step ≤ 7 + muteMax then 3 else 4
def backoffOf (step : Nat) : Nat := if step ≤ 1 then 0 else min 6 (step - 1)

/-- Group margin of group k (R522): none where no sensor of the group is enabled and read. -/
def State.groupMargin (s : State) (k : Nat) : Option Int :=
  topOf ((([s.groupSensor (8 + k), 24 + 2 * k, 25 + 2 * k]).filter (fun x => s.sensorOn x && s.thm.seen.contains x)).map s.margin)

/-- The unmuted group with the largest group margin, ties going to the lower k (R522). -/
def State.nextMute (s : State) : Option Nat :=
  ((List.range 8).filter (fun k => !s.thm.order.contains k)).foldl (fun b k => match b with
    | none => some k
    | some j => (match s.groupMargin j, s.groupMargin k with
      | none, some _ => some k
      | some a, some c => if a < c then some k else some j
      | _, none => some j)) none

/-- The mask of a list of groups. -/
def groupMask (l : List Nat) : Nat := (List.range 8).foldl (fun m k => m + (if l.contains k then 2 ^ k else 0)) 0

/-- Add groups in the order of their margins until n are muted. -/
def State.muteMore (s : State) (n : Nat) : Nat → State
  | 0 => s
  | fuel + 1 =>
    if s.thm.order.length < n then
      match s.nextMute with
      | some k => ({ s with thm := { s.thm with order := s.thm.order ++ [k] } } : State).muteMore n fuel
      | none => s
    else s

/-- The level-1 voltage step: V1_CODE at levels 1 to 4, V0_CODE at level 0, with VSEL_EN (R522). -/
def State.vsel (s : State) (low : Bool) : State :=
  if s.on F.THM.THM_CFG_VSEL_EN then
    let n := 128 + s.f F.THM.THM_CFG_VSEL_DAC
    s.biasWrite n (4096 * s.f (F.AUX.BIAS_RANGE n) + s.f (if low then F.THM.THM_VSEL_V1_CODE else F.THM.THM_VSEL_V0_CODE))
  else s

/-- Back-off on every path (R522). -/
def State.backoffApply (s : State) : State :=
  s.each (List.range 64) (fun s p => s.setF (F.TXP.P_STATUS_BACKOFF p) (s.f F.THM.THM_STATUS_BACKOFF))

/-- The mutes in force become the ladder's (R522). -/
def State.muteApply (s : State) (mask : Nat) : State :=
  { s.setF F.THM.THM_STATUS_MUTED mask with thm := { s.thm with muteNext := mask } }

/-- Outside RUN levels 2 and 3 take effect at once (R522). -/
def State.ladderNow (s : State) : State := if s.tlRun then s else s.backoffApply.muteApply (groupMask s.thm.order)

/-- STEP takes a new value: the level and back-off it implies, the groups it mutes or unmutes, and the voltage step (R520 to R522). -/
def State.setStep (s : State) (step : Nat) : State :=
  let old := s.step_
  let mm := s.f F.THM.THM_CFG_MUTE_MAX
  let lvl := if old < step then levelOf step mm else min s.level (levelOf step mm)
  let before := groupMask s.thm.order
  let s := ((s.setF F.THM.THM_STATUS_STEP step).setF F.THM.THM_STATUS_LEVEL lvl).setF F.THM.THM_STATUS_BACKOFF (backoffOf step)
  let s := if old < step then s.muteMore (min (step - 7) mm) 8
           else { s with thm := { s.thm with order := s.thm.order.take (step - 7) } }
  let s := { s with thm := { s.thm with changeAt := s.now, prevMute := before } }
  let s := if old < step then (s.raise F.THM.EVT_LEVEL_UP).inc F.THM.THM_CNT_LEVEL_UP_CNT else s.raise F.THM.EVT_LEVEL_DOWN
  let s := if old = 0 then s.vsel true else if step = 0 then s.vsel false else s
  s.ladderNow

/-- The condition of R521: 0 escalate, 1 hold, 2 relax, from the sensors that take part. -/
def State.ladderCond (s : State) : Nat :=
  let on := (List.range 48).filter (fun x => s.sensorOn x && s.thm.seen.contains x)
  if on.any (fun x => s.throtAt x ≤ s.sensorTemp x) then 0
  else if on.any (fun x => s.f (F.THM.S_STATUS_STATE x) == 2) then 1 else 2

/-- The ladder after a reading: a condition that changes starts its time, and escalation at STEP 0 is immediate (R521). -/
def State.ladder (s : State) : State :=
  let c := s.ladderCond
  let s := if c = s.thm.cond then s else { s with thm := { s.thm with cond := c, condSince := s.now } }
  if c = 0 ∧ s.step_ = 0 then s.setStep 1 else s

/-- Instant at which the dwell of the present condition ends, from the last change of STEP or the beginning of the condition. -/
def State.dwellEnd (s : State) (ms : Nat) : Nat := max s.thm.changeAt s.thm.condSince + ms * msU

/-- ESCALATE_DWELL (R521). -/
def State.escalate (s : State) : State :=
  if s.thmRuns && s.thm.cond == 0 && decide (1 ≤ s.step_) && decide (s.step_ < 8 + s.f F.THM.THM_CFG_MUTE_MAX) then
    let s := s.advanceTo (s.dwellEnd (s.f F.THM.THM_CFG_ESC_DWELL))
    s.setStep (s.step_ + 1)
  else s

/-- RELAX_DWELL (R521). -/
def State.relax (s : State) : State :=
  if s.thmRuns && s.thm.cond == 2 && decide (1 ≤ s.step_) then
    let s := s.advanceTo (s.dwellEnd (10 * s.f F.THM.THM_CFG_RELAX))
    s.setStep (s.step_ - 1)
  else s

/-- The mutes of the slot whose weight instant is at hand: a step at least 2.0 µs old counts (R522, R523). -/
def State.muteWeight (s : State) : State :=
  { s with thm := { s.thm with muteNext := if s.thm.changeAt + 2 * usU ≤ s.now then groupMask s.thm.order else s.thm.prevMute } }

/-- The ladder at a slot boundary of the grid of R14: back-off and the mutes of the slot, and DET_STATUS.THROTTLE at level 2 or above (R522). -/
def State.ladderSlot (s : State) : State :=
  let s := (s.backoffApply).muteApply s.thm.muteNext
  if 2 ≤ s.level then s.detBit F.SYS.DET_STATUS_THROTTLE else s

/-! ## Shutdown (R527) and a reading -/

/-- A shutdown is confirmed: the sensor and its T are latched, TALLY increments (R527 step 1). -/
def State.shutdownLatch (s : State) (sensor : Nat) (t : Int) (inj : Bool) : State :=
  let s := (s.setFi F.THM.SHDN_LOG_TEMP t).setF F.THM.SHDN_LOG_INJ (b2n inj)
  let s := (s.setF F.THM.SHDN_LOG_SENSOR sensor).inc F.THM.SHDN_LOG_TALLY
  { s with thm := { s.thm with shdn := some s.now } }

/-- Readings in a row at or above SHDN; the second starts a shutdown, as does an armed injection (R527, R531). -/
def State.shdnCheck (s : State) (x : Nat) (t : Int) : State :=
  let inj := s.thm.injShdn.contains x
  let n := if s.shdnAt x ≤ t then s.thm.overRun.getD x 0 + 1 else 0
  let s := { s with thm := { s.thm with overRun := setNth s.thm.overRun x n, injShdn := s.thm.injShdn.filter (· != x) } }
  if 2 ≤ n then (s.occur 16 x false).shutdownLatch x t false
  else if inj then (s.occur 16 x true).shutdownLatch x t true
  else s

/-- Injected offset of a sensor in °C (R531). -/
def State.injOfs (s : State) (x : Nat) : Int := ((s.thm.ofs.find? (fun o => o.1 == x)).map (·.2)).getD 0

/-- The cross-check of a reading: CHECK_OFF, DEV_RUN and FAILED (R524). -/
def State.crossCheck (s : State) (x : Nat) (raw : Int) : State :=
  let nb := s.neighbours x
  let off := decide (nb.length < 2)
  let dev := !off && deviates raw nb
  let injected := s.thm.injFail.contains x
  let s := if off && !s.on (F.THM.S_STATUS_CHECK_OFF x) then s.raise F.THM.EVT_CHECK_OFF else s
  let run := if dev then min 3 (s.f (F.THM.S_STATUS_DEV_RUN x) + 1) else 0
  let s := (s.setF (F.THM.S_STATUS_CHECK_OFF x) (b2n off)).setF (F.THM.S_STATUS_DEV_RUN x) run
  let s := { s with thm := { s.thm with injFail := s.thm.injFail.filter (· != x)
                                        lastDev := if dev then x :: s.thm.lastDev.filter (· != x) else s.thm.lastDev.filter (· != x) } }
  if s.sensorFailed x then s
  else if 3 ≤ run then s.sensorFail x false
  else if injected then s.sensorFail x true
  else s

/-- The effective value of a sensor (R525). -/
def State.effTemp (s : State) (x : Nat) (raw : Int) : Int :=
  if s.sensorFailed x then (match topOf (s.neighbours x) with
    | some v => v + 80
    | none => s.throtAt x)
  else raw

/-- The state and interval of a sensor after its reading; a move up raises WARN or THROT (R517, R519). -/
def State.sensorMove (s : State) (x : Nat) (t : Int) : State :=
  let old := s.f (F.THM.S_STATUS_STATE x)
  let dev := s.on (F.THM.S_STATUS_DEV_RUN x)
  let st := s.sensorNext x t (dev || s.sensorFailed x)
  let iv := s.sensorInterval x t
  let iv := if dev then min iv (s.f (F.THM.S_STATUS_INTERVAL x)) else iv
  let s := (s.setF (F.THM.S_STATUS_STATE x) st).setF (F.THM.S_STATUS_INTERVAL x) iv
  if old < st then (if st = 2 then s.raiseDet F.THM.EVT_THROT 15 x (s.injOfs x != 0) else s.raise F.THM.EVT_WARN) else s

/-- SENSOR_READING: sensor x is read with a raw value in 1/16 °C, an on-die sensor or a diode when its interval ends; a thermistor's conversion was asked for then (R516 to
R527). -/
def State.sensorReading (s : State) (x : Nat) (value : Int) : State :=
  if decide (x < 48) && s.thmRuns && s.sensorOn x then
    let s := if x < 40 then s.advanceTo (s.readDue x) else s
    let s := { s with thm := { s.thm with readAt := setNth s.thm.readAt x s.now } }
    let raw := satS 16 (value + 16 * s.injOfs x)
    let s := s.setFi (F.THM.S_TEMP_RAW x) raw
    let s := s.crossCheck x raw
    let t := satS 16 (s.effTemp x raw)
    let s := s.setFi (F.THM.S_TEMP_TEMP x) t
    let s := { s with thm := { s.thm with seen := if s.thm.seen.contains x then s.thm.seen else x :: s.thm.seen } }
    let s := s.sensorMove x t
    let s := { s with thm := { s.thm with fresh := s.thm.fresh.filter (· != x) } }
    (s.hotShow.ladder.calReading x).shdnCheck x t
  else s

/-- A write of 1 to FAIL_CLR; ignored when the latest reading deviated (R526). -/
def State.failClr (s : State) (x : Nat) : State :=
  if s.sensorFailed x && !s.thm.lastDev.contains x then
    let m := s.mask64 F.THM.THM_FAIL_LO_FAILED F.THM.THM_FAIL_HI_FAILED
    let s := (s.setF (F.THM.S_STATUS_FAILED x) 0).setF (F.THM.S_STATUS_DEV_RUN x) 0
    let s := { s with thm := { s.thm with fresh := x :: s.thm.fresh } }
    s.setMask64 F.THM.THM_FAIL_LO_FAILED F.THM.THM_FAIL_HI_FAILED (if m.testBit x then m - 2 ^ x else m)
  else s

/-- A sensor that is disabled is read no more and reads 0; it leaves the ladder at once, and a failure stays (R516, R521, R526). -/
def State.sensorDisable (s : State) (x : Nat) : State :=
  let failed := s.f (F.THM.S_STATUS_FAILED x)
  let s := (((s.setReg (A.THM.S_TEMP x) 0).setReg (A.THM.S_STATUS x) 0).setF (F.THM.S_STATUS_INTERVAL x) 2).setF (F.THM.S_STATUS_FAILED x) failed
  let s := { s with thm := { s.thm with seen := s.thm.seen.filter (· != x), lastDev := s.thm.lastDev.filter (· != x),
                                        overRun := setNth s.thm.overRun x 0, readAt := setNth s.thm.readAt x 0 } }
  s.hotShow.ladder

/-- A write of THM_INJ while injection is armed: the offset of the sensor, and the fields FAIL and SHDN (R531). -/
def State.thmInj (s : State) (w : Nat) : State :=
  let x := bits w 5 0
  let ofs := (x, signed 8 (bits w 15 8)) :: s.thm.ofs.filter (fun (o : Nat × Int) => o.1 != x)
  let fail := if w.testBit 16 then x :: s.thm.injFail.filter (· != x) else s.thm.injFail
  let shdn := if w.testBit 17 && s.mode == Mode.test then x :: s.thm.injShdn.filter (· != x) else s.thm.injShdn
  { s with thm := { s.thm with ofs := ofs, injFail := fail, injShdn := shdn } }

/-- What the THM registers must keep after a write (R518, R531, R532). -/
def State.thmLegal (s : State) (off : Nat) : Bool :=
  if off = 0x100 then
    let mm := s.f F.THM.THM_CFG_MUTE_MAX
    1 ≤ mm && mm ≤ 8 && 1 ≤ s.f F.THM.THM_CFG_ESC_DWELL && 1 ≤ s.f F.THM.THM_CFG_RELAX
  else if off = 0x124 then
    let t := s.f F.THM.RESTART_CFG_RESTART_T
    1 ≤ s.f F.THM.RESTART_CFG_RESTART_MAX && 60 ≤ t && t ≤ 110
  else if 0x200 ≤ off ∧ off < 0x800 then
    let x := (off - 0x200) / 0x20
    let r := (off - 0x200) % 0x20
    if r = 8 then
      decide (s.warnAt x ≤ s.throtAt x) && decide (s.throtAt x < s.shdnAt x) && (decide (24 ≤ x) || s.f (F.THM.S_THR_SHDN x) ≤ 120)
    else if r = 0x14 then s.f (F.THM.S_SRC_CHAN x) ≤ 79
    else true
  else true

/-! ## The AON comparator (R528, R529) -/

/-- The AON comparator starts afresh. -/
def State.aonClear (s : State) : State := { s with thm := { s.thm with aonHot := 0, aonCool := 0 } }

/-- Readings of the AON sensor in a row at or above 120 °C, and below RESTART_T, up to the two and 100 that act. -/
def State.aonReading (s : State) (t : Int) : State :=
  let hot := if 1920 ≤ t then min 2 (s.thm.aonHot + 1) else 0
  let cool := if t < s.degrees F.THM.RESTART_CFG_RESTART_T then min 100 (s.thm.aonCool + 1) else 0
  { s with thm := { s.thm with aonHot := hot, aonCool := cool } }

end Sys2Proof.Machine
end

