-- ==== Sys2Proof/Machine/Hk.lean ====
section
/-! DEFINITION. The housekeeping converters (chapter 20) and the overcurrent monitors that use them (R566). -/

namespace Sys2Proof.Machine

/-! ## Conversions (R534, R535) -/

/-- Code of a single-ended conversion, from the voltage in µV (R534). -/
def singleCode (uv : Int) : Int := max 0 (min 4095 ((2 * uv * 4096 + 1250000) / 2500000))

/-- Code of a differential conversion, from both voltages in µV (R534). -/
def diffCode (a b : Int) : Int := max (-2048) (min 2047 ((2 * (a - b) * 2048 + 1250000) / 2500000))

/-- A converter, and its change. -/
def State.hkConv (s : State) (v : Nat) : HkConv := s.hk.conv.getD v {}
def State.setHkConv (s : State) (v : Nat) (x : HkConv) : State := { s with hk := { s.hk with conv := setNth s.hk.conv v x } }

/-- The sequence of converter v runs (R535). -/
def State.seqOn (s : State) (v : Nat) : Bool := s.on (if v = 0 then F.HKA.HK_CFG_RUN_A else F.HKA.HK_CFG_RUN_B)
def State.seqLen (s : State) (v : Nat) : Nat := s.f (if v = 0 then F.HKA.HK_CFG_LEN_A else F.HKA.HK_CFG_LEN_B)

/-- A converter begins a conversion. -/
def State.hkBegin (s : State) (v : Nat) (x : HkConv) : State := s.setHkConv v { x with since := s.now }

/-- What a converter that is between conversions does next: an urgent request, a plausibility pair once both are free, its sequence, or nothing (R535, R540, R542). -/
def State.hkNext (s : State) (v : Nat) : State :=
  let x := s.hkConv v
  let y := s.hkConv (1 - v)
  if !x.urg.isEmpty then s.hkBegin v { x with kind := 3 }
  else if s.hk.plWant then
    if y.kind = 0 ∨ y.kind = 4 then
      let s := (s.hkBegin v { x with kind := 2, code := none }).hkBegin (1 - v) { y with kind := 2, code := none }
      { s with hk := { s.hk with plWant := false } }
    else s.setHkConv v { x with kind := 4 }
  else if s.seqOn v && decide (1 ≤ s.seqLen v) then s.hkBegin v { x with kind := 1, pos := if s.seqLen v ≤ x.pos then 0 else x.pos }
  else s.setHkConv v { x with kind := 0 }

/-- A converter that does nothing looks for work. -/
def State.hkKick (s : State) (v : Nat) : State := if (s.hkConv v).kind = 0 then s.hkNext v else s

/-- A write of HK_CFG has changed RUN_v: 0 stops the sequence after the conversion in progress, 1 restarts it at entry 0 (R535). -/
def State.hkRun (s : State) (v : Nat) (was : Bool) : State :=
  let x := s.hkConv v
  if was && !s.seqOn v then s.setHkConv v (if x.kind = 1 then { x with stop := true } else { x with pos := 0 })
  else if !was && s.seqOn v then s.hkKick v
  else s

/-! ## Accumulators (R537, R538) -/

/-- A result in the format of accumulator k (R537). -/
def State.accValue (s : State) (k : Nat) (diff : Bool) (c : Int) : Int :=
  let signedFmt := s.on (F.HKA.ACC_CFG_FMT k)
  let x := if signedFmt then (if diff then c else c - 2048) else (if diff then c + 2048 else c)
  if s.on (F.HKA.ACC_CFG_ALIGN k) then x * 16 else x

/-- A value enters an accumulator; at COUNT 65,535 none does (R537). -/
def State.accAdd (s : State) (k : Nat) (x : Int) : State :=
  let a := s.hk.accs.getD k {}
  if 65535 ≤ a.count then
    let b : HkAcc := { a with ovf := true }
    ({ s with hk := { s.hk with accs := setNth s.hk.accs k b } } : State).raise F.HKA.EVT_ACC_OVF
  else
    let b : HkAcc := { a with sum := a.sum + x, count := a.count + 1, min := if a.count = 0 then x else min a.min x,
                              max := if a.count = 0 then x else max a.max x }
    { s with hk := { s.hk with accs := setNth s.hk.accs k b } }

/-- A read of HARVESTk by an agent: SUM is returned, the rest goes to the agent's latch, and the accumulator clears (R538). -/
def State.harvest (s : State) (agent k : Nat) : State :=
  let a := s.hk.accs.getD k {}
  let l : HkLatch := { acc := k, count := a.count, ovf := a.ovf, min := if a.count = 0 then 0 else a.min, max := if a.count = 0 then 0 else a.max }
  let s := s.ok (code 32 a.sum)
  { s with hk := { s.hk with accs := setNth s.hk.accs k {}, latch := Store.insert s.hk.latch agent l } }

/-- HV_CNT and HV_MINMAX as an agent reads them (R538). -/
def State.hvCnt (s : State) (agent : Nat) : Nat :=
  let l := Store.get s.hk.latch {} agent
  2 ^ 31 * b2n l.ovf + 2 ^ 24 * l.acc + l.count
def State.hvMinMax (s : State) (agent : Nat) : Nat :=
  let l := Store.get s.hk.latch {} agent
  2 ^ 16 * code 16 l.max + code 16 l.min

/-- Sum and number of the single-ended conversions of a global channel in this harvest period (R539). -/
def State.hpAdd (s : State) (chan : Nat) (c : Int) : State :=
  let x := Store.get s.hk.sums (0, 0) chan
  { s with hk := { s.hk with sums := Store.insert s.hk.sums chan (x.1 + c.toNat, x.2 + 1) } }

/-- Global channels named in P_PC.VCH of the enabled transmit paths, each once. -/
def State.vchNamed (s : State) : List Nat :=
  (List.range 80).filter (fun c => (List.range 64).any (fun p => s.txEnabled p && s.f (F.TXP.P_PC_VCH p) == c))

/-- HARVEST_PERIOD_END: the private means of the named channels are taken; a channel without a conversion keeps its mean and is counted (R539). -/
def State.harvestPeriod (s : State) : State :=
  if s.domOn Dom.hk && decide (1 ≤ s.f F.HKA.HK_CFG_HP) then
    let s := s.advanceTo s.hk.hpNext
    let sums := s.hk.sums
    let s := s.each s.vchNamed (fun s c => match Store.find? sums c with
      | some x => { s with hk := { s.hk with means := Store.insert s.hk.means c x } }
      | none => (s.inc F.HKA.HK_CNT1_HP_MISS_CNT).raise F.HKA.EVT_HP_MISS)
    { s with hk := { s.hk with sums := [], hpNext := s.hk.hpNext + s.f F.HKA.HK_CFG_HP * msU } }
  else s

/-! ## Plausibility (R540, R541) -/

/-- Both halves of a pair are there: the difference is compared (R540). -/
def State.plausCompare (s : State) (a b : Int) : State :=
  let ofs := if s.injArmed then s.hk.ofs else 0
  let d := a - (b + ofs)
  let s := s.setFi F.HKA.PLAUS_STATUS_DIFF d
  if s.f F.HKA.PLAUS_CFG_TOL < d.natAbs then
    let run := s.f F.HKA.PLAUS_STATUS_RUN + 1
    if s.f F.HKA.PLAUS_CFG_COUNT ≤ run then
      ((s.setF F.HKA.PLAUS_STATUS_RUN 0).inc F.HKA.HK_CNT0_PLAUS_CNT).raiseDet F.HKA.EVT_PLAUS_FAIL 13 0 (ofs != 0)
    else s.setF F.HKA.PLAUS_STATUS_RUN run
  else s.setF F.HKA.PLAUS_STATUS_RUN 0

/-- PLAUS_START: a pair is due; it starts once both converters are between conversions (R540). -/
def State.plausStart (s : State) : State :=
  if s.domOn Dom.hk && s.on F.HKA.PLAUS_CFG_EN then
    let s := s.advanceTo s.hk.plNext
    let s := { s with hk := { s.hk with plWant := true, plNext := s.hk.plNext + s.f F.HKA.PLAUS_CFG_PERIOD * msU } }
    (s.hkKick 0).hkKick 1
  else s

/-- A pair is abandoned without comparison and runs again when both converters are free (R542). -/
def State.plausAbort (s : State) (v : Nat) : State :=
  let s := { s with hk := { s.hk with plWant := true } }
  let x := s.hkConv v
  let y := s.hkConv (1 - v)
  let s := s.setHkConv v { x with code := none }
  if y.kind = 2 then (s.setHkConv (1 - v) { y with code := none, kind := 4 }) else s.setHkConv (1 - v) { y with code := none }

/-! ## Urgent requests (R542) -/

/-- A waiting request takes its place: overcurrent before thermal, then in order of arrival. -/
def placeUrgent (r : Nat × Nat) (l : List (Nat × Nat)) : List (Nat × Nat) :=
  if r.1 < 8 then l.takeWhile (fun q => q.1 < 8) ++ [r] ++ l.dropWhile (fun q => q.1 < 8) else l ++ [r]

/-- A request reaches converter v: the conversion in progress is aborted unless it is urgent; four wait, more wait at their requesters (R542). -/
def State.urgentFor (s : State) (r v chan : Nat) : State :=
  let x := s.hkConv v
  if x.kind = 3 then
    if x.urg.length < 5 then s.setHkConv v { x with urg := x.urg.take 1 ++ placeUrgent (r, chan) (x.urg.drop 1) }
    else s.setHkConv v { x with held := x.held ++ [(r, chan)] }
  else
    let s := if x.kind = 1 ∨ x.kind = 2 then s.inc F.HKA.HK_CNT0_ABORT_CNT else s
    let s := if x.kind = 2 then s.plausAbort v else s
    s.hkBegin v { s.hkConv v with kind := 3, urg := [(r, chan)] }

/-- The instant at which requester r asks again: a monitor 100 µs after its last request, a thermistor when its interval ends (R517, R566). -/
def State.urgentDue (s : State) (r : Nat) : Nat := if r < 8 then s.hk.ocAt.getD r 0 + 100 * usU else s.readDue (32 + r)

/-- URGENT_REQUEST: requester r, monitor m = r below 8 or thermistor r - 8, asks for a conversion of its global channel (R516, R542, R566). -/
def State.urgentRequest (s : State) (r : Nat) : State :=
  let wants := if r < 8 then s.on (F.FLT.OC_CFG_EN r) else decide (r < 16) && s.sensorOn (32 + r) && s.thmRuns
  let g := if r < 8 then s.f (F.FLT.OC_CFG_CHAN r) else s.f (F.THM.S_SRC_CHAN (32 + r))
  if s.domOn Dom.hk && wants && decide (g < 80) then
    let s := s.advanceTo (s.urgentDue r)
    let s := if r < 8 then { s with hk := { s.hk with ocAt := setNth (s.hk.ocAt ++ List.replicate (8 - s.hk.ocAt.length) 0) r s.now } } else s
    s.urgentFor r (g / 40) (g % 40)
  else s

/-- The comparison of an overcurrent monitor (R566); an armed injection makes it fire (R570). -/
def State.ocCompare (s : State) (m : Nat) (c : Int) : State :=
  let hit := s.injHit 25 m
  let s := s.injTake 25 m
  if (s.f (F.FLT.OC_CFG_LIMIT m) : Int) < c then s.raiseDet F.FLT.EVT_OVERCURRENT 25 m false
  else if hit then s.raiseDet F.FLT.EVT_OVERCURRENT 25 m true
  else s

/-- Temperature of thermistor k for a code, through its table (R516, R601). -/
def State.thermTemp (s : State) (k : Nat) (c : Int) : Int :=
  let b := (s.powerItem 4 k).getD []
  Config.thermistor ((List.range 33).map (fun i => signed 16 (ofLe ((b.drop (2 * i)).take 2)))) c.toNat

/-- The result of an urgent conversion goes to its requester. -/
def State.urgentResult (s : State) (r : Nat) (c : Int) : State :=
  if r < 8 then (if s.on (F.FLT.OC_CFG_EN r) then s.ocCompare r c else s)
  else s.sensorReading (32 + r) (s.thermTemp (r - 8) c)

/-- OC_MONITOR_TICK: an enabled monitor requests its conversion (R566). -/
def State.ocTick (s : State) (m : Nat) : State := if m < 8 then s.urgentRequest m else s

/-! ## The end of a conversion -/

/-- The result of a sequence entry (R535, R537, R539). -/
def State.entryResult (s : State) (v e : Nat) (a b : Int) : State :=
  let diff := s.on (F.HKA.ENTRY_DIFF v e)
  let c := if diff then diffCode a b else singleCode a
  let s := if diff then s else s.hpAdd (40 * v + s.f (F.HKA.ENTRY_CHAN v e)) c
  if s.on (F.HKA.ENTRY_ACC_EN v e) then
    let k := s.f (F.HKA.ENTRY_ACC v e)
    s.accAdd k (s.accValue k diff c)
  else s

/-- Length of the conversion in progress: 1.0 µs, with the extra acquisition of a sequence entry (R535, R542). -/
def State.convLen (s : State) (v : Nat) : Nat :=
  usU + (if (s.hkConv v).kind = 1 then s.f (F.HKA.ENTRY_STRETCH v (s.hkConv v).pos) * (usU / 4) else 0)

/-- HK_CONVERSION_DONE: the conversion in progress on converter v ends with the voltages `a` and `b` in µV (R534, R535, R540, R542). -/
def State.conversionDone (s : State) (v : Nat) (a b : Int) : State :=
  if v < 2 && s.domOn Dom.hk then
    let x := s.hkConv v
    let s := if x.kind = 1 ∨ x.kind = 2 ∨ x.kind = 3 then s.advanceTo (x.since + s.convLen v) else s
    if x.kind = 1 then
      let s := s.entryResult v x.pos a b
      (s.setHkConv v { s.hkConv v with pos := if x.stop ∨ s.seqLen v ≤ x.pos + 1 then 0 else x.pos + 1, stop := false }).hkNext v
    else if x.kind = 2 then
      let s := s.setHkConv v { x with code := some (singleCode a) }
      match (s.hkConv 0).code, (s.hkConv 1).code with
      | some p, some q =>
        let s := (s.setHkConv 0 { s.hkConv 0 with code := none }).setHkConv 1 { s.hkConv 1 with code := none }
        (s.plausCompare p q).hkNext v
      | _, _ => s.hkNext v
    else if x.kind = 3 then
      match x.urg with
      | [] => s.hkNext v
      | r :: l =>
        let y : HkConv := { x with urg := match x.held with
                                     | [] => l
                                     | h :: _ => placeUrgent h l, held := x.held.drop 1 }
        ((s.setHkConv v y).urgentResult r.1 (singleCode a)).hkNext v
    else s
  else s

/-- The converters as loaded from NVM: every accumulator, latch and count is clear, and the sequences run (R544). -/
def State.hkStart (s : State) (clock : Nat) : State :=
  let s := { s with hk := { plNext := clock + s.f F.HKA.PLAUS_CFG_PERIOD * msU, hpNext := clock + s.f F.HKA.HK_CFG_HP * msU } }
  (s.hkKick 0).hkKick 1

/-! ## Register rules (R536, R546, R547) -/

/-- What the HKA registers must keep after a write. -/
def State.hkLegal (s : State) (off : Nat) : Bool :=
  let lenOk := fun (n : Nat) => decide (1 ≤ n) && decide (n ≤ 32)
  if off = 0x100 then decide (1 ≤ s.f F.HKA.HK_CFG_HP) && lenOk (s.seqLen 0) && lenOk (s.seqLen 1)
  else if off = 0x104 then
    let src := s.f F.HKA.PLAUS_CFG_SRC
    (decide (src ≤ 39) || src == 63) && decide (1 ≤ s.f F.HKA.PLAUS_CFG_PERIOD) && decide (1 ≤ s.f F.HKA.PLAUS_CFG_COUNT)
  else if 0x200 ≤ off ∧ off < 0x300 then
    let v := (off - 0x200) / 0x80
    let e := (off - 0x200) % 0x80 / 4
    let c := s.f (F.HKA.ENTRY_CHAN v e)
    (decide (c ≤ 24) || c == 39) && (!s.on (F.HKA.ENTRY_DIFF v e) || (c % 2 == 0 && decide (c ≤ 18)))
  else true

/-- Converter v counts as running while RUN_v = 1, an accumulator while a running sequence names it. -/
def State.hkRunning (s : State) (off : Nat) : Bool :=
  if 0x200 ≤ off ∧ off < 0x300 then s.seqOn ((off - 0x200) / 0x80)
  else if 0x400 ≤ off ∧ off < 0x800 then
    let k := (off - 0x400) / 0x10
    [0, 1].any (fun v => s.seqOn v && (List.range (min 32 (s.seqLen v))).any (fun e => s.on (F.HKA.ENTRY_ACC_EN v e) && s.f (F.HKA.ENTRY_ACC v e) == k))
  else false

end Sys2Proof.Machine
end

