-- ==== Sys2Proof/Machine/FltCmd.lean ====
section
/-! DEFINITION. The registers of FLT: arming and disarming injection, INJ_CMD, and the fault log as read (R569, R570, R572). -/

namespace Sys2Proof.Machine

/-- INJ_ARM: KEY and TIME arm injection, or the arm is refused with a code; a new arm restarts the window (R569). -/
def State.injArm (s : State) (key time : Nat) : State :=
  if key ≠ 0xA9 ∨ time = 0 then s.setF F.FLT.INJ_STATUS_CODE 1
  else if s.deployed && s.mode == Mode.serve then s.setF F.FLT.INJ_STATUS_CODE 2
  else
    let s := s.setF F.FLT.INJ_STATUS_ARMED 1
    { s with flt := { s.flt with windowEnd := s.now + time * 100 * msU } }

/-- INJ_WINDOW_END (R569). -/
def State.injWindowEnd (s : State) : State := if s.injArmed then (s.advanceTo s.flt.windowEnd).disarm else s

/-- INJ_STATUS.LEFT: the window left in ms, a part of one counting as one. -/
def State.injLeft (s : State) : Nat := if s.injArmed then min 0xFFFF ((s.flt.windowEnd - s.now + msU - 1) / msU) else 0

/-- The number of indices of a detector that has one (R565, R570). -/
def detIndices (d : Nat) : Option Nat :=
  match d with
  | 4 | 19 => some 64
  | 5 | 6 => some 6
  | 9 | 10 | 11 => some 36
  | 12 => some 19
  | 18 | 25 => some 8
  | 21 => some 112
  | 23 | 24 => some 34
  | _ => none

/-- The index an injection is kept under. -/
def injIndex (d param : Nat) : Nat := if (detIndices d).isSome then param else 0

/-- INJ_CMD is refused with code DET (R569). -/
def State.injRefused (s : State) (d param : Nat) : Bool :=
  decide (25 < d) || (d == 16 && s.mode != Mode.test) || (match detIndices d with
    | some n => decide (n ≤ param)
    | none => false)

/-- The watchdog of a running core is set to WARN by an injection (R570). -/
def State.injWarn (s : State) (n : Nat) : State := (s.wdtSet n (s.f (F.TKC.C_WDT_WARN n) * wdtU)).wdtWarn n true

/-- INJ_CMD with injection armed: one occurrence is armed, or acts at once where its detector needs no further event (R570).  The expiry of a watchdog
is left to its caller. -/
def State.injCmd (s : State) (w : Nat) : State :=
  let d := bits w 5 0
  let param := bits w 15 8
  if s.injRefused d param then s.setF F.FLT.INJ_STATUS_CODE 4
  else if d = 17 then s.clkLost true
  else if d = 23 then s.injWarn param
  else
    let i : Injection := { det := d, param := injIndex d param, double := w.testBit 16, addr := s.f F.FLT.INJ_ADDR_ADDR }
    { s with flt := { s.flt with injs := s.flt.injs ++ [i] } }

/-- LOG0 to LOG2: the oldest entry; they read 0 while the log is empty (R572). -/
def State.logWord (s : State) (k : Nat) : Nat :=
  match s.flt.log with
  | [] => 0
  | e :: _ =>
    if k = 0 then 2 ^ 31 * b2n e.inj + 2 ^ 29 * e.sev + 2 ^ 24 * e.det + 2 ^ 8 * (e.param % 256)
    else if k = 1 then 2 ^ 16 * e.frame + e.slot % 64
    else e.tb0

/-- A read of LOG2 removes the entry. -/
def State.logPop (s : State) : State := { s with flt := { s.flt with log := s.flt.log.drop 1 } }

end Sys2Proof.Machine
end

