-- ==== Sys2Proof/Machine/Power.lean ====
section
/-! DEFINITION. Modes and their transitions (R44 to R49, R71), rest requests and the two-phase entry (R53 to R58, R72), host Ledge, and the pads (R59 to R61, R74). -/

namespace Sys2Proof.Machine

/-! ## Pads (R59 to R61) -/

/-- SYNC_OUT is high: a pulse of 100 or 400 ns is under way (R186). -/
def State.syncHigh (s : State) : Bool :=
  s.active && s.on F.TIM.SYNC_CFG_OUT_EN && s.tim.syncOut != 0 && decide (s.now + 1 < s.tim.syncAt + s.tim.syncWidth * nsU)

/-- Levels that the functions of a group give its pads: PA_EN; TRSW, whose transmit side is the complement of the receive-side level; COEX_REQ at its asserted level or
not; and SYNC_OUT (R498, R499, R503). -/
def State.padLevel (s : State) (g : Nat) : Nat :=
  match g with
  | 0 => s.aux.pa % 2 ^ 32
  | 1 => s.aux.pa / 2 ^ 32
  | 2 => s.aux.trsw % 2 ^ 32 ^^^ s.f F.AUX.TRSW_POL_LO_POL
  | 3 => s.aux.trsw / 2 ^ 32 ^^^ s.f F.AUX.TRSW_POL_HI_POL
  | 4 => [0, 1].foldl (fun m n => m + 2 ^ n * b2n (s.aux.coexReq.testBit n == s.on (F.AUX.COEX_CFG_REQ_POL n))) 0
  | _ => b2n s.syncHigh

/-- Level and output enable of the pads of a group: as latched while it is held, else as its functions drive it, high impedance where they do not (R59, R60, R80, R605). -/
def State.pad (s : State) (g : Nat) : Nat × Bool :=
  match Store.find? s.pwr.latch g with
  | some x => x
  | none => if s.pwr.padOe.testBit g then (s.padLevel g, true) else (0, false)

/-- The functions of the pad groups of a mask drive them; the others are high impedance. -/
def State.padDrive (s : State) (mask : Nat) : State := { s with pwr := { s.pwr with padOe := mask } }

/-- The pad groups are latched at their present level and output enable, or float (R59, R60); a group that is held already stays as it is. -/
def State.padHold (s : State) : State :=
  s.each (List.range 6) (fun s g =>
    let held := s.f F.PWR.PAD_CTRL_HOLD
    if held.testBit g then s
    else if (s.f F.PWR.PAD_CTRL_FLOAT).testBit g then s.padDrive (setBits s.pwr.padOe g g 0)
    else { s.setF F.PWR.PAD_CTRL_HOLD (held ||| 2 ^ g) with pwr := { s.pwr with latch := Store.insert s.pwr.latch g (s.pad g) } })

/-- PAD_CTRL.RELEASE: the groups of a mask are released (R61). -/
def State.padRelease (s : State) (mask : Nat) : State :=
  let s := s.setF F.PWR.PAD_CTRL_HOLD ((List.range 6).foldl (fun m g =>
    m + (if (s.f F.PWR.PAD_CTRL_HOLD).testBit g && !mask.testBit g then 2 ^ g else 0)) 0)
  { s with pwr := { s.pwr with latch := s.pwr.latch.filter (fun (x : Nat × Nat × Bool) => !mask.testBit x.1) } }

/-! ## Transitions (R47 to R49) -/

/-- A mode request is refused with a reason (R48). -/
def State.modeRefuse (s : State) (reason : Nat) : State := (s.setF F.PWR.MODE_STATUS_REASON reason).raise F.PWR.EVT_MODE_REFUSED

/-- The device is in a new mode; MODE_DONE (R48, R70). -/
def State.modeDone (s : State) : State := (s.setF F.PWR.MODE_STATUS_PENDING 0).raise F.PWR.EVT_MODE_DONE

/-- The TX groups are in Ledge in Listen, whatever the tables hold (R44, R45); in host Ledge every group is (R54). -/
def State.ledgeBase (s : State) : State :=
  (s.setF F.PWR.LEDGE_STATUS_TX_LEDGE (if s.mode = Mode.listen ∨ s.hostLedge then 0xFF else 0)).setF F.PWR.LEDGE_STATUS_RX_LEDGE (if s.hostLedge then 0xFF else 0)

/-- A transition among Listen, Serve and Calibrate takes effect: runs of calibration end, injection disarms in Deployed on the way to Serve
(R569), and outside Serve no path transmits (R44, R480). -/
def State.modeApply (s : State) (t : Nat) : State :=
  let was := s.active
  let s := s.setF F.PWR.MODE_STATUS_MODE t
  let s := s.when (s.tlState == 1 && s.active && !was) State.latchStart
  let s := s.calModeChange
  let s := if t = Mode.calibrate ∧ s.on F.CAL.CAL_CFG_AUTO_FULL then { s with cal := { s.cal with autoWait := true } } else s
  let s := if t = Mode.serve ∧ s.deployed then s.disarm else s
  let s := (if t = Mode.serve then s else s.txQuiet 1).ledgeBase
  ({ s with pwr := { s.pwr with req := none } } : State).modeDone

/-- Ports whose directions slept in Base camp wake (R116); a port in M32 mode leaves the deep state (R118). -/
def State.linksWake (s : State) : State :=
  s.each (List.range 6) (fun s p =>
    if s.on (F.LNK.PORT_CFG_M32 p) then s.leaveDeep p
    else if s.portUp? p then
      let s := s.txWake p
      if s.rxDir p = 1 then s.rxWake p else s
    else s)

/-- Base camp is left for a target: the path domains come on and the transition is pending for 120 µs (R49). -/
def State.basecampExit (s : State) (t : Nat) : State :=
  let s := s.setF F.PWR.MODE_STATUS_PENDING 1
  let s := { s with pwr := { s.pwr with req := some (t, s.now) }, doms := domsOfMode t }
  s.linksWake.txQuiet 1

/-- Reasons 2, 4, 3 and 6 of R48 for a target, in their order; 0 where none applies. -/
def State.modeHurdle (s : State) (t : Nat) : Nat :=
  let timed := decide (2 ≤ t) && decide (t ≤ 4)
  if timed && s.on F.PWR.PAD_CTRL_HOLD then 2
  else if t == Mode.serve && s.level == 4 then 4
  else if t == Mode.test && s.deployed then 3
  else if timed && s.clkState != ClkSt.locked then 6
  else 0

/-- The transitions of R47 that MODE_REQ can ask for. -/
def modeAllowed (from_ dst : Nat) : Bool :=
  if from_ = Mode.baseCamp then dst == Mode.listen || dst == Mode.serve || dst == Mode.test
  else if from_ = Mode.test then dst == Mode.baseCamp
  else if 2 ≤ from_ ∧ from_ ≤ 4 then dst != from_ && decide (1 ≤ dst) && decide (dst ≤ 4)
  else false

/-- A rest protocol runs: preparing, restarting or committed (R48, R53). -/
def State.restRuns (s : State) : Bool := let st := s.f F.PWR.REST_STATUS_STATE; decide (1 ≤ st) && decide (st ≤ 3)

/-! ## The rest protocol (R53 to R58) -/

/-- A refusal is recorded in REST_STATUS (R53, R55). -/
def State.restRecord (s : State) (block code : Nat) : State :=
  (((s.setF F.PWR.REST_STATUS_REFUSE_BLOCK block).setF F.PWR.REST_STATUS_REFUSE_CODE code).inc F.PWR.REST_STATUS_REFUSE_CNT).raise
    F.PWR.EVT_REST_REFUSED

/-- The participants of a depth in their order: 1 Ledge, 2 Base camp, 3 Bivouac (R56). -/
def participants (depth : Nat) : List Nat :=
  if depth = 1 then [3, 4, 5, 6] else if depth = 2 then [1, 2, 3, 4, 5, 6, 7, 8, 9, 10, 11, 12, 13, 14, 17, 19] else List.range 20

def State.depth (s : State) : Nat := s.f F.PWR.REST_STATUS_DEPTH

/-- A direction of port p sleeps in the rest being entered: the outgoing one where `tx` (R116, R117). -/
def State.willSleep (s : State) (p : Nat) (tx : Bool) : Bool :=
  s.depth == 3 || (s.depth == 2 && !s.on (if tx then F.LNK.SLEEP_CFG_BC_KEEP_TX p else F.LNK.SLEEP_CFG_BC_KEEP_RX p))

/-- A Base camp entry takes a port in M32 mode into the deep state: both BC_KEEP bits are 0 (R118). -/
def State.willDeep (s : State) (p : Nat) : Bool := !s.on (F.LNK.SLEEP_CFG_BC_KEEP_TX p) && !s.on (F.LNK.SLEEP_CFG_BC_KEEP_RX p)

/-- Frames wait or leave on port p. -/
def State.queued (s : State) (p : Nat) : Bool := (s.port (s.logical p)).busy.isSome || !(s.port (s.logical p)).queue.isEmpty

/-- A network-listen capture is in progress: continuously in SEARCH, inside a window in TRACK (R56, R190). -/
def State.nlBusy (s : State) : Bool :=
  s.on F.NLR.NL_CFG_EN && (s.f F.NLR.NL_STATUS_STATE == 1 ||
    (s.f F.NLR.NL_STATUS_STATE == 2 && decide ((s.nlDist (s.tb 2).ext16).natAbs ≤ s.nlHalf)))

/-- The answer of a LNK participant (R56, R116, R117). -/
def State.lnkAnswer (s : State) (p : Nat) : Nat :=
  if s.depth = 3 then
    if !s.on (F.LNK.PORT_CTRL_EN p) then 0 else if s.queued p || (s.port (s.logical p)).rx.isSome then 2 else if (s.port p).deepOk then 0 else 5
  else if !s.portUp? p then 0
  else if s.on (F.LNK.PORT_CFG_M32 p) then (if !s.willDeep p || (s.port p).deepOk then 0 else 5)
  else if (s.willSleep p true && s.queued p) || (s.willSleep p false && (s.port (s.logical p)).rx.isSome) then 2
  else if (s.willSleep p true && s.txDir p != 1) || (s.willSleep p false && s.rxDir p != 1) then 5
  else 0

/-- The answer of a participant: 0 agrees, else a code of R57 (R56). -/
def State.partAnswer (s : State) (i : Nat) : Nat :=
  let busy := fun (b : Bool) => if b then 1 else 0
  match i with
  | 0 => busy ((List.range 34).any (fun n => s.on (F.TKC.C_CTRL_VETO n)))
  | 1 => s.bfmRest
  | 2 => busy s.radBusy
  | 3 => busy s.calBusy
  | 4 => busy s.dpdBusy
  | 7 => busy s.nlBusy
  | 8 => if (List.range 6).any (fun p => s.willSleep p true && s.queued p) then 2 else 0
  | 15 => if (List.range 34).any (fun g => !(s.inboxOf g).isEmpty) then 3 else 0
  | 16 => if s.mbx.sems.any (fun x => (match x.owner with
            | some o => decide (o.1 < 34)
            | none => false) || (x.queue ++ x.ovf).any (· < 34)) then 4 else 0
  | 17 => if s.arb.banks.any (fun b => !b.2.waiting.isEmpty) then 2 else 0
  | 18 => busy s.nvm.write.isSome
  | 19 => busy s.clkBusy
  | i => if 9 ≤ i ∧ i ≤ 14 then s.lnkAnswer (i - 9) else 0

/-- PWR asks a participant; a port starts its handshake (R116, R117). -/
def State.restAsk (s : State) (i : Nat) : State :=
  let s := { s with pwr := { s.pwr with asked := some i, at_ := s.now } }
  if 9 ≤ i ∧ i ≤ 14 then
    let p := i - 9
    if !s.portUp? p then s
    else if s.depth = 3 || (s.on (F.LNK.PORT_CFG_M32 p) && s.willDeep p) then s.setPort p { s.port p with reqDeep := some s.now, deepOk := false }
    else if s.on (F.LNK.PORT_CFG_M32 p) then s
    else
      let s := if s.willSleep p false && s.rxDir p == 0 then s.rxSleep p else s
      if s.willSleep p true && s.txDir p == 0 then s.txSleep p else s
  else s

/-- Restart of a participant that had stopped (R55 step 3). -/
def State.restRestart (s : State) (i : Nat) : State :=
  if i = 18 then { s with nvm := { s.nvm with held := false } }
  else if 9 ≤ i ∧ i ≤ 14 then
    let p := i - 9
    let s := s.setPort p { s.port p with deepOk := false }
    if s.portUp? p && !s.on (F.LNK.PORT_CFG_M32 p) then
      let s := if s.willSleep p true then s.txWake p else s
      (if s.willSleep p false then s.rxWake p else s).startNext (s.logical p)
    else s
  else s

/-- A participant, or PWR itself, refuses: the stopped ones restart in reverse order, and a rest already in force goes on (R55 step 3). -/
def State.restFail (s : State) (block code : Nat) : State :=
  let s := s.each s.pwr.stopped.reverse State.restRestart
  let s := { s with pwr := { s.pwr with asked := none, stopped := [] } }
  let s := s.setF F.PWR.REST_STATUS_STATE s.pwr.was
  (if s.pwr.req.isNone then s.setF F.PWR.MODE_STATUS_PENDING 0 else s).restRecord block code

/-- CRC-32 of a retained bank: 0 to 95 context, 96 to 111 message (R63). -/
def bankBase (b : Nat) : Nat × Nat := if b < 96 then (0x80000 * b, 0x80000) else (0x04000000 + 0x20000 * (b - 96), 0x20000)
def State.bankSig (s : State) (b : Nat) : Nat := crc32ieee (memRead s.mem (bankBase b).1 (bankBase b).2)

/-- Banks selected for retention (R62). -/
def State.retained (s : State) : List Nat :=
  (List.range 112).filter (fun b => if b < 96 then (s.reg (A.PWR.RET_CTX_SEL0 + 4 * (b / 32))).toNat.testBit (b % 32)
    else (s.f F.PWR.RET_MSG_SEL_SEL).testBit (b - 96))

/-- Every participant has agreed: PWR commits; before Bivouac the retained banks are signed (R55 step 4, R63, R606). -/
def State.restCommit (s : State) : State :=
  let s := s.setF F.PWR.REST_STATUS_STATE 3
  let sigs := if s.depth = 3 then s.retained.map (fun b => (b, s.bankSig b)) else []
  { s with pwr := { s.pwr with asked := none, at_ := s.now, sigs := sigs } }

/-- The prepare phase starts with the first participant (R55 step 2). -/
def State.prepareNow (s : State) : State :=
  match participants s.depth with
  | [] => s.restCommit
  | i :: _ => s.restAsk i

/-- A rest entry of a depth starts: at once from Base camp or without a running timeline, else at the next slot boundary (R55 step 1). -/
def State.restStart (s : State) (depth : Nat) : State :=
  let was := s.f F.PWR.REST_STATUS_STATE
  let s := (s.setF F.PWR.REST_STATUS_DEPTH depth).setF F.PWR.REST_STATUS_STATE 1
  let prev := if s.active then s.mode else s.pwr.prev
  let s := { s with pwr := { s.pwr with was := if was = 5 then 4 else was, prev := prev, asked := none, stopped := [], at_ := s.now, wakeSrc := 0 } }
  if s.active && s.tlRun then s else s.prepareNow

/-- The prepare phase is due at a slot boundary. -/
def State.prepareDue (s : State) : Bool := s.f F.PWR.REST_STATUS_STATE == 1 && s.pwr.asked.isNone

/-- PREPARE_START: the next slot boundary of the grid of R14 is reached (R55 step 1). -/
def State.prepareStart (s : State) : State :=
  if s.prepareDue then
    match s.gridScs with
    | some scs => (s.advanceTo (s.slotInstant scs (s.slotAfter scs (s.now + 1)))).prepareNow
    | none => s.prepareNow
  else s

/-- PARTICIPANT_ANSWER: the asked participant agrees or refuses, as its state says (R55, R56). -/
def State.partAnswered (s : State) : State :=
  match s.pwr.asked with
  | none => s
  | some i =>
    let c := s.partAnswer i
    if c ≠ 0 then s.restFail i c
    else
      let s := { s with pwr := { s.pwr with stopped := s.pwr.stopped ++ [i] } }
      let s := if i = 18 then { s with nvm := { s.nvm with held := true } } else s
      match (participants s.depth).find? (i < ·) with
      | some j => s.restAsk j
      | none => s.restCommit

/-- PREP_TIMEOUT: the asked participant counts as refusing with TIMEOUT (R55). -/
def State.prepTimeout (s : State) : State :=
  match s.pwr.asked with
  | none => s
  | some i => (s.advanceTo (s.pwr.at_ + s.f F.PWR.REST_CFG_PREP_TIMEOUT * usU)).restFail i 6

/-- Length of a slot of the grid of R14 in µs. -/
def State.slotUs (s : State) : Nat := 1000 / 2 ^ ((s.gridScs).getD 0)

/-- The deepest allowed rest that fits the budget; 0 for none (R53). -/
def State.chooseDepth (s : State) (budget : Nat) : Nat :=
  let any := budget == 0xFFFFFF
  if budget < 2 then 0
  else if s.mode = Mode.baseCamp then
    let boot := s.on F.PWR.WAKE_CFG_BOOT_EN && s.retained.contains (s.f F.PWR.WAKE_CFG_BOOT_BANK)
    if s.on F.PWR.REST_CFG_ALLOW_BIVOUAC && (any || (boot && decide (6000 ≤ budget))) then 3 else 0
  else if s.on F.PWR.REST_CFG_ALLOW_BASECAMP && decide (120 ≤ budget) then 2
  else if s.on F.PWR.REST_CFG_ALLOW_LEDGE && s.tlRun && s.lowCarrier.isSome && decide (s.slotUs + 2 ≤ budget) then 1
  else 0

/-- A wake runs: REST_STATUS shows waking, or the wake table runs. -/
def State.wakeRuns (s : State) : Bool := s.f F.PWR.REST_STATUS_STATE == 5 || s.pwr.seq == 5 || s.pwr.seq == 6

/-- REST_REQ: the depth is chosen or the request refused (R53). -/
def State.restReq (s : State) (budget : Nat) : State :=
  if s.mode == Mode.test || s.on F.PWR.MODE_STATUS_PENDING || s.restRuns || s.wakeRuns then s.restRecord 31 9
  else match s.chooseDepth budget with
    | 0 => s.restRecord 31 8
    | d => s.restStart d

/-! ## MODE_REQ (R47, R48, R71) -/

/-- The SRAM wipe of the CTL and CTX domains: context and message memory, and the queues and tables of their blocks; epochs, doorbells and core memories stay (R87, R598). -/
def State.wipeTables (s : State) : State :=
  let s := { s with mem := memClear (memClear s.mem 0 0x03000000) 0x04000000 0x00200000 }
  let doorbells := s.mbx.ringWake
  let s := { s with mbx := { ringWake := doorbells }, arb := {} }
  let s := s.each (List.range 36) (fun s g => s.each [0, 1] (fun s k => (s.setF (F.MBX.POOL_CFG_VALID g k) 0).setF (F.MBX.POOL_CFG_ORPHANED g k) 0))
  s.each [0, 1] (fun s h => s.setF (F.BLY.HOST_STATUS_QUEUED h) 0)

/-- A stop of every running or waiting core, as STOP does, with accesses let complete (R598). -/
def State.stopCores (s : State) : State :=
  s.each ((List.range 34).filter (fun n => countsWdt (s.coreState n))) (fun s n => (s.withdraw n).coreHalt n true)

/-- Test is left: every core stops and the wipe runs; BOOT_STATUS.WIPE shows it (R47, R87, R598). -/
def State.testExit (s : State) : State :=
  let s := (s.stopCores.setF F.SYS.BOOT_STATUS_WIPE 1).setF F.PWR.MODE_STATUS_PENDING 1
  { s with pwr := { s.pwr with req := some (Mode.baseCamp, s.now) } }

/-- WIPE_COMPLETE: 350 µs after the request the memories and tables are wiped, and Base camp is reached (R47, R87, R598). -/
def State.wipeComplete (s : State) : State :=
  match s.pwr.req with
  | some (t, at_) =>
    if s.mode = Mode.test ∧ t = Mode.baseCamp then
      let s := s.advanceTo (at_ + 350 * usU)
      let s := (s.wipeTables.setF F.SYS.BOOT_STATUS_WIPE 0).setF F.PWR.MODE_STATUS_MODE Mode.baseCamp
      ({ s with doms := domsOfMode Mode.baseCamp, pwr := { s.pwr with req := none } } : State).modeDone
    else s
  | none => s

/-- Base camp is left for Test: 10 µs, and the timeline goes to IDLE (R47, R181). -/
def State.testEnter (s : State) : State :=
  let s := s.setF F.PWR.MODE_STATUS_PENDING 1
  { s with pwr := { s.pwr with req := some (Mode.test, s.now) } }

/-- MODE_REQ with a target (R47, R48, R71). -/
def State.modeReq (s : State) (t : Nat) : State :=
  if s.on F.PWR.MODE_STATUS_PENDING || s.restRuns then s.modeRefuse 5
  else if !modeAllowed s.mode t then s.modeRefuse 1
  else if s.modeHurdle t ≠ 0 then s.modeRefuse (s.modeHurdle t)
  else if s.mode = Mode.baseCamp then (if t = Mode.test then s.testEnter else s.basecampExit t)
  else if s.mode = Mode.test then s.testExit
  else if t = Mode.baseCamp then (s.setF F.PWR.MODE_STATUS_PENDING 1).restStart 2
  else if s.tlRun then
    let s := s.setF F.PWR.MODE_STATUS_PENDING 1
    { s with pwr := { s.pwr with req := some (t, s.now) } }
  else s.modeApply t

/-- A pending transition whose slot boundary, at least 2.0 µs after the request, is now (R47). -/
def State.modeSlot (s : State) : State :=
  match s.pwr.req with
  | some (t, at_) => if s.active && decide (at_ + 2 * usU ≤ s.now) then s.modeApply t else s
  | none => s

/-- Throttle level 4 takes Serve to Listen at a slot boundary (R47, R522). -/
def State.throttleSlot (s : State) : State :=
  if s.level = 4 ∧ s.mode = Mode.serve then s.modeApply Mode.listen else s

/-- MODE_TRANSITION_APPLY: a pending transition takes effect, at its slot boundary in RUN, after 10 µs on the way to Test (R47).  DESIGN CHOICE (log entry 81): Test
leaves REST_STATUS and the mode held before a rest as they are. -/
def State.modeTransition (s : State) : State :=
  match s.pwr.req with
  | none => s
  | some (t, at_) =>
    if s.active then
      let s := match s.gridScs with
        | some scs => if s.tlRun then s.advanceTo (s.slotInstant scs (s.slotAfter scs (at_ + 2 * usU))) else s
        | none => s
      s.modeApply t
    else if t = Mode.test then
      let s := (s.advanceTo (at_ + 10 * usU)).setF F.PWR.MODE_STATUS_MODE Mode.test
      let s := if s.tlState = 0 then s else s.leaveRun 0
      ({ s with doms := domsOfMode Mode.test, pwr := { s.pwr with req := none } } : State).modeDone
    else s

/-- BASECAMP_EXIT_DONE: 120 µs after the request the domains and trims are restored (R49); registers are kept, the layer store is empty, the first receive period
of each path uses START, and the observation schedules restart (R224, R265, R291). -/
def State.basecampDone (s : State) : State :=
  match s.pwr.req with
  | some (t, at_) =>
    if s.mode = Mode.baseCamp ∧ 2 ≤ t ∧ t ≤ 4 then
      let s := s.advanceTo (at_ + 120 * usU)
      let s := (s.rxForget.txForget.dpdRestart.radForget).setF F.PWR.REST_STATUS_STATE 0
      let s := s.setF F.PWR.REST_CTRL_WAKE 0
      (({ s with pwr := { s.pwr with prev := t, rest := 0 } } : State).modeApply t)
    else s
  | none => s

/-! ## Entries and wakes -/

/-- Base camp is entered after its commit: the timeline coasts, the path domains go off, and directions that do not stay awake sleep (R47, R116, R118, R181). -/
def State.basecampEnter (s : State) : State :=
  let s := if s.tlRun then s.leaveRun 3 else s
  let s := s.calModeChange.txQuiet 0
  let s := s.each (List.range 6) (fun s p =>
    if s.on (F.LNK.PORT_CFG_M32 p) && s.willDeep p then s.enterDeep p else s)
  let s := s.setF F.PWR.MODE_STATUS_MODE Mode.baseCamp
  let s := (s.setF F.PWR.LEDGE_STATUS_TX_LEDGE 0).setF F.PWR.LEDGE_STATUS_RX_LEDGE 0
  let s := { s with doms := domsOfMode Mode.baseCamp,
                    aux := { s.aux with pa := 0, trsw := 0, coexReq := 0 },
                    pwr := { s.pwr with stopped := [], micro := [], ledge := 0, rest := 2 } }
  (((s.setF F.PWR.REST_STATUS_STATE 4).setF F.PWR.REST_CTRL_WAKE 0).raise F.PWR.EVT_REST_ENTERED).modeDone

/-- Host Ledge is entered (R54). -/
def State.ledgeEnter (s : State) : State :=
  let s := (s.setF F.PWR.LEDGE_STATUS_TX_LEDGE 0xFF).setF F.PWR.LEDGE_STATUS_RX_LEDGE 0xFF
  let s := { s with pwr := { s.pwr with stopped := [], rest := 1 } }
  (s.setF F.PWR.REST_STATUS_STATE 4).raise F.PWR.EVT_REST_ENTERED

/-- A wake from host Ledge or Base camp by sources that WAKE_CAUSE names in its low bits (R54, R58, R72): host Ledge ends at the next slot boundary; Base camp is left
for the mode held before the rest, under the tests of R48.  DESIGN CHOICE (log entry 81): in a Base camp that no rest led to there is no such mode, and nothing happens. -/
def State.hostWake (s : State) (src : Nat) : State :=
  if s.f F.PWR.REST_STATUS_STATE ≠ 4 then s
  else if s.hostLedge then
    ((s.setReg A.PWR.WAKE_CAUSE (BitVec.ofNat 32 (src % 8))).setF F.PWR.REST_CTRL_WAKE 1).setF F.PWR.REST_STATUS_STATE 5
  else if s.mode = Mode.baseCamp ∧ !s.on F.PWR.MODE_STATUS_PENDING ∧ 2 ≤ s.pwr.prev ∧ s.pwr.prev ≤ 4 then
    let t := s.pwr.prev
    if s.modeHurdle t ≠ 0 then s.modeRefuse (s.modeHurdle t)
    else (((s.basecampExit t).setReg A.PWR.WAKE_CAUSE (BitVec.ofNat 32 (src % 8))).setF F.PWR.REST_CTRL_WAKE 1).setF F.PWR.REST_STATUS_STATE 5
  else s

/-- A slot boundary ends the host Ledge that a wake asked to end (R54); a prepare phase that has begun meanwhile goes on. -/
def State.ledgeSlot (s : State) : State :=
  if s.hostLedge && s.on F.PWR.REST_CTRL_WAKE then
    let s := { s with pwr := { s.pwr with rest := 0, was := 0 } }
    let s := if s.f F.PWR.REST_STATUS_STATE = 5 then s.setF F.PWR.REST_STATUS_STATE 0 else s
    (s.setF F.PWR.REST_CTRL_WAKE 0).ledgeBase
  else s

/-- A wake source during an entry (R58): during prepare it counts as a refusal by PWR, after the commit it is kept for the end of the entry. -/
def State.wakeEvent (s : State) (src : Nat) : State :=
  let st := s.f F.PWR.REST_STATUS_STATE
  if st = 1 then s.restFail 31 7
  else if st = 3 then { s with pwr := { s.pwr with wakeSrc := s.pwr.wakeSrc ||| src } }
  else s

/-- REST_CTRL.WAKE (R58, R72). -/
def State.restWake (s : State) : State := if s.restRuns then s.wakeEvent 4 else s.hostWake 4

/-- A doorbell (R58). -/
def State.doorbellWake (s : State) : State := s.wakeEvent 8

end Sys2Proof.Machine
end

