-- ==== Sys2Proof/Machine/Boot.lean ====
section
/-! DEFINITION. Resets and the reset sequence (R78, R82 to R87), the ROM boot and image verification (R88 to R90, R561, R562), Bivouac and the wake table
(R59 to R69, R606), thermal shutdown and restart (R527 to R529), life-cycle transitions (R558, R559), and the watchdog's expiry (R388, R389). -/

namespace Sys2Proof.Machine

/-! ## Reset (R82 to R84) -/

/-- Causes of RESET_CAUSE by bit (R82). -/
def ResetCause.por : Nat := 0
def ResetCause.bor : Nat := 1
def ResetCause.pin : Nat := 2
def ResetCause.sw : Nat := 3
def ResetCause.wdt : Nat := 4
def ResetCause.lct : Nat := 5

/-- A reset source is recorded, to be written at step 1 of the sequence. -/
def State.addCause (s : State) (c : Nat) : State := { s with pwr := { s.pwr with cause := s.pwr.cause ||| 2 ^ c } }

/-- The state under reset (R84): everything at its Reset value but the NVM array, the reset cause register, and, unless the cause is POR, the held pad
groups (R75). -/
def State.resetState (s : State) (por : Bool) : State :=
  let cause := s.reg A.SYS.RESET_CAUSE
  let hold := s.f F.PWR.PAD_CTRL_HOLD
  let nvm : NvmState := { mem := s.nvm.mem, bad := s.nvm.bad, tornInj := s.nvm.tornInj }
  let pwr : PwrState := { cause := s.pwr.cause, resetLow := s.pwr.resetLow, railLow := s.pwr.railLow, seqAt := s.now,
                          wakeSrc := if s.thm.off && s.pwr.resetLow then 2 else 0 }
  let r : State := { doms := 0x3, pending := s.pending, now := s.now, freeCnt := s.freeCnt, nvm := nvm, pwr := pwr }
  let r := r.setReg A.SYS.RESET_CAUSE cause
  if por then r
  else
    let r := { r with pwr := { r.pwr with latch := s.pwr.latch } }
    r.setF F.PWR.PAD_CTRL_HOLD hold

/-- A source with quiet-down triggers a reset (R83); during a reset already active it is recorded too (R84; of a RESET_N that falls while a supply holds the reset,
DESIGN CHOICE, log entry 81). -/
def State.resetTrigger (s : State) (c : Nat) : State :=
  let s := s.addCause c
  if s.pwr.seq = 2 ∨ s.pwr.seq = 1 then s
  else
    let s := s.quietDown
    { s with pwr := { s.pwr with seq := 1, seqAt := s.now } }

/-- RESET_N low for at least 1 µs (R82). -/
def State.resetPin (s : State) : State := ({ s with pwr := { s.pwr with resetLow := true } } : State).resetTrigger ResetCause.pin

/-- A write of SW_RESET.KEY by a host (R82, R93).  DESIGN CHOICE (log entry 81): by a core it is no trigger. -/
def State.swReset (s : State) (agent key : Nat) : State := if key = 0xA5 ∧ 34 ≤ agent then s.resetTrigger ResetCause.sw else s

/-- RESET_APPLY: the word in flight is complete and the reset is applied (R83, R84). -/
def State.resetApply (s : State) : State := if s.pwr.seq = 1 then s.nvmHalt.resetState false else s

/-- SUPPLY_DIP: a rail below its threshold for more than 1 µs; VDD_AON and VDDIO give POR, the others BOR (R78). -/
def State.supplyDip (s : State) (aon : Bool) : State :=
  let s := s.nvmTear.addCause (if aon then ResetCause.por else ResetCause.bor)
  ({ s with pwr := { s.pwr with railLow := true } } : State).resetState aon

/-- POR_RELEASE: every rail above its threshold for 200 µs with RESET_N high (R78). -/
def State.porRelease (s : State) : State :=
  if s.pwr.railLow then { s with pwr := { s.pwr with railLow := false, resetLow := false, seq := 3, seqAt := s.now } } else s

/-! ## The ROM (R88, R90) -/

/-- LC0 starts its ROM: the ports of the boot record are enabled at the stored rate (R88). -/
def State.romStart (s : State) : State :=
  let ports := (List.range 6).filter s.bootPorts.testBit
  let s := s.each (ports.filter (fun p => s.portState p == 0)) (fun s p => (s.setF (F.LNK.PORT_CFG_RATE p) s.bootRate).portEnable p)
  s.setF F.SYS.BOOT_STATUS_ROM_STATE (if ports.isEmpty then 2 else 1)

/-- Every port of the boot record is UP: the ROM waits for an image (R88). -/
def State.romPorts (s : State) : State :=
  if s.f F.SYS.BOOT_STATUS_ROM_STATE = 1 ∧ ((List.range 6).filter s.bootPorts.testBit).all s.portUp? then s.setF F.SYS.BOOT_STATUS_ROM_STATE 2 else s

/-! ## The reset sequence (R85, R86) -/

/-- RESET_CAUSE is written (R93, step 1 of R85).  DESIGN CHOICE (log entry 81): two sources recorded by one restarted sequence count once, and with POR among them
RESET_CNT is 0. -/
def State.recordCause (s : State) : State :=
  let c := s.pwr.cause
  let por := c.testBit ResetCause.por
  let w := bits (s.reg A.SYS.RESET_CAUSE).toNat 5 0
  let s := if por then s.setReg A.SYS.RESET_CAUSE 0 else s.inc F.SYS.RESET_CAUSE_RESET_CNT
  let s := s.setReg A.SYS.RESET_CAUSE (BitVec.ofNat 32 (setBits (s.reg A.SYS.RESET_CAUSE).toNat 5 0 (if por then c else w ||| c)))
  { s with pwr := { s.pwr with cause := 0 } }

/-- The synthesiser locks to the plan in use, after a full calibration where there is none stored (R85, R86, R490); without a readable power-up record it has no
plan and stays unlocked. -/
def State.synStart (s : State) : State :=
  if s.on F.SYS.BOOT_STATUS_NVM_BAD then s
  else
    let p := s.plan
    let s := if s.on (F.CLK.PLAN_CAL0_CAL_VALID p) then s
      else
        let r := Config.fullCal s.freeCnt
        let s := (s.setF (F.CLK.PLAN_CAL0_VCO_BAND p) r.1).setF (F.CLK.PLAN_CAL0_LOOP_TRIM p) r.2.1
        let s := ((s.setF (F.CLK.PLAN_CAL1_PHASE_RES p) r.2.2).setF (F.CLK.PLAN_CAL0_CAL_VALID p) 1).tickFree
        (s.inc F.CLK.CLK_CNT_CAL_CNT).raise F.CLK.EVT_CAL_DONE
    s.synthLock

/-- Switches every core domain on: CORE and CL0 to CL3. -/
def State.allCoresOn (s : State) : State :=
  let s := { s with doms := s.doms ||| 0xF80 }
  s.each [7, 8, 9, 10, 11] State.coresOn

/-- What steps 3 of R85 and 4 of R67 load, and the outputs that follow: the bias outputs and the pads of TRSW and COEX_REQ are driven unless the power-up record is
unreadable (R80, R86, R605). -/
def State.powerUpLoad (s : State) (wake : Bool) : State :=
  let s := s.nvmLoad wake
  let s := s.biasAllSafe
  let s := { s with aux := { s.aux with biasOn := !s.on F.SYS.BOOT_STATUS_NVM_BAD } }
  let s := s.padDrive (if s.on F.SYS.BOOT_STATUS_NVM_BAD then 0x23 else 0x3F)
  (s.calLoad.vsel false).loadSafeAll

/-- Steps 2 to 10 of R85 once REFCLK is there; `base` is the reference moved by the wait (R86). -/
def State.resetRest (s : State) (base : Nat) : State :=
  let s := s.advanceTo (base + 100 * usU)
  let s := s.hkStart s.now
  let s := (s.advanceTo (base + 150 * usU)).powerUpLoad false
  let s := s.advanceTo (base + 300 * usU)
  let s := { s with doms := s.doms ||| 2 ^ Dom.ctl, tim := {} }
  let s := s.advanceTo (base + 400 * usU)
  let s := { s with doms := s.doms ||| 2 ^ Dom.ctx }
  let s := (s.advanceTo (base + 750 * usU)).setF F.SYS.BOOT_STATUS_WIPE 0
  let s := ({ s with doms := s.doms ||| 2 ^ Dom.syn } : State).clkOn
  let late := if s.on F.SYS.BOOT_STATUS_NVM_BAD || s.on (F.CLK.PLAN_CAL0_CAL_VALID s.plan) then 0 else 3600 * usU
  let s := (s.advanceTo (base + 1150 * usU + late)).synStart
  let s := (s.advanceTo (base + 1450 * usU + late)).allCoresOn
  let s := { s with doms := domsOfMode Mode.baseCamp, pwr := { s.pwr with seq := 0, prev := Mode.baseCamp } }
  (s.setF F.PWR.MODE_STATUS_MODE Mode.baseCamp).romStart.raise F.SYS.EVT_RESET_DONE

/-- RESET_SEQUENCE: the sequence from the release of reset; without REFCLK it waits at step 2 (R85, R86).  A RESET_N that ended the wait for a thermal restart is
recorded with the thermal cause (R529). -/
def State.resetSequence (s : State) (refclk : Bool) : State :=
  if (s.pwr.seq = 2 ∨ s.pwr.seq = 3) ∧ !s.pwr.railLow then
    let base := s.now
    let thermal := s.pwr.wakeSrc
    let s := s.recordCause
    let s := if thermal = 2 then s.setF F.PWR.WAKE_CAUSE_THERMAL 1 else s
    let s := { s with doms := 0xF, pwr := { s.pwr with resetLow := false, shdnLow := false, wakeSrc := 0, seq := 4, seqAt := base, padOe := 0x23 } }
    if refclk then s.resetRest base else s.advanceTo (base + 100 * usU)
  else s

/-! ## Image verification and boot (R89, R90, R561, R562) -/

/-- A section of an image: core, memory (1: data), source, destination and length. -/
structure Section where
  core : Nat
  data : Bool
  src : Nat
  dst : Nat
  len : Nat
deriving DecidableEq, Repr

def State.imgSection (s : State) (b : BootRun) (i : Nat) : Section :=
  let o := 256 + 16 * i
  { core := s.img b o 1, data := s.img b (o + 1) 1 == 1, src := s.img b (o + 4) 4, dst := s.img b (o + 8) 4, len := s.img b (o + 12) 4 }

/-- Bytes of the memory a section goes to. -/
def Section.room (x : Section) : Nat := if x.data then dmemSize else 0x10000

/-- Two sections write one byte of one memory. -/
def Section.meets (x y : Section) : Bool :=
  x.core == y.core && x.data == y.data && decide (x.dst < y.dst + y.len) && decide (y.dst < x.dst + x.len)

def sectionsMeet : List Section → Bool
  | [] => false
  | x :: l => l.any x.meets || sectionsMeet l

/-- The header of an image is well formed (R561 check 4, the section entries apart). -/
def State.imgHeaderOk (s : State) (b : BootRun) : Bool :=
  let entry := s.img b 12 4
  let n := s.img b 16 2
  s.img b 0 4 == 0x4B524854 && decide (s.img b 18 1 < 64) && s.img b 19 1 == 0 && (memRead s.mem (b.base + 148) 108).all (· == 0) &&
  decide (1 ≤ n) && decide (n ≤ 64) && entry % 4 == 0 && decide (entry < 0x10000)

/-- KEYS holds no digest. -/
def State.noDigest (s : State) : Bool := s.keysFlags % 4 == 0

/-- SHA-256 of the whole image with SIG taken as zero. -/
def State.imgDigest (s : State) (b : BootRun) : List Byte :=
  let l := memRead s.mem b.base (s.imgLen b)
  sha256 (l.take 84 ++ List.replicate 64 0 ++ l.drop 148)

/-- The code of an image, 0 where it passes: the first failing check of R561. -/
def State.imageCode (s : State) (b : BootRun) : Nat :=
  let lc := s.f F.NVM.LC_STATUS_STATE
  let len := s.imgLen b
  let n := s.img b 16 2
  let secs := (List.range n).map (s.imgSection b)
  let key := memRead s.mem (b.base + 20) 64
  if (s.inForce 1).isNone || (2 ≤ lc && (s.inForce 0).isNone) then 7
  else if b.base % 64 ≠ 0 then 1
  else if len < 256 ∨ (if b.wake then 524288 else 2097152) < len then 2
  else if !b.wake && (decide (b.base < 0x04000000) || decide (0x04200000 < b.base + len)) then 2
  else if !s.imgHeaderOk b then 1
  else if len < 256 + 16 * n then 2
  else if (List.range n).any (fun i => decide (33 < s.img b (256 + 16 * i) 1) || decide (1 < s.img b (257 + 16 * i) 1) || s.img b (258 + 16 * i) 2 != 0)
  then 1
  else if s.img b 4 4 ≠ len then 2
  else if secs.any (fun x => x.src % 64 != 0 || x.len % 4 != 0 || decide (len < x.src + x.len) || decide (x.room < x.dst + x.len)) || sectionsMeet secs then 2
  else if !(s.img b 18 1).testBit lc then 6
  else if (s.keyMatch key).isNone && !(decide (lc < 2) && s.noDigest) then 4
  else if s.img b 8 4 < s.minVersion then 5
  else if !(lc == 0 && s.noDigest) && !ecdsaOk key (memRead s.mem (b.base + 84) 64) (s.imgDigest b) then 3
  else 0

/-- Runs of a record write until it completes. -/
def State.nvmRun (s : State) : Nat → State
  | 0 => s
  | n + 1 => s.nvmWordDone.nvmRun n

/-- The KEYS write of the ROM after the checks (R562): MIN_VERSION rises, and the other digests are revoked. -/
def State.romKeys (s : State) (b : BootRun) : State :=
  let flags := s.img b 18 1
  let ver := s.img b 8 4
  let bump := flags.testBit 4 && decide (s.minVersion < ver)
  let drop := match s.keyMatch (memRead s.mem (b.base + 20) 64) with
    | some j => if flags.testBit 5 && s.keysFlags.testBit (1 - j) then 2 ^ (3 - j) else 0
    | none => 0
  let drop := if s.keysFlags &&& drop = drop then 0 else drop
  if bump || drop != 0 then
    let old := (s.recBody 0).getD []
    let body := (List.range 64).map (fun i => old.getD i 0) ++ leBytes 4 (s.keysFlags ||| drop) ++ leBytes 4 (if bump then ver else s.minVersion)
    let idle := s.nvm.write.isNone && s.nvm.auth.isNone && !s.nvm.held
    let s := s.nvmSave 0 (.keys body) 72
    if idle then s.nvmRun 18 else s
  else s

/-- The sections are copied into the core memories (R90). -/
def State.imgCopy (s : State) (b : BootRun) : State :=
  s.each (List.range (s.img b 16 2)) (fun s i =>
    let x := s.imgSection b i
    { s with mem := memWrite s.mem ((if x.data then dmemBase x.core else imemBase x.core) + x.dst) (memRead s.mem (b.base + x.src) x.len) })

/-- The ROM accepts a GO in LINK_UP, WAIT_IMAGE and REJECTED only (R90). -/
def State.goAllowed (s : State) : Bool := [1, 2, 6].contains (s.f F.SYS.BOOT_STATUS_ROM_STATE)

/-- BOOT_GO: verification of the image starts, and its range is locked (R90).  DESIGN CHOICE (log entry 81): SOURCE shows 0 for a GO of a core. -/
def State.bootGo (s : State) (host : Nat) : State :=
  if s.goAllowed then
    let s := (s.setF F.SYS.BOOT_STATUS_SOURCE (b2n (host == Agent.mpB))).setF F.SYS.BOOT_STATUS_ROM_STATE 3
    { s with pwr := { s.pwr with boot := some { wake := false, base := s.f F.SYS.BOOT_IMG_ADDR_ADDR, len := s.f F.SYS.BOOT_IMG_LEN_LEN } } }
  else s

/-- The boot window of a wake is open: before 5,700 µs of the wake table (R69). -/
def State.inWindow (s : State) : Bool := s.pwr.seq == 6 && decide (s.now < s.pwr.seqAt + 5700 * usU)

/-- BOOT_VERIFY_DONE: the image passes and LC0 starts at its entry, or it is rejected (R90).  DESIGN CHOICE (log entry 81): REJECT_CODE keeps the last code through a
later GO and a pass. -/
def State.bootVerified (s : State) : State :=
  match s.pwr.boot with
  | none => s
  | some b =>
    let c := s.imageCode b
    let s := { s with pwr := { s.pwr with boot := none } }
    if c = 0 then
      let s := (s.romKeys b).imgCopy b
      let s := (s.coreRun 0 (s.img b 12 4)).setF F.SYS.BOOT_STATUS_ROM_STATE 5
      let s := s.raise F.SYS.EVT_BOOT_DONE
      if b.wake && s.inWindow then s.setF F.PWR.WAKE_CAUSE_BOOT_OK 1 else s
    else
      let s := (s.setF F.SYS.BOOT_STATUS_REJECT_CODE c).inc F.SYS.BOOT_STATUS_REJECT_CNT
      (s.setF F.SYS.BOOT_STATUS_ROM_STATE 6).raise F.SYS.EVT_BOOT_REJECT

/-! ## Bivouac and shutdown: what goes off and what stays -/

/-- Registers of the AON domain; with them the doorbells, DB_PEND_LO and DB_PEND_HI of every agent (R73 to R75, R93, R452, R468, R531). -/
def aonRegs : List Nat :=
  [A.SYS.RESET_CAUSE, A.PWR.WAKE_CFG, A.PWR.WAKE_CAUSE, A.PWR.RET_CTX_SEL0, A.PWR.RET_CTX_SEL1, A.PWR.RET_CTX_SEL2, A.PWR.RET_MSG_SEL,
   A.PWR.RET_LOST_CTX0, A.PWR.RET_LOST_CTX1, A.PWR.RET_LOST_CTX2, A.PWR.RET_LOST_MSG, A.PWR.PAD_CTRL, A.THM.SHDN_LOG, A.THM.RESTART_CFG]

def aonReg (a : Nat) : Bool := aonRegs.contains a || (decide (0x100C0400 ≤ a) && decide (a < 0x100C0640) && (a % 16 == 4 || a % 16 == 8))

/-- An address in a retained bank. -/
def State.isRetained (s : State) (a : Nat) : Bool := s.retained.any (fun b => decide ((bankBase b).1 ≤ a) && decide (a < (bankBase b).1 + (bankBase b).2))

/-- Ports that are in the deep state. -/
def State.deepPorts (s : State) : List Nat := (List.range 6).filter (fun p => s.portState p == 4)

/-- Every domain but AON and IO is off: its registers, memories and tables are lost; `kept` keeps the retained banks and the deep ports (R45, R62, R117). -/
def State.powerOff (s : State) (kept : Bool) : State :=
  let deep := if kept then s.deepPorts else []
  let regs := s.regs.filter (fun (x : Nat × Word) => aonReg x.1 || deep.any (fun p => blkOf x.1 == 4 + p))
  let ports := (List.range 6).map (fun p => if deep.contains p then s.port p else {})
  let nvm : NvmState := { mem := s.nvm.mem, bad := s.nvm.bad, tornInj := s.nvm.tornInj }
  let pwr : PwrState := { cause := s.pwr.cause, wakeSrc := s.pwr.wakeSrc, sigs := if kept then s.pwr.sigs else [], latch := s.pwr.latch, seq := 0,
                          restart := s.pwr.restart, late := s.pwr.late, plan := s.pwr.plan, shdnLow := s.pwr.shdnLow, resetLow := false,
                          railLow := false, seqAt := s.now }
  let r : State := { doms := 0x3, pending := s.pending, now := s.now, freeCnt := s.freeCnt, regs := regs, ports := ports, nvm := nvm, pwr := pwr,
                     mem := if kept then s.mem.filter (fun (c : Host.Cell) => s.isRetained c.1) else [] }
  r.setF F.PWR.MODE_STATUS_MODE Mode.bivouac

/-- Bivouac is entered (R606): ports with EN enter the deep state, the pads are latched or float, and every domain but AON and IO goes off. -/
def State.bivouacEnter (s : State) : State :=
  let s := s.advanceTo (s.pwr.at_ + 110 * usU)
  let s := s.each ((List.range 6).filter (fun p => s.on (F.LNK.PORT_CTRL_EN p))) State.enterDeep
  let s := s.padHold
  let s := { s with pwr := { s.pwr with restart := s.on F.THM.THM_CFG_RESTART_EN, plan := s.plan } }
  let s := s.advanceTo (s.pwr.at_ + 400 * usU)
  s.powerOff true

/-- REST_ENTRY_COMPLETE: a committed entry completes, host Ledge at the next slot boundary (R47, R54, R55, R606). -/
def State.restEntered (s : State) : State :=
  if s.f F.PWR.REST_STATUS_STATE ≠ 3 then s
  else
    let late := s.pwr.wakeSrc
    if s.depth = 1 then
      let s := match s.gridScs with
        | some scs => s.advanceTo (s.slotInstant scs (s.slotAfter scs s.pwr.at_))
        | none => s
      let s := s.ledgeEnter
      if late ≠ 0 then s.hostWake late else s
    else if s.depth = 2 then
      let s := s.basecampEnter
      if late ≠ 0 then s.hostWake late else s
    else s.bivouacEnter

/-- A Bivouac entry is committed: hosts lose the domains that go off (R606 step 1). -/
def State.bivouacCommitted (s : State) : Bool := s.f F.PWR.REST_STATUS_STATE == 3 && s.depth == 3

/-- The matcher of the AON domain serves the management bus: in Bivouac, until a wake or a reset (R65). -/
def State.mgmtSleeps (s : State) : Bool := s.mode == Mode.bivouac && s.pwr.seq == 0

/-- MGMT_ADDR_MATCH: an address byte on the management bus.  MGMT_ADDR is acknowledged but from a wake until Base camp and under a reset; the bytes behind it are refused in
Bivouac, where the match is a wake source, and acknowledged from Base camp on (R65, R80).  During a rest entry a match is a wake source too (R58). -/
def State.mgmtMatch (s : State) (addr : Nat) : State :=
  let mine := addr == s.f F.PWR.WAKE_CFG_MGMT_ADDR
  let s := { s with io := { s.io with mgmtAck := mine && s.pwr.seq == 0, mgmtData := mine && s.pwr.seq == 0 && !s.mgmtSleeps } }
  if !mine then s
  else if s.mgmtSleeps then { s with pwr := { s.pwr with wakeSrc := s.pwr.wakeSrc ||| 1 } }
  else s.wakeEvent 1

/-! ## The wake table (R64, R67 to R69) -/

/-- The check of the retained banks at step 6: upset cells, and banks with an uncorrectable word; a bank that fails is wiped and its bit set (R64). -/
def State.checkBanks (s : State) (upsets : List (Nat × Byte)) (ue : List Nat) : State :=
  let cells := upsets.filter (fun (c : Nat × Byte) => s.isRetained c.1)
  let s := { s with mem := cells.foldl (fun m (c : Nat × Byte) => memSet m c.1 c.2) s.mem }
  let lost := (s.pwr.sigs.filter (fun (x : Nat × Nat) => ue.contains x.1 || s.bankSig x.1 != x.2)).map (·.1)
  let s := { s with pwr := { s.pwr with lost := lost } }
  s.each lost (fun s b =>
    let s := { s with mem := memClear s.mem (bankBase b).1 (bankBase b).2 }
    let a := if b < 96 then A.PWR.RET_LOST_CTX0 + 4 * (b / 32) else A.PWR.RET_LOST_MSG
    let k := if b < 96 then b % 32 else b - 96
    s.setReg a ((s.reg a) ||| BitVec.ofNat 32 (2 ^ k)))

/-- A port that WAKE_CFG.WAKE_LINK does not name wakes in state OFF with its settings discarded (R117). -/
def State.portForget (s : State) (p : Nat) : State :=
  ({ s with regs := s.regs.filter (fun (x : Nat × Word) => blkOf x.1 != 4 + p) } : State).setPort p {}

/-- The boot image of a wake is taken: BOOT_EN, but not after a thermal restart, which keeps no bank (R67, R529). -/
def State.wakeBoots (s : State) : Bool := s.on F.PWR.WAKE_CFG_BOOT_EN && !s.on F.PWR.WAKE_CAUSE_THERMAL

/-- Steps 3 to 12 of the wake table once REFCLK is there; the boot window opens (R67). -/
def State.wakeBody (s : State) (base : Nat) (upsets : List (Nat × Byte)) (ue : List Nat) : State :=
  let s := s.advanceTo (base + 100 * usU)
  let s := s.hkStart s.now
  let s := (s.advanceTo (base + 150 * usU)).powerUpLoad true
  let s := s.advanceTo (base + 300 * usU)
  let s := { s with doms := s.doms ||| 2 ^ Dom.ctl, tim := {} }
  let s := s.advanceTo (base + 400 * usU)
  let s := { s with doms := s.doms ||| 2 ^ Dom.ctx }
  let s := s.checkBanks upsets ue
  let s := (s.advanceTo (base + 750 * usU)).setF F.SYS.BOOT_STATUS_WIPE 0
  let s := ({ s with doms := s.doms ||| 2 ^ Dom.syn } : State).clkOn
  let s := s.setF F.CLK.CLK_STATUS_PLAN s.pwr.plan
  let s := (s.advanceTo (base + 1150 * usU)).synStart
  let s := (s.advanceTo (base + 1450 * usU)).allCoresOn
  let s := s.advanceTo (base + 1500 * usU)
  let s := { s with doms := s.doms ||| 2 ^ Dom.eng, pwr := { s.pwr with seq := 6, seqAt := base } }
  let s := s.each (s.deepPorts.filter (fun p => !(s.f F.PWR.WAKE_CFG_WAKE_LINK).testBit p)) State.portForget
  if s.wakeBoots then
    let b : BootRun := { wake := true, base := (bankBase (s.f F.PWR.WAKE_CFG_BOOT_BANK)).1, len := 0 }
    ({ s with pwr := { s.pwr with boot := some b } } : State).setF F.SYS.BOOT_STATUS_ROM_STATE 3
  else s.romStart

/-- Steps 13 to 15 of the wake table, after the boot window: the deep ports of WAKE_LINK leave their state, Base camp is reached with its events, and the wake
target is entered or not (R67). -/
def State.wakeFinish (s : State) : State :=
  if s.pwr.seq ≠ 6 then s
  else
    let base := s.pwr.seqAt
    let s := s.advanceTo (base + 5700 * usU)
    let s := s.each s.deepPorts State.leaveDeep
    let s := s.advanceTo (base + 5880 * usU)
    let thermal := s.on F.PWR.WAKE_CAUSE_THERMAL
    let late := s.pwr.late
    let bootEn := s.wakeBoots
    let bootOk := s.on F.PWR.WAKE_CAUSE_BOOT_OK
    let s := { s with doms := domsOfMode Mode.baseCamp, pwr := { s.pwr with seq := 0, prev := Mode.baseCamp, late := false, rest := 0 } }
    let s := ((s.setF F.PWR.MODE_STATUS_MODE Mode.baseCamp).setF F.PWR.REST_STATUS_STATE 0).raise F.PWR.EVT_WAKE_DONE
    let s := s.each s.pwr.lost (fun s b => s.raiseDet F.PWR.EVT_RET_LOST 21 b false)
    let s := if bootEn && !bootOk then s.raise F.PWR.EVT_BOOT_FAIL else s
    let s := if late then s.raise F.PWR.EVT_WAKE_FAIL else s
    let s := if thermal then s.raise F.THM.EVT_RESTARTED else s
    let t := s.f F.PWR.WAKE_CFG_TARGET
    if bootOk && (t == Mode.listen || t == Mode.serve) then
      let s := s.advanceTo (base + 6000 * usU)
      if s.on F.PWR.PAD_CTRL_HOLD then s.modeRefuse 2
      else
        let s := { s with doms := domsOfMode t, pwr := { s.pwr with prev := t } }
        (s.txForget.dpdRestart).modeApply t
    else s

/-- WAKE_START: the latched sources wake the device, after a shutdown only with thermal restart among them, and WAKE_CAUSE records them all (R66 to R68, R529); without
REFCLK the sequencer waits at step 3. -/
def State.wakeStart (s : State) (refclk : Bool) (upsets : List (Nat × Byte)) (ue : List Nat) : State :=
  let src := if s.thm.off && !s.pwr.wakeSrc.testBit 1 then 0 else s.pwr.wakeSrc
  if s.mode = Mode.bivouac ∧ s.pwr.seq = 0 ∧ src ≠ 0 then
    let base := s.now
    let s := s.setReg A.PWR.WAKE_CAUSE (BitVec.ofNat 32 (src % 8 + (if s.pwr.late then 512 else 0)))
    let s := { s with doms := 0xF, thm := {}, pwr := { s.pwr with seq := 5, seqAt := base, wakeSrc := 0, shdnLow := false } }
    let s := s.setF F.PWR.REST_STATUS_STATE 5
    if refclk then s.wakeBody base upsets ue else s.advanceTo (base + 100 * usU)
  else s

/-- REFCLK_PRESENT: REFCLK appears and the later steps proceed, moved by the wait (R68, R86); of a wake, with what its check of the banks finds. -/
def State.refclkPresent (s : State) (upsets : List (Nat × Byte)) (ue : List Nat) : State :=
  let base := s.now - 100 * usU
  if s.pwr.seq = 4 then s.resetRest base
  else if s.pwr.seq = 5 then s.wakeBody base upsets ue
  else s

/-- WAKE_REFCLK_TIMEOUT: no REFCLK within 10 ms; the device returns to Bivouac with its banks in retention (R68). -/
def State.refclkTimeout (s : State) : State :=
  if s.pwr.seq = 5 then
    let thermal := s.on F.PWR.WAKE_CAUSE_THERMAL
    let s := s.advanceTo (s.pwr.seqAt + 100 * usU + 10 * msU)
    let s := s.setF F.PWR.WAKE_CAUSE_REFCLK_LATE 1
    let s := { s with pwr := { s.pwr with late := true } }
    let s := s.powerOff true
    if thermal then { s with thm := { s.thm with off := true } } else s
  else s

/-! ## Thermal shutdown and restart (R527 to R529) -/

/-- Steps 1 to 3 of R527 after the confirming reading: the rest protocol is abandoned, outputs go quiet, lanes idle, pads are latched. -/
def State.shutdownActs (s : State) : State :=
  let s := { s with pwr := { s.pwr with asked := none, stopped := [], req := none, boot := none, restart := s.on F.THM.THM_CFG_RESTART_EN, wakeSrc := 0,
                                        plan := s.plan } }
  let s := (s.setF F.PWR.REST_STATUS_STATE 0).setF F.PWR.MODE_STATUS_PENDING 0
  let s := s.quietDown.padHold
  let idle := (List.range 6).map (fun p => { s.port p with busy := none, queue := [], rx := none, idle := true })
  { s with ports := idle }

/-- The shutdown that a reading may have started takes its first steps (R527). -/
def State.shutdownFrom (s r : State) : State := if s.thm.shdn.isNone && r.thm.shdn.isSome then r.shutdownActs else r

/-- A sensor reading, with the shutdown it may start (R517, R527). -/
def State.sensorRead (s : State) (x : Nat) (value : Int) : State := s.shutdownFrom (s.sensorReading x value)

/-- A conversion ends; the reading of a thermistor may start a shutdown (R516, R527, R542). -/
def State.conversionEnd (s : State) (v : Nat) (a b : Int) : State := s.shutdownFrom (s.conversionDone v a b)

/-- SHUTDOWN_POWER_OFF: after the word in flight every domain goes off and SHDN_N is driven low at 25 µs, the NVM domain last at 30 µs (R527 steps 4 to 6). -/
def State.shutdownOff (s : State) : State :=
  match s.thm.shdn with
  | none => s
  | some t =>
    let s := (s.advanceTo (t + 30 * usU)).nvmHalt
    let s := s.powerOff false
    { s with thm := { s.thm with off := true }, pwr := { s.pwr with shdnLow := true } }

/-- AON_SENSOR_READING with a temperature in 1/16 °C: a shutdown from Bivouac, or the restart after one (R528, R529). -/
def State.aonRead (s : State) (t : Int) : State :=
  if s.mode ≠ Mode.bivouac ∨ s.pwr.seq ≠ 0 then s
  else if s.thm.off then
    let s := s.aonReading t
    if s.pwr.restart && decide (s.f F.THM.SHDN_LOG_TALLY ≤ s.f F.THM.RESTART_CFG_RESTART_MAX) && decide (100 ≤ s.thm.aonCool) then
      { s with pwr := { s.pwr with wakeSrc := s.pwr.wakeSrc ||| 2 } }
    else s
  else if s.thm.shdn.isSome then s
  else
    let s := s.aonReading t
    if 2 ≤ s.thm.aonHot then s.shutdownLatch 0x3F t false else s

/-! ## Watchdog expiry (R388, R389) and life-cycle transitions (R558, R559) -/

/-- WDT_EXPIRE of core n: a device reset for an escalating leader core, else a fault with cause WDT. -/
def State.wdtExpire (s : State) (n : Nat) (inj : Bool) : State :=
  if s.wdtEscalates n then s.resetTrigger ResetCause.wdt
  else (s.raiseDet F.TKC.EVT_WDT_EXPIRE 24 n inj).coreFault n CoreFault.wdt 0 inj

/-- A write of LC_REQ (R558): refused with a code, marked with a reset that follows, or, for Returned, the authorisation starts. -/
def State.lcReq (s : State) (key target : Nat) : State :=
  let c := s.lcCode key target
  if c ≠ 0 then s.lcRefuse c
  else if target = 3 then { s with nvm := { s.nvm with auth := some 3 } }
  else (s.lcMark target).resetTrigger ResetCause.lct

/-- LC_AUTH_DONE: the authorisation passes, and the word is marked with a reset that follows, or fails with AUTH (R559). -/
def State.lcAuthDone (s : State) : State :=
  match s.nvm.auth with
  | none => s
  | some t =>
    if s.quieting then { s with nvm := { s.nvm with auth := none } } else
    let ok := s.lcAuthOk
    let s := { s with nvm := { s.nvm with auth := none } }
    if ok then (s.lcMark t).resetTrigger ResetCause.lct else (s.lcRefuse 6).nvmNext

end Sys2Proof.Machine
end

