-- ==== Sys2Proof/Machine/TimCmd.lean ====
section
/-! DEFINITION. Commands on time bases, exchanges, the timeline, SYNC pulses and the network-listen receiver (R173 to R192). -/

namespace Sys2Proof.Machine

/-- CAPTURE: the four bases and tallies go to the bank of a host, 0 for MP-A (R174). -/
def State.capture (s : State) (h : Nat) : State :=
  let s := s.each (List.range 4) (fun s n => s.setF (F.TIM.CAP_NS_NS h n) (s.tb n).ns)
  let s := (s.setF (F.TIM.CAP_TALLY_TB0 h) (s.tb 0).tally).setF (F.TIM.CAP_TALLY_TB1 h) (s.tb 1).tally
  (s.setF (F.TIM.CAP_TALLY_TB2 h) (s.tb 2).tally).setF (F.TIM.CAP_TALLY_TB3 h) (s.tb 3).tally

/-- TB_WRAP and TB_HALF: time runs on to the point (R173). -/
def State.tbWrap (s : State) (n : Nat) : State := if s.domOn Dom.ctl && decide (n < 4) then s.tbRunTo n 0 else s
def State.tbHalf (s : State) (n : Nat) : State := if s.domOn Dom.ctl && decide (n < 4) then s.tbRunTo n (2 ^ 63) else s

/-- A whole-frame step of TB2 under air discipline (R175). -/
def State.frameStep (s : State) (n : Nat) (step : Int) : Bool := n == 2 && s.f (F.TIM.TB_DISC_MODE 2) == 2 && step % 10000000 == 0

/-- A write of TB_STEP is accepted (R175). -/
def State.stepAllowed (s : State) (n : Nat) (step : Int) : Bool := !s.tbHeld n && (s.servo n == 0 || s.frameStep n step)

/-- A write of TB_STEP, in ns (R175). -/
def State.tbStep (s : State) (n : Nat) (step : Int) : State :=
  if s.stepAllowed n step then
    let moved := s.frameStep n step
    let s := s.tbJump n ((s.tb n).val + step * 4294967296)
    if moved then { s with tim := { s.tim with nlPredict := ((s.tim.nlPredict + 16 * step) % (2 ^ 44 : Nat)).toNat } } else s
  else s

/-- A write of TB_TALLY_SET; the predicted preamble instants of TB2 move with its tally (R175, R192). -/
def State.tallySet (s : State) (n tally : Nat) : State :=
  if s.tbHeld n then s
  else
    let moved : Int := (tally % 256 : Nat) - ((s.tb n).tally : Int)
    let s := s.setTb n { s.tb n with val := (s.tb n).val % 2 ^ 64 + tally % 256 * 2 ^ 64 }
    let p := if n = 2 then ((s.tim.nlPredict + moved * 2 ^ 36) % (2 ^ 44 : Nat)).toNat else s.tim.nlPredict
    { s with tim := { s.tim with nlPredict := p, startFrom := s.now } }

/-- A write of TB_DISC that sets MODE: FREE with 0, ACQUIRE with 1 or 2 (R179, R194). -/
def State.discMode (s : State) (n was : Nat) : State :=
  let m := s.f (F.TIM.TB_DISC_MODE n)
  if m = was then s
  else if m = 0 then (s.setServo n 0).setTb n { s.tb n with exch := none }
  else
    let s := s.setTb n { s.tb n with syncRef := s.now, missK := 0, exch := none }
    s.servoAcquire n

/-! ## Exchanges (R176 to R178) -/

/-- A measurement halved, with its rounding free. -/
def half (x : Int) : Int := x / 2 + (if x % 2 = 1 ∧ Config.roundsUp x then 1 else 0)

/-- SYNC_SEND: a master sends the next SYNC of base n on a master port, one every 1 / SYNC_RATE (R178). -/
def State.syncSend (s : State) (n port : Nat) : State :=
  let o := s.logical port
  if s.masterOn n port && port < 6 && s.outUp o then
    let s := s.advanceTo ((s.tb n).syncDue.getD o 0)
    let b := s.tb n
    let due := s.now + 1000 * msU / 2 ^ s.f (F.TIM.TB_DISC_SYNC_RATE n)
    (s.sendTime port 0 n b.exchNo 0).setTb n { b with exchNo := (b.exchNo + 1) % 65536, syncDue := setNth b.syncDue o due }
  else s

/-- SYNC: a slave stamps the arrival with t2 and sends DELAY_REQ, whose departure is t3; an open exchange is abandoned. -/
def State.syncIn (s : State) (n port exch t1 state stratum t2 : Nat) : State :=
  if !s.slaveOn n port then s.timeDrop
  else
    let s := s.setTb n { s.tb n with exch := some { num := exch, t1 := t1, t2 := t2, opened := s.now }, syncRef := s.now, missK := 0 }
    let s := (s.setF (F.TIM.TB_STATUS_MASTER_STATE n) state).setF (F.TIM.TB_STATUS_STRATUM n) (min 15 (stratum + 1))
    s.sendTime port 1 n exch 0

/-- DELAY_REQ: a master stamps the arrival with t4 and sends DELAY_RESP. -/
def State.delayReq (s : State) (n port exch t4 : Nat) : State :=
  if s.masterOn n port then s.sendTime port 2 n exch t4 else s.timeDrop

/-- DELAY_RESP: the slave computes the offset and the servo applies it. -/
def State.delayResp (s : State) (n port exch t4 : Nat) : State :=
  if !s.slaveOn n port then s.timeDrop
  else match (s.tb n).exch with
    | none => s.timeDrop
    | some x =>
      if x.num ≠ exch then s.timeDrop
      else
        let fwd := stampDiff x.t2 x.t1
        let rev := stampDiff t4 x.t3
        let delay := half (fwd + rev)
        let offset := half (fwd - rev - s.fi (F.TIM.TB_DISC_ASYM n))
        let s := (s.setTb n { s.tb n with exch := none }).showFi (F.TIM.TB_DELAY_DELAY n) delay
        s.servoExchange n offset

/-- EXCHANGE_TIMEOUT: an exchange not complete 1 ms after t2 counts as missed. -/
def State.exchTimeout (s : State) (n : Nat) : State :=
  match (s.tb n).exch with
  | none => s
  | some x =>
    let s := s.advanceTo (x.opened + msU)
    (s.setTb n { s.tb n with exch := none }).servoMiss n

/-- SYNC_MISS: an expected SYNC has not arrived by t_s + k / r + 1 ms. -/
def State.syncMiss (s : State) (n : Nat) : State :=
  if n < 2 ∧ s.f (F.TIM.TB_DISC_MODE n) = 1 then
    let b := s.tb n
    let s := s.advanceTo (b.syncRef + (b.missK + 1) * (1000 * msU / 2 ^ s.f (F.TIM.TB_DISC_SYNC_RATE n)) + msU)
    (s.setTb n { s.tb n with missK := b.missK + 1 }).servoMiss n
  else s

/-! ## The timeline (R181, R184) -/

/-- TL_CTRL.ARM and CLEAR in the states that accept them (R181). -/
def State.tlArm (s : State) : State :=
  if s.tlState = 0 then
    let s := (s.syncForget.setF F.TIM.TL_STATUS_STATE 1)
    s.when s.active State.latchStart
  else s
def State.tlClear (s : State) : State := if s.tlState = 3 then s.leaveRun 0 else s

/-- ALT_MEASURE: the ALT base against the timeline, every 1 ms (R184).  DESIGN CHOICE (log entry 84): at the 1 ms boundaries of the frame grid. -/
def State.altMeasure (s : State) : State :=
  if s.tlCounts then
    let s := s.advanceTo (s.tim.t0 + (max s.now s.tim.altAt - s.tim.t0 + msU - 1) / msU * msU)
    let s := { s with tim := { s.tim with altAt := s.now + 1 } }
    s.showFi F.TIM.TL_ALT_OFFSET_ALT_OFFSET ((-(s.tlMinusBase (s.f F.TIM.TL_CFG_ALT))) / 268435456)
  else s

/-! ## SYNC_OUT and SYNC_IN (R186 to R188) -/

/-- A pulse of SYNC_OUT; a frame boundary makes it 400 ns wide, and a settling window of the synthesiser has none (R186, R493). -/
def State.syncPulse (s : State) (mark : Bool) : State :=
  if s.on F.TIM.SYNC_CFG_OUT_EN && !s.clkWindow then
    { s with tim := { s.tim with syncOut := s.tim.syncOut + 1, syncWidth := if mark then 400 else 100, syncAt := s.now + 1 } }
  else { s with tim := { s.tim with syncAt := s.now + 1 } }

/-- GRID_MS_BOUNDARY: the next 1 ms boundary of the grid, or in WAIT the next instant START − k × 1 ms (R186). -/
def State.gridMs (s : State) : State :=
  if !s.active then s
  else if s.tlRun then
    let k := (max s.now s.tim.syncAt - s.tim.t0 + msU - 1) / msU
    (s.advanceTo (s.tim.t0 + k * msU)).syncPulse (k % 10 == 0)
  else if s.tlState = 1 then
    let ahead := s.startGap.toNat
    let step := 1000000 * 4294967296
    let skip := if ahead % step = 0 ∧ s.now < s.tim.syncAt then step else 0
    let d := ahead % step + skip
    let s := if d = 0 then s else s.elapse (s.tbSpan s.followed d)
    let k := (ahead - d) / step
    if 1 ≤ k then s.syncPulse (k % 10 == 0) else s
  else s

/-- A SYNC_IN error in ps after IN_DELAY, at a resolution of 10 ps, its rounding free. -/
def State.syncError (s : State) (raw : Int) : Int :=
  let x := raw - s.f F.TIM.SYNC_CFG_IN_DELAY
  10 * (x / 10 + (if x % 10 ≠ 0 ∧ Config.roundsUp x then 1 else 0))

/-- The grid has a frame boundary at the ms instant nearest to now (R186, R187). -/
def State.frameMark (s : State) : Bool :=
  if s.tlRun then (s.tlOff + msU / 2) / msU % 10 == 0
  else (s.startGap / 4294967296 + 500000) / 1000000 % 10 == 0

/-- SYNC_IN_EDGE: an edge, `raw` ps after the grid instant, whose width marks a frame boundary or not (R187, R188). -/
def State.syncEdge (s : State) (raw : Int) (mark : Bool) : State :=
  if !s.on F.TIM.TL_CFG_FOLLOW || !(s.tlState == 1 || s.tlRun) then s
  else if mark != s.frameMark then s.raise F.TIM.EVT_SYNC_FRAME_ERR
  else
    let e := s.syncError raw
    let wait := s.tlState == 1
    let first := wait && !s.tim.syncOn
    let s := (s.showFi F.TIM.SYNC_STATUS_PHASE e).tickFree
    let x := s.tim
    let run := if e.natAbs ≤ 1000 * s.f F.TIM.SYNC_CFG_CAPTURE then x.syncRun + 1 else 0
    -- the divider phase is stepped to the first edge in WAIT, and the edges behind it count
    let near := if !first && decide (e.natAbs ≤ 50) then x.syncNear + 1 else 0
    let on := x.syncOn || wait || decide (4 ≤ run)
    let x := { x with syncRun := run, syncNear := near, syncLast := s.now, syncOn := on, baseErr := if on && !x.syncOn then x.err else x.baseErr }
    let x := if on then { x with syncRate := Config.syncRate s.freeCnt } else x
    let x := if on && !wait then { x with err := e * 4294967296 / 1000, residual := 0 } else x
    let s := { s with tim := x }
    if 4 ≤ near then s.setF F.TIM.TL_STATUS_SYNC_LOCK 1 else s

/-- SYNC_LOSS: no edge within 1.5 ms of the last one (R188). -/
def State.syncLoss (s : State) : State :=
  if s.on F.TIM.TL_CFG_FOLLOW && s.tim.syncOn then
    let s := s.advanceTo (s.tim.syncLast + 3 * msU / 2)
    let r := if s.tlCounts then s.tlMinusBase s.followed else 0
    let s := { s with tim := { s.tim with syncOn := false, syncRun := 0, syncNear := 0, residual := r, err := r } }
    let s := (s.setF F.TIM.TL_STATUS_SYNC_LOCK 0).setF F.TIM.TL_STATUS_SLEWING (b2n (r != 0))
    (s.inc F.TIM.SYNC_STATUS_LOSS_CNT).raise F.TIM.EVT_SYNC_LOSS
  else s

/-! ## The network-listen receiver (R189 to R192) -/

def State.nlState (s : State) : Nat := s.f F.NLR.NL_STATUS_STATE
def State.nlRuns (s : State) : Bool := s.on F.NLR.NL_CFG_EN && s.active

/-- A write of NL_CFG.EN: SEARCH with 1, OFF with 0. -/
def State.nlEnable (s : State) (was : Bool) : State :=
  if s.on F.NLR.NL_CFG_EN == was then s
  else { s.setF F.NLR.NL_STATUS_STATE (if was then 0 else 1) with tim := { s.tim with nlSeen := false } }

/-- Energy b exceeds energy a by HYST, in units of 0.25 dB. -/
def exceedsBy (hyst a b : Nat) : Bool := decide (a ^ 40 * 10 ^ hyst < b ^ 40)

/-- The aerial of a window: forced, NL_A on equal energy, else the previous one unless the other exceeds it by HYST (R191). -/
def State.nlAerial (s : State) (ea eb : Nat) : Nat :=
  let h := s.f F.NLR.NL_CFG_HYST
  let prev := s.f F.NLR.NL_STATUS_AERIAL
  match s.f F.NLR.NL_CFG_FORCE with
  | 1 => 0
  | 2 => 1
  | _ => if ea = eb then 0 else if prev = 0 then (if exceedsBy h ea eb then 1 else 0) else if exceedsBy h eb ea then 0 else 1

/-- The signed offset of an instant of TB2 from the predicted instant nearest to it, in 1/16 ns (R192). -/
def State.nlOffset (s : State) (tp : Nat) : Int :=
  let p : Int := s.nlPeriod
  let d := s.nlDist tp
  d - p * ((2 * d + p) / (2 * p))

/-- An instant falls in the captured windows: anywhere in SEARCH; in TRACK within WIN around a predicted preamble that has no detection yet (R190). -/
def State.nlInWindow (s : State) (tp : Nat) : Bool :=
  s.nlState == 1 || (decide ((s.nlOffset tp).natAbs ≤ s.nlHalf) && decide (-(s.nlPeriod : Int) ≤ 2 * s.nlDist tp))

/-- The prediction moves to the period after an instant. -/
def State.nlNext (s : State) (tp : Nat) (offset : Int) : State :=
  let ref : Int := tp - offset - 16 * (s.f F.NLR.NL_OFFSET_PRE_OFFSET + s.f F.NLR.NL_DET_AIR_DELAY : Nat) + s.nlPeriod
  { s with tim := { s.tim with nlPredict := (ref % (2 ^ 44 : Nat)).toNat, nlSeen := s.nlState == 2 } }

/-- Nothing was captured since an instant: PA_EN of a path is high, or a TX symbol or a turnround has fallen there since (R190). -/
def State.nlCutSince (s : State) (t : Nat) : Bool := s.aux.pa != 0 || decide (t < s.tim.nlTxAt)

/-- The reference of the correlation: REF_LEN words (R189). -/
def State.nlRef (s : State) : List Nat := (List.range (s.f F.NLR.NL_CFG_REF_LEN)).map (fun i => (s.reg (0x101A2000 + 4 * i)).toNat)

/-- TB2 servo after a detection: a first step of the nanoseconds alone moves TB2 by whole wraps less than the offset says, and the prediction with it (R192). -/
def State.nlServo (s : State) (offset : Int) : State :=
  let was := (s.tb 2).ext16
  let stepped := (s.tb 2).stepped
  let s := (s.setF (F.TIM.TB_STATUS_MASTER_STATE 2) 2).servoExchange 2 offset
  let moved : Int := (s.tb 2).ext16 - (was : Int)
  if !stepped && moved != 0 then { s with tim := { s.tim with nlPredict := ((s.tim.nlPredict + moved + offset) % (2 ^ 44 : Nat)).toNat } } else s

/-- What a detection leaves: the chosen aerial's base band from the start of the preamble goes to message memory, and the instant to the servo (R190 to R192). -/
def State.nlFound (s : State) (pa pb : Nat × Nat × Nat) (ba bb : List Cplx) (tp : Nat) : State :=
  let a := s.nlAerial pa.1 pb.1
  let old := s.f F.NLR.NL_STATUS_AERIAL
  let offset := s.nlOffset tp
  let s := s.nlNext tp offset
  let s := (s.setF F.NLR.NL_ENERGY_ENERGY_A pa.1).setF F.NLR.NL_ENERGY_ENERGY_B pb.1
  let s := ((s.setF F.NLR.NL_STATUS_AERIAL a).setF F.NLR.NL_STATUS_STATE 2).setF F.NLR.NL_STATUS_MISS_RUN 0
  let s := if old = a then s else s.raise F.NLR.EVT_AERIAL_SWITCH
  let s := (s.inc F.NLR.NL_CNT_DETECT_CNT).raise F.NLR.EVT_DETECT
  let buf := s.f F.NLR.NL_BUF_ADDR
  let n := s.f F.NLR.NL_CFG_REF_LEN + s.f F.NLR.NL_POST_POST
  let words := (if a = 0 then ba.drop pa.2.1 else bb.drop pb.2.1).take n
  let fits := decide (0x04000000 ≤ buf) && decide (buf + 4 * words.length ≤ 0x04200000)
  let scs := (s.gridScs).getD 0
  let slot := if s.tlCounts then s.slotNow scs % slotsPerFrame scs else 0
  let s := if fits then s.engWrite 26 (if s.tlCounts then s.frameNow else 0) slot buf (words.map (fun x => leBytes 4 (cplxWord x))).flatten else s
  if s.f (F.TIM.TB_DISC_MODE 2) = 2 then s.nlServo offset else s

/-- The base band of a listening input, and its normalised correlation peak with the reference, at most 0xFFFF, with its place (R189); no peak without samples. -/
def State.nlListen (s : State) (before samples : List Nat) : List Cplx × Nat × Nat × Nat :=
  if samples.isEmpty then ([], 0, 0, 0)
  else
    let b := Config.nlBase (s.f F.NLR.NL_NCO_FREQ) before samples
    let p := Config.nlPeak s.nlRef b
    (b, min 0xFFFF p.1, p.2)

/-- Samples of both inputs up to now, each with those before them, mixed, decimated and correlated with the reference: a peak above THRESH in a window that was captured is
a detection, its instant stamped on TB2 (R189, R190, R192). -/
def State.nlHear (s : State) (a b : List Nat × List Nat) : State :=
  let pa := s.nlListen a.1 a.2
  let pb := s.nlListen b.1 b.2
  let back := if s.nlAerial pa.2.1 pb.2.1 = 0 then pa.2.2.2 else pb.2.2.2
  let tp := (((s.tb 2).ext16 - (back : Int)) % (2 ^ 44 : Nat)).toNat
  if !s.nlRuns || s.resting 7 || s.nlState == 0 || decide (max pa.2.1 pb.2.1 ≤ s.f F.NLR.NL_DET_THRESH) || s.nlCutSince (s.now - back * 24) || !s.nlInWindow tp then s
  else s.nlFound pa.2 pb.2 pa.1 pb.1 tp

/-- NL_DETECT: samples of both inputs, the last of them taken at an instant (R189 to R192). -/
def State.nlDetect (s : State) (a b : List Nat × List Nat) (instant : Nat) : State := (s.advanceTo instant).nlHear a b

/-- The end of the window in progress on TB2, and time run on to it (R190). -/
def State.nlWindowRun (s : State) : State :=
  let d := (s.nlHalf : Int) - s.nlDist ((s.tb 2).ext16)
  if 0 < d then s.tbAdvance 2 (d.toNat * 268435456) else s

/-- The prediction moves on by a period. -/
def State.nlForward (s : State) : State := { s with tim := { s.tim with nlPredict := (s.tim.nlPredict + s.nlPeriod) % 2 ^ 44 } }

/-- A TRACK window without a peak: a miss, the fourth in a row of which is LOST (R190). -/
def State.nlMiss (s : State) : State :=
  let run := s.f F.NLR.NL_STATUS_MISS_RUN + 1
  let s := (s.setF F.NLR.NL_STATUS_MISS_RUN run).raise F.NLR.EVT_MISS
  let air := decide (s.f (F.TIM.TB_DISC_MODE 2) = 2)
  let s := if air then s.servoMiss 2 else s
  if 4 ≤ run then
    let s := (s.setF F.NLR.NL_STATUS_STATE 1).raise F.NLR.EVT_LOST
    if air then s.servoHoldover 2 else s
  else s

/-- A TRACK window ends without a detection: a skip if it was cut, else a miss (R190). -/
def State.nlWindowLost (s : State) : State :=
  let since := (s.nlDist ((s.tb 2).ext16) + s.nlHalf).toNat
  let cut := s.nlCutSince (s.now - 24 * since)
  let s := s.nlForward
  if cut then s.inc F.NLR.NL_CNT_SKIP_CNT else s.nlMiss

/-- NL_WINDOW_END of a TRACK window: with its detection behind it, or in the samples up to its end; else a skip if it was cut, else a miss, the fourth in a row of which is
LOST (R190). -/
def State.nlWindowEnd (s : State) (a b : List Nat) : State :=
  if !s.nlRuns || s.nlState != 2 then s
  else if s.tim.nlSeen then { s with tim := { s.tim with nlSeen := false } }
  else
    let s := s.nlWindowRun.nlHear ([], a) ([], b)
    if s.tim.nlSeen then { s with tim := { s.tim with nlSeen := false } } else s.nlWindowLost

end Sys2Proof.Machine
end

