-- ==== Sys2Proof/Machine/BusRead.lean ====
section
/-! DEFINITION. Reads of registers: the registers that are computed when they are read, and the reads with a side effect, block by block. -/

namespace Sys2Proof.Machine

/-- Mask over the cores with a property. -/
def coreMask (ok : Nat → Bool) : Nat := ((List.range 34).filter ok).foldl (fun m n => m + 2 ^ n) 0

/-- PATH_PEND (R226): the paths of one half with a P_EVT bit set. -/
def State.pathPend (s : State) (hi : Nat) : Nat :=
  ((List.range 32).filter (fun i => s.on (F.RXP.P_EVT_EVT (32 * hi + i)))).foldl (fun m i => m + 2 ^ i) 0

/-- FULL_FRAME of CREDIT_STATUS: the VCs that hold the credit of a frame of 4,128 bytes, 65 units (R171); the members of a bond share it (R153). -/
def State.fullFrame (s : State) (p : Nat) : Nat :=
  if s.outUp (s.logical p) then ((List.range 8).filter (fun v => 65 ≤ (s.port (s.logical p)).credit v)).foldl (fun m v => m + 2 ^ v) 0 else 0

/-- AGENT_WAIT of an agent (R473). -/
def State.agentWait (s : State) (g : Nat) : Nat :=
  match s.waitsFor g with
  | some n => 2 ^ 31 + 2 ^ 30 * b2n ((s.sem n).ovf.contains g) + n
  | none => 0

/-- SEM_STATUS of a semaphore (R473). -/
def State.semStatus (s : State) (n : Nat) : Nat :=
  let x := s.sem n
  let own := match x.owner with
    | some o => 2 ^ 30 + o.2 * 2 ^ 28 + o.1 * 2 ^ 16
    | none => 0x3F * 2 ^ 16
  2 ^ 31 * b2n x.broken + own + x.queue.length * 2 ^ 8 + x.ovf.length

/-- A read of RECV_META by its host takes the oldest message of its inbox (R467); the read of another agent removes nothing (R445). -/
def State.hostRecv (s : State) (agent h : Nat) : State :=
  if agent = 34 + h then
    let r := s.recvTake agent
    (r.1.setF (F.MBX.RECV_STATUS_CODE h) r.2.1).ok r.2.2.2
  else s.ok (((s.inboxOf (34 + h)).head?.map (·.2)).getD 0)

/-- A read of COMP_POP (R438); the read of a host's ring by another agent removes nothing (R445). -/
def State.readComp (s : State) (agent g : Nat) : State :=
  let r := s.compPop g
  if 34 ≤ g ∧ agent ≠ g then s.ok r.2 else r.1.ok r.2

/-- The word a register holds, as read. -/
def State.plain (s : State) (a : Nat) : State := s.ok (s.reg a).toNat

def State.rdTIM (s : State) (a : Nat) : State :=
  let off := offOf a
  if 0x100 ≤ off ∧ off < 0x200 then
    let n := (off - 0x100) / 0x40
    let r := (off - 0x100) % 0x40
    if r = 0 then s.ok (s.tb n).ns
    else if r = 4 then s.ok (setBits (s.reg a).toNat 7 0 (s.tb n).tally)
    else s.plain a
  else if a = A.TIM.TL_STATUS then s.ok (setBits (s.reg a).toNat 9 0 (if s.tlCounts then s.frameNow else s.f F.TIM.TL_STATUS_FRAME))
  else s.plain a

def State.rdARB (s : State) (agent a : Nat) : State :=
  let off := offOf a
  if a = A.ARB.BANK_STATUS then s.ok s.bankStatus
  else if 0x1000 ≤ off then
    let g := (off - 0x1000) / 0x20
    if off % 0x20 = 0xC then s.ok (s.f (F.ARB.POST_STATUS_CODE g) * 2 ^ 28 + s.postUnread g * 2 ^ 16 + s.postOut g)
    else if off % 0x20 = 0x10 then s.readComp agent g
    else s.plain a
  else s.plain a

def State.rdMBX (s : State) (agent a : Nat) : State :=
  let off := offOf a
  if 0x100 ≤ off ∧ off < 0x180 then
    let h := (off - 0x100) / 0x40
    let r := off % 0x40
    let box := s.inboxOf (34 + h)
    if r = 0xC then s.ok ((box.head?.map (·.1)).getD 0)
    else if r = 0x10 then s.hostRecv agent h
    else if r = 0x14 then s.ok (s.f (F.MBX.RECV_STATUS_CODE h) * 2 ^ 28 + box.length)
    else s.plain a
  else if 0x400 ≤ off ∧ off < 0x800 ∧ off % 0x10 = 0 then s.ok (setBits (s.reg a).toNat 2 0 (s.inboxOf ((off - 0x400) / 0x10)).length)
  else s.plain a

def State.rdBLY (s : State) (a : Nat) : State :=
  let off := offOf a
  if 0x200 ≤ off ∧ off < 0x400 then s.ok (s.agentWait ((off - 0x200) / 4))
  else if 0x400 ≤ off then s.ok (s.semStatus ((off - 0x400) / 4))
  else s.plain a

/-- A read of an entry register of the mute log; the read of the last one removes the record (R267). -/
def State.readMlog (s : State) (i : Nat) : State := if i = 3 then s.mlogPop else s.ok ((s.tx.mlog.headD []).getD i 0)

def State.rdTXP (s : State) (a : Nat) : State :=
  let off := offOf a
  if off = 0x190 then s.ok (setBits (s.reg a).toNat 5 0 s.tx.mlog.length)
  else if 0x194 ≤ off ∧ off ≤ 0x1A0 then s.readMlog ((off - 0x194) / 4)
  else s.plain a

def State.rdBFM (s : State) (agent a : Nat) : State :=
  let off := offOf a
  if a = A.BFM.CTX_RESULT then s.ok (Store.get s.bfm.results 0 agent)
  else if a = A.BFM.TRIM_LOG then s.trimPop
  else if 0x2000 ≤ off then s.ok (s.expAvg ((off - 0x2000) / 4))
  else s.plain a

def State.rdCAL (s : State) (a : Nat) : State :=
  let off := offOf a
  if 0x4000 ≤ off ∧ (off - 0x4000) % 0x20 < 0x18 then s.ok (s.recipWord ((off - 0x4000) / 0x20) ((off - 0x4000) % 0x20 / 4))
  else s.plain a

def State.rdHKA (s : State) (agent a : Nat) : State :=
  let off := offOf a
  if a = A.HKA.HV_CNT then s.ok (s.hvCnt agent)
  else if a = A.HKA.HV_MINMAX then s.ok (s.hvMinMax agent)
  else if 0x400 ≤ off ∧ off % 0x10 = 4 then s.harvest agent ((off - 0x400) / 0x10)
  else s.plain a

def State.rdFLT (s : State) (a : Nat) : State :=
  if a = A.FLT.INJ_STATUS then s.ok (setBits (s.reg a).toNat 15 0 s.injLeft)
  else if a = A.FLT.LOG_STATUS then s.ok (setBits (s.reg a).toNat 4 0 s.flt.log.length)
  else if a = A.FLT.LOG0 then s.ok (s.logWord 0)
  else if a = A.FLT.LOG1 then s.ok (s.logWord 1)
  else if a = A.FLT.LOG2 then (s.ok (s.logWord 2)).logPop
  else s.plain a

def State.rdTKC (s : State) (a : Nat) : State :=
  let off := offOf a
  let faults := coreMask (fun n => s.coreState n == CoreState.fault)
  let vetoes := coreMask (fun n => s.on (F.TKC.C_CTRL_VETO n))
  if off = 0x100 then s.ok (faults % 2 ^ 32)
  else if off = 0x104 then s.ok (faults / 2 ^ 32)
  else if off = 0x108 then s.ok (vetoes % 2 ^ 32)
  else if off = 0x10C then s.ok (vetoes / 2 ^ 32)
  else if 0x400 ≤ off ∧ off < 0x500 ∧ off % 0x10 = 8 then s.ok (setBits (s.reg a).toNat 5 0 (s.arrivedAt ((off - 0x400) / 0x10)).length)
  else if 0x1000 ≤ off then
    let n := (off - 0x1000) / 0x40
    if off % 0x40 = 0xC then s.ok ((s.core n).pc % 0x10000 / 4 * 4)
    else if off % 0x40 = 0x18 then s.ok (s.wdtCount n)
    else if off % 0x40 = 0x20 then s.ok (s.coreSources n)
    else s.plain a
  else s.plain a

/-- A read of a listed register that is allowed: the value, and what the read does. -/
def State.readReg (s : State) (agent a : Nat) : State :=
  let off := offOf a
  let blk := blkOf a
  if off = 0x10 then s.ok (s.shdStatus blk)
  else if off = 0x14 then s.ok (s.cmdqStatus blk)
  else if off = 0x18 ∧ !cmdBlocks.contains blk then s.ok 0
  else match blk with
    | 3 => s.rdTIM a
    | 4 | 5 | 6 | 7 | 8 | 9 => if off = 0x308 then s.ok (s.fullFrame (blk - 4)) else s.plain a
    | 11 => s.rdARB agent a
    | 12 => s.rdMBX agent a
    | 13 => s.rdBLY a
    | 14 => if off = 0x108 then s.ok (s.pathPend 0) else if off = 0x10C then s.ok (s.pathPend 1) else s.plain a
    | 15 => s.rdTXP a
    | 16 => if 0x8000 ≤ off then s.ok (s.readCoef ((off - 0x8000) / 0x200) (off % 0x200 / 4)) else s.plain a
    | 17 => s.rdBFM agent a
    | 19 => s.rdCAL a
    | 21 => s.rdHKA agent a
    | 23 => if off = 0x104 then s.ok (setBits (s.reg a).toNat 31 30 (2 * b2n s.deployed + b2n s.regEmpty)) else s.plain a
    | 25 => s.rdFLT a
    | 27 => s.rdTKC a
    | _ => s.plain a

end Sys2Proof.Machine
end

