-- ==== Sys2Proof/Machine/BusWrite.lean ====
section
/-! DEFINITION. Writes of registers: the access codes of R4 with the refusals of R29 and of each block, and the writes with behaviour of their own. -/

namespace Sys2Proof.Machine

/-! ## Refusals and the access codes (R4, R29) -/

/-- What the registers of a block must keep after a write. -/
def State.blkLegal (s : State) (a : Nat) : Bool :=
  let off := offOf a
  match blkOf a with
  | 0 => s.sysLegal off
  | 1 =>
    if off = 0x114 then 10 ≤ s.f F.PWR.REST_CFG_PREP_TIMEOUT && s.f F.PWR.REST_CFG_PREP_TIMEOUT ≤ 1000
    else if off = 0x120 then 1 ≤ s.f F.PWR.WAKE_CFG_TARGET && s.f F.PWR.WAKE_CFG_TARGET ≤ 3 && s.f F.PWR.WAKE_CFG_BOOT_BANK ≤ 95
    else true
  | 2 => s.clkLegal off
  | 3 => s.timLegal off
  | 4 | 5 | 6 | 7 | 8 | 9 => s.lnkLegal (blkOf a - 4) off
  | 10 => s.rteLegal off
  | 11 => s.f F.ARB.BANK_SEL_BANK ≤ 95
  | 14 => s.rxLegal off
  | 15 => s.txLegal off
  | 16 => s.dpdLegal off
  | 17 => s.bfmCode off == 0
  | 18 => s.radLegal off
  | 19 => s.calLegal off
  | 20 => s.thmLegal off
  | 21 => s.hkLegal off
  | 22 => s.auxLegal off
  | 23 => s.regLegal off
  | 26 => s.nlrLegal off
  | _ => true

/-- R325 holds for the spacing of the engine grid after a write of GRID_CFG. -/
def State.gridWsymOk (s : State) (a : Nat) : Bool :=
  !(0x10000200 ≤ a && a < 0x10000210) || s.wsymOk (s.f F.BFM.WGT_CFG_WSYM) (s.f F.BFM.SND_CFG_BATCH)

/-- An RWX field of a register belongs to something that runs (R29, and the chapter of each block). -/
def State.blkRuns (s : State) (a : Nat) : Bool :=
  let off := offOf a
  match blkOf a with
  | 0 => s.active
  | 2 => s.planRuns ((off - 0x200) / 0x10)
  | 3 | 26 => if blkOf a = 26 then s.on F.NLR.NL_CFG_EN else s.timRunning off
  | 4 | 5 | 6 | 7 | 8 | 9 => s.portState (blkOf a - 4) != 0
  | 10 => (List.range 6).any (fun p => s.portState p != 0)
  | 16 => if 0x800 ≤ off ∧ off < 0x1000 then s.on (F.DPD.ORX_CTRL_RUN ((off - 0x800) / 0x80)) else s.tlRun
  | 21 => s.hkRunning off
  | _ => s.tlRun

/-- A write would change a field of a register with an access code. -/
def State.changes (s : State) (a w : Nat) (c : Access) : Bool :=
  (fieldsOf a c).any (fun x => bits (s.reg a).toNat x.hi x.lo != bits w x.hi x.lo)

/-- The access codes that take a plain write now: RW, RWX, RWL until Deployed, RWT in Test. -/
def State.takesWrite (s : State) (c : Access) : Bool :=
  match c with
  | .rw | .rwx => true
  | .rwl => !s.afterDeployed
  | .rwt => s.mode == Mode.test
  | _ => false

/-- The word of a register after a write of its plain fields and of 1 to its W1C fields. -/
def State.written (s : State) (a w : Nat) : Nat :=
  match regSpec? a with
  | some r =>
    let v := mergeFields (r.fields.filter (fun x => s.takesWrite x.acc)) (s.reg a).toNat w
    r.fields.foldl (fun v x => if x.acc = .w1c then setBits v x.hi x.lo (bits v x.hi x.lo &&& (2 ^ (x.hi + 1 - x.lo) - 1 - bits w x.hi x.lo)) else v) v
  | none => (s.reg a).toNat

/-- The machine as a write would leave it, its RWS fields taken as in force: what the ranges are judged on. -/
def State.tentative (s : State) (a w : Nat) : State := s.setReg a (BitVec.ofNat 32 (mergeFields (shadowFields a) (s.written a w) w))

/-- A change of a locked or Test-only field is counted without an error response (R4); REG, AUX and CLK raise LOCK_WRITE (R509). -/
def State.lockCount (s : State) (agent a w : Nat) : State :=
  let locked := s.afterDeployed && s.changes a w .rwl
  let test := s.mode != Mode.test && s.changes a w .rwt
  let s := if locked then
      (s.logAccess agent a true Cause.locked).when (blkOf a == 2 || blkOf a == 22 || blkOf a == 23) (·.raise F.REG.EVT_LOCK_WRITE)
    else s
  if test then s.logAccess agent a true Cause.testOnly else s

/-- A write refused by range: BFM keeps its code in WGT_STATUS (R349). -/
def State.rangeRefuse (s : State) (agent a w : Nat) : State :=
  let t := s.tentative a w
  let code := if blkOf a = 17 then t.bfmCode (offOf a) else if t.gridWsymOk a then 0 else 1
  (s.when (code == 1 || code == 2) (fun s => s.setF F.BFM.WGT_STATUS_CODE code)).refuse agent a

/-- The field-by-field effect of a write that is not refused. -/
def State.applyWrite (s : State) (agent a w : Nat) : State :=
  let v := s.written a w
  let sh := shadowFields a
  let s := s.lockCount agent a w
  let s := s.setReg a (BitVec.ofNat 32 v)
  (if sh.isEmpty then s else s.writeShadow a sh w).ok 0

/-- A write to a register under its access codes (R4, R29): refused whole for an RWX field of a running block or a value out of its range. -/
def State.plainWrite (s : State) (agent a w : Nat) : State :=
  if s.blkRuns a && s.changes a w .rwx then s.refuse agent a
  else if !((s.tentative a w).blkLegal a && (s.tentative a w).gridWsymOk a) then s.rangeRefuse agent a w
  else s.applyWrite agent a w

/-- An effect that follows a write that was taken. -/
def State.after (s : State) (g : State → State) : State := if s.resp.err = 0 then g s else s

/-- An effect of a write of its own, with an answer. -/
def State.acts (s : State) (g : State → State) : State := (g s).ok 0

/-- A write that a rule refuses or lets act (R29). -/
def State.actsIf (s : State) (agent a : Nat) (c : Bool) (g : State → State) : State := if c then s.acts g else s.refuse agent a

/-- A write to an injection register: ignored and counted while injection is not armed (R569). -/
def State.injWrite (s : State) (agent a : Nat) (g : State → State) : State := if s.injArmed then s.acts g else s.injIgnored agent a

/-! ## The shadow (R27, R28, R33) -/

/-- The hold times in the shadow of RTE lie within R166: HOLD_UL in 10 ns at most two of the shortest symbols, and HOLD_GRAM in 100 ns at most one slot,
of the fastest enabled spacing. -/
def State.holdsOk (s : State) : Bool :=
  let w := s.shadowWord A.RTE.PS_HOLD
  match ((List.range 4).filter s.carEn).map s.carScs with
  | [] => true
  | l =>
    let scs := l.foldl max 0
    let sym := ((List.range 28).map (fun i => symStart scs (i / 14) (i % 14 + 1) - symStart scs (i / 14) (i % 14))).foldl min 100000
    let slot := min (slotStart scs 1) (slotStart scs 2 - slotStart scs 1)
    decide (bits w 15 0 * 10 * nsU ≤ 2 * sym * smpU) && decide (bits w 31 16 * 100 * nsU ≤ slot * smpU)

/-- A commit of a block's shadow is accepted (R166). -/
def State.commitOk (s : State) (blk : Nat) : Bool := blk != 10 || s.holdsOk

/-- SHD_CTRL (R33): COMMIT, then DISCARD. -/
def State.shdCtrl (s : State) (agent blk w : Nat) : State :=
  if w.testBit 0 && !s.commitOk blk then s.refuse agent (blockBase blk + 0xC)
  else s.acts (fun s => (s.when (w.testBit 0) (·.commitShadow blk)).when (w.testBit 1) (·.discardShadow blk))

/-! ## Writes with behaviour of their own, block by block -/

def State.wrSYS (s : State) (agent a w : Nat) : State :=
  if a = A.SYS.SW_RESET then s.acts (·.swReset agent (w % 256))
  else if a = A.SYS.BOOT_CTRL then
    if w.testBit 0 then s.actsIf agent a s.goAllowed (·.bootGo agent) else s.ok 0
  else s.plainWrite agent a w

def State.wrPWR (s : State) (agent a w : Nat) : State :=
  if a = A.PWR.MODE_REQ then s.acts (·.modeReq (w % 8))
  else if a = A.PWR.REST_REQ then s.acts (·.restReq (w % 2 ^ 24))
  else if a = A.PWR.REST_CTRL then s.acts (fun s => if w.testBit 0 then s.restWake else s)
  else if a = A.PWR.PAD_CTRL then (s.plainWrite agent a w).after (·.padRelease (bits w 13 8))
  else s.plainWrite agent a w

/-- CLK_CTRL (R490, R491). -/
def State.clkCtrl (s : State) (w : Nat) : State :=
  ((s.when (w.testBit 2) State.clkCancel).when (w.testBit 1) State.clkSave).when (w.testBit 0) State.clkCal

def State.wrCLK (s : State) (agent a w : Nat) : State :=
  if a = A.CLK.PLAN_SWITCH then s.acts (·.planSwitch w)
  else if a = A.CLK.CLK_CTRL then s.acts (·.clkCtrl w)
  else if 0x200 ≤ offOf a ∧ offOf a % 0x10 = 0 then
    (s.plainWrite agent a w).after (·.setF (F.CLK.PLAN_CAL0_CAL_VALID ((offOf a - 0x200) / 0x10)) 0)
  else s.plainWrite agent a w

/-- TB_STEP (R175). -/
def State.wrStep (s : State) (agent n w : Nat) : State :=
  s.actsIf agent (A.TIM.TB_STEP n) (s.stepAllowed n (signed 32 w)) (·.tbStep n (signed 32 w))

/-- TB_TALLY_SET (R175). -/
def State.wrTally (s : State) (agent n w : Nat) : State :=
  s.actsIf agent (A.TIM.TB_TALLY_SET n) (!s.tbHeld n) (·.tallySet n (w % 256))

/-- TB_DISC: MODE 0 is accepted in every servo state (R194). -/
def State.wrDisc (s : State) (agent n w : Nat) : State :=
  let a := A.TIM.TB_DISC n
  let was := s.f (F.TIM.TB_DISC_MODE n)
  let toFree := bits w 31 30 == 0 && bits w 29 0 == bits (s.reg a).toNat 29 0
  (if toFree then s.applyWrite agent a w else s.plainWrite agent a w).after (·.discMode n was)

/-- TL_CTRL (R181). -/
def State.wrTlCtrl (s : State) (agent w : Nat) : State :=
  s.actsIf agent A.TIM.TL_CTRL ((!w.testBit 0 || s.tlState == 0) && (!w.testBit 1 || s.tlState == 3))
    (fun s => if w.testBit 0 then s.tlArm else if w.testBit 1 then s.tlClear else s)

def State.wrTIM (s : State) (agent a w : Nat) : State :=
  let off := offOf a
  if 0x100 ≤ off ∧ off < 0x200 then
    let n := (off - 0x100) / 0x40
    let r := (off - 0x100) % 0x40
    if r = 0xC then s.wrStep agent n w
    else if r = 0x10 then s.wrDisc agent n w
    else if r = 0x20 then s.wrTally agent n w
    else s.plainWrite agent a w
  else if off = 0x30C then s.wrTlCtrl agent w
  else if off = 0x400 ∨ off = 0x420 then s.acts (fun s => if w.testBit 0 then s.capture ((off - 0x400) / 0x20) else s)
  else s.plainWrite agent a w

/-- PORT_CTRL (R107, R121). -/
def State.portCtrl (s : State) (p w : Nat) : State :=
  let was := s.on (F.LNK.PORT_CTRL_EN p)
  let s := if w.testBit 0 && !was then s.portEnable p else if !w.testBit 0 && was then s.portDisable p else s
  s.when (w.testBit 1) (·.retrain p)

/-- SLEEP_CTRL (R110, R112, R128): each bit stands until its request is complete or refused; a port in M32 mode refuses them all with NOT_NOW (R118). -/
def State.sleepCtrl (s : State) (p w : Nat) : State :=
  if w % 16 = 0 then s
  else if s.on (F.LNK.PORT_CFG_M32 p) then s.sleepCode p 9
  else
    let s := s.when (w.testBit 0) (fun s => (s.setF (F.LNK.SLEEP_CTRL_TX_SLEEP p) 1).txSleep p)
    let s := s.when (w.testBit 1) (fun s => (s.setF (F.LNK.SLEEP_CTRL_RX_SLEEP p) 1).rxSleep p)
    let s := s.when (w.testBit 2) (fun s => (s.setF (F.LNK.SLEEP_CTRL_TX_WAKE p) 1).txWake p)
    s.when (w.testBit 3) (fun s => (s.setF (F.LNK.SLEEP_CTRL_RX_WAKE p) 1).rxWake p)

/-- LANE_PAT_CFG: a change of GEN_EN or CHK_EN while the port is enabled is refused (R122). -/
def State.wrPat (s : State) (agent p a w : Nat) : State :=
  let was := (s.reg a).toNat
  if s.on (F.LNK.PORT_CTRL_EN p) && s.mode == Mode.test && bits was 5 4 != bits w 5 4 then s.refuse agent a
  else (s.plainWrite agent a w).after (·.patWritten p ((offOf a - 0x200) / 0x20) was)

def State.wrLNK (s : State) (agent p a w : Nat) : State :=
  let off := offOf a
  if off = 0x100 then s.acts (·.portCtrl p w)
  else if off = 0x114 then s.acts (·.sleepCtrl p w)
  else if 0x200 ≤ off ∧ off < 0x300 ∧ off % 0x20 = 0x1C then s.laneInj agent p ((off - 0x200) / 0x20) (w % 8)
  else if 0x200 ≤ off ∧ off < 0x300 ∧ off % 0x20 = 0x0C then s.wrPat agent p a w
  else s.plainWrite agent a w

/-- LFSR_SEED (R442). -/
def State.lfsrSeed (s : State) (agent w : Nat) : State :=
  s.actsIf agent A.ARB.LFSR_SEED (w % 65536 != 0) (fun s => (s.setF F.ARB.LFSR_SEED_SEED (w % 65536)).setF F.ARB.LFSR_STATE_STATE (w % 65536))

def State.wrARB (s : State) (agent a w : Nat) : State :=
  let off := offOf a
  if off = 0x104 then s.lfsrSeed agent w
  else if 0x1000 ≤ off ∧ off % 0x20 = 8 then s.acts (·.postCmd ((off - 0x1000) / 0x20) w)
  else s.plainWrite agent a w

/-- SEND_CMD of a host sends a message; the status goes to SEND_STATUS (R467).  DESIGN CHOICE (log entry 81): once MBX has stopped for a rest entry the write is refused. -/
def State.hostSend (s : State) (agent w : Nat) : State :=
  let h := agent - 34
  s.actsIf agent (A.MBX.SEND_CMD h) (decide (bits w 29 24 ≤ 35) && !s.resting 15) (fun s =>
    let r := s.sendMsg agent (bits w 29 24) (s.f (F.MBX.SEND_PTR_PTR h)) (bits w 23 0)
    r.1.setF (F.MBX.SEND_STATUS_CODE h) r.2)

/-- DB_RING of a host (R452, R467); during the prepare of a rest it is a wake source (R58). -/
def State.hostRing (s : State) (agent w : Nat) : State :=
  s.actsIf agent (A.MBX.DB_RING (agent - 34)) (w % 64 ≤ 35) (fun s => (s.ringBell agent (w % 64)).doorbellWake)

/-- HOST_CTRL.RESTART (R454, R467). -/
def State.hostRestart (s : State) (agent w : Nat) : State := s.acts (fun s => if w.testBit 0 then s.agentReset agent else s)

/-- Whose pool registers these are, and which pool. -/
def poolOf (a : Nat) : Nat × Nat := ((offOf a - 0x800) / 0x10, (offOf a - 0x800) % 0x10 / 8)

/-- Pool registers accept writes from their agent and from a host; from others only RELEASE (R455). -/
def poolWriter (agent g : Nat) : Bool := agent == g || decide (34 ≤ agent)

/-- A pool is free: VALID and ORPHANED read 0 (R456). -/
def State.poolFree (s : State) (g k : Nat) : State := (s.setF (F.MBX.POOL_CFG_VALID g k) 0).setF (F.MBX.POOL_CFG_ORPHANED g k) 0

/-- The pool registers hold VALID and SIZE, with the owner's epoch when VALID is set. -/
def State.poolSet (s : State) (g k w : Nat) : State :=
  let s := (s.setF (F.MBX.POOL_CFG_SIZE g k) (w % 65536)).setF (F.MBX.POOL_CFG_VALID g k) (bits w 31 31)
  if w.testBit 31 then s.setF (F.MBX.POOL_CFG_EPOCH g k) (s.epochOf g) else s

/-- A write of POOLk_CFG (R455, R456): RELEASE frees the pool; VALID registers it where it fits; an orphaned pool takes nothing else. -/
def State.poolCfg (s : State) (agent g k w : Nat) : State :=
  let a := A.MBX.POOL_CFG g k
  if w.testBit 29 then s.acts (·.poolFree g k)
  else if !poolWriter agent g || s.on (F.MBX.POOL_CFG_ORPHANED g k) then s.refuse agent a
  else s.actsIf agent a (!w.testBit 31 || (s.poolSet g k w).poolFits g k) (·.poolSet g k w)

/-- A write of POOLk_BASE: of a valid pool it must keep the pool in place (R455). -/
def State.poolBase (s : State) (agent g k w : Nat) : State :=
  let a := A.MBX.POOL_BASE g k
  let t := s.setF (F.MBX.POOL_BASE_BASE g k) w
  s.actsIf agent a (poolWriter agent g && !s.on (F.MBX.POOL_CFG_ORPHANED g k) && (!s.on (F.MBX.POOL_CFG_VALID g k) || t.poolFits g k))
    (fun s => s.setF (F.MBX.POOL_BASE_BASE g k) w)

def State.wrMBX (s : State) (agent a w : Nat) : State :=
  let off := offOf a
  if 0x100 ≤ off ∧ off < 0x180 then
    let r := off % 0x40
    if r = 4 then s.hostSend agent w
    else if r = 0x18 then s.hostRing agent w
    else if r = 0x1C then s.hostRestart agent w
    else s.plainWrite agent a w
  else if 0x800 ≤ off then
    if off % 8 = 4 then s.poolCfg agent (poolOf a).1 (poolOf a).2 w else s.poolBase agent (poolOf a).1 (poolOf a).2 w
  else s.plainWrite agent a w

/-- ACQ of a host (R472): refused while an acquire is queued, and (DESIGN CHOICE, log entry 81) once BLY has stopped for a rest entry; CODE keeps the last code while
the acquire waits. -/
def State.hostAcq (s : State) (agent w : Nat) : State :=
  let h := agent - 34
  s.actsIf agent (A.BLY.ACQ h) (!s.on (F.BLY.HOST_STATUS_QUEUED h) && !s.resting 16) (fun s =>
    let r := (s.setF (F.BLY.HOST_STATUS_SEM h) (w % 64)).acquire agent (w % 64) (w.testBit 31)
    match r.2 with
    | some st => r.1.setF (F.BLY.HOST_STATUS_CODE h) st
    | none => { r.1.setF (F.BLY.HOST_STATUS_QUEUED h) 1 with mbx := { r.1.mbx with hostAt := setNth r.1.mbx.hostAt h s.now } })

/-- REL of a host (R472). -/
def State.hostRel (s : State) (agent w : Nat) : State :=
  s.acts (fun s =>
    let r := s.release agent (w % 64)
    r.1.setF (F.BLY.HOST_STATUS_CODE (agent - 34)) r.2)

/-- BREAK by a host; by a core it draws an error response (R461). -/
def State.hostBreak (s : State) (agent w : Nat) : State := s.actsIf agent A.BLY.BREAK (34 ≤ agent) (·.breakSem (w % 64))

def State.wrBLY (s : State) (agent a w : Nat) : State :=
  let off := offOf a
  if off = 0x100 ∨ off = 0x120 then s.hostAcq agent w
  else if off = 0x104 ∨ off = 0x124 then s.hostRel agent w
  else if off = 0x140 then s.hostBreak agent w
  else s.plainWrite agent a w

def State.wrTXP (s : State) (agent a w : Nat) : State :=
  let off := offOf a
  if 0x1000 ≤ off ∧ off < 0x5000 ∧ off % 0x100 = 0 then
    (s.plainWrite agent a w).after (fun s => if w.testBit 31 then s.faultClr ((off - 0x1000) / 0x100) else s)
  else s.plainWrite agent a w

/-- P_OBS.ATT_SET of the DPD: a value of 0 to 24 sets OBS_ATT. -/
def State.obsAtt (s : State) (agent p w : Nat) : State :=
  s.actsIf agent (A.DPD.P_OBS p) (bits w 20 16 ≤ 24) (fun s => s.setF (F.DPD.P_OBS_OBS_ATT p) (bits w 20 16))

def State.wrDPD (s : State) (agent a w : Nat) : State :=
  let off := offOf a
  if 0x8000 ≤ off then s.acts (·.writeCoef ((off - 0x8000) / 0x200) (off % 0x200 / 4) w)
  else if 0x1000 ≤ off ∧ off < 0x5000 then
    let p := (off - 0x1000) / 0x100
    if off % 0x100 = 0 then (s.plainWrite agent a w).after (fun s => if w.testBit 0 then s.hostSwap p else s)
    else if off % 0x100 = 8 then s.obsAtt agent p w
    else s.plainWrite agent a w
  else if 0x200 ≤ off ∧ off < 0x400 ∧ off % 0x40 = 0xC then
    let k := (off - 0x200) / 0x40
    let rd := bits (s.written a w) (F.DPD.ORX_RING_RD k).hi (F.DPD.ORX_RING_RD k).lo
    (s.plainWrite agent a (setBits w (F.DPD.ORX_RING_RD k).hi (F.DPD.ORX_RING_RD k).lo (s.f (F.DPD.ORX_RING_RD k)))).after (·.ringRead k rd)
  else s.plainWrite agent a w

def State.wrBFM (s : State) (agent a w : Nat) : State :=
  if a = A.BFM.CTX_OPEN then s.acts (·.ctxOpen agent (bits w 31 16) (bits w 15 14) (bits w 13 12))
  else if a = A.BFM.CTX_CLOSE then s.acts (·.ctxClose agent (bits w 8 0))
  else if a = A.BFM.CTX_POOL then (s.plainWrite agent a w).after (·.showCtx [])
  else if a = A.BFM.EXP_CFG then (s.plainWrite agent a w).after (fun t => if s.afterDeployed then t else t.expForget)
  else s.plainWrite agent a w

/-- CAL_CTRL (R475, R480). -/
def State.calCtrl (s : State) (agent w : Nat) : State :=
  s.actsIf agent A.CAL.CAL_CTRL (!w.testBit 0 || s.fullAllowed)
    (fun s => (s.when (w.testBit 1) State.calReload).when (w.testBit 0) State.calFull)

def State.wrCAL (s : State) (agent a w : Nat) : State :=
  let off := offOf a
  if a = A.CAL.CAL_CTRL then s.calCtrl agent w
  else if 0x110 ≤ off ∧ off < 0x120 then s.acts (fun s => s.setReg a (BitVec.ofNat 32 ((s.reg a).toNat ||| w % 2 ^ 32)))
  else s.plainWrite agent a w

/-- S_CTRL of a sensor: EN = 0, and FAIL_CLR (R516, R526). -/
def State.sensorCtrl (s : State) (x w : Nat) : State :=
  (if s.on (F.THM.S_CTRL_EN x) then s else s.sensorDisable x).when (w.testBit 0) (·.failClr x)

def State.wrTHM (s : State) (agent a w : Nat) : State :=
  let off := offOf a
  if a = A.THM.THM_INJ then s.injWrite agent a (·.thmInj w)
  else if 0x200 ≤ off ∧ (off - 0x200) % 0x20 = 0x10 then (s.plainWrite agent a w).after (·.sensorCtrl ((off - 0x200) / 0x20) w)
  else s.plainWrite agent a w

/-- HK_INJ.OFS (R541). -/
def State.hkInj (s : State) (agent w : Nat) : State :=
  s.injWrite agent A.HKA.HK_INJ (fun s => { s with hk := { s.hk with ofs := signed 8 (w % 256) } })

/-- HK_CFG: LEN of a running sequence is RWX; RUN starts and stops the sequences (R535). -/
def State.hkCfg (s : State) (agent w : Nat) : State :=
  let a := A.HKA.HK_CFG
  let lenChange := (s.seqOn 0 && bits w 5 0 != s.seqLen 0) || (s.seqOn 1 && bits w 13 8 != s.seqLen 1)
  if lenChange then s.refuse agent a
  else (s.plainWrite agent a w).after (fun t => (t.hkRun 0 (s.seqOn 0)).hkRun 1 (s.seqOn 1))

def State.wrHKA (s : State) (agent a w : Nat) : State :=
  if a = A.HKA.HK_INJ then s.hkInj agent w
  else if a = A.HKA.HK_CFG then s.hkCfg agent w
  else s.plainWrite agent a w

def State.wrAUX (s : State) (agent a w : Nat) : State :=
  let off := offOf a
  if 0x400 ≤ off ∧ off < 0x800 then s.acts (·.biasWrite ((off - 0x400) / 4) w)
  else s.plainWrite agent a w

/-- NVM_INJ.TORN (R564). -/
def State.nvmInj (s : State) (agent w : Nat) : State :=
  s.injWrite agent A.NVM.NVM_INJ (fun s => if w.testBit 0 then { s with nvm := { s.nvm with injTorn := true } } else s)

def State.wrNVM (s : State) (agent a w : Nat) : State :=
  if a = A.NVM.NVM_CMD then s.acts (·.nvmCmd (bits w 27 24) (bits w 20 0))
  else if a = A.NVM.LC_REQ then s.acts (·.lcReq (bits w 15 8) (bits w 1 0))
  else if a = A.NVM.NVM_INJ then s.nvmInj agent w
  else s.plainWrite agent a w

/-- INJ_CMD of detector 24: the watchdog count of the core is set to EXPIRE (R570). -/
def State.injExpire (s : State) (n : Nat) : State := (s.wdtSet n (s.f (F.TKC.C_WDT_EXPIRE n) * wdtU)).wdtExpire n true

/-- INJ_CMD (R569, R570). -/
def State.injCommand (s : State) (agent w : Nat) : State :=
  s.injWrite agent A.FLT.INJ_CMD (fun s =>
    if bits w 5 0 = 24 ∧ !s.injRefused 24 (bits w 15 8) then s.injExpire (bits w 15 8) else s.injCmd w)

def State.wrFLT (s : State) (agent a w : Nat) : State :=
  if a = A.FLT.INJ_ARM then s.acts (·.injArm (bits w 15 8) (w % 256))
  else if a = A.FLT.INJ_STATUS then s.acts (fun s => if w.testBit 30 then s.disarm else s)
  else if a = A.FLT.INJ_CMD then s.injCommand agent w
  else s.plainWrite agent a w

/-- NL_CFG: EN starts and stops the search. -/
def State.nlCfg (s : State) (agent w : Nat) : State := (s.plainWrite agent A.NLR.NL_CFG w).after (·.nlEnable (s.on F.NLR.NL_CFG_EN))

/-- STEP of C_CTRL: the core issues one instruction and stops again. -/
def State.stepBegin (s : State) (n : Nat) : State := (s.coreRun n (s.core n).pc).modCore n (fun c => { c with stepping := true })

/-- START of C_CTRL (R391). -/
def State.coreStart (s : State) (n : Nat) : State := s.coreRun n (s.f (F.TKC.C_START_PC_PC n) * 4)

/-- RESET, STOP, START and STEP of C_CTRL: only the first in that order acts (R391). -/
def State.coreCommand (s : State) (agent n w : Nat) : State :=
  let a := A.TKC.C_CTRL n
  let st := s.coreState n
  if w.testBit 31 then s.actsIf agent a (st != CoreState.off) (·.coreReset n)
  else if w.testBit 30 then s.acts (·.coreStop n)
  else if w.testBit 29 then s.actsIf agent a (st == CoreState.stopped || st == CoreState.fault) (·.coreStart n)
  else if w.testBit 28 then s.actsIf agent a (st == CoreState.stopped && !s.deployed) (·.stepBegin n)
  else s.ok 0

/-- C_CTRL (R391, R392): VETO is the core's own or a host's; KICK and SOFT act independently. -/
def State.coreCtrl (s : State) (agent n w : Nat) : State :=
  let s := if agent = n ∨ 34 ≤ agent then s.setF (F.TKC.C_CTRL_VETO n) (w % 2) else s
  ((s.when (w.testBit 27) (·.kick n)).when (w.testBit 26) (·.raiseSrc n 9)).coreCommand agent n w

def State.wrTKC (s : State) (agent a w : Nat) : State :=
  let off := offOf a
  if 0x1000 ≤ off then
    let n := (off - 0x1000) / 0x40
    if off % 0x40 = 0 then s.coreCtrl agent n w
    else if off % 0x40 = 0x14 then (s.plainWrite agent a w).after (·.kick n)
    else s.plainWrite agent a w
  else if 0x400 ≤ off ∧ off % 0x10 < 8 then
    if (s.arrivedAt ((off - 0x400) / 0x10)).isEmpty then s.plainWrite agent a w else s.refuse agent a
  else s.plainWrite agent a w

/-- A write of a listed register that its owner and domain allow. -/
def State.writeReg (s : State) (agent a w : Nat) : State :=
  let blk := blkOf a
  if offOf a = 0xC then s.shdCtrl agent blk w
  else if offOf a = 0x18 ∧ !cmdBlocks.contains blk then s.ok 0
  else match blk with
    | 0 => s.wrSYS agent a w
    | 1 => s.wrPWR agent a w
    | 2 => s.wrCLK agent a w
    | 3 => s.wrTIM agent a w
    | 4 | 5 | 6 | 7 | 8 | 9 => s.wrLNK agent (blk - 4) a w
    | 11 => s.wrARB agent a w
    | 12 => s.wrMBX agent a w
    | 13 => s.wrBLY agent a w
    | 15 => s.wrTXP agent a w
    | 16 => s.wrDPD agent a w
    | 17 => s.wrBFM agent a w
    | 19 => s.wrCAL agent a w
    | 20 => s.wrTHM agent a w
    | 21 => s.wrHKA agent a w
    | 22 => s.wrAUX agent a w
    | 23 => if offOf a = 0x100 then s.acts (fun s => if w.testBit 0 then s.regSave else s) else s.plainWrite agent a w
    | 24 => s.wrNVM agent a w
    | 25 => s.wrFLT agent a w
    | 26 => if a = A.NLR.NL_CFG then s.nlCfg agent w else s.plainWrite agent a w
    | 27 => s.wrTKC agent a w
    | _ => s.plainWrite agent a w

end Sys2Proof.Machine
end

