-- ==== Sys2Proof/Machine/Bus.lean ====
section
/-! DEFINITION. The address map and the access checks (R573 to R575, R579): direct reads and writes of any agent, the order of refusals, memories and
the NVM window, and the gate in front of the block registers. -/

namespace Sys2Proof.Machine

/-! ## Who is served and what is refused -/

/-- Power domain of a register window (R45, R575). -/
def regDom (a : Nat) : Nat :=
  let off := offOf a
  match blkOf a with
  | 3 | 10 | 12 | 13 | 27 => Dom.ctl
  | 4 | 5 | 6 | 7 | 8 | 9 => Dom.lnk (blkOf a - 4)
  | 11 => Dom.ctx
  | 14 => if 0x1000 ≤ off ∧ off < 0x5000 then Dom.rxg ((off - 0x1000) / 0x800) else Dom.rxg 0
  | 15 => if 0x1000 ≤ off ∧ off < 0x5000 then Dom.txg ((off - 0x1000) / 0x800) else Dom.txg 0
  | 16 =>
    if 0x8000 ≤ off then Dom.txg ((off - 0x8000) / 0x1000)
    else if 0x1000 ≤ off then (if off < 0x5000 then Dom.txg ((off - 0x1000) / 0x800) else Dom.txg 0)
    else if 0x200 ≤ off then Dom.orx else Dom.txg 0
  | 17 | 18 | 26 => Dom.eng
  | 24 => Dom.nvm
  | _ => Dom.hk

/-- A host is not served while a reset or wake sequence runs, nor in Bivouac (R65, R84, R606). -/
def State.unserved (s : State) (agent : Nat) : Bool := 34 ≤ agent && (s.pwr.seq != 0 || s.mode == Mode.bivouac)

/-- The domain of an access is off, or lost to hosts by a committed Bivouac entry (R575, R606). -/
def State.domLost (s : State) (agent dom : Nat) : Bool := !s.domOn dom || (34 ≤ agent && s.bivouacCommitted)

/-- The only agent that may write a register that exists once per agent (R437, R445). -/
def ownerOf (a : Nat) : Option Nat :=
  let off := offOf a
  if off = 4 then some Agent.mpA
  else if off = 8 then some Agent.mpB
  else match blkOf a with
    | 3 => if 0x400 ≤ off ∧ off < 0x440 then some (34 + (off - 0x400) / 0x20) else none
    | 11 => if 0x1000 ≤ off then some ((off - 0x1000) / 0x20) else none
    | 12 => if 0x100 ≤ off ∧ off < 0x180 then some (34 + (off - 0x100) / 0x40) else none
    | 13 => if 0x100 ≤ off ∧ off < 0x140 then some (34 + (off - 0x100) / 0x20) else none
    | _ => none

/-- The cause that refuses a write to another agent's copy, 0 for none (R437, R445). -/
def ownerCause (agent a : Nat) : Nat :=
  match ownerOf a with
  | some g => if g = agent then 0 else if 34 ≤ g ∧ 34 ≤ agent then Cause.otherHost else Cause.refused
  | none => 0

/-- The cause that refuses a register access of n bytes before the register itself is asked, 0 for none (R574, R575). -/
def State.regCause (s : State) (agent a n : Nat) (write : Bool) : Nat :=
  if n ≠ 4 ∨ a % 4 ≠ 0 then Cause.width
  else if s.domLost agent (regDom a) && !(aonReg a && s.domOn Dom.hk) then Cause.domainOff
  else if (regSpec? a).isNone then Cause.unmapped
  else if write then ownerCause agent a else 0

/-- An access to the registers that passes the gate. -/
def State.gate (s : State) (agent a n : Nat) (write : Bool) (g : State → State) : State :=
  if s.unserved agent then { s with resp := { err := Cause.domainOff } }
  else
    let c := s.regCause agent a n write
    if c = 0 then g s else s.errResp agent a write c

/-- The core whose window holds an address, and the offset in it (R367). -/
def coreWin (a : Nat) : Nat × Nat := ((a - 0x06000000) / 0x100000, (a - 0x06000000) % 0x100000)

/-- A memory of core k refuses an access at an offset of its window (R393, R395). -/
def State.coreMemRefused (s : State) (agent k off : Nat) (write : Bool) : Bool :=
  let st := s.coreState k
  st == CoreState.off || st == CoreState.resetting ||
  (write && off < 0x10000 && agent != k && !(st == CoreState.stopped || st == CoreState.fault))

/-- The cause that refuses an access of n bytes to a memory, 0 for none (R87, R90, R367, R395, R427, R431, R549, R573, R574). -/
def State.memCause (s : State) (agent a n : Nat) (write : Bool) : Nat :=
  let wide := !(n == 1 || n == 2 || n == 4 || n == 8) || a % n != 0
  if a < 0x03000000 then
    if wide then Cause.width
    else if s.domLost agent Dom.ctx then Cause.domainOff
    else if s.wiping then Cause.wipe
    else if s.ctxRefused a n write || (write && s.bootLocks a n) then Cause.refused else 0
  else if 0x04000000 ≤ a ∧ a < 0x04200000 then
    if wide then Cause.width
    else if s.domLost agent Dom.ctl then Cause.domainOff
    else if s.wiping then Cause.wipe
    else if write && s.bootLocks a n then Cause.refused else 0
  else if 0x06000000 ≤ a ∧ a < 0x08200000 then
    let w := coreWin a
    if !(w.2 < 0x10000 || (0x80000 ≤ w.2 && w.2 < 0xC0000)) then Cause.unmapped
    else if wide then Cause.width
    else if s.domLost agent (coreDom w.1) then Cause.domainOff
    else if s.coreMemRefused agent w.1 w.2 write then Cause.refused else 0
  else if 0x1F000000 ≤ a ∧ a < 0x1F200000 then
    if wide then Cause.width
    else if s.domLost agent Dom.nvm then Cause.domainOff
    else if write then Cause.refused else 0
  else Cause.unmapped

/-! ## The accesses -/

/-- A read of the NVM window: an uncorrectable word draws an error response (R549, R570). -/
def State.nvmRead (s : State) (agent a n : Nat) : State :=
  let off := a - 0x1F000000
  let inj := s.flt.injs.find? (fun i => i.det == 3 && decide (a ≤ i.addr) && decide (i.addr < a + n))
  let s := match inj with
    | some i => s.dropInj i
    | none => s
  let double := (inj.map (·.double)).getD false
  let s := if inj.isSome && !double then s.inc F.NVM.NVM_CNT0_CE_CNT else s
  if double || s.nvm.bad.contains (off / 8) then
    ((s.inc F.NVM.NVM_CNT1_UE_CNT).raiseDet F.NVM.EVT_ECC_UE 3 0 double).errResp agent a false Cause.ecc
  else s.ok (ofLe (s.nvmBytes off n))

/-- A read that found its word, or an uncorrectable error in it. -/
def State.eccAnswer (agent a n : Nat) (r : State × Bool) : State :=
  if r.2 then r.1.errResp agent a false Cause.ecc else r.1.ok (ofLe (memRead r.1.mem a n))

/-- A read of a memory that is not refused. -/
def State.memLoad (s : State) (agent a n : Nat) : State :=
  if 0x1F000000 ≤ a then s.nvmRead agent a n
  else if a < 0x03000000 then State.eccAnswer agent a n (s.ctxEcc a n)
  else if 0x06000000 ≤ a then State.eccAnswer agent a n (s.coreEcc (coreWin a).1 a n)
  else s.ok (ofLe (memRead s.mem a n))

/-- An access to a memory that passes its checks. -/
def State.memGate (s : State) (agent a n : Nat) (write : Bool) (g : State → State) : State :=
  if s.unserved agent then { s with resp := { err := Cause.domainOff } }
  else
    let c := s.memCause agent a n write
    if c = 0 then g s else s.errResp agent a write c

/-- An address in the block register windows. -/
def inRegs (a : Nat) : Bool := decide (0x10000000 ≤ a) && decide (a < 0x101C0000)

/-- A core's window on its own data memory, in the global map (R368, R573). -/
def ownData (agent a : Nat) : Nat := if agent < 34 ∧ 0x0F000000 ≤ a ∧ a < 0x0F040000 then dmemBase agent + (a - 0x0F000000) else a

/-- A direct read of n bytes by an agent. -/
def State.busRead (s : State) (agent a n : Nat) : State :=
  let a := ownData agent a
  if inRegs a then s.gate agent a n false (fun s => s.readReg agent a)
  else s.memGate agent a n false (fun s => s.memLoad agent a n)

/-- A direct write of n bytes by an agent. -/
def State.busWrite (s : State) (agent a n v : Nat) : State :=
  let a := ownData agent a
  if inRegs a then s.gate agent a n true (fun s => s.writeReg agent a (v % 2 ^ 32))
  else s.memGate agent a n true (fun s => ({ s with mem := memWrite s.mem a (leBytes n v) } : State).ok 0)

/-- A register access of an agent to a register named by its address. -/
def State.regRead (s : State) (agent a : Nat) : State := s.gate agent a 4 false (fun s => s.readReg agent a)
def State.regWrite (s : State) (agent a w : Nat) : State := s.gate agent a 4 true (fun s => s.writeReg agent a (w % 2 ^ 32))

end Sys2Proof.Machine
end

