-- ==== Sys2Proof/Machine/Io.lean ====
section
/-! DEFINITION. The host ports of chapter 24: the serial peripheral port (R590), the management bus (R592) and the JTAG port (R593).  All three are MP-B. -/

namespace Sys2Proof.Machine

/-- The complete words of a byte stream, little-endian; a partial word at its end is discarded. -/
def wholeWords : List Byte → List Nat
  | a :: b :: c :: d :: l => ofLe [a, b, c, d] :: wholeWords l
  | _ => []

/-- The words of a stream with their addresses; the address increments. -/
def addrWords (a : Nat) (l : List Nat) : List (Nat × Nat) := (List.range l.length).map (fun i => ((a + 4 * i) % 2 ^ 32, l.getD i 0))

/-- Word n of a burst of reads or writes of MP-B. -/
def hostB : Nat := Agent.mpB

/-! ## The serial peripheral port (R590) -/

/-- A word enters the write buffer; a full buffer of 256 words discards it with OVERRUN. -/
def State.spiWord (s : State) (w : Nat × Nat) : State :=
  if s.io.spi.length < 256 then { s with io := { s.io with spi := s.io.spi ++ [w] } } else { s with io := { s.io with overrun := true } }

/-- A write transaction. -/
def State.spiWrite (s : State) (addr : Nat) (data : List Byte) : State :=
  if s.unserved hostB then s else s.each (addrWords addr (wholeWords data)) State.spiWord

/-- The oldest buffered word drains; an error response sets ERROR. -/
def State.spiApply (s : State) : State :=
  match s.io.spi with
  | [] => s
  | w :: l =>
    if s.unserved hostB then s
    else
      let s := ({ s with io := { s.io with spi := l } } : State).busWrite hostB w.1 4 w.2
      if s.resp.err = 0 then s else { s with io := { s.io with error := true } }

/-- The buffered words drain before a later word of MP-B is applied or read (R592). -/
def State.spiDrain (s : State) : State := s.each s.io.spi (fun s _ => s.spiApply)

/-- One word of a read transaction: the status byte and four data bytes. -/
def State.spiReadWord (s : State) (a : Nat) : State :=
  let s := s.busRead hostB a 4
  let out := if s.resp.err = 0 then 0xA5 :: (leBytes 4 s.resp.data).map BitVec.toNat else [0x5A, 0, 0, 0, 0]
  { s with io := { s.io with spiOut := s.io.spiOut ++ out } }

/-- A read transaction of n words. -/
def State.spiRead (s : State) (addr n : Nat) : State :=
  if s.unserved hostB then s
  else
    let s := s.spiDrain
    ({ s with io := { s.io with spiOut := [] } } : State).each (List.range n) (fun s i => s.spiReadWord ((addr + 4 * i) % 2 ^ 32))

/-- The status byte: BUSY, WIPE, OVERRUN, ERROR. -/
def State.spiStatusByte (s : State) : Nat :=
  2 ^ 7 * b2n (!s.io.spi.isEmpty) + 2 ^ 2 * b2n s.wiping + 2 * b2n s.io.overrun + b2n s.io.error

/-- A status transaction; the read clears OVERRUN and ERROR. -/
def State.spiStatus (s : State) : State :=
  if s.unserved hostB then s else { s with io := { s.io with spiOut := [s.spiStatusByte], overrun := false, error := false } }

/-! ## The management bus (R65, R592) -/

/-- The device takes part in the transaction: it acknowledged the address and the bytes behind it. -/
def State.mgmtServes (s : State) : Bool := s.io.mgmtData

/-- A write transaction: the words are applied as they complete; in Bivouac the match is a wake source. -/
def State.mgmtWrite (s : State) (addr7 addr : Nat) (data : List Byte) : State :=
  let s := s.mgmtMatch addr7
  if s.mgmtServes then s.spiDrain.each (addrWords addr (wholeWords data)) (fun s w => s.busWrite hostB w.1 4 w.2) else s

/-- One word of a read transaction; an error response returns 0xFF. -/
def State.mgmtReadWord (s : State) (a : Nat) : State :=
  let s := s.busRead hostB a 4
  let out := if s.resp.err = 0 then (leBytes 4 s.resp.data).map BitVec.toNat else [0xFF, 0xFF, 0xFF, 0xFF]
  { s with io := { s.io with mgmtOut := s.io.mgmtOut ++ out } }

/-- A read transaction of n words. -/
def State.mgmtRead (s : State) (addr7 addr n : Nat) : State :=
  let s := s.mgmtMatch addr7
  if s.mgmtServes then
    let s := s.spiDrain
    ({ s with io := { s.io with mgmtOut := [] } } : State).each (List.range n) (fun s i => s.mgmtReadWord ((addr + 4 * i) % 2 ^ 32))
  else s

/-! ## The JTAG port (R560, R593) -/

/-- Instruction codes. -/
def Jtag.extest : Nat := 0x00
def Jtag.idcode : Nat := 0x01
def Jtag.sample : Nat := 0x02
def Jtag.dbgacc : Nat := 0x20
def Jtag.bypass : Nat := 0xFF

/-- An instruction is loaded; the pads leave EXTEST, and TDO gives what the instruction captures. -/
def State.jtag (s : State) (ir tdo : Nat) : State := { s with io := { s.io with ir := ir, extest := none, tdo := tdo } }

/-- BYPASS: the bypass register is selected. -/
def State.jtagBypass (s : State) : State := s.jtag Jtag.bypass 0

/-- IDCODE: 0x0006_476B with MAJOR - 1 in bits 31:28. -/
def State.idcode (s : State) : Nat := (s.f F.SYS.SYS_REV_MAJOR - 1) * 2 ^ 28 + 0x0006476B
def State.jtagIdcode (s : State) : State := s.jtag Jtag.idcode s.idcode

/-- SAMPLE/PRELOAD: the levels at the digital pads are sampled, and the boundary register takes the word shifted in. -/
def State.jtagSample (s : State) (pads shift : Nat) : State :=
  let s := s.jtag Jtag.sample pads
  { s with io := { s.io with boundary := shift } }

/-- EXTEST: the pads are driven from the boundary register, and their levels are captured; as BYPASS in Deployed (R560). -/
def State.jtagExtest (s : State) (pads : Nat) : State :=
  if s.deployed then s.jtagBypass
  else
    let s := s.jtag Jtag.extest pads
    { s with io := { s.io with extest := some s.io.boundary } }

/-- DBGACC: one access of n bytes as MP-B; as BYPASS in Deployed (R560). -/
def State.jtagDbgacc (s : State) (write : Bool) (addr n data : Nat) : State :=
  if s.deployed then s.jtagBypass
  else
    let s := s.jtag Jtag.dbgacc 0
    if write then s.busWrite hostB addr n data
    else
      let s := s.busRead hostB addr n
      { s with io := { s.io with tdo := s.resp.data } }

end Sys2Proof.Machine
end

