-- ==== Sys2Proof/Machine/Push.lean ====
section
/-! DEFINITION. Pushes into the command tables and the seal: the tests of a push in the order of R18, with the payload rules of
each block, LATE under R21, R324 and R600, QUOTA under R20, and the seal of R424, R599 and R600. -/

namespace Sys2Proof.Machine
open Sys2Proof

/-- Status codes of a push (R423). -/
def Push.ok : Nat := 0
def Push.late : Nat := 1
def Push.quota : Nat := 2
def Push.malformed : Nat := 3

/-! ## Payload rules -/

/-- The payload rules of a command that do not depend on its slot; an opcode the block does not define fails (R18, R218, R219, R238, R261,
R277, R303, R318, R319, R351, R482). NOP and COMMIT carry no payload rule. -/
def State.cmdShape (s : State) (blk c trig op : Nat) (live : Bool) (pl : List Nat) : Bool :=
  let w := fun i => pl.getD i 0
  let nrb := s.f (F.RXP.CAR_CFG_NRB c)
  let span := fun (n : Nat) => decide (1 ≤ n) && decide (trig + n ≤ 14)
  if op ≤ 1 then true
  else if blk = 14 ∧ op = 0x100 then
    let dest := bits (w 0) 9 8
    pl.length == (if dest = 0 then 3 else 4) && bits (w 0) 31 10 == 0 && bits (w 0) 7 4 == 0 && span (bits (w 0) 3 0) &&
      (dest == 0 || w 3 % 64 == 0)
  else if blk = 14 ∧ op = 0x101 then pl.length == 3 && bits (w 0) 4 0 ≤ 24
  else if blk = 15 ∧ op = 0x200 then pl.length == 3 && bits (w 0) 31 4 == 0 && span (bits (w 0) 3 0)
  else if blk = 15 ∧ op = 0x201 then layerMapOk trig pl nrb
  else if blk = 16 ∧ op = 0x300 then pl.length == 2
  else if blk = 17 ∧ op = 0x400 then sndOk trig nrb pl
  else if blk = 17 ∧ (op = 0x401 ∨ op = 0x402) then !live && schedOk (op == 0x402) trig (s.numGroups c) pl
  else if blk = 18 ∧ op = 0x500 then
    !live && pl.length == 2 && bits (w 0) 31 8 == 0 && bits (w 0) 7 0 != 0 &&
      (maskMembers (bits (w 0) 7 0) 8).all (fun q => s.carEn (s.raCar q))
  else if blk = 19 ∧ op = 0x600 then
    let k := bits (w 0) 2 0
    !live && pl.length == 3 && w 0 == k + 16 * bits (w 0) 7 4 && (k == 0 || k == 2 || k == 3 || k == 5) &&
      decide ((if k = 5 then 4 else 2) ≤ bits (w 0) 7 4) && (k != 5 || bits (w 0) 7 4 % 2 == 0) &&
      decide (trig + bits (w 0) 7 4 ≤ 14) && onePerGroup (w 1 + 2 ^ 32 * w 2)
  else false

/-- End of the memory records of a receive job (R218). -/
def State.rxRecEnd (s : State) (j : RxJob) : Nat :=
  let perPath := ((List.range j.nsym).map (fun i => s.rxRecSize j.carrier j.dest j.slot (j.trig + i))).foldl (· + ·) 0
  j.addr + (maskMembers j.mask 64).length * perPath

/-- A receive job from its payload (R218). -/
def rxJobOf (c n trig : Nat) (pl : List Nat) : RxJob :=
  let w := fun i => pl.getD i 0
  { carrier := c, slot := n, trig := trig, nsym := bits (w 0) 3 0, dest := bits (w 0) 9 8, mask := w 1 + 2 ^ 32 * w 2, addr := w 3 }

/-- A transmit job from its payload (R261). -/
def txJobOf (c n trig : Nat) (pl : List Nat) : TxJob :=
  { carrier := c, slot := n, trig := trig, nsym := bits (pl.getD 0 0) 3 0, mask := pl.getD 1 0 + 2 ^ 32 * pl.getD 2 0 }

/-- The payload rules that name the slot: memory records within context memory, and the TDD pattern (R218, R261, R318, R319, R351, R352,
R482). -/
def State.cmdInSlot (s : State) (blk c n trig op : Nat) (pl : List Nat) : Bool :=
  let nsym := bits (pl.getD 0 0) 3 0
  let spans := (List.range nsym).map (fun i => s.symSpan c n (trig + i))
  if blk = 14 ∧ op = 0x100 then
    let j := rxJobOf c n trig pl
    j.dest == 0 || decide (s.rxRecEnd j ≤ 0x03000000)
  else if (blk = 15 ∧ op = 0x200) ∨ (blk = 17 ∧ op = 0x401) then spans.all (fun w => s.txAllowed w.1 w.2)
  else if blk = 17 ∧ op = 0x402 then spans.all (fun w => s.rxAllowed w.1 w.2)
  else if blk = 18 ∧ op = 0x500 then s.raOccOk c n trig pl
  else if blk = 19 ∧ op = 0x600 then s.calRunOk c n trig pl
  else true

/-! ## The push -/

/-- The staging cut-off of a leader core's next slot has passed (R15). -/
def State.cutPassed (s : State) (L : Nat) : Bool :=
  (s.ldr L).cutoff || (match s.leaderScs L with
    | some scs => decide (s.slotInstant scs (s.slotIdxOf L) < s.now + s.f F.SYS.STAGE_CFG_STAGE_GUARD * usU)
    | none => false)

/-- The staging table of a leader core is open (R600). -/
def State.stageOpen (s : State) (L : Nat) : Bool := (s.ldr L).target && !(s.ldr L).sealed && !s.cutPassed L

/-- Absolute index of the slot a push aims at, where there is one. -/
def State.pushSlot (s : State) (L c : Nat) (live : Bool) : Option Nat :=
  if live then (if s.tlRun then some (s.slotNow (s.carScs c)) else none)
  else if (s.ldr L).target then some (s.slotIdxOf L) else none

/-- The weight instant of the engine slot in which slot n of a carrier begins has passed (R324). -/
def State.wgtPassed (s : State) (c n : Nat) : Bool :=
  match s.gridScs with
  | none => false
  | some g =>
    let m := slotAt g (slotStart (s.carScs c) n * smpU)
    decide (1 ≤ m) && decide (s.symInstant g (m - 1) (s.f F.BFM.WGT_CFG_WSYM) < s.now)

/-- Entries of a core in one table of a block. -/
def State.usedEntries (s : State) (blk L core : Nat) (live : Bool) : Nat :=
  ((if live then s.live else s.staging).filter (fun (e : CmdEntry) => e.blk == blk && e.leader == L && e.issuer == core)).length

/-- The status of a push (R18 to R21, R324, R600). -/
def State.pushStatus (s : State) (core L blk header : Nat) (pl : List Nat) : Nat :=
  let trig := bits header 31 28
  let c := bits header 27 26
  let live := header.testBit 25
  let op := bits header 15 0
  let slot := s.pushSlot L c live
  let wellFormed := decide (trig ≤ 13) && !header.testBit 24 && s.carEn c && s.carLeader c == L && s.cmdShape blk c trig op live pl &&
    (match slot with
      | some n => s.cmdInSlot blk c n trig op pl
      | none => true)
  let sched := decide (blk = 17 ∧ (op = 0x401 ∨ op = 0x402))
  let late := if live then
      !s.tlRun || decide (s.symInstant (s.carScs c) (slot.getD 0) trig < s.now + s.f F.SYS.STAGE_CFG_LIVE_LEAD * usU)
    else !s.stageOpen L || (sched && s.wgtPassed c (slot.getD 0))
  if !wellFormed then Push.malformed
  else if late then Push.late
  else if s.quota core ≤ s.usedEntries blk L core live then Push.quota
  else Push.ok

/-- The refusal of a push with its counter and common event (R18, R20, R21, R32); LIVE_LATE marks a late live command, and a scheduling command
that is late under R324 alone. -/
def State.pushRefused (s : State) (core L blk header status : Nat) : State :=
  let b := blockBase blk
  let live := header.testBit 25
  let liveLate := live || s.stageOpen L
  let s := s.raiseSrc core 5
  if status = Push.late then
    let s := (s.inc (F.common.CMDQ_REFUSE_CNT_LATE_CNT blk)).raise ⟨b, 31, 31⟩
    s.when liveLate (·.detBit F.SYS.DET_STATUS_LIVE_LATE)
  else
    (s.inc (F.common.CMDQ_REFUSE_CNT_QUOTA_CNT blk)).raise (if status = Push.quota then ⟨b, 30, 30⟩ else ⟨b, 29, 29⟩)

/-- A push reaches its block and is accepted or refused (R18 to R21, R423). -/
def State.push (s : State) (core L blk header : Nat) (payload : List Word) : State × Nat :=
  let st := s.pushStatus core L blk header (payload.map BitVec.toNat)
  if st = Push.ok then
    let e : CmdEntry := { blk := blk, leader := L, issuer := core, trig := bits header 31 28, carrier := bits header 27 26,
                          op := bits header 15 0, payload := payload }
    (if header.testBit 25 then { s with live := s.live ++ [e] } else { s with staging := s.staging ++ [e] }, st)
  else (s.pushRefused core L blk header st, st)

/-! ## The seal -/

/-- A late seal counts and raises CMD_LATE in every block with a command table (R32) and raises source 5 (R424). -/
def State.lateSeal (s : State) (L : Nat) : State :=
  s.each cmdBlocks (fun s b => (s.inc (F.common.CMDQ_REFUSE_CNT_LATE_CNT b)).raise ⟨blockBase b, 31, 31⟩) |>.raiseSrc L 5

/-- SEAL by a leader core, with the word g(GS) receives (R15, R424, R599, R600). -/
def State.seal (s : State) (L : Nat) : State × Nat :=
  if !s.paces L then (s, 0)
  else if !(s.ldr L).target || s.cutPassed L then (s.lateSeal L, 1)
  else if (s.ldr L).sealed then (s, 256 * b2n (s.ldr L).trimmed)
  else
    let s := s.fixSched L
    let s := s.setLdr L { s.ldr L with sealed := true }
    (s.setF (slotStatusSealed L) 1, 256 * b2n (s.ldr L).trimmed)

/-! ## Cut-off and swap with the scheduling content -/

/-- The staging cut-off of a leader core (R15, R16): an unsealed table goes with its scheduling content. -/
def State.cutoffAll (s : State) (L : Nat) : State :=
  let s' := s.stagingCutoff L
  if (s'.ldr L).cutoff && !(s'.ldr L).sealed then s'.unschedule L (s'.slotIdxOf L) else s'

/-- The swap of a leader core's tables (R15); scheduling content of a table that runs empty goes (R16, R54, R55). -/
def State.swapAll (s : State) (L scs : Nat) : State :=
  let runs := (s.ldr L).sealed && !s.restEmpty
  let s := if runs then s else s.unschedule L (s.slotIdxOf L)
  s.swapTables L scs

/-! ## Commands taking effect -/

/-- A command of a table takes effect on slot n of its carrier (R19, R22, and the rule of its opcode).  The scheduling commands took effect when the
content of their table was fixed (R322). -/
def State.cmdEffect (s : State) (e : CmdEntry) (n : Nat) : State :=
  let pl := e.payload.map BitVec.toNat
  let w := fun i => pl.getD i 0
  if e.op = 1 then s.when (s.commitOk e.blk) (·.armShadow e.blk (.command e.carrier (14 * n + e.trig)))
  else if e.blk = 14 ∧ e.op = 0x100 then s.rxSym (rxJobOf e.carrier n e.trig pl)
  else if e.blk = 14 ∧ e.op = 0x101 then s.gainSet (bits (w 0) 4 0) (w 1 + 2 ^ 32 * w 2)
  else if e.blk = 15 ∧ e.op = 0x200 then s.txSym (txJobOf e.carrier n e.trig pl)
  else if e.blk = 15 ∧ e.op = 0x201 then s.layerMap (mapJobOf e.carrier n e.trig pl (s.f (F.RXP.CAR_CFG_NRB e.carrier)))
  else if e.blk = 16 ∧ e.op = 0x300 then s.dpdSwap (w 0 + 2 ^ 32 * w 1)
  else if e.blk = 17 ∧ e.op = 0x400 then
    let order := 1024 * e.issuer + (s.bfm.snds.filter (fun x => x.carrier == e.carrier && x.slot == n)).length
    s.snd { carrier := e.carrier, slot := n, trig := e.trig, order := order, descs := sndDescs pl }
  else if e.blk = 18 ∧ e.op = 0x500 then s.raOcc e.carrier n e.trig (w 0) (w 1)
  else if e.blk = 19 ∧ e.op = 0x600 then s.calRun e.carrier n e.trig pl
  else s

end Sys2Proof.Machine
end

