-- ==== Sys2Proof/Machine/CoreExec.lean ====
section
/-! DEFINITION. The issue of an instruction by a Therik core: checks, delay slots and windows, data accesses local and non-local, repeats and
loops, and the meaning of every instruction class (R369, R375 to R383, R400 to R426). -/

namespace Sys2Proof.Machine
open Sys2Proof

/-! ## Data accesses of an instruction (R375 to R377, R407 to R410) -/

/-- One data access of an issue: its address, its width in bytes, and the value of a store. -/
structure Acc where
  addr : Nat
  bytes : Nat
  data : Option Nat := none
deriving DecidableEq, Repr

/-- The accesses of an issue, X before Y, and the pointers it updates. -/
structure Plan where
  accs : List Acc := []
  ups : List (Nat × Word) := []
deriving DecidableEq, Repr

/-- The own data memory in a core's address space (R368). -/
def isLocal (a : Nat) : Bool := 0x0F000000 ≤ a && a < 0x0F040000

/-- The access leaves the own data memory. -/
def Acc.far (x : Acc) : Bool := !isLocal x.addr

/-- The pointer after a linear step. -/
def Core.stepBy (c : Core) (p : Nat) (d : Int) : Word := c.pReg p + BitVec.ofInt 32 d

/-- The pointer after a single access (R376, R409); none where R377 makes it ILLEGAL. -/
def Core.afterMode (c : Core) (p w mode arg : Nat) : Option Word :=
  match mode with
  | 2 => some (c.stepBy p (signed 4 (arg % 16) * w))
  | 3 => some (c.pReg p + c.mReg (arg % 4))
  | 4 => c.circular p w (signed 4 (arg % 16) * w)
  | 5 => c.circular p w (c.mReg (arg % 4)).toInt
  | 6 => some (bitRevAdd (c.pReg p) (c.mReg (arg % 4)))
  | _ => some (c.pReg p)

/-- The address of a single access (R376). -/
def Core.addrMode (c : Core) (p w mode arg : Nat) : Nat :=
  if mode = 1 then (c.stepBy p (signed 8 (arg % 256) * w)).toNat else (c.pReg p).toNat

/-- The pointer after an access of a dual-access instruction (R410). -/
def Core.afterDual (c : Core) (p u : Nat) : Option Word :=
  match u with
  | 0 => some (c.pReg p)
  | 1 => some (c.stepBy p 4)
  | 2 => some (c.stepBy p (-4))
  | 3 => some (c.pReg p + c.mReg 0)
  | 4 => some (c.pReg p + c.mReg 1)
  | 5 => c.circular p 4 4
  | 6 => c.circular p 4 (c.mReg 0).toInt
  | _ => some (bitRevAdd (c.pReg p) (c.mReg 0))

/-- Pointer of a memory operand spec of a MAC, and the pointer after it, for an element of w bytes (R407). -/
def specPtr (x : Nat) : Nat := bits x 8 6
def Core.afterSpec (c : Core) (x w : Nat) : Option Word :=
  let p := specPtr x
  let u := bits x 5 3
  let d : Int := if u < 4 then [0, 1, -1, 2].getD u 0 * (w : Int) else (c.mReg (u - 4)).toInt
  if x.testBit 2 then c.circular p w d
  else if x.testBit 1 then some (bitRevAdd (c.pReg p) (c.mReg (u - 4)))
  else some (c.stepBy p d)

/-- The plan of one memory operand of a MAC; a register operand has none. -/
def Core.specPlan (c : Core) (x w : Nat) : Option Plan :=
  if x.testBit 9 then
    (c.afterSpec x w).map (fun q => ({ accs := [{ addr := (c.pReg (specPtr x)).toNat, bytes := w }], ups := [(specPtr x, q)] } : Plan))
  else some {}

/-- Two plans, X and Y: one issue takes both addresses from the pointers as they stand, and of two updates of one pointer Y's stands. -/
def Plan.both (x y : Option Plan) : Option Plan :=
  match x, y with
  | some a, some b => some { accs := a.accs ++ b.accs, ups := a.ups ++ b.ups }
  | _, _ => none

/-- The value a store of w bytes writes: register g, or the pair for a 64-bit store. -/
def Core.storeVal (c : Core) (g w : Nat) : Nat :=
  if w = 8 then (c.gReg g).toNat + 2 ^ 32 * (c.gReg (g + 1)).toNat else (c.gReg g).toNat % 2 ^ (8 * w)

/-- The data accesses of an instruction; none where a circular update makes it ILLEGAL. -/
def Core.plan (c : Core) (o : Op) : Option Plan :=
  match o with
  | .load w _ _ p mode arg =>
    (c.afterMode p (2 ^ w) mode arg).map (fun q => ({ accs := [{ addr := c.addrMode p (2 ^ w) mode arg, bytes := 2 ^ w }], ups := [(p, q)] } : Plan))
  | .store w g p mode arg =>
    (c.afterMode p (2 ^ w) mode arg).map (fun q =>
      ({ accs := [{ addr := c.addrMode p (2 ^ w) mode arg, bytes := 2 ^ w, data := some (c.storeVal g (2 ^ w)) }], ups := [(p, q)] } : Plan))
  | .dual xst yst gx px ux gy py uy =>
    let one := fun (st : Bool) (g p u : Nat) => (c.afterDual p u).map (fun q =>
      ({ accs := [{ addr := (c.pReg p).toNat, bytes := 4, data := if st then some (c.gReg g).toNat else none }], ups := [(p, q)] } : Plan))
    Plan.both (one xst gx px ux) (one yst gy py uy)
  | .mac op _ _ _ xs ys => Plan.both (c.specPlan xs 4) (c.specPlan ys (if op % 2 = 1 then 2 else 4))
  | _ => some {}

/-- Pointer updates in order. -/
def Core.moveAll (c : Core) (ups : List (Nat × Word)) : Core := ups.foldl (fun c u => c.setP u.1 u.2) c

/-- A loaded register with its window of one issue (R378). -/
def Core.loaded (c : Core) (g : Nat) (w : Word) : Core := (c.setG g w).window g 0 1

/-- What an instruction does to the registers with the values of its accesses. -/
def Core.withVals (c : Core) (o : Op) (vals : List Nat) : Core :=
  let v := vals.getD 0 0
  match o with
  | .load w sx g _ _ _ =>
    if w = 3 then (c.loaded g (BitVec.ofNat 32 v)).loaded (g + 1) (BitVec.ofNat 32 (v / 2 ^ 32))
    else c.loaded g (if sx then BitVec.ofInt 32 (signed (8 * 2 ^ w) v) else BitVec.ofNat 32 v)
  | .dual xst yst gx _ _ gy _ _ =>
    let c := if xst then c else c.loaded gx (BitVec.ofNat 32 v)
    if yst then c else c.loaded gy (BitVec.ofNat 32 (vals.getD 1 0))
  | .mac op k cj ng xs ys =>
    let x := if xs.testBit 9 then BitVec.ofNat 32 v else c.gReg (bits xs 7 4)
    let y := if ys.testBit 9 then BitVec.ofNat 32 (if xs.testBit 9 then vals.getD 1 0 else v) else c.gReg (bits ys 7 4)
    c.mac op k cj ng x y
  | _ => c

/-! ## Performing accesses -/

/-- Address of a local access in the global map. -/
def localCell (n a : Nat) : Nat := dmemBase n + (a - 0x0F000000)

/-- Error check of the local loads of an issue: the address of an uncorrectable one (R394, R395). -/
def State.localErrors (s : State) (n : Nat) : List Acc → State × Option Nat
  | [] => (s, none)
  | x :: l =>
    if x.far || x.data.isSome then s.localErrors n l
    else
      let r := s.coreEcc n (localCell n x.addr) x.bytes
      if r.2 then (r.1, some x.addr) else r.1.localErrors n l

/-- The local accesses in order, with the value of the one access that left the core (R375). -/
def State.localAccs (s : State) (n far : Nat) : List Acc → State × List Nat
  | [] => (s, [])
  | x :: l =>
    if x.far then
      let r := s.localAccs n far l
      (r.1, far :: r.2)
    else match x.data with
      | some v =>
        let r := ({ s with mem := memWrite s.mem (localCell n x.addr) (leBytes x.bytes v) } : State).localAccs n far l
        (r.1, 0 :: r.2)
      | none =>
        let v := ofLe (memRead s.mem (localCell n x.addr) x.bytes)
        let r := s.localAccs n far l
        (r.1, v :: r.2)

/-- The access that leaves the core: its value, and whether an error answered it (R369). -/
def State.farAcc (s : State) (n : Nat) (l : List Acc) : State × Nat × Option Nat :=
  match l.find? Acc.far with
  | none => (s, 0, none)
  | some x =>
    let s := match x.data with
      | some v => s.busWrite n x.addr x.bytes v
      | none => s.busRead n x.addr x.bytes
    (s, s.resp.data, if s.resp.err = 0 then none else some x.addr)

/-- Local stores that a fault of the same issue takes back: the bytes are again those of `t` (R394). -/
def State.takeBack (s t : State) (n : Nat) (l : List Acc) : State :=
  s.each (l.filter (fun x => x.data.isSome)) (fun s x =>
    { s with mem := memWrite s.mem (localCell n x.addr) (memRead t.mem (localCell n x.addr) x.bytes) })

/-- The accesses and register effects of an instruction, without its advance: those before an access that leaves the core are made before it; a fault leaves the core in
FAULT (R375, R394). -/
def State.memEffect (s : State) (n : Nat) (o : Op) (pl : Plan) : State :=
  let e := s.localErrors n pl.accs
  match e.2 with
  | some a => e.1.coreFault n CoreFault.ecc a true
  | none =>
    let near := if pl.accs.any Acc.far then pl.accs.takeWhile (fun x => !x.far) else []
    let x := e.1.localAccs n 0 near
    let f := x.1.farAcc n pl.accs
    if f.1.coreState n != s.coreState n then f.1
    else match f.2.2 with
      | some a => (f.1.takeBack e.1 n near).coreFault n CoreFault.bus a false
      | none =>
        let y := f.1.localAccs n f.2.1 (pl.accs.drop near.length)
        y.1.modCore n (fun c => (c.withVals o (x.2 ++ y.2)).moveAll pl.ups)

/-- The first access that is not aligned to its width. -/
def Plan.misaligned (p : Plan) : Option Nat := (p.accs.find? (fun x => x.addr % x.bytes != 0)).map (·.addr)

/-- The core still stands in its instruction: it has not faulted, and no reset has taken it. -/
def State.inIssue (s : State) (n : Nat) : Bool := countsWdt (s.coreState n)

/-- An instruction of core n is done: it leaves its hold and goes on. -/
def State.instrDone (s : State) (n : Nat) (g : Core → Core) : State :=
  let s := s.modCore n (fun c => g { c with hold := none })
  s.setCoreState n CoreState.running

/-- An instruction with data accesses issues: both accesses outside the own data memory are ILLEGAL, a misaligned address faults, and an access that
leaves the core holds the issue (R369, R375). -/
def State.memIssue (s : State) (n : Nat) (o : Op) : State :=
  match (s.core n).plan o with
  | none => s.coreFault n CoreFault.illegal 0 false
  | some pl =>
    if 1 < (pl.accs.filter Acc.far).length then s.coreFault n CoreFault.illegal 0 false
    else match pl.misaligned with
      | some a => s.coreFault n CoreFault.align a false
      | none =>
        if pl.accs.any Acc.far then (s.modCore n (fun c => { c with hold := some o })).setCoreState n CoreState.waiting
        else
          let s := s.memEffect n o pl
          if s.inIssue n then s.modCore n Core.advance else s

/-! ## Instructions without data accesses -/

/-- Register code an instruction writes among the special registers, 0 for none. -/
def Op.destCode (o : Op) : Nat :=
  match o with
  | .movr d _ | .lui d _ | .lli d _ | .movi d _ => d
  | _ => 0

/-- The value that MOVR, LUI, LLI or MOVI moves to its destination (R405, R406). -/
def Core.moved (c : Core) (cid : Word) (o : Op) : Word :=
  match o with
  | .movr _ x => c.readCode cid x
  | .lui _ i => BitVec.ofNat 32 (i * 2 ^ 16)
  | .lli rd i => BitVec.ofNat 32 (bits (c.readCode cid rd).toNat 31 16 * 2 ^ 16 + i % 2 ^ 16)
  | .movi _ i => BitVec.ofInt 32 (signed 16 i)
  | _ => 0

/-- The register effect of an instruction of the ALU, immediate and scaled-move classes. -/
def Core.plainEffect (c : Core) (cid : Word) (o : Op) : Core :=
  match o with
  | .alu op rd ra rb => c.alu op rd ra rb
  | .movr d _ | .lui d _ | .lli d _ | .movi d _ => c.writeCode d (c.moved cid o)
  | .imm op rd ra i => c.immOp op rd ra i
  | .paddi p i => c.paddi p i
  | .mvw g a => c.mvw g a
  | .mvp g a => c.mvp g a
  | .blkend => c.blkend
  | _ => c

/-- An instruction with a register effect goes on; a loop register it writes takes effect from the next issue (R405, R415). -/
def Core.plainStep (c : Core) (cid : Word) (o : Op) : Core :=
  let c' := c.plainEffect cid o
  let a := c.advance
  let d := o.destCode
  { c' with pc := a.pc, slots := a.slots, target := a.target,
            lp := if 0x38 ≤ d ∧ d < 0x3E then setNth a.lp (d - 0x38) (c.moved cid o) else a.lp }

/-- A condition of R412 on SR. -/
def Core.cond (c : Core) (k : Nat) : Bool :=
  let n := c.srBit SR.n
  let z := c.srBit SR.z
  let v := c.srBit SR.v
  match k with
  | 0 => true
  | 1 => z
  | 2 => !z
  | 3 => n != v
  | 4 => n == v
  | 5 => !z && n == v
  | 6 => z || n != v
  | 7 => c.srBit SR.c
  | 8 => !c.srBit SR.c
  | 9 => n
  | 10 => !n
  | 11 => v
  | 12 => !v
  | 13 => c.srBit SR.sat
  | 14 => c.srBit SR.aov
  | _ => false

/-- A branch of any kind: two delay slots, and the target where it is taken (R412, R413). -/
def Core.branchTo (c : Core) (taken : Bool) (target : Nat) : Core :=
  { c with pc := (c.pc + 4) % 2 ^ 32, slots := 2, target := if taken then some (target % 2 ^ 32) else none }

/-- The target of a branch or call: a signed word offset from its own address. -/
def Core.offTarget (c : Core) (off : Nat) : Nat := (((c.pc : Int) + 4 * signed 22 off) % (2 ^ 32 : Int)).toNat

def Core.branchStep (c : Core) (o : Op) : Core :=
  match o with
  | .branch k off => c.branchTo (c.cond k) (c.offTarget off)
  | .call k off =>
    let t := c.cond k
    let b := c.branchTo t (c.offTarget off)
    if t then { b with link := BitVec.ofNat 32 (c.pc + 12) } else b
  | .ret k => c.branchTo (c.cond k) c.link.toNat
  | .jump k g => c.branchTo (c.cond k) ((c.gReg g).toNat % 2 ^ 16)
  | _ => c

/-- A count of a repeat or loop (R414). -/
def countOk (k : Nat) : Bool := 1 ≤ k && k ≤ 4096

/-- RPT and RPTR: the next instruction repeats (R381). -/
def Core.repeatStep (c : Core) (k : Nat) : Core := { c with rep := k, repPc := c.pc, pc := (c.pc + 4) % 2 ^ 32 }

/-- The address at which a loop ends (R415). -/
def Core.loopEnd (c : Core) (endw : Nat) : Nat := (c.pc + 4 * endw) % 2 ^ 32

/-- The word of the instruction memory of core n at an address. -/
def State.imemWord (s : State) (n pc : Nat) : Nat := ofLe (memRead s.mem (imemBase n + pc) 4)

/-- A loop that may not be armed (R416). -/
def State.loopBad (s : State) (n lvl endw : Nat) : Bool :=
  let c := s.core n
  let e := c.loopEnd endw
  (lvl == 1 && c.lp.getD 2 0 != 0 && decide ((c.lp.getD 1 0).toNat < e)) ||
    (decide (e < 0x10000) && e % 4 == 0 && (match decodeOp (s.imemWord n e) with
      | some o => o.isJump
      | none => false))

/-- Arm a loop level, in place of what the registers of the level held (R415). -/
def Core.armLoop (c : Core) (pc lvl endw k : Nat) : Core :=
  let w := fun (x : Nat) => BitVec.ofNat 32 (x % 2 ^ 32)
  { c with lp := setNth (setNth (setNth c.lp (3 * lvl) (w (pc + 4))) (3 * lvl + 1) (w (pc + 4 * endw))) (3 * lvl + 2) (w k) }

/-- LOOP and LOOPR, without their advance; none where they are ILLEGAL. -/
def State.loopEffect (s : State) (n lvl endw k : Nat) : Option State :=
  if !countOk k || s.loopBad n lvl endw then none
  else some (s.modCore n (fun c => c.armLoop c.pc lvl endw k))

/-! ## Waits and sync instructions (R417 to R420) -/

/-- A sync instruction returns its status (R417). -/
def State.syncDone (s : State) (n gs st : Nat) : State := s.modCore n (fun c => (c.setG gs (BitVec.ofNat 32 st)).advance)

/-- The same wait, interrupted before, runs again (R419). -/
def Core.resumes (c : Core) (o : Op) : Bool := c.wait == some o && c.waitPc == c.pc

/-- The core stands in a wait; a resumed one keeps the instant of its first issue (R419, R462). -/
def State.enterWait (s : State) (n : Nat) (o : Op) : State :=
  let s := s.modCore n (fun c =>
    { c with wait := some o, waitAt := if c.resumes o then c.waitAt else s.now, waitPc := c.pc, got := none })
  s.setCoreState n CoreState.waiting

/-- A wait ends in its own issue with a status. -/
def State.waitDone (s : State) (n gs st : Nat) : State :=
  let s := s.modCore n (fun c => { c with wait := none, got := none })
  s.syncDone n gs st

/-- An injected timeout of a core's next wait (R570): the response of detector 9 with source 8, without a change in Belay. -/
def State.waitInjected (s : State) (n : Nat) : State := ((s.injTake 9 n).acqTimeout n true).raiseSrc n 8

/-- RECVW: the oldest message, or a wait (R417). -/
def State.issueRecvw (s : State) (n gs ga : Nat) : State :=
  let o := Op.recvw gs ga
  let c := s.core n
  match (if c.resumes o then c.got else none) with
  | some st => s.waitDone n gs st
  | none =>
    if !(s.inboxOf n).isEmpty then
      let r := s.recvTake n
      r.1.modCore n (fun c => (({ c with wait := none, got := none } : Core).recvRegs gs ga r.2.1 r.2.2.1 r.2.2.2).advance)
    else
      if s.injHit 9 n then
        (((s.waitInjected n).inc F.MBX.MBX_CNT1_RX_TMO_CNT).raise F.MBX.EVT_RECV_TIMEOUT).waitDone n gs Sync.timeout
      else s.enterWait n o

/-- ACQ: a status at once, or a place in the waiter queue (R458, R459, R463). -/
def State.issueAcq (s : State) (n gs k : Nat) : State :=
  let o := Op.acq gs k
  let c := s.core n
  match (if c.resumes o then c.got else none) with
  | some st => s.waitDone n gs st
  | none =>
    if c.resumes o && s.waitsFor n == some k then s.enterWait n o
    else
      let r := s.acquire n k true
      match r.2 with
      | some st => (r.1.when (st == Sync.timeout) (·.raiseSrc n 8)).waitDone n gs st
      | none => r.1.enterWait n o

/-- BAR: arrival at a barrier (R420). -/
def State.issueBar (s : State) (n gs b : Nat) : State :=
  let o := Op.bar gs b
  let c := s.core n
  match (if c.resumes o then c.got else none) with
  | some st => s.waitDone n gs st
  | none =>
    if c.resumes o && (s.arrivedAt b).contains n then s.enterWait n o
    else
      let r := s.leaveBarrier n |>.barArrive n b
      match r.2 with
      | some st => r.1.waitDone n gs st
      | none => if s.injHit 9 n then ((s.leaveBarrier n).waitInjected n).waitDone n gs Sync.timeout else r.1.enterWait n o

/-- SEND (R417, R450). -/
def State.issueSend (s : State) (n gs ga gb : Nat) : State :=
  let c := s.core n
  let g := (c.gReg gb).toNat % 64
  if 35 < g then s.coreFault n CoreFault.illegal 0 false
  else
    let r := s.sendMsg n g (c.gReg ga).toNat (c.gReg (ga + 1)).toNat
    r.1.syncDone n gs r.2

/-- RING (R417, R452). -/
def State.issueRing (s : State) (n gs gb : Nat) : State :=
  let g := ((s.core n).gReg gb).toNat % 64
  if 35 < g then s.coreFault n CoreFault.illegal 0 false
  else ((s.ringBell n g).doorbellWake).syncDone n gs Sync.ok

/-- RECV (R417, R451). -/
def State.issueRecv (s : State) (n gs ga : Nat) : State :=
  let r := s.recvTake n
  r.1.modCore n (fun c => (c.recvRegs gs ga r.2.1 r.2.2.1 r.2.2.2).advance)

/-! ## Accelerator and timeline instructions -/

/-- The payload of a push, in the own data memory (R423). -/
def State.pushWords (s : State) (n ptr len : Nat) : List Word :=
  (List.range len).map (fun i => BitVec.ofNat 32 (ofLe (memRead s.mem (localCell n (ptr + 4 * i)) 4)))

/-- A push is accepted or refused by its block, and its pointer moves in every outcome (R423). -/
def State.pushEffect (s : State) (n : Nat) (o : Op) : State :=
  match o with
  | .push blk lsel gs gh p =>
    let c := s.core n
    let header := (c.gReg gh).toNat
    let ptr := (c.pReg p).toNat
    let len := bits header 23 16
    let r := s.push n lsel blk header (s.pushWords n ptr len)
    r.1.modCore n (fun c => (c.setP p (BitVec.ofNat 32 (ptr + 4 * len))).setG gs (BitVec.ofNat 32 r.2))
  | _ => s

/-- PUSH issues: its pointer is checked, its payload is read, and while the crossing is full it is held (R10, R423). -/
def State.issuePush (s : State) (n : Nat) (o : Op) (full : Bool) : State :=
  match o with
  | .push _ _ _ gh p =>
    let c := s.core n
    let ptr := (c.pReg p).toNat
    let len := bits (c.gReg gh).toNat 23 16
    if !isLocal ptr || 0x0F040000 < ptr + 4 * len then s.coreFault n CoreFault.bus ptr false
    else if ptr % 4 ≠ 0 then s.coreFault n CoreFault.align ptr false
    else
      let e := s.localErrors n ((List.range len).map (fun i => ({ addr := ptr + 4 * i, bytes := 4 } : Acc)))
      match e.2 with
      | some a => e.1.coreFault n CoreFault.ecc a true
      | none =>
        if full then (e.1.modCore n (fun c => { c with hold := some o })).setCoreState n CoreState.waiting
        else (e.1.pushEffect n o).modCore n Core.advance
  | _ => s

/-- The position of a leader core's grid: absolute slot and symbol (R425). -/
def State.gridPos (s : State) (L : Nat) : Option (Nat × Nat × Nat) :=
  match s.leaderScs L with
  | none => none
  | some scs =>
    if s.tlRun then
      let n := s.slotNow scs
      some (scs, n, symAt scs n (s.tlOff - slotStart scs n * smpU))
    else none

/-- TNOW (R425). -/
def State.tnowWord (s : State) (L : Nat) : Word :=
  match s.gridPos L with
  | some (scs, n, k) => BitVec.ofNat 32 (s.frameOf scs n * 2 ^ 16 + n % slotsPerFrame scs * 2 ^ 8 + k)
  | none => 0xFFFFFFFF#32

/-- SLOT_STATUS of a leader core. -/
def slotStatusAddr (L : Nat) : Nat := if L = 0 then A.SYS.SLOT_STATUS_LC0 else A.SYS.SLOT_STATUS_LC1

/-- WSYM: a start that has passed returns 1, one that lies ahead is waited for (R425).  Outside RUN there is no slot in progress (DEDUCED). -/
def State.issueWsym (s : State) (n gs sym L : Nat) : State :=
  match s.gridPos L with
  | some (scs, k, _) =>
    let t := s.symInstant scs k sym
    if t ≤ s.now then s.waitDone n gs (if t < s.now then 1 else 0)
    else (s.modCore n (fun c => { c with waitSym := 14 * k + sym })).enterWait n (.wsym gs sym L)
  | none => if (s.leaderScs L).isSome then s.waitDone n gs 1 else s.enterWait n (.wsym gs sym L)

/-! ## System instructions (R426) -/

def State.issueReti (s : State) (n : Nat) : State :=
  if (s.core n).ipl = 0 then s.coreFault n CoreFault.illegal 0 false
  else (s.modCore n (fun c => (c.reti).passIssues 1)).countIssues n 1

/-! ## The issue -/

/-- What an instruction does once its checks have passed; `full` says that a push meets a full crossing. -/
def State.execOp (s : State) (n : Nat) (o : Op) (full : Bool) : State :=
  let c := s.core n
  match o with
  | .load .. | .store .. | .dual .. | .mac .. => s.memIssue n o
  | .alu .. | .movr .. | .imm .. | .lui .. | .lli .. | .paddi .. | .movi .. | .mvw .. | .mvp .. | .blkend =>
    s.setCore n (c.plainStep (s.cid n) o)
  | .branch .. | .call .. | .ret .. | .jump .. => s.setCore n (c.branchStep o)
  | .rpt k => s.setCore n (c.repeatStep k)
  | .rptr g => if countOk (c.gReg g).toNat then s.setCore n (c.repeatStep (c.gReg g).toNat) else s.coreFault n CoreFault.illegal 0 false
  | .loop lvl e k =>
    if s.loopBad n lvl e then s.coreFault n CoreFault.illegal 0 false else s.setCore n (c.advance.armLoop c.pc lvl e k)
  | .loopr lvl e g =>
    let k := (c.gReg g).toNat
    if !countOk k || s.loopBad n lvl e then s.coreFault n CoreFault.illegal 0 false else s.setCore n (c.advance.armLoop c.pc lvl e k)
  | .send gs ga gb => s.issueSend n gs ga gb
  | .recv gs ga => s.issueRecv n gs ga
  | .recvw gs ga => s.issueRecvw n gs ga
  | .ring gs gb => s.issueRing n gs gb
  | .acq gs k => s.issueAcq n gs k
  | .tryacq gs k =>
    let r := s.acquire n k false
    r.1.syncDone n gs (r.2.getD Sync.busy)
  | .rel gs k =>
    let r := s.release n k
    r.1.syncDone n gs r.2
  | .bar gs b => s.issueBar n gs b
  | .push .. => s.issuePush n o full
  | .seal lsel gs =>
    let r := s.seal lsel
    r.1.syncDone n gs r.2
  | .wslot _ => s.enterWait n o
  | .wsym gs sym lsel => s.issueWsym n gs sym lsel
  | .ttgt g lsel => s.modCore n (fun c => (c.setG g (s.reg (slotStatusAddr lsel))).advance)
  | .tnow g lsel => s.modCore n (fun c => (c.setG g (s.tnowWord lsel)).advance)
  | .nop => s.modCore n Core.advance
  | .reti => s.issueReti n
  | .kick => (s.kick n).modCore n Core.advance
  | .stop => (s.modCore n Core.advance).coreHalt n true
  | .ei => s.modCore n (fun c => c.advance.setSr SR.ie true)
  | .di => s.modCore n (fun c => c.advance.setSr SR.ie false)
  | .veto v => (s.setF (F.TKC.C_CTRL_VETO n) (b2n v)).modCore n Core.advance
  | .brk => s.coreHalt n true

/-- The fetch at the pc of core n: outside the instruction memory it faults with IFETCH, and an uncorrectable error faults with ECC
(R368, R394, R413). -/
def State.fetchCheck (s : State) (n : Nat) : State × Bool :=
  let pc := (s.core n).pc
  if pc % 4 ≠ 0 ∨ 0x10000 ≤ pc then (s.coreFault n CoreFault.ifetch 0 false, false)
  else
    let r := s.coreEcc n (imemBase n + pc) 4
    if r.2 then (r.1.coreFault n CoreFault.ecc pc true, false) else (r.1, true)

/-! ## Repeats (R381) -/

/-- Some execution of a repeat would leave the own data memory: the pointers are walked ahead, as far as the accesses stay legal. -/
def Core.walksOut (o : Op) : Nat → Core → Bool
  | 0, _ => false
  | k + 1, c => match c.plan o with
    | none => false
    | some pl =>
      if pl.accs.any Acc.far then true
      else if pl.misaligned.isSome || pl.accs.isEmpty then false
      else Core.walksOut o k (c.moveAll pl.ups)

/-- One execution of a repeated instruction. -/
def State.repeatOnce (s : State) (n : Nat) (o : Op) : State :=
  let c := s.core n
  match o with
  | .loop lvl e k => (s.loopEffect n lvl e k).getD (s.coreFault n CoreFault.illegal 0 false)
  | .loopr lvl e g => (s.loopEffect n lvl e (c.gReg g).toNat).getD (s.coreFault n CoreFault.illegal 0 false)
  | _ =>
    match c.plan o with
    | none => s.coreFault n CoreFault.illegal 0 false
    | some pl => match pl.misaligned with
      | some a => s.coreFault n CoreFault.align a false
      | none => if pl.accs.isEmpty then
          s.setCore n ((c.plainEffect (s.cid n) o).withVals o [])
        else s.memEffect n o pl

/-- The executions of a repeat; two drain issues follow, and no window stays open. -/
def State.repeatRun (n : Nat) (o : Op) : Nat → State → State
  | 0, s => (s.modCore n (fun c => { c with win := [], rep := 0, pc := (c.pc + 4) % 2 ^ 32 })).countIssues n 2
  | k + 1, s =>
    if (s.core n).hazard o then s.coreFault n CoreFault.hazard 0 false
    else
      let s := ((s.modCore n (·.passIssues 1)).countIssues n 1).repeatOnce n o
      if s.inIssue n then State.repeatRun n o k s else s

/-- The instruction after an RPT issues: what may not be repeated faults at the RPT's own address. -/
def State.repeatIssue (s : State) (n : Nat) (o : Op) : State :=
  let c := s.core n
  if !o.repeatOk || Core.walksOut o c.rep c then (s.modCore n (fun c => { c with pc := c.repPc })).coreFault n CoreFault.illegal 0 false
  else if !o.ok n s.deployed then s.coreFault n CoreFault.illegal 0 false
  else State.repeatRun n o c.rep s

/-- Core n can issue: it is RUNNING, and TKC has not stopped for a rest entry (R55, R379). -/
def State.coreGoes (s : State) (n : Nat) : Bool := n < 34 && s.coreState n == CoreState.running && !s.resting 0

/-- Core n issues an instruction at its pc (R379, R380, R401).  A core that is not RUNNING issues nothing. -/
def State.coreIssueWith (s : State) (n : Nat) (o : Op) (full : Bool) : State :=
  if s.coreGoes n then
    let r := s.fetchCheck n
    if !r.2 then r.1
    else
      let s := r.1
      let c := s.core n
      if c.rep ≠ 0 then (s.repeatIssue n o).afterIssue n
      else if !o.ok n s.deployed || (c.slots != 0 && !o.slotOk) then s.coreFault n CoreFault.illegal 0 false
      else if c.hazard o then s.coreFault n CoreFault.hazard 0 false
      else (((s.modCore n (·.passIssues 1)).countIssues n 1).execOp n o full).afterIssue n
  else s

/-- Core n issues an instruction other than a push that meets a full crossing. -/
def State.coreIssue (s : State) (n : Nat) (o : Op) : State := s.coreIssueWith n o false

/-- Core n issues a word: a reserved encoding is ILLEGAL (R401). -/
def State.issueWord (s : State) (n w : Nat) : State :=
  match decodeOp w with
  | some o => s.coreIssue n o
  | none =>
    if s.coreGoes n then
      let r := s.fetchCheck n
      if r.2 then r.1.coreFault n CoreFault.illegal 0 false else r.1
    else s

/-! ## Accesses that were held -/

/-- A held access of a core in reset completes: its effect outside the core stands, and the registers are at their reset values (R393). -/
def State.heldCleared (s : State) (n : Nat) : State := if s.coreState n == CoreState.resetting then s.modCore n Core.cleared else s

/-- ACCESS_COMPLETE: the non-local access that holds core n completes (R369). -/
def State.accessComplete (s : State) (n : Nat) : State :=
  let c := s.core n
  match c.hold with
  | none => s
  | some (.push ..) => s
  | some o =>
    match c.plan o with
    | none => s
    | some pl =>
      if s.coreState n == CoreState.resetting then
        let f := s.farAcc n pl.accs
        f.1.heldCleared n
      else
        let st := s.coreState n
        let s := s.memEffect n o pl
        if s.coreState n == st then (s.instrDone n Core.advance).afterIssue n else s.heldCleared n

/-- PUSH_COMPLETE: the push that waited at a full crossing reaches its block (R423). -/
def State.pushComplete (s : State) (n : Nat) : State :=
  match (s.core n).hold with
  | some (.push blk lsel gs gh p) =>
    let o := Op.push blk lsel gs gh p
    if s.coreState n == CoreState.resetting then (s.pushEffect n o).heldCleared n
    else ((s.pushEffect n o).instrDone n Core.advance).afterIssue n
  | _ => s

/-! ## Single steps (R391) -/

/-- A stepping core issues from its instruction memory until the step ends or it waits. -/
def State.stepIssues (n : Nat) : Nat → State → State
  | 0, s => s
  | k + 1, s =>
    if (s.core n).stepping && s.coreState n == CoreState.running then
      State.stepIssues n k (s.issueWord n (s.imemWord n (s.core n).pc))
    else s

/-- All stepping cores issue. -/
def State.stepRun (s : State) : State :=
  s.each ((List.range 34).filter (fun n => (s.core n).stepping)) (fun s n => State.stepIssues n 8 s)

end Sys2Proof.Machine
end

