-- ==== Sys2Proof/Machine/Deliver.lean ====
section
/-! DEFINITION. Reception of frames: the header checks, loops and routes of R138 to R142, the tail and its check (R140), and local delivery:
requests and bulk transfers (R147 to R149), time, credit and topology frames, layer blocks, partial sums and core frames. -/

namespace Sys2Proof.Machine
open Sys2Proof

/-! ## Answers -/

/-- A frame this device originates in answer to one that came on a port: its route decides, and until an image runs, the port it came by (R88, R151). -/
def State.answer (s : State) (port : Nat) (f : Frame) : State :=
  if s.f F.SYS.BOOT_STATUS_ROM_STATE = 5 then s.send f
  else { s with hopOut := s.hopOut ++ [(port, { f with hops := s.f F.RTE.DEV_CFG_HOP_LIMIT })] }

/-! ## Requests (R147) -/

/-- The i-th little-endian word of a payload. -/
def payloadWord (pl : List Byte) (i : Nat) : Nat := ofLe ((pl.drop (4 * i)).take 4)

/-- The words of a request one by one, up to the first that draws an error: the words done and the data read. -/
def State.mreqWords (s : State) (pl : List Byte) (write incr : Bool) (a : Nat) : Nat → Nat → List Nat → State × Nat × List Nat
  | 0, k, l => (s, k, l)
  | n + 1, k, l =>
    let addr := if incr then a + 4 * k else a
    let s := if write then s.busWrite Agent.mpA addr 4 (payloadWord pl (2 + k)) else s.busRead Agent.mpA addr 4
    if s.resp.err = 0 then s.mreqWords pl write incr a n (k + 1) (if write then l else l ++ [s.resp.data]) else (s, k, l)

/-- A request is well formed: aligned, with COUNT in range and its data present. -/
def mreqOk (pl : List Byte) : Bool :=
  let w := payloadWord pl 1
  let n := bits w 15 0
  payloadWord pl 0 % 4 == 0 && 1 ≤ n && n ≤ 1022 && pl.length == (if w.testBit 31 then 8 + 4 * n else 8)

/-- MREQ: the words are served in order and answered with an MRSP (R147); a request that is not well formed is answered ERROR with no word done. -/
def State.mreq (s : State) (port src seq : Nat) (pl : List Byte) : State :=
  let w := payloadWord pl 1
  let n := if mreqOk pl then bits w 15 0 else 0
  let r := s.mreqWords pl (w.testBit 31) (w.testBit 30) (payloadWord pl 0) n 0 []
  let status := if mreqOk pl && r.2.1 == n then 0 else 1
  let body := leBytes 4 (r.2.1 * 2 ^ 16 + status) ++ (r.2.2.map (leBytes 4)).flatten
  r.1.answer port { typ := 5, vc := 4, dst := src, src := r.1.f F.RTE.DEV_CFG_DEV_ADDR, seq := seq, payload := body }

/-! ## Bulk transfers (R148, R149) -/

/-- A bulk sub-header, none where it is malformed: address, operation and XID. -/
def bulkParse (pl : List Byte) : Option (Nat × Nat × Nat) :=
  let at_ := fun i n => ofLe ((pl.drop i).take n)
  let op := at_ 4 1
  let quiet := at_ 12 4 == 0 && (op == 2 || (at_ 5 1 == 0 && at_ 8 4 == 0 && (pl.length - 16) % 8 == 0))
  if 16 ≤ pl.length ∧ op ≤ 2 ∧ at_ 0 4 % 8 = 0 ∧ quiet = true then some (at_ 0 4, op, at_ 6 2) else none

/-- The cause that refuses a bulk write of n bytes, 0 for none: the whole range in one memory, and no part refused. -/
def State.bulkCause (s : State) (a n : Nat) : Nat :=
  let inCtx := decide (a + n ≤ 0x03000000)
  let inMsg := decide (0x04000000 ≤ a) && decide (a + n ≤ 0x04200000)
  if !(inCtx || inMsg) then Cause.unmapped
  else ((List.range (n / 8)).map (fun i => s.memCause Agent.mpA (a + 8 * i) 8 true)).find? (· != 0) |>.getD 0

/-- The ACK of a bulk write (R149). -/
def State.bulkAck (s : State) (port src seq a xid status count : Nat) : State :=
  let pl := leBytes 4 a ++ leBytes 1 2 ++ leBytes 1 status ++ leBytes 2 xid ++ leBytes 4 count ++ leBytes 4 0
  s.answer port { typ := 1, vc := 7, dst := src, src := s.f F.RTE.DEV_CFG_DEV_ADDR, seq := seq, payload := pl }

/-- A bulk write, with an answer or without: all of it is written, or nothing (R149). -/
def State.bulkWrite (s : State) (port src seq a xid : Nat) (data : List Byte) (ack : Bool) : State :=
  let c := s.bulkCause a data.length
  if c = 0 then
    let s := { s with mem := memWrite s.mem a data }
    s.when ack (·.bulkAck port src seq a xid 0 data.length)
  else (s.logAccess Agent.mpA a true c).when ack (·.bulkAck port src seq a xid 1 0)

/-- A bulk frame (R148, R149): an ACK is dropped, and a malformed sub-header is counted. -/
def State.bulk (s : State) (port src seq : Nat) (pl : List Byte) : State :=
  match bulkParse pl with
  | none => s.inc F.RTE.FRM_CNT0_MALFORMED_CNT
  | some (a, op, xid) => if op = 2 then s else s.bulkWrite port src seq a xid (pl.drop 16) (op == 1)

/-! ## Hop-local frames -/

/-- The receive stamp of a TIME frame on its base: the one taken at its header, else one taken now (R180). -/
def State.rxStampOf (s : State) (port : Nat) (stamps : List Nat) (base : Nat) : Nat := stamps.getD base (s.rxStamp base port)

/-- A TIME frame (R176 to R178). -/
def State.timeFrame (s : State) (port : Nat) (pl : List Byte) (stamps : List Nat) : State :=
  let s := s.tickFree
  let at_ := fun i n => ofLe ((pl.drop i).take n)
  let kind := at_ 0 1
  let base := at_ 1 1
  if pl.length ≠ 32 ∨ 2 < kind ∨ 1 < base then s.rteMalformed
  else
    let exch := at_ 2 2
    if kind = 0 then s.syncIn base port exch (stampOf (at_ 9 1) (at_ 4 4) (at_ 8 1 % 16)) (at_ 10 1) (at_ 11 1) (s.rxStampOf port stamps base)
    else if kind = 1 then s.delayReq base port exch (s.rxStampOf port stamps base)
    else s.delayResp base port exch (stampOf (at_ 17 1) (at_ 12 4) (at_ 16 1 % 16))

/-- A TOPO frame (R155). -/
def State.topoFrame (s : State) (port : Nat) (pl : List Byte) : State :=
  let at_ := fun i n => ofLe ((pl.drop i).take n)
  if pl.length ≠ 16 ∨ 1 < at_ 0 1 then s.rteMalformed
  else if at_ 0 1 = 0 then s.bondState port (at_ 1 1) (at_ 2 2)
  else s.ringBreak (some port) none (at_ 2 2)

/-- A CREDIT frame (R145). -/
def State.creditFrame (s : State) (port : Nat) (pl : List Byte) : State :=
  if pl.length ≠ 16 then s.rteMalformed
  else s.credit port ((List.range 8).map (fun v => ofLe ((pl.drop (2 * v)).take 2)))

/-! ## Local delivery -/

/-- A poisoned frame delivered locally is discarded (R140), an occurrence of detector 6 at the port. -/
def State.poisonRx (s : State) (port : Nat) : State := (s.inc F.RTE.FRM_CNT2_POISON_RX_CNT).raiseDet F.RTE.EVT_POISON_RX 6 port false

/-- A PSUM frame is delivered, its header at the instant `head`: at the head of a chain a poisoned one is counted and its term is absent, elsewhere its poison goes on
with the sum (R140, R159). -/
def State.psumIn (s : State) (port : Nat) (f : Frame) (poison : Bool) (head : Nat) : State :=
  (if poison && s.on F.RTE.PS_CFG_HEAD then (s.poisonRx port).psFrame port f true head
   else if s.psTakes port then s.psFrame port f poison head
   else s.when poison (·.poisonRx port)).psDue

/-- A frame that arrived is delivered to its consumer; requests and bulk transfers that do not name this device are not served (R147, R148). -/
def State.deliver (s : State) (port : Nat) (f : Frame) (poison : Bool) (head : Nat) (stamps : List Nat) : State :=
  let mine := !frameMc f && f.dst == s.f F.RTE.DEV_CFG_DEV_ADDR
  if f.typ = 2 then s.psumIn port f poison head
  else if poison then s.poisonRx port
  else match f.typ, f.vc with
    | 1, 1 => s.layerBlock f.payload
    | 1, 5 => s.coreFrame f.payload false
    | 1, 7 => s.when mine (·.bulk port f.src f.seq f.payload)
    | 3, _ => s.timeFrame port f.payload stamps
    | 4, _ => s.when mine (·.mreq port f.src f.seq f.payload)
    | 7, _ => s.creditFrame port f.payload
    | 8, _ => s.topoFrame port f.payload
    | _, _ => s

/-! ## Header and tail -/

/-- A header or frame that is dropped frees the credits its header claims (R145). -/
def State.dropHeader (s : State) (port : Nat) (f : Frame) (len : Nat) : State :=
  s.freeCredits port { fr := f, len := len, inp := port }

/-- Frames that a second look at their route delivers here (R142). -/
def State.redeliver (s : State) : State :=
  let l := s.localIn
  ({ s with localIn := [] } : State).each l (fun s x => (s.deliver x.inp x.fr x.poison s.now []).copyGone x)

/-- The outputs of a good header (6: local delivery), none where the frame is dropped as a loop or without a route (R133, R139, R150 to R152, R158). -/
def State.headerOuts (s : State) (port : Nat) (f : Frame) : State × Option (List Nat) :=
  let loop := fun (_ : Unit) => ((s.inc F.RTE.FRM_CNT1_LOOP_CNT).raise F.RTE.EVT_LOOP_DROP, (none : Option (List Nat)))
  if hopLocal f.typ then (s, some [6])
  else if f.src = s.f F.RTE.DEV_CFG_DEV_ADDR then loop ()
  else if f.typ = 2 && s.psTakes port then (s, some [6])
  else match s.lookup f port with
    | none => (s.noRoute, none)
    | some outs =>
      if f.hops ≠ 0 then (s, some outs)
      else if outs.contains 6 then (s, some [6])
      else if outs.isEmpty then (s, some [])
      else loop ()

/-- A frame header arrives on a port (R138, R139): dropped, delivered or forwarded cut-through.  A bond receives as one port (R153). -/
def State.frameHeader (s : State) (from_ hdr : Nat) : State :=
  let port := s.logical from_
  let f := decodeHeader hdr
  let len := headerLen hdr
  if !(from_ < 6 && s.portUp? from_ && s.rxDir from_ == 0 && (s.port port).rx.isNone) then s
  else if hcrc hdr ≠ bits hdr 7 0 then
    ((s.inc F.RTE.FRM_CNT0_HCRC_CNT).raiseDet F.RTE.EVT_HCRC_ERR 5 port false).dropHeader port f len
  else if headerMalformed hdr then s.rteMalformed.dropHeader port f len
  else
    let s := s.when (hopLocal f.typ) (·.learnPartner port f.src)
    let r := s.headerOuts port f
    match r.2 with
    | none => r.1.dropHeader port f len
    | some outs =>
      let s := r.1.when (f.typ == 3) State.tickFree
      let stamps := if f.typ = 3 then [s.rxStamp 0 port, s.rxStamp 1 port] else []
      let s := s.setPort port { s.port port with rx := some { hdr := f, len := len, outs := outs, at_ := s.now, stamps := stamps } }
      s.each (outs.filter (· != 6)) (fun s o => s.enqueue o { fr := { f with hops := f.hops - 1 }, len := len, inp := port })

/-- The copies of a forwarded frame take their payload and tail. -/
def State.fillCopies (s : State) (port : Nat) (r : RxFrame) (full : LineFrame) : State :=
  let fill := fun (l : LineFrame) =>
    if l.inp == port && l.fr.vc == r.hdr.vc && l.fr.seq == r.hdr.seq && l.fr.src == r.hdr.src && l.fr.payload.isEmpty then
      { full with fr := { l.fr with payload := full.fr.payload } } else l
  { s with ports := s.ports.map (fun x => { x with busy := x.busy.map fill, queue := x.queue.map fill }) }

/-- The tail of the frame in progress on a port passes, with its payload (R140): a payload that fails its check poisons the frame, and the frame is
delivered where its route says. -/
def State.frameTail (s : State) (from_ : Nat) (payload : List Byte) (tail : Nat) : State :=
  let port := s.logical from_
  let s := s.redeliver
  match (s.port port).rx with
  | none => s
  | some r =>
    let s := s.setPort port { s.port port with rx := none }
    let body := (payload ++ List.replicate r.len 0).take r.len
    let was := tail.testBit 16
    let bad := pcrc body != bits tail 63 32
    let fwd := r.outs.any (· != 6)
    let first := bad && !was
    let full : LineFrame := { fr := { r.hdr with payload := body }, len := r.len, inp := port, pcrc := bits tail 63 32, poison := was || bad,
                              cut := tail.testBit 17, poisonAt := if first then s.f F.RTE.DEV_CFG_DEV_ADDR else bits tail 15 4 }
    let s := s.when (first && (fwd || (r.hdr.typ == 2 && s.psTakes port && !s.on F.RTE.PS_CFG_HEAD))) (·.inc F.RTE.FRM_CNT2_POISON_FWD_CNT)
    let s := s.fillCopies port r full
    let s := if r.outs.contains 6 then s.deliver port full.fr (was || bad) r.at_ r.stamps else s
    s.copyGone full

/-- The output's frame still arrives on its input: it cannot end (R139). -/
def State.stillArriving (s : State) (o : Nat) : Bool := (s.port o).busy.any s.arriving

/-- OUTPUT_FRAME_END (R143). -/
def State.outputFrameEnd (s : State) (o : Nat) : State :=
  let s := s.redeliver
  if o < 6 && !s.stillArriving (s.logical o) then s.outputEnd (s.logical o) else s

/-! ## The stream of words (R131, R135, R136) -/

/-- One word of a port's stream: a frame starts only behind an idle word, its header is checked, its payload and tail follow; what is not a frame's is skipped up to
the next idle word (R136, R138). -/
def State.streamWord (s : State) (p w : Nat) : State :=
  let x := s.port p
  let r := x.rxAt
  if r.need = 1 then (s.setPort p { x with rxAt := {} }).frameTail p (wordsToBytes r.got) w
  else if r.need ≠ 0 then s.setPort p { x with rxAt := { r with need := r.need - 1, got := r.got ++ [w] } }
  else match r.head with
    | some h =>
      let hdr := h * 2 ^ 64 + w
      let s := (s.setPort p { x with rxAt := {} }).frameHeader p hdr
      if (s.port p).rx.isSome then s.setPort p { s.port p with rxAt := { need := (headerLen hdr + 7) / 8 + 1 } } else s
    | none =>
      if w = idleWord then s.setPort p { x with rxAt := { idle := true } }
      else s.setPort p { x with rxAt := { head := if r.idle then some w else none } }

/-- The words of a bond's members in the order of its stripe: eight of the lower, then eight of the upper, for n turns (R153). -/
def zipTurns : Nat → List Nat → List Nat → List Nat
  | 0, _, _ => []
  | n + 1, a, b => a.take 8 ++ b.take 8 ++ zipTurns n (a.drop 8) (b.drop 8)

/-- A word of the stream, behind which m words of its lane and the cairn followed: that is its age (R180). -/
def State.agedWord (s : State) (p w m : Nat) : State :=
  let s := s.setPort p { s.port p with rxLag := s.lineSpan p (64 * (m + 2)) }
  let s := s.streamWord p w
  s.setPort p { s.port p with rxLag := 0 }

/-- The words that a cairn set brought join the stream of their logical port; those of a bond's two members wait for each other (R95, R153). -/
def State.takeWords (s : State) (p : Nat) (ws : List Nat) : State :=
  let o := s.logical p
  let act := s.f F.RTE.BOND_STATUS_ACTIVE
  if s.bonded p && act.testBit o && act.testBit (o + 1) then
    let s := s.setPort p { s.port p with rxWords := (s.port p).rxWords ++ ws }
    let a := (s.port o).rxWords
    let b := (s.port (o + 1)).rxWords
    let n := min (a.length / 8) (b.length / 8)
    let s := s.setPort o { s.port o with rxWords := a.drop (8 * n) }
    let s := s.setPort (o + 1) { s.port (o + 1) with rxWords := b.drop (8 * n) }
    let ws := zipTurns n a b
    s.each ws.zipIdx (fun s w => s.agedWord o w.1 (n - 1 - w.2 / 16))
  else s.each ws.zipIdx (fun s w => s.agedWord o w.1 ((ws.length - 1 - w.2) / 8))

/-- CAIRN_RECEIVED: the words between the cairns join the stream, then the set acts; a port that reaches UP may be the last one its ROM waits for (R88, R95, R98). -/
def State.cairnIn (s : State) (p : Nat) (lines : List (List Bool)) (skew : Nat) (fill : Int) (full : Bool) : State :=
  let s := s.setPort p { s.port p with skew := skew, fill := fill }
  ((s.takeWords p (s.setWords p lines)).cairnSet p lines skew fill full).romPorts

end Sys2Proof.Machine
end

