-- ==== Sys2Proof/Machine/Timeline.lean ====
section
/-! DEFINITION. The air timeline at work: the start and resumption of RUN (R182, R600), slot and symbol boundaries with what every block
does at them (R14, R15, R19, R22, R27), the fetch of TXP (R235), Ledge and micro-rest (R50 to R52), and what follows at once after every command. -/

namespace Sys2Proof.Machine
open Sys2Proof

/-! ## Cores at a boundary (R382, R425) -/

/-- Cores that stand in a timeline wait with a property. -/
def State.tlWaits (s : State) (ok : Nat → Op → Bool) : List Nat :=
  (List.range 34).filter (fun n => s.coreState n == CoreState.waiting && !s.inAccess n && (s.core n).wait.any (ok n))

/-- Leader cores on the grid of leader L: itself, and with the grid of R14 the leader that paces nothing (R599). -/
def State.gridLeaders (s : State) (L : Nat) (low : Bool) : List Nat := [0, 1].filter (fun l => l == L || (low && !s.paces l))

/-- Source 3 or 4 of the cores that follow a grid (R382). -/
def State.gridSource (s : State) (L : Nat) (low : Bool) (src : Nat) : State :=
  s.each (s.gridLeaders L low ++ (if low then (List.range 32).map (· + 2) else [])) (fun s n => s.raiseSrc n src)

/-- WSLOT waits on the grid of a leader end at its slot boundary (R425). -/
def State.slotWaits (s : State) (ls : List Nat) : State :=
  let hit := fun (_ : Nat) (o : Op) => match o with
    | .wslot l => ls.contains l
    | _ => false
  s.each (s.tlWaits hit) (fun s n => s.coreFinish n id)

/-- WSYM waits end at the nominal start of their symbol, the i-th of the grid, with 0 (R425). -/
def State.symWaits (s : State) (ls : List Nat) (i : Nat) : State :=
  let hit := fun (n : Nat) (o : Op) => match o with
    | .wsym _ _ l => ls.contains l && (s.core n).waitSym == i
    | _ => false
  s.each (s.tlWaits hit) (fun s n => s.coreFinish n (fun c => c.setG ((c.wait.map Op.waitGs).getD 0) 0))

/-! ## Armed fields at a boundary (R27, R227, R262, R325, R353) -/

/-- The armed registers of a block that a boundary takes. -/
def State.takenBy (s : State) (blk : Nat) (sym : Bool) (ok : ArmedReg → Bool) : List ArmedReg :=
  s.armed.filter (fun r => blkOf r.addr == blk && !(r.trigs sym).isEmpty && ok r)

/-- Armed registers are discarded. -/
def State.dropArmed (s : State) (rs : List ArmedReg) : State := { s with armed := s.armed.filter (fun r => !rs.contains r) }

/-- RXP: a carrier that fails its checks with the armed values keeps its active ones, and so do the device-wide fields out of range (R227). -/
def State.applyRx (s : State) (sym : Bool) (ok : ArmedReg → Bool) : State :=
  let rs := s.takenBy 14 sym ok
  if rs.isEmpty then s
  else
    let own := fun (c : Nat) => rs.filter (fun r => carrierOfReg r.addr == some c)
    let dev := rs.filter (fun r => (carrierOfReg r.addr).isNone)
    let v := s.applyArmed 14 sym ok
    let lost := (List.range 4).filter (fun c => s.carEn c && !(own c).isEmpty && v.rxCheck c != 0)
    let s := s.each lost (fun s c => (s.dropArmed (own c)).rxRefused c (v.rxCheck c))
    let s := if !dev.isEmpty && !v.agcOk then (s.dropArmed dev).rxRefused ((s.lowCarrier).getD 0) 7 else s
    let kept := rs.filter s.armed.contains
    let s := s.applyArmed 14 sym ok
    let s := s.each (List.range 64) (fun s p =>
      if kept.any (fun r => r.addr == A.RXP.P_CTRL p && (s.shadow.map (·.1)).contains r.addr) then s.setRxp p { s.rxp p with manSet := none } else s)
    { s with rx := { s.rx with bad := ((List.range 4).filter (fun c => s.rx.bad.testBit c && s.rxCheck c != 0)).foldl (fun m c => m + 2 ^ c) 0 } }

/-- TXP: carriers that fail with the armed values keep their active ones; device-wide fields under which a carrier fails are discarded (R262). -/
def State.applyTx (s : State) (sym : Bool) (ok : ArmedReg → Bool) : State :=
  let rs := s.takenBy 15 sym ok
  if rs.isEmpty then s
  else
    let own := fun (c : Nat) => rs.filter (fun r => carrierOfReg r.addr == some c)
    let dev := rs.filter (fun r => (carrierOfReg r.addr).isNone)
    let v := s.applyArmed 15 sym ok
    let lost := (List.range 4).filter (fun c => s.carEn c && !(own c).isEmpty && v.txCheck c != 0)
    let s := s.each lost (fun s c => (s.dropArmed (own c)).txRefused c (v.txCheck c))
    let v := s.applyArmed 15 sym ok
    let fails := (List.range 4).filter (fun c => s.carEn c && !lost.contains c && v.txCheck c != 0)
    let s := if !dev.isEmpty && !fails.isEmpty then (s.dropArmed dev).each fails (fun s c => s.txRefused c (v.txCheck c)) else s
    let s := s.applyArmed 15 sym ok
    { s with tx := { s.tx with bad := ((List.range 4).filter (fun c => s.tx.bad.testBit c && s.txCheck c != 0)).foldl (fun m c => m + 2 ^ c) 0 } }

/-- RAD: a search slot that fails with the armed values keeps its active ones (R353). -/
def State.applyRad (s : State) (sym : Bool) (ok : ArmedReg → Bool) : State :=
  let rs := s.takenBy 18 sym ok
  if rs.isEmpty then s
  else
    let slotOf := fun (r : ArmedReg) => if 0x200 ≤ offOf r.addr ∧ offOf r.addr < 0x300 then some ((offOf r.addr - 0x200) / 0x20) else none
    let v := s.applyArmed 18 sym ok
    let fails := (List.range 8).filter (fun q => v.on (F.RAD.S_FMT_EN q) && v.raCheck q != 0)
    let lost := rs.filter (fun r => match slotOf r with
      | some q => fails.contains q
      | none => !fails.isEmpty)
    let s := ((s.dropArmed lost).each fails (fun s q => s.raRefused q (v.raCheck q))).applyArmed 18 sym ok
    { s with rad := { s.rad with bad := ((List.range 8).filter (fun q => s.rad.bad.testBit q && s.raCheck q != 0)).foldl (fun m q => m + 2 ^ q) 0 } }

/-- BFM: an armed BATCH or WSYM that breaks R325 is discarded with code RANGE (R325, R349). -/
def State.applyBfm (s : State) (sym : Bool) (ok : ArmedReg → Bool) : State :=
  let v := s.applyArmed 17 sym ok
  let mine := (s.takenBy 17 sym ok).filter (fun r => r.addr == A.BFM.WGT_CFG || r.addr == A.BFM.SND_CFG)
  if mine.isEmpty || v.wsymOk (v.f F.BFM.WGT_CFG_WSYM) (v.f F.BFM.SND_CFG_BATCH) then v
  else
    ((s.dropArmed mine).setF F.BFM.WGT_STATUS_CODE 1).applyArmed 17 sym ok

/-- SHADOW_APPLY: a boundary copies armed fields of one kind of every block to the active values (R27, R28); with PS_CFG a ring's primary settings return (R163). -/
def State.applyAll (s : State) (sym : Bool) (ok : ArmedReg → Bool) : State :=
  let sel := s.f F.TIM.TL_CFG_SEL
  let ps := (s.takenBy 10 sym ok).any (fun r => r.addr == A.RTE.PS_CFG)
  let s := s.each (List.range 28) (fun s b =>
    if b = 14 then s.applyRx sym ok else if b = 15 then s.applyTx sym ok else if b = 18 then s.applyRad sym ok
    else if b = 17 then s.applyBfm sym ok else s.applyArmed b sym ok)
  let s := s.when ps State.splitClear
  if s.f F.TIM.TL_CFG_SEL = sel then s else s.followSel

/-- SHADOW_APPLY of slot-boundary fields at the slot boundary of leader L's carriers. -/
def State.applySlot (s : State) (L : Nat) : State :=
  s.applyAll false (fun r => (List.range 4).any (fun c => s.carEn c && s.carLeader c == L && s.boundaryTakes c (14 * s.slotIdxOf L) false r))

/-! ## Gain at a slot boundary (R252, R254) -/

/-- A limit of the regulatory record acts at this boundary: then an injected clamp is taken up by it (R570). -/
def State.clamps (s : State) : Bool :=
  s.rangeFails != 0 || s.on F.REG.REG_STATUS_DELTA ||
    (List.range 64).any (fun p => decide (s.pReg p < s.fi (F.TXP.P_CTRL_P_TGT p) - 100 * (s.f (F.TXP.P_STATUS_BACKOFF p) : Int)))

/-- GAIN_UPDATE of every path, with an injected clamp report (R254, R507, R570). -/
def State.gainSlot (s : State) : State :=
  let s := s.totalSlot.rangeSlot
  let inj := s.injHit 20 0
  let real := s.clamps
  let s := if inj then (s.injTake 20 0).when (!real) (·.raiseDet F.TXP.EVT_REG_CLAMP 20 0 true) else s
  s.each (List.range 64) (fun s p => s.gainUpdate p (s.pReg p) (s.gChain p))

/-- PWR_LOOP_UPDATE: at the slot boundary PERIOD slots after the last update every path uses a fresh power measurement, or counts its lack (R253, R285). -/
def State.pwrLoop (s : State) : State :=
  if s.on F.TXP.PWR_LOOP_EN && s.tlRun then
    let scs := (s.gridScs).getD 0
    let n := max s.tx.loopAt (s.slotNow scs)
    let s := s.advanceTo (s.slotInstant scs n)
    let s := { s with tx := { s.tx with loopAt := n + s.f F.TXP.PWR_LOOP_PERIOD } }
    s.each ((List.range 64).filter s.txEnabled) (fun s p =>
      if s.dpd.fresh.contains p then
        let s := { s with dpd := { s.dpd with fresh := s.dpd.fresh.filter (· != p) } }
        s.trimTo p (Config.pwrTrim (s.fi (F.TXP.P_PWR_P_MEAS p)) (s.fi (F.DPD.P_OBS_L_OBS p)) (s.fi (F.TXP.P_GAIN_G_D p)) (s.gChain p)
          (s.fi (F.TXP.P_GAIN_TRIM p)) (s.f F.TXP.PWR_LOOP_LOOP_K))
      else s.pwrStale p)
  else s

/-! ## Ledge and micro-rest (R50, R51) -/

/-- Commands of leader L that stand for its n-th slot; none where the table of that slot is not sealed (R51). -/
def State.sealedTable (s : State) (L n : Nat) : Option (List CmdEntry) :=
  if n + 1 = s.slotIdxOf L then (if (s.ldr L).missed then none else some (s.live.filter (fun (e : CmdEntry) => e.leader == L)))
  else if n = s.slotIdxOf L ∧ (s.ldr L).sealed then some (s.staging.filter (fun (e : CmdEntry) => e.leader == L))
  else none

/-- Paths to which a command gives transmit and receive work between two instants (R51, R352). -/
def State.entryWork (s : State) (a b n : Nat) (e : CmdEntry) : Nat × Nat :=
  let w := fun i => (e.payload.getD i 0).toNat
  let overRun := fun (nsym : Nat) => decide ((s.symSpan e.carrier n e.trig).1 < b ∧ a < (s.symSpan e.carrier n (e.trig + nsym - 1)).2)
  let mask := w 1 + 2 ^ 32 * w 2
  if e.blk = 14 ∧ e.op = 0x100 ∧ overRun (bits (w 0) 3 0) then (0, mask)
  else if e.blk = 15 ∧ e.op = 0x200 ∧ overRun (bits (w 0) 3 0) then (mask, 0)
  else if e.blk = 19 ∧ e.op = 0x600 ∧ overRun (bits (w 0) 7 4) then
    let k := bits (w 0) 2 0
    (if k = 3 ∨ k = 5 then mask else 0, if k = 3 then 0 else mask)
  else if e.blk = 18 ∧ e.op = 0x500 then
    let t := s.raStart e.carrier n e.trig (w 1)
    let stop := (maskMembers (bits (w 0) 7 0) 8).foldl (fun m q => max m (s.raWindow q t).2) t
    (0, if t < b ∧ a < stop then s.mask64 F.RAD.RA_PATH_LO_EN F.RAD.RA_PATH_HI_EN else 0)
  else (0, 0)

/-- Work of all paths between two instants, transmit and receive; every path where a part is not sealed (R51). -/
def State.workBetween (s : State) (a b : Nat) : Nat × Nat :=
  let parts := ([0, 1].filter s.paces).map (fun L =>
    let scs := (s.leaderScs L).getD 0
    let i := slotAt scs (a - s.tim.t0)
    let j := slotAt scs (b - 1 - s.tim.t0)
    (List.range (j + 1 - i)).map (fun d => (s.sealedTable L (i + d)).map (fun es => es.map (s.entryWork a b (i + d)))))
  let occ := s.rad.open_.any (fun o => decide (o.start < b ∧ a < o.stop))
  let ra := if occ then s.mask64 F.RAD.RA_PATH_LO_EN F.RAD.RA_PATH_HI_EN else 0
  match allSome parts.flatten with
  | none => (2 ^ 64 - 1, 2 ^ 64 - 1)
  | some es => (es.flatten.foldl (fun m e => m ||| e.1) 0, es.flatten.foldl (fun m e => m ||| e.2) ra)

/-- Groups of eight paths without a path of a mask. -/
def idleGroups (mask : Nat) : Nat := (List.range 8).foldl (fun m k => m + (if bits mask (8 * k + 7) (8 * k) = 0 then 2 ^ k else 0)) 0

/-- The groups that enter Ledge in the next slot of the grid of R14: TXGk at bit 8 + k, RXGk at bit k (R51). -/
def State.ledgeNext (s : State) : Nat :=
  match s.lowCarrier with
  | none => 0
  | some c =>
    let scs := s.carScs c
    let n := s.slotIdxOf (s.carLeader c)
    if s.on F.PWR.REST_CFG_LEDGE_AUTO && s.mode == Mode.serve && !s.hostLedge then
      let w := s.workBetween (s.slotInstant scs n) (s.slotInstant scs (n + 1))
      256 * idleGroups w.1 + idleGroups w.2
    else 0

/-- Instant 2.0 µs before the next slot boundary of R14. -/
def State.ledgeInstant (s : State) : Option Nat :=
  s.lowCarrier.map (fun c => s.slotInstant (s.carScs c) (s.slotIdxOf (s.carLeader c)) - 2 * usU)

/-- LEDGE_DECISION (R51). -/
def State.ledgeDecision (s : State) : State :=
  match s.ledgeInstant with
  | none => s
  | some t =>
    if s.tlRun then
      let s := s.advanceTo t
      { s with pwr := { s.pwr with ledge := s.ledgeNext } }
    else s

/-- LEDGE_EXIT: groups with work in the coming slot leave Ledge 2.0 µs before it (R51). -/
def State.ledgeExit (s : State) : State :=
  match s.ledgeInstant with
  | none => s
  | some t =>
    if s.tlRun && s.mode == Mode.serve && !s.hostLedge then
      let s := s.advanceTo t
      let m := s.ledgeNext
      (s.setF F.PWR.LEDGE_STATUS_TX_LEDGE (s.f F.PWR.LEDGE_STATUS_TX_LEDGE &&& m / 256)).setF F.PWR.LEDGE_STATUS_RX_LEDGE
        (s.f F.PWR.LEDGE_STATUS_RX_LEDGE &&& m % 256)
    else s

/-- The groups chosen by the last decision enter Ledge with the slot; a TX group's paths present their quiet code with the switch open (R51, R256). -/
def State.ledgeEnterSlot (s : State) : State :=
  if s.hostLedge || s.mode != Mode.serve then s
  else
    let m := s.pwr.ledge
    let s := { s with pwr := { s.pwr with ledge := 0 } }
    let s := (s.setF F.PWR.LEDGE_STATUS_TX_LEDGE (m / 256)).setF F.PWR.LEDGE_STATUS_RX_LEDGE (m % 256)
    s.each ((List.range 64).filter (fun p => m.testBit (8 + p / 8))) (fun s p =>
      (s.setTxp p { s.txp p with dac := 1 }).setF (F.TXP.P_STATUS_SWITCH p) 0)

/-- An observation receiver captures between two instants, or serves a calibration run (R50). -/
def State.orxWork (s : State) (k a b : Nat) : Bool :=
  (s.orx k).entry.any (fun e => decide ((s.orxWindow e).1 < b ∧ a < (s.orxWindow e).2)) || s.cal.runs.any (fun (r : CalRun) => r.path / 8 == k)

/-- The converters that have work in symbol i of the grid of R14, by the sealed tables of every carrier over the whole symbol: 0 to 63 TX, with the overlap tail of
work that ends where the symbol starts; 64 to 127 RX; 128 to 135 ORX (R50). -/
def State.convWorks (s : State) (i : Nat) : Nat :=
  let a := s.symStartAt i
  let b := s.symStartAt (i + 1)
  let w := s.workBetween a b
  let t := if s.tim.t0 < a then (s.workBetween (a - 1) b).1 else w.1
  let runs := s.cal.runs.foldl (fun m (r : CalRun) => m ||| 2 ^ r.path) 0
  t ||| (2 ^ 64 * (w.2 ||| runs)) ||| (2 ^ 128 * ((List.range 8).filter (fun k => s.orxWork k a b)).foldl (fun m k => m + 2 ^ k) 0)

/-- MICRO_REST_ENTRY: with MICRO_EN the converters without work in a symbol rest; a resting TX DAC presents its quiet code (R50). -/
def State.microRest (s : State) (i : Nat) : State :=
  let w := s.convWorks i
  let rest := if s.on F.PWR.REST_CFG_MICRO_EN && s.mode == Mode.serve then (List.range 136).filter (fun q => !w.testBit q) else []
  let s := { s with pwr := { s.pwr with micro := rest } }
  s.each (rest.filter (· < 64)) (fun s p => if (s.txp p).dac = 3 then s.setTxp p { s.txp p with dac := 1 } else s)

/-- Converter q is no longer in micro-rest. -/
def State.microLeave (s : State) (q : Nat) : State :=
  let s := { s with pwr := { s.pwr with micro := s.pwr.micro.filter (· != q) } }
  if q < 64 ∧ (s.txp q).dac = 1 ∧ s.on (F.TXP.P_STATUS_SWITCH q) then s.setTxp q { s.txp q with dac := 3 } else s

/-- MICRO_REST_EXIT: a converter leaves micro-rest 0.5 µs before the first sample of its next work, the next symbol of the grid of R14 (R50). -/
def State.microExit (s : State) (q : Nat) : State :=
  if s.tlRun && s.pwr.micro.contains q then
    let i := s.tim.symIdx.getD ((s.lowCarrier).getD 0) 0
    (s.advanceTo (s.symStartAt i - 500 * nsU)).microLeave q
  else s

/-! ## Slot boundaries -/

/-- What PWR does at a boundary of the grid of R14, before the tables swap (R47, R54, R55, R522). -/
def State.pwrSlot (s : State) : State :=
  let s := if s.prepareDue then s.prepareNow else s
  s.ledgeSlot.modeSlot.throttleSlot

/-- Work of blocks at the n-th slot boundary of the grid of R14, once the slot fields stand (R14, R185, R206, R277, R282, R344, R479, R480, R491, R508, R522). -/
def State.deviceSlot (s : State) (n : Nat) (hostSel : Bool) : State :=
  let s := if hostSel then s else s.autoSwitch
  let s := (s.rxSlotEnd.rampStep.calSlot).switchSlot n
  let s := s.dpdBoundary.each (if s.resting 4 then [] else List.range 8) (fun s k => s.orxTake k n)
  let s := s.ladderSlot.gainSlot.faultExits.ringSwitch
  let s := if n % slotsPerFrame ((s.gridScs).getD 0) = 0 then s.dutyFrame.expFrame else s
  s.ledgeEnterSlot.rxDropOld.txDropOld

/-- Work that TXP fetched for the n-th slot of a leader's carriers goes when the slot runs empty (R16, R54, R55). -/
def State.dropFetched (s : State) (L n : Nat) : State :=
  let keep := fun (c m : Nat) => !(s.carLeader c == L && m == n)
  { s with tx := { s.tx with maps := s.tx.maps.filter (fun j => keep j.carrier j.slot), jobs := s.tx.jobs.filter (fun j => keep j.carrier j.slot),
                             points := s.tx.points.filter (fun j => keep j.carrier j.slot) } }

/-- The tables of a leader swap at its boundary (R15, R16). -/
def State.leaderSwap (s : State) (L : Nat) : State :=
  let n := s.slotIdxOf L
  let runs := (s.ldr L).sealed && !s.restEmpty
  (if runs then s else s.dropFetched L n).swapAll L ((s.leaderScs L).getD 0)

/-- The leader whose boundary stands for leader L: a leader that paces no carrier follows the grid of R14 (R599). -/
def State.gridLeader (s : State) (L : Nat) : Option Nat :=
  s.lowCarrier.map (fun c => if s.paces L then L else s.carLeader c)

/-- The commands of the table that stands for slot n of a carrier with a trigger symbol, not fetched before, in the order of R19; they are then
fetched.  The sealed table of the next slot counts for the fetches of TXP before its boundary (R26). -/
def State.takeCmds (s : State) (c n k : Nat) (ok : CmdEntry → Bool) : State × List CmdEntry :=
  let L := s.carLeader c
  let mine := fun (e : CmdEntry) => e.leader == L && e.carrier == c && e.trig == k && !e.done && ok e
  let mark := fun (e : CmdEntry) => if mine e then { e with done := true } else e
  if n + 1 = s.slotIdxOf L then ({ s with live := s.live.map mark }, orderEntries (s.live.filter mine))
  else if n = s.slotIdxOf L ∧ (s.ldr L).sealed ∧ !s.restEmptyNext then
    ({ s with staging := s.staging.map mark }, orderEntries (s.staging.filter mine))
  else (s, [])

/-- COMMIT commands of the sealed table for symbol 0 of slot n are fetched, and arm their blocks, before the slot boundary (R22, R26). -/
def State.armStaged (s : State) (L n : Nat) : State :=
  s.each ((List.range 4).filter (fun c => s.carEn c && s.carLeader c == L)) (fun s c =>
    let r := s.takeCmds c n 0 (fun e => e.op == 1)
    r.1.each r.2 (fun s e => s.cmdEffect e n))

/-- What passes at the boundary itself: the slot fields, the swap, and, on the grid of R14, the work of PWR and of the blocks. -/
def State.boundaryWork (s : State) (L n : Nat) (low : Bool) : State :=
  let s := if low then s.pwrSlot else s
  let sel := s.followed
  let s := (s.armStaged L n).applySlot L
  let hostSel := s.followed != sel
  let s := if low then s.deviceSlot n hostSel else s
  let s := s.each (s.gridLeaders L low) State.leaderSwap
  let s := if low then s.calHold else s
  (s.gridSource L low 3).slotWaits (s.gridLeaders L low)

/-- SLOT_BOUNDARY: the next slot boundary of a leader core's grid passes (R15). -/
def State.slotBoundary (s : State) (L : Nat) : State :=
  match s.gridLeader L with
  | none => s
  | some L =>
    if s.tlRun then
      let low := (s.lowCarrier.map s.carLeader) == some L
      let n := s.slotIdxOf L
      ((s.advanceTo (s.slotInstant ((s.leaderScs L).getD 0) n)).txRun).boundaryWork L n low
    else s

/-! ## Fetches and symbol boundaries -/

/-- TXP fetches symbol k of slot n of a carrier: its commands take effect and its layer blocks are taken (R22, R235, R238, R261). -/
def State.txFetch (s : State) (c n k : Nat) : State :=
  let r := s.takeCmds c n k (fun e => e.blk == 15)
  let s := r.1.each r.2 (fun s e => s.cmdEffect e n)
  let s := { s with tx := { s.tx with fetchIdx := setNth s.tx.fetchIdx c (14 * n + k + 1) } }
  s.fetchSymbol c n k

/-- The next symbol a carrier fetches: symbols whose start has passed are skipped. -/
def State.fetchNext (s : State) (c : Nat) : Nat := max (s.tx.fetchIdx.getD c 0) (s.tim.symIdx.getD c 0)

/-- LAYER_FETCH (R235). -/
def State.layerFetch (s : State) (c : Nat) : State :=
  if s.tlRun && s.carEn c then
    let i := s.fetchNext c
    (s.advanceTo (s.fetchInstant c (i / 14) (i % 14))).txFetch c (i / 14) (i % 14)
  else s

/-- Injected errors of the filter memories act at the path's next symbol (R257, R570). -/
def State.pathInjections (s : State) : State :=
  s.each ((List.range 64).filter (fun p => s.injHit 4 p)) (fun s p => ((s.injTake 4 p).pathFault p).occur 4 p true)

/-- A TX_SYM names an enabled path in symbol i of a carrier, and one such path is not muted (R508). -/
def State.symWork (s : State) (c i : Nat) : Bool × Bool :=
  let named := (maskMembers (s.txMask c (i / 14) (i % 14)) 64).filter s.txEnabled
  (!named.isEmpty, named.any (fun p => s.muteCause p c == 0))

/-- With a symbol of the grid of R14 begins its part of the duty count: symbols of other carriers in progress belong to it too (R508). -/
def State.dutyGrid (s : State) (c : Nat) : State :=
  s.dutyBegin.each ((List.range 4).filter (fun d => d != c && s.carEn d && decide (0 < s.tim.symIdx.getD d 0))) (fun s d =>
    let i := s.tim.symIdx.getD d 0 - 1
    let w := s.symWork d i
    if (s.symSpan d (i / 14) (i % 14)).2 ≤ s.now then s else s.dutySymbol w.1 w.2)

/-- Attenuation, calibration legs and outputs at the start of symbol k of slot n of a carrier; with the lowest carrier the sources, the duty count and
the micro-rests of the grid of R14. -/
def State.symbolWork (s : State) (c n k : Nat) : State :=
  let low := s.lowCarrier == some c
  let i := 14 * n + k
  let s := s.when (low && decide (1 ≤ i) && s.tddAbs (i - 1) == 0 && s.tddAbs i != 0) State.rxPeriodEnd
  let s := if low then s.pathInjections.each (List.range 64) State.gainAtSymbol else s
  let s := s.calSymbol c n k
  if s.mode = Mode.serve ∧ !s.quieting then
    let s := s.when low (·.dutyGrid c)
    let w := s.symWork c i
    let s := if w.1 then { s with tim := { s.tim with nlTxAt := max s.tim.nlTxAt (s.symSpan c n k).2 } } else s
    let s := (s.txSymbolOut c n k).dutySymbol w.1 w.2
    (s.when low (·.microRest i)).coexClear c
  else s.coexClear c

/-- SYMBOL_BOUNDARY: the nominal start of the next symbol of a carrier (R19, R22, R27). -/
def State.symbolBoundary (s : State) (c : Nat) : State :=
  if s.tlRun && s.carEn c then
    let i := s.tim.symIdx.getD c 0
    let n := i / 14
    let k := i % 14
    let s := (s.advanceTo (s.symInstant (s.carScs c) n k)).txRun
    let s := if k = 0 ∧ s.slotIdxOf (s.carLeader c) ≤ n then s.slotBoundary (s.carLeader c) else s
    let s := if s.fetchNext c ≤ i then s.txFetch c n k else s
    let commits := s.takeCmds c n k (fun e => e.op == 1)
    let s := commits.1.each commits.2 (fun s e => s.cmdEffect e n)
    let s := (s.applyAll true (s.boundaryTakes c i true)).ulNote c i
    let cmds := s.takeCmds c n k (fun _ => true)
    let s := cmds.1.each cmds.2 (fun s e => s.cmdEffect e n)
    let s := { s with tim := { s.tim with symIdx := setNth s.tim.symIdx c (i + 1) } }
    let s := s.symbolWork c n k
    let L := s.carLeader c
    let low := s.lowCarrier == some c
    let first := (List.range 4).find? (fun d => s.carEn d && s.carLeader d == L) == some c
    if first then (s.gridSource L low 4).symWaits (s.gridLeaders L low) i else s
  else s

/-! ## The start of RUN (R182, R345, R600) -/

/-- Weight work restarts with RUN: slots whose weight instant fell outside RUN serve from fallback, and WGT_CFG awaits its first commit (R345). -/
def State.bfmRun (s : State) : State :=
  match s.gridScs with
  | none => s
  | some scs =>
    let n := s.slotNow scs
    let next := if s.now ≤ s.symInstant scs n (s.f F.BFM.WGT_CFG_WSYM) then n + 1 else n + 2
    { s with bfm := { s.bfm with committed := false, wgtIdx := next, dead := [next, next], pend := [], weights := [] } }

/-- A new frame grid: captures and jobs of an older grid are gone, and estimates count as stale (log entry 31). -/
def State.bfmRestart (s : State) : State :=
  let old := fun (x : Nat × Ctx) => (x.1, { x.2 with ports := x.2.ports.map (fun (p : CtxPort) => { p with cap := none }) })
  let b := s.bfm
  ({ s with bfm := { b with engIdx := 1, snds := [], caps := [], queue := [], batch := [], scheds := [], lateJobs := [], keys := [], doneKeys := [], sums := [], expLast := 0,
                            ctxs := b.ctxs.map old } } : State).takeGob

/-- The timeline enters RUN at a slot boundary: checks, empty tables, and the slot work of the boundary (R227, R262, R353, R480, R506, R600). -/
def State.startRun (s : State) : State :=
  let s := s.enterRun.bfmRun
  let s := { s with tx := { s.tx with fetchIdx := s.tim.symIdx }, rx := { s.rx with jobs := [] }, rad := { s.rad with open_ := [] } }
  let s := s.txRestart (s.slotNow ((s.gridScs).getD 0))
  let s := s.rxCheckRun.txCheckRun.raCheckRun
  match s.lowCarrier with
  | none => s
  | some c =>
    let n := s.slotNow (s.carScs c)
    let sel := s.followed
    let s := s.applyAll false (fun r => (List.range 4).any (fun d => s.carEn d && s.boundaryTakes d (14 * s.slotNow (s.carScs d)) false r))
    let s := s.deviceSlot n (s.followed != sel)
    (s.gridSource 0 true 3).gridSource 1 false 3 |>.slotWaits [0, 1]

/-- TL_STARTED: the followed base reaches the armed start, or the later candidate that a late start latched (R182).  A start that has passed while it was awaited
keeps its instant. -/
def State.tlStart (s : State) : State :=
  if s.tlState = 1 && s.active then
    let k := s.tim.startK
    let gap := s.startGap
    let s := if 0 < gap then s.elapse (s.tbSpan s.followed gap.toNat) else s
    let back := min (s.now - s.tim.startFrom) ((-gap).toNat * 384 / s.rateWord s.followed)
    let s := { s with tim := { s.tim with t0 := s.now - back, frame0 := (s.f F.TIM.TL_START_EXT_FRAME + k) % 1024, err := 0, residual := 0, baseErr := 0, altAt := 0 } }
    let s := s.bfmRestart.startRun.raise F.TIM.EVT_TL_STARTED
    s.when (k != 0) (·.raise F.TIM.EVT_TL_START_LATE)
  else s

/-- TIMELINE_RESUME: from COAST, RUN resumes at the first slot boundary of R14 from the present on, which is 120 µs after the mode request (R49, R182). -/
def State.tlResume (s : State) : State :=
  match s.gridScs with
  | none => s
  | some scs =>
    if s.tlState = 3 && s.active then (s.advanceTo (s.slotInstant scs (s.slotAfter scs s.now))).startRun else s

/-- WEIGHT_INSTANT: the mutes and ramps of the slot are fixed, then its weights are computed (R324, R479, R522). -/
def State.weightNow (s : State) (late : List Nat) : State :=
  match s.gridScs with
  | none => s
  | some scs =>
    if s.tlRun && 1 ≤ s.bfm.wgtIdx then
      ((s.advanceTo (s.symInstant scs (s.bfm.wgtIdx - 1) (s.f F.BFM.WGT_CFG_WSYM))).rampPlan.muteWeight).weightInstant late
    else s

/-! ## What follows every command -/

/-- The level of IRQ_B_N: an enabled event of MP-B is set (R7, R594). -/
def State.irqLevel (s : State) : Bool :=
  s.pwr.seq == 0 && s.mode != Mode.bivouac &&
    (List.range 28).any (fun b => (s.reg (blockBase b)).toNat &&& (s.reg (blockBase b + 8)).toNat != 0)

/-- IRQ_B_N follows the events, and the records in the crossings have passed (R7, R10; DESIGN CHOICE, log entry 10). -/
def State.refresh (s : State) : State := { s with irqB := s.irqLevel, crossed := [] }

/-- DET_STATUS.THROTTLE sets again at once while a back-off is in force (R39). -/
def State.throttleHolds (s : State) : State :=
  if 2 ≤ s.level ∧ s.on (F.TXP.P_STATUS_BACKOFF 0) then s.detBit F.SYS.DET_STATUS_THROTTLE else s

/-- What follows at once after every command: single steps run, pins and bias DACs follow the state, the transmitters of the ports go on up to now, the frames this device
originates are routed to their outputs, and IRQ_B_N follows the events. -/
def State.settle (s : State) : State := (s.stepRun.pinsFollow.biasFollow.coexFollow.throttleHolds.ropeRun.flushOut).refresh

end Sys2Proof.Machine
end

