-- ==== Sys2Proof/Machine/Exec.lean ====
section
/-! DEFINITION. What the meanings of the commands share: how a command ends, the commands of a command table, and events that are due at an instant
of their own. -/

namespace Sys2Proof.Machine
open Sys2Proof

/-- A command ends: what follows at once after it happens. -/
def State.done (s : State) : Host.Outcome State Fault Refusal := .next s.settle

/-- A command whose operands are in range acts; another is none of the part's commands and leaves the state as it is. -/
def State.does (s : State) (inRange : Bool) (g : State → State) : Host.Outcome State Fault Refusal := (if inRange then g s else s).done

/-- A core issues an instruction that acts on the core alone.  While the core runs on, only IRQ_B_N is left to follow (R379, R383). -/
def State.issues (s : State) (n : Nat) (o : Op) : Host.Outcome State Fault Refusal :=
  let t := s.coreIssue n o
  .next (if t.coreState n == CoreState.running then t.refresh else t.settle)

/-- A core issues an instruction that acts outside the core. -/
def State.issuesOut (s : State) (n : Nat) (o : Op) : Host.Outcome State Fault Refusal := (s.coreIssue n o).done

/-! ## Accesses by an agent -/

/-- A write by an agent to a register, with the effect the register has. -/
def State.wr (s : State) (inRange : Bool) (agent a : Nat) (g : State → State) : Host.Outcome State Fault Refusal :=
  s.does (inRange && decide (agent < 36)) (fun s => s.gate agent a 4 true g)

/-- A read by an agent of a register, with the effect the register has. -/
def State.rd (s : State) (inRange : Bool) (agent a : Nat) (g : State → State) : Host.Outcome State Fault Refusal :=
  s.does (inRange && decide (agent < 36)) (fun s => s.gate agent a 4 false g)

/-- The present word of a register with a field replaced: what an agent writes that sets only this field. -/
def State.withField (s : State) (x : Fld) (v : Nat) : Nat := setBits (s.reg x.addr).toNat x.hi x.lo v

/-- A frame can come from a port: the port is UP. -/
def frameFrom (s : State) (port : Nat) : Bool := port < 6 && s.portUp? port

/-! ## Commands of a command table (R18, R19, R22) -/

/-- The slot of a carrier in which the next symbol `trig` begins. -/
def State.slotOfTrig (s : State) (c trig : Nat) : Nat :=
  let n := s.slotNow (s.carScs c)
  if s.now ≤ s.symInstant (s.carScs c) n trig then n else n + 1

/-- A command that executes at its trigger symbol: while the timeline runs and where the push tests of R18 hold for its slot. -/
def State.trigCmd (s : State) (blk op issuer c trig : Nat) (payload : List Word) (g : State → CmdEntry → Nat → State) : State :=
  let e : CmdEntry := { blk := blk, leader := s.carLeader c, issuer := issuer, trig := trig, carrier := c, op := op, payload := payload, done := true }
  let pl := payload.map BitVec.toNat
  if s.tlRun && s.carEn c && decide (trig ≤ 13) && s.cmdShape blk c trig op false pl && s.cmdInSlot blk c (s.slotOfTrig c trig) trig op pl then
    g s e (s.slotOfTrig c trig)
  else s

/-- A command of a block that executes at the nominal start of its trigger symbol. -/
def State.symCmd (s : State) (blk op issuer c trig : Nat) (payload : List Word) : State :=
  s.trigCmd blk op issuer c trig payload (fun s e n => (s.advanceTo (s.symInstant (s.carScs c) n trig)).cmdEffect e n)

/-- A command of TXP, which takes effect at the fetch of its trigger symbol (R26, R235). -/
def State.txCmd (s : State) (op issuer c trig : Nat) (payload : List Word) : State :=
  s.trigCmd 15 op issuer c trig payload (fun s e n => (s.advanceTo (s.fetchInstant c n trig)).cmdEffect e n)

/-- COMMIT at its trigger symbol: the shadow is armed, and the symbol-boundary fields apply from the symbol's start (R22). -/
def State.commitCmd (s : State) (blk issuer c trig : Nat) (payload : List Word) : State :=
  s.trigCmd blk 1 issuer c trig payload (fun s e n =>
    let s := (s.advanceTo (s.symInstant (s.carScs c) n trig)).cmdEffect e n
    s.applyAll true (fun r => blkOf r.addr == blk && s.boundaryTakes c (14 * n + trig) true r))

/-- A scheduling command enters the content of its leader's staging slot (R318 to R320). -/
def State.schedCmd (s : State) (ul : Bool) (issuer c trig : Nat) (payload : List Word) : State :=
  let op := if ul then 0x402 else 0x401
  let e : CmdEntry := { blk := 17, leader := s.carLeader c, issuer := issuer, trig := trig, carrier := c, op := op, payload := payload }
  let n := s.slotIdxOf e.leader
  let pl := payload.map BitVec.toNat
  if s.tlRun && s.carEn c && decide (trig ≤ 13) && s.cmdShape 17 c trig op false pl && s.cmdInSlot 17 c n trig op pl then s.schedule (schedOf ul e n) else s

/-! ## Events at their instants -/

/-- The first of a list of (instant, index) pairs with the least instant. -/
def earliest (l : List (Nat × Nat)) : Option (Nat × Nat) :=
  l.foldl (fun b x => match b with
    | some y => if x.1 < y.1 then some x else b
    | none => some x) none

/-- A watchdog will warn: it counts, has not warned, and WARN lies below EXPIRE (R388). -/
def State.willWarn (s : State) (n : Nat) : Bool :=
  let w := s.f (F.TKC.C_WDT_WARN n)
  countsWdt (s.coreState n) && !(s.core n).warned && w != 0 && w < s.f (F.TKC.C_WDT_EXPIRE n)

/-- WDT_WARN of the watchdog that is due first (R388). -/
def State.wdtWarnDue (s : State) : State :=
  match earliest (((List.range 34).filter s.willWarn).map (fun n => (s.wdtInstant n (s.f (F.TKC.C_WDT_WARN n)), n))) with
  | none => s
  | some x => (s.advanceTo x.1).wdtWarn x.2 false

/-- WDT_EXPIRE of the watchdog that is due first; an EXPIRE of 0 never expires (R388, R389). -/
def State.wdtExpireDue (s : State) : State :=
  let on := fun (n : Nat) => countsWdt (s.coreState n) && s.f (F.TKC.C_WDT_EXPIRE n) != 0
  match earliest (((List.range 34).filter on).map (fun n => (s.wdtInstant n (s.f (F.TKC.C_WDT_EXPIRE n)), n))) with
  | none => s
  | some x => (s.advanceTo x.1).wdtExpire x.2 false

/-- STAT_READY: the first statistics that the ORX compute are complete (R288). -/
def State.statDue (s : State) : State :=
  match earliest ((List.range 8).filterMap (fun k => (s.orx k).stat.map (fun r => (r.ready, k)))) with
  | none => s
  | some x => (s.advanceTo x.1).statReady x.2

/-- EXCHANGE_TIMEOUT of the exchange that is open longest (R178). -/
def State.exchDue (s : State) : State :=
  match earliest ([0, 1].filterMap (fun n => (s.tb n).exch.map (fun x => (x.opened, n)))) with
  | none => s
  | some x => s.exchTimeout x.2

/-- SYNC_MISS of the SYNC that is expected first (R178). -/
def State.syncMissDue (s : State) : State :=
  let due := fun (n : Nat) => (s.tb n).syncRef + ((s.tb n).missK + 1) * (1000 * msU / 2 ^ s.f (F.TIM.TB_DISC_SYNC_RATE n)) + msU
  match earliest (([0, 1].filter (fun n => s.f (F.TIM.TB_DISC_MODE n) == 1)).map (fun n => (due n, n))) with
  | none => s
  | some x => s.syncMiss x.2

/-- A core domain that was rung in Test comes up: its memories are wiped and its cores STOPPED, the ringers are rung back from the rung agents, and
WAKE_DONE is raised (R453). -/
def State.ringWake (s : State) (d : Nat) : State :=
  let mine := s.mbx.ringWake.filter (fun r => coreDom r.1 == d)
  let s := { s with doms := s.doms ||| 2 ^ d, mbx := { s.mbx with ringWake := s.mbx.ringWake.filter (fun r => coreDom r.1 != d) } }
  let wiped := fun (m : List Host.Cell) (k : Nat) => memClear (memClear m (imemBase k) 0x10000) (dmemBase k) dmemSize
  let s := ({ s with mem := ((List.range 34).filter (fun k => coreDom k == d)).foldl wiped s.mem } : State).coresOn d
  (s.each mine (fun s r => s.ringBell r.1 r.2)).raise F.MBX.EVT_WAKE_DONE

/-- RING_WAKE_DONE: the domain of the core rung first has come up (R453). -/
def State.ringWakeDone (s : State) : State :=
  match s.mbx.ringWake.find? (fun r => !s.domOn (coreDom r.1)) with
  | none => s
  | some r => if s.mode = Mode.test then s.ringWake (coreDom r.1) else s

/-- An NVM word write completes; while a reset or a thermal shutdown waits for it, the write then stops (R552, R556). -/
def State.nvmWordEvent (s : State) : State := if s.pwr.seq = 1 || s.thm.shdn.isSome then s.nvmHalt else s.nvmWordDone

/-! ## The step on an empty queue -/

/-- With no command waiting, the sequencer of a wake runs to its end, or a tick of the 500 MHz clock passes (log entry 33). -/
def State.idle (s : State) : Host.Outcome State Fault Refusal := (if s.pwr.seq = 6 then s.wakeFinish else s.redeliver.elapse (2 * nsU)).done

end Sys2Proof.Machine
end

