-- ==== Sys2Proof/Machine/CmdAgents.lean ====
section
/-! DEFINITION. The arbiter and posted transfers, the hosts' mailboxes, doorbells and pools, and Belay (chapters 15 and 16): what each command does. -/

namespace Sys2Proof.Machine
open Sys2Proof

/-- ARB_REQUEST (R432, R433, R436): a request of a requester reaches ARB, at a cycle of the arbiter. -/
def execArbRequest (id : Nat) (addr : Nat) (write : Bool) (realTime : Bool) (beats : Nat) (cycle : Nat) (s : State) : Host.Outcome State Fault Refusal :=
  s.does (id < 19) (·.arbRequest id addr write realTime beats cycle)

/-- BURST_BOUNDARY (R434, R435, R440): a bank reaches a burst boundary. -/
def execBurstBoundary (bank : Nat) (cycle : Nat) (s : State) : Host.Outcome State Fault Refusal := s.does (bank < 96) (·.burstBoundary bank cycle)

/-- STARVE (R439): the ages of a bank's waiting requests pass their thresholds. -/
def execStarve (bank : Nat) (cycle : Nat) (s : State) : Host.Outcome State Fault Refusal := s.does (bank < 96) (·.starve bank cycle)

/-- POST_CMD (R437): an agent writes POST_CMD of an agent's copy. -/
def execPostCmd (agent : Nat) (owner : Nat) (word : Nat) (s : State) : Host.Outcome State Fault Refusal :=
  s.wr (owner < 36) agent (A.ARB.POST_CMD owner) (·.acts (·.postCmd owner word))

/-- POST_COMPLETE (R438): a posted transfer in flight of an agent completes. -/
def execPostComplete (agent : Nat) (index : Nat) (s : State) : Host.Outcome State Fault Refusal := s.does (agent < 36) (·.postComplete agent index)

/-- COMP_POP (R438, R445): an agent reads COMP_POP of an agent's copy. -/
def execCompPop (agent : Nat) (owner : Nat) (s : State) : Host.Outcome State Fault Refusal :=
  s.rd (owner < 36) agent (A.ARB.COMP_POP owner) (·.readComp agent owner)

/-- LFSR_SEED (R442): an agent writes the seed of the lottery. -/
def execLfsrSeed (agent : Nat) (seed : Nat) (s : State) : Host.Outcome State Fault Refusal := s.wr (seed < 2 ^ 16) agent A.ARB.LFSR_SEED (·.lfsrSeed agent seed)

/-- HOST_SEND (R447 to R450, R467): a host writes SEND_CMD. -/
def execHostSend (agent : Nat) (host : Nat) (word : Nat) (s : State) : Host.Outcome State Fault Refusal :=
  s.wr (host < 2) agent (A.MBX.SEND_CMD host) (·.hostSend agent word)

/-- HOST_RECV (R451, R467): RECV_META of a host's copy is read. -/
def execHostRecv (agent : Nat) (host : Nat) (s : State) : Host.Outcome State Fault Refusal :=
  s.rd (host < 2) agent (A.MBX.RECV_META host) (·.hostRecv agent host)

/-- DB_RING (R452, R467): a host writes DB_RING. -/
def execDbRing (agent : Nat) (host : Nat) (target : Nat) (s : State) : Host.Outcome State Fault Refusal :=
  s.wr (host < 2) agent (A.MBX.DB_RING host) (·.hostRing agent target)

/-- RING_WAKE_DONE (R453): the domain of the core rung first has come up. -/
def execRingWakeDone (s : State) : Host.Outcome State Fault Refusal := s.does true State.ringWakeDone

/-- HOST_RESTART (R454, R467): a host writes HOST_CTRL.RESTART = 1. -/
def execHostRestart (agent : Nat) (host : Nat) (s : State) : Host.Outcome State Fault Refusal :=
  s.wr (host < 2) agent (A.MBX.HOST_CTRL host) (·.hostRestart agent 1)

/-- POOL_REGISTER (R455): an agent sets VALID of a pool with its SIZE. -/
def execPoolRegister (agent : Nat) (owner : Nat) (pool : Nat) (size : Nat) (s : State) : Host.Outcome State Fault Refusal :=
  s.wr (owner < 36 && pool < 2 && size < 2 ^ 16) agent (A.MBX.POOL_CFG owner pool) (·.poolCfg agent owner pool (2 ^ 31 + size))

/-- POOL_RELEASE (R456): an agent writes RELEASE = 1 of a pool. -/
def execPoolRelease (agent : Nat) (owner : Nat) (pool : Nat) (s : State) : Host.Outcome State Fault Refusal :=
  s.wr (owner < 36 && pool < 2) agent (A.MBX.POOL_CFG owner pool) (·.poolCfg agent owner pool (2 ^ 29))

/-- HOST_ACQ (R458, R459, R472): a host acquires a semaphore with WAIT = 1. -/
def execHostAcq (agent : Nat) (host : Nat) (sem : Nat) (s : State) : Host.Outcome State Fault Refusal :=
  s.wr (host < 2 && sem < 64) agent (A.BLY.ACQ host) (·.hostAcq agent (2 ^ 31 + sem))

/-- HOST_TRYACQ (R457, R472): a host acquires a semaphore with WAIT = 0. -/
def execHostTryacq (agent : Nat) (host : Nat) (sem : Nat) (s : State) : Host.Outcome State Fault Refusal :=
  s.wr (host < 2 && sem < 64) agent (A.BLY.ACQ host) (·.hostAcq agent sem)

/-- HOST_REL (R460, R472): a host releases a semaphore. -/
def execHostRel (agent : Nat) (host : Nat) (sem : Nat) (s : State) : Host.Outcome State Fault Refusal :=
  s.wr (host < 2 && sem < 64) agent (A.BLY.REL host) (·.hostRel agent sem)

/-- BREAK (R461): an agent writes BREAK; only a host may. -/
def execBreakSem (agent : Nat) (sem : Nat) (s : State) : Host.Outcome State Fault Refusal := s.wr (sem < 64) agent A.BLY.BREAK (·.hostBreak agent sem)

end Sys2Proof.Machine
end

