-- ==== Sys2Proof/Machine/CmdBoundary.lean ====
section
/-! DEFINITION. Boundaries of the grids, the shadow, plain register writes, and the commands NOP and COMMIT of the command tables (chapter 1): what each command
does. -/

namespace Sys2Proof.Machine
open Sys2Proof

/-- SLOT_BOUNDARY (R15, R16, R19): the next slot boundary of a leader core's grid passes. -/
def execSlotBoundary (leader : Nat) (s : State) : Host.Outcome State Fault Refusal := s.does (leader < 2) (·.slotBoundary leader)

/-- SYMBOL_BOUNDARY (R19, R22, R27): the nominal start of the next symbol of a carrier. -/
def execSymbolBoundary (carrier : Nat) (s : State) : Host.Outcome State Fault Refusal := s.does (carrier < 4) (·.symbolBoundary carrier)

/-- STAGING_CUTOFF (R15, R16): the staging cut-off of a leader core passes. -/
def execStagingCutoff (leader : Nat) (s : State) : Host.Outcome State Fault Refusal := s.does (leader < 2) (·.cutoffAll leader)

/-- SHD_COMMIT (R28, R33): an agent writes SHD_CTRL.COMMIT = 1 of a block. -/
def execShdCommit (agent : Nat) (blk : Nat) (s : State) : Host.Outcome State Fault Refusal :=
  s.wr (blk < 28) agent (blockBase blk + 0xC) (·.shdCtrl agent blk 1)

/-- SHD_DISCARD (R33): an agent writes SHD_CTRL.DISCARD = 1 of a block. -/
def execShdDiscard (agent : Nat) (blk : Nat) (s : State) : Host.Outcome State Fault Refusal :=
  s.wr (blk < 28) agent (blockBase blk + 0xC) (·.shdCtrl agent blk 2)

/-- REGISTER_WRITE (R4, R29): an agent writes a word to a register of the block windows. -/
def execRegisterWrite (agent : Nat) (addr : Nat) (value : Nat) (s : State) : Host.Outcome State Fault Refusal :=
  s.wr (inRegs addr) agent addr (fun s => s.writeReg agent addr (value % 2 ^ 32))

/-- RESULT_DEADLINE (R10): a bulk result of a block for a slot was not written by its deadline. -/
def execResultDeadline (blk : Nat) (frame : Nat) (slot : Nat) (s : State) : Host.Outcome State Fault Refusal := s.does (blk < 28) (·.resultOvf blk frame slot)

/-- CMD_NOP (R18): the command NOP of a block with a command table executes and does nothing. -/
def execCmdNop (blk : Nat) (issuer : Nat) (carrier : Nat) (trig : Nat) (payload : List Word) (s : State) : Host.Outcome State Fault Refusal :=
  s.does (cmdBlocks.contains blk && issuer < 34 && carrier < 4) (·.symCmd blk 0 issuer carrier trig payload)

/-- COMMIT (R22, R28): the command COMMIT arms the block's shadow at its trigger symbol. -/
def execCommit (blk : Nat) (issuer : Nat) (carrier : Nat) (trig : Nat) (payload : List Word) (s : State) : Host.Outcome State Fault Refusal :=
  s.does (cmdBlocks.contains blk && issuer < 34 && carrier < 4) (·.commitCmd blk issuer carrier trig payload)

/-- PUSH_COMPLETE (R423): the push that waits at a full crossing reaches its block. -/
def execPushComplete (core : Nat) (s : State) : Host.Outcome State Fault Refusal := s.does (core < 34) (·.pushComplete core)

end Sys2Proof.Machine
end

