-- ==== Sys2Proof/Machine/CmdCal.lean ====
section
/-! DEFINITION. Calibration and the converter clocks (chapters 17 and 18): what each command does. -/

namespace Sys2Proof.Machine
open Sys2Proof

/-- CAL_FULL (R480): an agent writes CAL_CTRL.FULL = 1. -/
def execCalFull (agent : Nat) (s : State) : Host.Outcome State Fault Refusal := s.wr true agent A.CAL.CAL_CTRL (·.calCtrl agent 1)

/-- CAL_RUN (R482): the command runs an in-service calibration. -/
def execCalRun (issuer : Nat) (carrier : Nat) (trig : Nat) (payload : List Word) (s : State) : Host.Outcome State Fault Refusal :=
  s.does (issuer < 34 && carrier < 4) (·.symCmd 19 0x600 issuer carrier trig payload)

/-- CAL_RESULT (R479, R483 to R485): a path-run completes with its values, or fails with a code. -/
def execCalResult (kind : Nat) (path : Nat) (fail : Nat) (value : List Int) (s : State) : Host.Outcome State Fault Refusal :=
  s.does (kind < 6 && path < 64) (·.calResult kind path fail value)

/-- RELOAD (R475, R479): an agent writes CAL_CTRL.RELOAD = 1. -/
def execReload (agent : Nat) (s : State) : Host.Outcome State Fault Refusal := s.wr true agent A.CAL.CAL_CTRL (·.calCtrl agent 2)

/-- PLAN_SWITCH (R491, R492): an agent writes PLAN_SWITCH. -/
def execPlanSwitch (agent : Nat) (word : Nat) (s : State) : Host.Outcome State Fault Refusal :=
  s.wr (word < 2 ^ 32) agent A.CLK.PLAN_SWITCH (·.acts (·.planSwitch word))

/-- SETTLING_WINDOW_END (R493, R494): a settling window ends. -/
def execSettlingWindowEnd (s : State) : Host.Outcome State Fault Refusal := s.does true State.windowEnd

/-- UNLOCK (R494): the synthesiser loses lock. -/
def execUnlock (s : State) : Host.Outcome State Fault Refusal := s.does true State.clkUnlock

/-- SYNTH_LOCK (R490, R493): the synthesiser gains lock. -/
def execSynthLock (s : State) : Host.Outcome State Fault Refusal := s.does true State.synthLock

/-- SYNTH_CAL_DONE (R490): a full synthesiser calibration completes with its band, trim and residual. -/
def execSynthCalDone (band : Nat) (trim : Nat) (residual : Nat) (s : State) : Host.Outcome State Fault Refusal :=
  s.does true (·.synthCalDone band trim residual)

/-- CANCEL (R491): an agent writes CLK_CTRL.CANCEL = 1. -/
def execCancel (agent : Nat) (s : State) : Host.Outcome State Fault Refusal := s.wr true agent A.CLK.CLK_CTRL (·.acts (·.clkCtrl 4))

/-- CLK_SAVE (R490): an agent writes CLK_CTRL.SAVE = 1. -/
def execClkSave (agent : Nat) (s : State) : Host.Outcome State Fault Refusal := s.wr true agent A.CLK.CLK_CTRL (·.acts (·.clkCtrl 2))

/-- CLK_CAL (R490): an agent writes CLK_CTRL.CAL = 1. -/
def execClkCal (agent : Nat) (s : State) : Host.Outcome State Fault Refusal := s.wr true agent A.CLK.CLK_CTRL (·.acts (·.clkCtrl 1))

end Sys2Proof.Machine
end

