-- ==== Sys2Proof/Machine/CmdCore.lean ====
section
/-! DEFINITION. Control of the Therik cores, their interrupts, accesses and watchdogs (chapter 13): what each command does. -/

namespace Sys2Proof.Machine
open Sys2Proof

/-- CORE_RESET (R391, R393): an agent writes C_CTRL.RESET = 1 and leaves VETO as it is. -/
def execCoreReset (agent : Nat) (core : Nat) (s : State) : Host.Outcome State Fault Refusal :=
  s.wr (core < 34) agent (A.TKC.C_CTRL core) (fun s => s.coreCtrl agent core (2 ^ 31 + s.f (F.TKC.C_CTRL_VETO core)))

/-- CORE_STOP (R391): an agent writes C_CTRL.STOP = 1 and leaves VETO as it is. -/
def execCoreStop (agent : Nat) (core : Nat) (s : State) : Host.Outcome State Fault Refusal :=
  s.wr (core < 34) agent (A.TKC.C_CTRL core) (fun s => s.coreCtrl agent core (2 ^ 30 + s.f (F.TKC.C_CTRL_VETO core)))

/-- CORE_START (R391): an agent writes C_CTRL.START = 1 and leaves VETO as it is. -/
def execCoreStart (agent : Nat) (core : Nat) (s : State) : Host.Outcome State Fault Refusal :=
  s.wr (core < 34) agent (A.TKC.C_CTRL core) (fun s => s.coreCtrl agent core (2 ^ 29 + s.f (F.TKC.C_CTRL_VETO core)))

/-- CORE_STEP (R391): an agent writes C_CTRL.STEP = 1 and leaves VETO as it is. -/
def execCoreStep (agent : Nat) (core : Nat) (s : State) : Host.Outcome State Fault Refusal :=
  s.wr (core < 34) agent (A.TKC.C_CTRL core) (fun s => s.coreCtrl agent core (2 ^ 28 + s.f (F.TKC.C_CTRL_VETO core)))

/-- CORE_KICK (R388): an agent writes C_CTRL.KICK = 1 and leaves VETO as it is. -/
def execCoreKick (agent : Nat) (core : Nat) (s : State) : Host.Outcome State Fault Refusal :=
  s.wr (core < 34) agent (A.TKC.C_CTRL core) (fun s => s.coreCtrl agent core (2 ^ 27 + s.f (F.TKC.C_CTRL_VETO core)))

/-- CORE_SOFT (R382): an agent writes C_CTRL.SOFT = 1 and leaves VETO as it is. -/
def execCoreSoft (agent : Nat) (core : Nat) (s : State) : Host.Outcome State Fault Refusal :=
  s.wr (core < 34) agent (A.TKC.C_CTRL core) (fun s => s.coreCtrl agent core (2 ^ 26 + s.f (F.TKC.C_CTRL_VETO core)))

/-- CORE_RESET_DONE (R393): the wipe of a core's data memory ends. -/
def execCoreResetDone (core : Nat) (s : State) : Host.Outcome State Fault Refusal := s.does (core < 34) (·.coreResetDone core)

/-- ACCESS_COMPLETE (R369): the non-local access that holds a core completes. -/
def execAccessComplete (core : Nat) (s : State) : Host.Outcome State Fault Refusal := s.does (core < 34) (·.accessComplete core)

/-- INTERRUPT_ENTRY (R383): a pending source of a core is taken. -/
def execInterruptEntry (core : Nat) (s : State) : Host.Outcome State Fault Refusal := s.does (core < 34) (·.interruptEntry core)

/-- WDT_WARN (R388): the watchdog that is due first reaches WARN. -/
def execWdtWarn (s : State) : Host.Outcome State Fault Refusal := s.does true State.wdtWarnDue

/-- WDT_EXPIRE (R388, R389): the watchdog that is due first reaches EXPIRE. -/
def execWdtExpire (s : State) : Host.Outcome State Fault Refusal := s.does true State.wdtExpireDue

/-- WAIT_TIMEOUT (R462): an agent's WAIT_TMO expires. -/
def execWaitTimeout (agent : Nat) (s : State) : Host.Outcome State Fault Refusal := s.does (agent < 36) (·.waitTimeout agent)

end Sys2Proof.Machine
end

