-- ==== Sys2Proof/Machine/CmdFront.lean ====
section
/-! DEFINITION. Pins of the front end, bias DACs, coexistence and the regulatory record (chapter 18): what each command does. -/

namespace Sys2Proof.Machine
open Sys2Proof

/-- TX_RX_TURNROUND (R498): the next turnround from transmission to reception. -/
def execTxRxTurnround (s : State) : Host.Outcome State Fault Refusal := s.does true State.txRxTurn

/-- RX_TX_TURNROUND (R498): the next turnround from reception to transmission. -/
def execRxTxTurnround (s : State) : Host.Outcome State Fault Refusal := s.does true State.rxTxTurn

/-- BIAS_WRITE (R500 to R502): an agent writes BIASn. -/
def execBiasWrite (agent : Nat) (dac : Nat) (word : Nat) (s : State) : Host.Outcome State Fault Refusal :=
  s.wr (dac < 136) agent (A.AUX.BIAS dac) (·.acts (·.biasWrite dac word))

/-- BIAS_HOLD_RELEASE (R501): a hold of a bias DAC ends. -/
def execBiasHoldRelease (dac : Nat) (s : State) : Host.Outcome State Fault Refusal := s.does (dac < 136) (·.biasRelease dac)

/-- COEX_REQ_EDGE (R503): COEX_REQn is asserted before a run, or deasserted at its end. -/
def execCoexReqEdge (port : Nat) (rise : Bool) (s : State) : Host.Outcome State Fault Refusal := s.does (port < 2) (·.coexReqEdge port rise)

/-- COEX_GNT_SAMPLE (R504): COEX_GNTn is sampled 1.0 µs before a symbol of a carrier. -/
def execCoexGntSample (port : Nat) (carrier : Nat) (level : Bool) (s : State) : Host.Outcome State Fault Refusal :=
  s.does (port < 2 && carrier < 4) (·.coexSample port carrier level)

/-- REG_SAVE (R505): an agent writes REG_CTRL.SAVE = 1. -/
def execRegSave (agent : Nat) (s : State) : Host.Outcome State Fault Refusal := s.wr true agent A.REG.REG_CTRL (·.acts State.regSave)

end Sys2Proof.Machine
end

