-- ==== Sys2Proof/Machine/CmdLink.lean ====
section
/-! DEFINITION. Ports and lanes, frames, credits, bonds, the ring and the partial-sum chain (chapters 4 and 5): what each command does. -/

namespace Sys2Proof.Machine
open Sys2Proof

/-- PORT_ENABLE (R107): an agent writes PORT_CTRL.EN = 1. -/
def execPortEnable (agent : Nat) (port : Nat) (s : State) : Host.Outcome State Fault Refusal :=
  s.wr (port < 6) agent (A.LNK.PORT_CTRL port) (·.acts (·.portCtrl port 1))

/-- PORT_DISABLE (R121): an agent writes PORT_CTRL.EN = 0. -/
def execPortDisable (agent : Nat) (port : Nat) (s : State) : Host.Outcome State Fault Refusal :=
  s.wr (port < 6) agent (A.LNK.PORT_CTRL port) (·.acts (·.portCtrl port 0))

/-- RETRAIN (R121): an agent writes PORT_CTRL.RETRAIN = 1 and leaves EN as it is. -/
def execRetrain (agent : Nat) (port : Nat) (s : State) : Host.Outcome State Fault Refusal :=
  s.wr (port < 6) agent (A.LNK.PORT_CTRL port) (fun s => s.acts (·.portCtrl port (2 + s.f (F.LNK.PORT_CTRL_EN port))))

/-- CAIRN_RECEIVED (R95 to R107): a cairn set arrives, with the line bits of each lane since the last, the skew between lanes in UI and the fill of the elastic buffer
above its centre; `full`: the fill reached an end. -/
def execCairnReceived (port : Nat) (lines : List (List Bool)) (skew : Nat) (fill : Int) (full : Bool) (s : State) : Host.Outcome State Fault Refusal :=
  s.does (port < 6) (·.cairnIn port lines skew fill full)

/-- READY (R107): READY comes from the partner. -/
def execReady (port : Nat) (s : State) : Host.Outcome State Fault Refusal := s.does (port < 6) (fun s => (s.portReady port).romPorts)

/-- CAIRN_MISSING (R104): a cairn is absent or bad on a lane at its expected place, one period behind the last. -/
def execCairnMissing (port : Nat) (lane : Nat) (s : State) : Host.Outcome State Fault Refusal :=
  s.does (port < 6 && lane < 8) (·.cairnMiss port lane periodBits false)

/-- LOS_TIMEOUT (R119): loss of signal has lasted 1 µs. -/
def execLosTimeout (port : Nat) (s : State) : Host.Outcome State Fault Refusal := s.does (port < 6) (·.losTimeout port)

/-- TRAIN_TIMEOUT (R108): training has not reached UP in time. -/
def execTrainTimeout (port : Nat) (s : State) : Host.Outcome State Fault Refusal := s.does (port < 6) (·.trainTimeout port)

/-- SIGNAL_RETURN (R120): signal has been there on all lanes for PLUG_DEBOUNCE. -/
def execSignalReturn (port : Nat) (s : State) : Host.Outcome State Fault Refusal := s.does (port < 6) (·.signalReturn port)

/-- TX_SLEEP (R110): an agent asks in SLEEP_CTRL for sleep of the outgoing direction. -/
def execTxSleep (agent : Nat) (port : Nat) (s : State) : Host.Outcome State Fault Refusal :=
  s.wr (port < 6) agent (A.LNK.SLEEP_CTRL port) (·.acts (·.sleepCtrl port 1))

/-- RX_SLEEP (R110): an agent asks in SLEEP_CTRL for sleep of the incoming direction. -/
def execRxSleep (agent : Nat) (port : Nat) (s : State) : Host.Outcome State Fault Refusal :=
  s.wr (port < 6) agent (A.LNK.SLEEP_CTRL port) (·.acts (·.sleepCtrl port 2))

/-- TX_WAKE (R112): an agent asks in SLEEP_CTRL for a wake of the outgoing direction. -/
def execTxWake (agent : Nat) (port : Nat) (s : State) : Host.Outcome State Fault Refusal :=
  s.wr (port < 6) agent (A.LNK.SLEEP_CTRL port) (·.acts (·.sleepCtrl port 4))

/-- RX_WAKE (R112): an agent asks in SLEEP_CTRL for a wake of the incoming direction. -/
def execRxWake (agent : Nat) (port : Nat) (s : State) : Host.Outcome State Fault Refusal :=
  s.wr (port < 6) agent (A.LNK.SLEEP_CTRL port) (·.acts (·.sleepCtrl port 8))

/-- SLEEP_REQ (R110): the partner asks to put its outgoing direction to sleep. -/
def execSleepReq (port : Nat) (s : State) : Host.Outcome State Fault Refusal := s.does (port < 6) (·.sigSleepReq port)

/-- SLEEP_ACK (R110): the partner agrees to the sleep asked for. -/
def execSleepAck (port : Nat) (s : State) : Host.Outcome State Fault Refusal := s.does (port < 6) (·.sigSleepAck port)

/-- SLEEP_ASK (R110): the partner asks this part to put its outgoing direction to sleep. -/
def execSleepAsk (port : Nat) (s : State) : Host.Outcome State Fault Refusal := s.does (port < 6) (·.sigSleepAsk port)

/-- WAKE_REQ (R112): the partner asks for a wake of the direction towards it. -/
def execWakeReq (port : Nat) (s : State) : Host.Outcome State Fault Refusal := s.does (port < 6) (·.sigWakeReq port)

/-- DEEP_REQ (R117): the partner asks for the deep state. -/
def execDeepReq (port : Nat) (s : State) : Host.Outcome State Fault Refusal := s.does (port < 6) (·.sigDeepReq port)

/-- DEEP_ACK (R117): the partner agrees to the deep state. -/
def execDeepAck (port : Nat) (s : State) : Host.Outcome State Fault Refusal := s.does (port < 6) (·.sigDeepAck port)

/-- SLEEP_ACK_TIMEOUT (R110, R115): no answer came to a request within 10 µs. -/
def execSleepAckTimeout (port : Nat) (s : State) : Host.Outcome State Fault Refusal := s.does (port < 6) (·.sleepAckTimeout port)

/-- WAKE_PATTERN_DETECTED (R112): an idle receiver sees the wake pattern. -/
def execWakePatternDetected (port : Nat) (s : State) : Host.Outcome State Fault Refusal := s.does (port < 6) (·.wakePattern port)

/-- DIR_WAKE_FAIL (R114): no cairn came within 10 µs of the end of the wake pattern. -/
def execDirWakeFail (port : Nat) (s : State) : Host.Outcome State Fault Refusal := s.does (port < 6) (·.dirWakeFail port)

/-- DEEP_EXIT_TIMEOUT (R117): a deep exit reaches no lock within 180 µs. -/
def execDeepExitTimeout (port : Nat) (s : State) : Host.Outcome State Fault Refusal := s.does (port < 6) (·.deepExitTimeout port)

/-- INJ_BIT (R125, R569): an agent arms one inverted transmitted bit on a lane. -/
def execInjBit (agent : Nat) (port : Nat) (lane : Nat) (s : State) : Host.Outcome State Fault Refusal :=
  s.wr (port < 6 && lane < 8) agent (A.LNK.LANE_INJ port lane) (·.laneInj agent port lane 1)

/-- INJ_STUFF (R125, R569): an agent arms one reported stuffing violation on a lane. -/
def execInjStuff (agent : Nat) (port : Nat) (lane : Nat) (s : State) : Host.Outcome State Fault Refusal :=
  s.wr (port < 6 && lane < 8) agent (A.LNK.LANE_INJ port lane) (·.laneInj agent port lane 2)

/-- INJ_CAIRN_MISS (R125, R569): an agent arms four cairns taken as missing on a lane. -/
def execInjCairnMiss (agent : Nat) (port : Nat) (lane : Nat) (s : State) : Host.Outcome State Fault Refusal :=
  s.wr (port < 6 && lane < 8) agent (A.LNK.LANE_INJ port lane) (·.laneInj agent port lane 4)

/-- FRAME_HEADER_RECEIVED (R132, R138, R139): the 128 bits of a header arrive. -/
def execFrameHeaderReceived (port : Nat) (header : Nat) (s : State) : Host.Outcome State Fault Refusal := s.does (port < 6) (·.frameHeader port header)

/-- FRAME_TAIL_RECEIVED (R140, R141): the tail of the frame in progress passes, after its payload. -/
def execFrameTailReceived (port : Nat) (payload : List Byte) (tail : Nat) (s : State) : Host.Outcome State Fault Refusal :=
  s.does (port < 6) (·.frameTail port payload tail)

/-- OUTPUT_FRAME_END (R143): an output finishes its frame and chooses the next. -/
def execOutputFrameEnd (output : Nat) (s : State) : Host.Outcome State Fault Refusal := s.does (output < 6) (·.outputFrameEnd output)

/-- CREDIT (R145): cumulative credits per VC arrive on a port. -/
def execCredit (port : Nat) (cum : List Nat) (s : State) : Host.Outcome State Fault Refusal := s.does (frameFrom s port) (·.credit port cum)

/-- CREDIT_SEND (R145): a receiver announces its freed credits. -/
def execCreditSend (port : Nat) (s : State) : Host.Outcome State Fault Refusal := s.does (frameFrom s port) (·.creditSend port)

/-- A whole frame of a VC has come on a port and leaves its receive buffer: its credits are freed (R145). -/
def State.frameCame (s : State) (port typ vc len : Nat) : State := s.freeCredits port { fr := { typ := typ, vc := vc }, len := len, inp := port }

/-- MREQ (R147): a memory request is served and answered with an MRSP. -/
def execMreq (port : Nat) (src : Nat) (seq : Nat) (payload : List Byte) (s : State) : Host.Outcome State Fault Refusal :=
  s.does (frameFrom s port) (fun s => (s.mreq port src seq payload).frameCame port 4 4 payload.length)

/-- A bulk frame with OP WRITE or WRITE_ACK: a malformed address or length is counted and nothing else happens (R148, R149). -/
def State.bulkFrame (s : State) (port src seq addr xid : Nat) (data : List Byte) (ack : Bool) : State :=
  let ok := addr % 8 == 0 && data.length % 8 == 0 && decide (data.length ≤ 4080)
  (if ok then s.bulkWrite port src seq addr xid data ack else s.inc F.RTE.FRM_CNT0_MALFORMED_CNT).frameCame port 1 7 (16 + data.length)

/-- BULK_WRITE (R149): a bulk frame with OP WRITE. -/
def execBulkWrite (port : Nat) (src : Nat) (seq : Nat) (addr : Nat) (xid : Nat) (data : List Byte) (s : State) : Host.Outcome State Fault Refusal :=
  s.does (frameFrom s port) (·.bulkFrame port src seq addr xid data false)

/-- BULK_WRITE_ACK (R149): a bulk frame with OP WRITE_ACK. -/
def execBulkWriteAck (port : Nat) (src : Nat) (seq : Nat) (addr : Nat) (xid : Nat) (data : List Byte) (s : State) : Host.Outcome State Fault Refusal :=
  s.does (frameFrom s port) (·.bulkFrame port src seq addr xid data true)

/-- BULK_ACK (R149): a bulk ACK is dropped without a count. -/
def execBulkAck (s : State) : Host.Outcome State Fault Refusal := s.does true (fun s => s)

/-- BOND_STATE (R154): the partner announces the active members of a bond and the cairn sets until the change. -/
def execBondState (port : Nat) (mask : Nat) (dist : Nat) (s : State) : Host.Outcome State Fault Refusal :=
  s.does (frameFrom s port) (·.bondState port mask dist)

/-- RING_BREAK (R163): a break of the ring at a device is announced on a port. -/
def execRingBreak (port : Nat) (addr : Nat) (s : State) : Host.Outcome State Fault Refusal := s.does (frameFrom s port) (·.ringBreak (some port) none addr)

/-- PSUM (R140, R158, R160): a partial-sum frame arrives as a term of a key; `poison`: its payload fails the check here. -/
def execPsum (port : Nat) (frame : Frame) (poison : Bool) (s : State) : Host.Outcome State Fault Refusal :=
  s.does (frameFrom s port) (fun s =>
    let s := s.when (poison && s.psTakes port && !s.on F.RTE.PS_CFG_HEAD) (·.inc F.RTE.FRM_CNT2_POISON_FWD_CNT)
    (s.psumIn port frame poison s.now).frameCame port 2 3 frame.payload.length)

/-- LOCAL_BLOCK_READY (R158, R332, R338): the own block of a key is ready: a part of an uplink symbol, or of the Gram stream. -/
def execLocalBlockReady (carrier : Nat) (sym : Nat) (part : Nat) (gram : Bool) (s : State) : Host.Outcome State Fault Refusal :=
  s.does (carrier < 4 && sym < 14) (fun s => if gram then s.gramBlock carrier part else s.ulBlock carrier sym part)

/-- PSUM_HOLD_INSTANT (R159): the hold instant of the first waiting key passes. -/
def execPsumHoldInstant (s : State) : Host.Outcome State Fault Refusal := s.does true State.psHold

/-- SIGNAL_CHANGE (R119, R120): the lanes with signal become those of `present`. -/
def execSignalChange (port : Nat) (present : Nat) (s : State) : Host.Outcome State Fault Refusal := s.does (port < 6) (·.signalChange port present)

/-- CHECKER_LOCK (R123): bits arrive at the unlocked pattern checker of a lane, which locks when the last 64 of them are correct. -/
def execCheckerLock (port : Nat) (lane : LaneBits) (s : State) : Host.Outcome State Fault Refusal :=
  s.does (port < 6 && lane.lane < 8) (·.checkerLock port lane.lane lane.bits)

/-- PAT_ERR (R123): a wrong bit arrives at a locked checker, `gap` correct bits after the last wrong one. -/
def execPatErr (port : Nat) (lane : Nat) (gap : Nat) (s : State) : Host.Outcome State Fault Refusal := s.does (port < 6 && lane < 8) (·.patErr port lane gap)

end Sys2Proof.Machine
end

