-- ==== Sys2Proof/Machine/CmdNvm.lean ====
section
/-! DEFINITION. NVM, the life cycle, and fault injection (chapters 21 and 22): what each command does. -/

namespace Sys2Proof.Machine
open Sys2Proof

/-- NVM_CMD (R555): an agent writes NVM_CMD. -/
def execNvmCmd (agent : Nat) (record : Nat) (length : Nat) (s : State) : Host.Outcome State Fault Refusal :=
  s.wr (record < 16 && length < 2 ^ 21) agent A.NVM.NVM_CMD (·.acts (·.nvmCmd record length))

/-- NVM_WORD_WRITE_DONE (R552, R556): an NVM word write completes. -/
def execNvmWordWriteDone (s : State) : Host.Outcome State Fault Refusal := s.does true State.nvmWordEvent

/-- LC_REQ (R558, R559): an agent writes LC_REQ. -/
def execLcReq (agent : Nat) (key : Nat) (target : Nat) (s : State) : Host.Outcome State Fault Refusal :=
  s.wr (key < 256 && target < 4) agent A.NVM.LC_REQ (·.acts (·.lcReq key target))

/-- LC_AUTH_DONE (R559): the check of a Returned request ends. -/
def execLcAuthDone (s : State) : Host.Outcome State Fault Refusal := s.does true State.lcAuthDone

/-- NVM_INJ_TORN (R564): an agent writes NVM_INJ.TORN = 1. -/
def execNvmInjTorn (agent : Nat) (s : State) : Host.Outcome State Fault Refusal := s.wr true agent A.NVM.NVM_INJ (·.nvmInj agent 1)

/-- INJ_ARM (R569): an agent writes INJ_ARM. -/
def execInjArm (agent : Nat) (key : Nat) (time : Nat) (s : State) : Host.Outcome State Fault Refusal :=
  s.wr (key < 256 && time < 256) agent A.FLT.INJ_ARM (·.acts (·.injArm key time))

/-- DISARM (R569): an agent writes INJ_STATUS.DISARM = 1. -/
def execDisarm (agent : Nat) (s : State) : Host.Outcome State Fault Refusal := s.wr true agent A.FLT.INJ_STATUS (·.acts State.disarm)

/-- INJ_WINDOW_END (R569): the injection window ends. -/
def execInjWindowEnd (s : State) : Host.Outcome State Fault Refusal := s.does true State.injWindowEnd

/-- INJ_CMD (R569, R570): an agent writes INJ_CMD. -/
def execInjCmd (agent : Nat) (word : Nat) (s : State) : Host.Outcome State Fault Refusal := s.wr (word < 2 ^ 32) agent A.FLT.INJ_CMD (·.injCommand agent word)

/-- OC_MONITOR_TICK (R566): an overcurrent monitor asks for its conversion. -/
def execOcMonitorTick (monitor : Nat) (s : State) : Host.Outcome State Fault Refusal := s.does (monitor < 8) (·.ocTick monitor)

end Sys2Proof.Machine
end

