-- ==== Sys2Proof/Machine/CmdPorts.lean ====
section
/-! DEFINITION. The serial peripheral port, the management bus and JTAG (chapter 24): what each command does. -/

namespace Sys2Proof.Machine
open Sys2Proof

/-- SPI_WRITE (R590): a write transaction delivers words into the buffer. -/
def execSpiWrite (addr : Nat) (data : List Byte) (s : State) : Host.Outcome State Fault Refusal := s.does (addr < 2 ^ 32) (·.spiWrite addr data)

/-- SPI_READ (R590): a read transaction of `count` words. -/
def execSpiRead (addr : Nat) (count : Nat) (s : State) : Host.Outcome State Fault Refusal := s.does (addr < 2 ^ 32) (·.spiRead addr count)

/-- SPI_STATUS (R590): a status transaction. -/
def execSpiStatus (s : State) : Host.Outcome State Fault Refusal := s.does true State.spiStatus

/-- SPI_WORD_APPLY (R590): the oldest buffered word is applied. -/
def execSpiWordApply (s : State) : Host.Outcome State Fault Refusal := s.does true State.spiApply

/-- MGMT_WRITE (R592): a write transaction on the management bus to a 7-bit address. -/
def execMgmtWrite (device : Nat) (addr : Nat) (data : List Byte) (s : State) : Host.Outcome State Fault Refusal :=
  s.does (device < 128 && addr < 2 ^ 32) (·.mgmtWrite device addr data)

/-- MGMT_READ (R592): a read transaction of `count` words on the management bus. -/
def execMgmtRead (device : Nat) (addr : Nat) (count : Nat) (s : State) : Host.Outcome State Fault Refusal :=
  s.does (device < 128 && addr < 2 ^ 32) (·.mgmtRead device addr count)

/-- EXTEST (R593): the boundary register drives the pads; `pads` are the levels captured. -/
def execExtest (pads : Nat) (s : State) : Host.Outcome State Fault Refusal := s.does true (·.jtagExtest pads)

/-- IDCODE (R593): the identity code is captured. -/
def execIdcode (s : State) : Host.Outcome State Fault Refusal := s.does true State.jtagIdcode

/-- SAMPLE_PRELOAD (R593): the pads are sampled and the boundary register takes what is shifted in. -/
def execSamplePreload (pads : Nat) (shift : Nat) (s : State) : Host.Outcome State Fault Refusal := s.does true (·.jtagSample pads shift)

/-- DBGACC (R560, R593): one access as MP-B; BYPASS in Deployed. -/
def execDbgacc (write : Bool) (addr : Nat) (bytes : Nat) (data : Nat) (s : State) : Host.Outcome State Fault Refusal :=
  s.does (addr < 2 ^ 32) (·.jtagDbgacc write addr bytes data)

/-- BYPASS (R593): the bypass register is selected. -/
def execBypass (s : State) : Host.Outcome State Fault Refusal := s.does true State.jtagBypass

end Sys2Proof.Machine
end

