-- ==== Sys2Proof/Machine/CmdPower.lean ====
section
/-! DEFINITION. Modes, rests, wakes, resets and start-up (chapters 2 and 3): what each command does. -/

namespace Sys2Proof.Machine
open Sys2Proof

/-- MODE_REQ (R47, R48, R71): an agent writes MODE_REQ.TARGET. -/
def execModeReq (agent : Nat) (target : Nat) (s : State) : Host.Outcome State Fault Refusal :=
  s.wr (target < 8) agent A.PWR.MODE_REQ (·.acts (·.modeReq target))

/-- MODE_TRANSITION_APPLY (R47, R49): a pending mode transition takes effect. -/
def execModeTransitionApply (s : State) : Host.Outcome State Fault Refusal := s.does true State.modeTransition

/-- BASECAMP_EXIT_DONE (R49): 120 µs after Base camp was left. -/
def execBasecampExitDone (s : State) : Host.Outcome State Fault Refusal := s.does true State.basecampDone

/-- REST_REQ (R53): an agent writes REST_REQ.BUDGET. -/
def execRestReq (agent : Nat) (budget : Nat) (s : State) : Host.Outcome State Fault Refusal :=
  s.wr (budget < 2 ^ 24) agent A.PWR.REST_REQ (·.acts (·.restReq budget))

/-- PREPARE_START (R55): the prepare phase of a rest entry starts. -/
def execPrepareStart (s : State) : Host.Outcome State Fault Refusal := s.does true State.prepareStart

/-- PARTICIPANT_ANSWER (R55, R56): the participant that was asked agrees or refuses. -/
def execParticipantAnswer (s : State) : Host.Outcome State Fault Refusal := s.does true State.partAnswered

/-- PREP_TIMEOUT (R55): the participant that was asked has not answered in time. -/
def execPrepTimeout (s : State) : Host.Outcome State Fault Refusal := s.does true State.prepTimeout

/-- REST_ENTRY_COMPLETE (R55, R59 to R63): a committed rest entry completes. -/
def execRestEntryComplete (s : State) : Host.Outcome State Fault Refusal := s.does true State.restEntered

/-- REST_WAKE (R72): an agent writes REST_CTRL.WAKE = 1. -/
def execRestWake (agent : Nat) (s : State) : Host.Outcome State Fault Refusal := s.wr true agent A.PWR.REST_CTRL (·.acts State.restWake)

/-- MICRO_REST_EXIT (R50): a converter leaves micro-rest 0.5 µs before its next work. -/
def execMicroRestExit (conv : Nat) (s : State) : Host.Outcome State Fault Refusal := s.does (conv < 136) (·.microExit conv)

/-- LEDGE_DECISION (R51): 2.0 µs before a slot boundary the groups without work are found. -/
def execLedgeDecision (s : State) : Host.Outcome State Fault Refusal := s.does true State.ledgeDecision

/-- LEDGE_EXIT (R51): groups leave Ledge 2.0 µs before their next slot with work. -/
def execLedgeExit (s : State) : Host.Outcome State Fault Refusal := s.does true State.ledgeExit

/-- MGMT_ADDR_MATCH (R65): the matcher sees MGMT_ADDR on the management bus. -/
def execMgmtAddrMatch (s : State) : Host.Outcome State Fault Refusal := s.does true (fun s => s.mgmtMatch (s.f F.PWR.WAKE_CFG_MGMT_ADDR))

/-- WAKE_START (R64, R67, R68): the wake table runs, with REFCLK there or not; `upsets` lists retained bytes that an upset changed, `ue` the addresses of
uncorrectable words. -/
def execWakeStart (refclk : Bool) (upsets : List (Nat × Byte)) (ue : List Nat) (s : State) : Host.Outcome State Fault Refusal :=
  s.does true (·.wakeStart refclk upsets ue)

/-- WAKE_REFCLK_TIMEOUT (R68): REFCLK has not come within 10 ms of a wake. -/
def execWakeRefclkTimeout (s : State) : Host.Outcome State Fault Refusal := s.does true State.refclkTimeout

/-- PAD_RELEASE (R61): an agent writes 1 to bits of PAD_CTRL.RELEASE, and leaves its other fields as they are. -/
def execPadRelease (agent : Nat) (mask : Nat) (s : State) : Host.Outcome State Fault Refusal :=
  s.wr (mask < 64) agent A.PWR.PAD_CTRL (fun s => s.wrPWR agent A.PWR.PAD_CTRL (setBits (s.reg A.PWR.PAD_CTRL).toNat 13 8 mask))

/-- POR_RELEASE (R78): the power-on reset releases. -/
def execPorRelease (s : State) : Host.Outcome State Fault Refusal := s.does true State.porRelease

/-- SUPPLY_DIP (R78): a rail dips below its threshold; `aon`: the always-on rail among them. -/
def execSupplyDip (aon : Bool) (s : State) : Host.Outcome State Fault Refusal := s.does true (·.supplyDip aon)

/-- RESET_PIN (R82, R83): RESET_N is held low. -/
def execResetPin (s : State) : Host.Outcome State Fault Refusal := s.does true State.resetPin

/-- SW_RESET (R82): an agent writes SW_RESET.KEY. -/
def execSwReset (agent : Nat) (key : Nat) (s : State) : Host.Outcome State Fault Refusal := s.wr (key < 256) agent A.SYS.SW_RESET (·.acts (·.swReset agent key))

/-- RESET_APPLY (R83, R84): the reset is applied once the NVM word in flight is written. -/
def execResetApply (s : State) : Host.Outcome State Fault Refusal := s.does true State.resetApply

/-- RESET_SEQUENCE (R85 to R87): the sequence after the release of reset, with REFCLK there or not. -/
def execResetSequence (refclk : Bool) (s : State) : Host.Outcome State Fault Refusal := s.does true (·.resetSequence refclk)

/-- REFCLK_PRESENT (R68, R86): REFCLK appears after a sequence waited for it; `upsets` and `ue` as for a wake. -/
def execRefclkPresent (upsets : List (Nat × Byte)) (ue : List Nat) (s : State) : Host.Outcome State Fault Refusal := s.does true (·.refclkPresent upsets ue)

/-- BOOT_GO (R90): an agent writes BOOT_CTRL.GO = 1. -/
def execBootGo (agent : Nat) (s : State) : Host.Outcome State Fault Refusal :=
  s.wr true agent A.SYS.BOOT_CTRL (fun s => s.actsIf agent A.SYS.BOOT_CTRL s.goAllowed (·.bootGo agent))

/-- BOOT_VERIFY_DONE (R89, R90, R562): the verification of an image ends. -/
def execBootVerifyDone (s : State) : Host.Outcome State Fault Refusal := s.does true State.bootVerified

/-- WIPE_COMPLETE (R47, R87, R598): the SRAM wipe of a Test to Base camp transition completes. -/
def execWipeComplete (s : State) : Host.Outcome State Fault Refusal := s.does true State.wipeComplete

end Sys2Proof.Machine
end

