-- ==== Sys2Proof/Machine/CmdRadio.lean ====
section
/-! DEFINITION. The receive and transmit paths, predistortion, contexts and weights, and random access (chapters 7 to 12): what each command does. -/

namespace Sys2Proof.Machine
open Sys2Proof

/-- RX_SYM (R218, R220 to R222): the command captures symbols of the named paths. -/
def execRxSym (issuer : Nat) (carrier : Nat) (trig : Nat) (payload : List Word) (s : State) : Host.Outcome State Fault Refusal :=
  s.does (issuer < 34 && carrier < 4) (·.symCmd 14 0x100 issuer carrier trig payload)

/-- GAIN_SET (R219): the command sets the attenuation of the named paths. -/
def execGainSet (issuer : Nat) (carrier : Nat) (trig : Nat) (payload : List Word) (s : State) : Host.Outcome State Fault Refusal :=
  s.does (issuer < 34 && carrier < 4) (·.symCmd 14 0x101 issuer carrier trig payload)

/-- RX_SYMBOL_END (R197, R207, R211 to R224): a symbol of a path and carrier ends, with the ADC codes before, of and behind it. -/
def execRxSymbolEnd (path : Nat) (carrier : Nat) (before : List Int) (codes : List Int) (behind : List Int) (fault : Bool) (s : State) :
    Host.Outcome State Fault Refusal :=
  s.does (path < 64 && carrier < 4) (·.rxSymbolEnd path carrier before codes behind fault)

/-- LAYER_BLOCK_RECEIVED (R234): a VC1 layer-data block arrives. -/
def execLayerBlockReceived (data : List Byte) (s : State) : Host.Outcome State Fault Refusal := s.does (s.domOn Dom.ctl) (·.layerBlock data)

/-- LAYER_FETCH (R235, R236): the mapper fetches the blocks of a carrier's next symbol. -/
def execLayerFetch (carrier : Nat) (s : State) : Host.Outcome State Fault Refusal := s.does (carrier < 4) (·.layerFetch carrier)

/-- LAYER_MAP (R238): the command maps a layer's data. -/
def execLayerMap (issuer : Nat) (carrier : Nat) (trig : Nat) (payload : List Word) (s : State) : Host.Outcome State Fault Refusal :=
  s.does (issuer < 34 && carrier < 4) (·.txCmd 0x201 issuer carrier trig payload)

/-- TX_SYM (R261): the command makes the named paths transmit the carrier. -/
def execTxSym (issuer : Nat) (carrier : Nat) (trig : Nat) (payload : List Word) (s : State) : Host.Outcome State Fault Refusal :=
  s.does (issuer < 34 && carrier < 4) (·.txCmd 0x200 issuer carrier trig payload)

/-- PWR_LOOP_UPDATE (R253): the power measurements update TRIM. -/
def execPwrLoopUpdate (s : State) : Host.Outcome State Fault Refusal := s.does true State.pwrLoop

/-- FAULT_CLR (R257): an agent writes P_CTRL.FAULT_CLR = 1 of TXP. -/
def execFaultClr (agent : Nat) (path : Nat) (s : State) : Host.Outcome State Fault Refusal :=
  s.wr (path < 64) agent (A.TXP.P_CTRL path) (·.acts (·.faultClr path))

/-- MLOG_POP (R267): an agent reads MLOG_ENTRY3. -/
def execMlogPop (agent : Nat) (s : State) : Host.Outcome State Fault Refusal := s.rd true agent (A.TXP.MLOG_ENTRY 3) (·.readMlog 3)

/-- DPD_SWAP (R277, R278): the command swaps the coefficient banks of the named paths. -/
def execDpdSwap (issuer : Nat) (carrier : Nat) (trig : Nat) (payload : List Word) (s : State) : Host.Outcome State Fault Refusal :=
  s.does (issuer < 34 && carrier < 4) (·.symCmd 16 0x300 issuer carrier trig payload)

/-- SWAP (R277): an agent writes P_CTRL.SWAP = 1 of DPD. -/
def execSwap (agent : Nat) (path : Nat) (s : State) : Host.Outcome State Fault Refusal := s.wr (path < 64) agent (A.DPD.P_CTRL path) (·.acts (·.hostSwap path))

/-- ORX_CAPTURE_END (R284 to R290): a capture window ends, with its peak code, the observed samples, the drive and the neighbours' drives. -/
def execOrxCaptureEnd (orx : Nat) (peak : Nat) (observed : List Cplx) (drive : List Cplx) (neighbours : List (List Cplx)) (s : State) : Host.Outcome State Fault
    Refusal :=
  s.does (orx < 8) (·.orxEnd orx peak observed drive neighbours)

/-- STAT_READY (R288): the statistics of the ADAPT capture that ends first are complete. -/
def execStatReady (s : State) : Host.Outcome State Fault Refusal := s.does true State.statDue

/-- CTX_OPEN (R301): an agent opens a context; `nports` is the field NPORTS. -/
def execCtxOpen (agent : Nat) (user : Nat) (carrier : Nat) (nports : Nat) (s : State) : Host.Outcome State Fault Refusal :=
  s.wr (user < 2 ^ 16 && carrier < 4 && nports < 4) agent A.BFM.CTX_OPEN (·.acts (·.ctxOpen agent user carrier nports))

/-- CTX_CLOSE (R302): an agent closes a context. -/
def execCtxClose (agent : Nat) (index : Nat) (s : State) : Host.Outcome State Fault Refusal :=
  s.wr (index < 512) agent A.BFM.CTX_CLOSE (·.acts (·.ctxClose agent index))

/-- ENGINE_BOUNDARY (R296, R305 to R310): an engine boundary passes; `late` names the jobs of the batch that are not complete. -/
def execEngineBoundary (late : List Nat) (s : State) : Host.Outcome State Fault Refusal := s.does true (·.engineBoundary late)

/-- SND (R303): the command captures the named sounding ports. -/
def execSnd (issuer : Nat) (carrier : Nat) (trig : Nat) (payload : List Word) (s : State) : Host.Outcome State Fault Refusal :=
  s.does (issuer < 34 && carrier < 4) (·.symCmd 17 0x400 issuer carrier trig payload)

/-- DL_SCHED (R318, R320): the command assigns a downlink layer. -/
def execDlSched (issuer : Nat) (carrier : Nat) (trig : Nat) (payload : List Word) (s : State) : Host.Outcome State Fault Refusal :=
  s.does (issuer < 34 && carrier < 4) (·.schedCmd false issuer carrier trig payload)

/-- UL_SCHED (R319, R320): the command assigns an uplink layer. -/
def execUlSched (issuer : Nat) (carrier : Nat) (trig : Nat) (payload : List Word) (s : State) : Host.Outcome State Fault Refusal :=
  s.does (issuer < 34 && carrier < 4) (·.schedCmd true issuer carrier trig payload)

/-- WEIGHT_INSTANT (R322, R324, R345): the weight instant of an engine slot passes; `late` names the sounding jobs that are not complete. -/
def execWeightInstant (late : List Nat) (s : State) : Host.Outcome State Fault Refusal := s.does true (·.weightNow late)

/-- WEIGHT_DEADLINE (R330): a weight deadline passes; `late` names the (carrier, group) pairs that are not complete. -/
def execWeightDeadline (uplink : Bool) (late : List (Nat × Nat)) (s : State) : Host.Outcome State Fault Refusal := s.does true (·.weightDeadline uplink late)

/-- CORE_FRAME (R335): a VC5 core frame arrives. -/
def execCoreFrame (payload : List Byte) (poison : Bool) (s : State) : Host.Outcome State Fault Refusal := s.does (s.domOn Dom.ctl) (·.coreFrame payload poison)

/-- TRIM_LOG_POP (R349): an agent reads TRIM_LOG. -/
def execTrimLogPop (agent : Nat) (s : State) : Host.Outcome State Fault Refusal := s.rd true agent A.BFM.TRIM_LOG State.trimPop

/-- RA_OCC (R351, R352): the command opens a random-access occasion. -/
def execRaOcc (issuer : Nat) (carrier : Nat) (trig : Nat) (payload : List Word) (s : State) : Host.Outcome State Fault Refusal :=
  s.does (issuer < 34 && carrier < 4) (·.symCmd 18 0x500 issuer carrier trig payload)

/-- OCCASION_QUEUED (R361): the last window of an occasion ends, with the samples of each search slot and path. -/
def execOccasionQueued (data : List (List (List Cplx))) (s : State) : Host.Outcome State Fault Refusal := s.does true (·.occQueued data)

/-- RA_DONE (R357 to R360): the result of an occasion is written and sent. -/
def execRaDone (s : State) : Host.Outcome State Fault Refusal := s.does true State.raDone

/-- CORES_COMPLETE (R333): the head finishes the cores and multicasts them. -/
def execCoresComplete (s : State) : Host.Outcome State Fault Refusal := s.does true State.coresComplete

end Sys2Proof.Machine
end

