-- ==== Sys2Proof/Machine/CmdThermal.lean ====
section
/-! DEFINITION. Temperature, thermal shutdown and housekeeping conversions (chapters 19 and 20): what each command does. -/

namespace Sys2Proof.Machine
open Sys2Proof

/-- SENSOR_READING (R517 to R527): a sensor is read; the value in 1/16 °C. -/
def execSensorReading (sensor : Nat) (value : Int) (s : State) : Host.Outcome State Fault Refusal := s.does (sensor < 48) (·.sensorRead sensor value)

/-- ESCALATE_DWELL (R521): the escalate condition has held for ESC_DWELL. -/
def execEscalateDwell (s : State) : Host.Outcome State Fault Refusal := s.does true State.escalate

/-- RELAX_DWELL (R521): the relax condition has held for RELAX. -/
def execRelaxDwell (s : State) : Host.Outcome State Fault Refusal := s.does true State.relax

/-- FAIL_CLR (R526): an agent writes S_CTRL.FAIL_CLR = 1 and leaves the other fields as they are. -/
def execFailClr (agent : Nat) (sensor : Nat) (s : State) : Host.Outcome State Fault Refusal :=
  s.wr (sensor < 48) agent (A.THM.S_CTRL sensor) (fun s => s.wrTHM agent (A.THM.S_CTRL sensor) (setBits (s.reg (A.THM.S_CTRL sensor)).toNat 0 0 1))

/-- SHUTDOWN_POWER_OFF (R527): the shutdown switches the domains off. -/
def execShutdownPowerOff (s : State) : Host.Outcome State Fault Refusal := s.does true State.shutdownOff

/-- AON_SENSOR_READING (R528, R529): the AON comparator reads its sensor; the value in 1/16 °C. -/
def execAonSensorReading (value : Int) (s : State) : Host.Outcome State Fault Refusal := s.does true (·.aonRead value)

/-- THM_INJ_SHDN (R531): an agent writes THM_INJ.SHDN = 1 for a sensor. -/
def execThmInjShdn (agent : Nat) (sensor : Nat) (s : State) : Host.Outcome State Fault Refusal :=
  s.wr (sensor < 48) agent A.THM.THM_INJ (fun s => s.injWrite agent A.THM.THM_INJ (·.thmInj (2 ^ 17 + sensor)))

/-- THM_INJ_FAIL (R531): an agent writes THM_INJ.FAIL = 1 for a sensor. -/
def execThmInjFail (agent : Nat) (sensor : Nat) (s : State) : Host.Outcome State Fault Refusal :=
  s.wr (sensor < 48) agent A.THM.THM_INJ (fun s => s.injWrite agent A.THM.THM_INJ (·.thmInj (2 ^ 16 + sensor)))

/-- THM_INJ_OFS (R531): an agent writes THM_INJ.OFS for a sensor, as its 8 bits. -/
def execThmInjOfs (agent : Nat) (sensor : Nat) (ofs : Nat) (s : State) : Host.Outcome State Fault Refusal :=
  s.wr (sensor < 48 && ofs < 256) agent A.THM.THM_INJ (fun s => s.injWrite agent A.THM.THM_INJ (·.thmInj (256 * ofs + sensor)))

/-- HK_CONVERSION_DONE (R535 to R542): a conversion completes with its codes (the second of a pair or a chopped one). -/
def execHkConversionDone (conv : Nat) (codeA : Int) (codeB : Int) (s : State) : Host.Outcome State Fault Refusal :=
  s.does (conv < 2) (·.conversionEnd conv codeA codeB)

/-- PLAUS_START (R540): both converters convert channel 39. -/
def execPlausStart (s : State) : Host.Outcome State Fault Refusal := s.does true State.plausStart

/-- HARVEST (R538): an agent reads HARVESTk. -/
def execHarvest (agent : Nat) (acc : Nat) (s : State) : Host.Outcome State Fault Refusal := s.rd (acc < 64) agent (A.HKA.HARVEST acc) (·.harvest agent acc)

/-- HARVEST_PERIOD_END (R539): a harvest period ends. -/
def execHarvestPeriodEnd (s : State) : Host.Outcome State Fault Refusal := s.does true State.harvestPeriod

/-- URGENT_REQUEST (R542): a requester asks for an urgent conversion. -/
def execUrgentRequest (source : Nat) (s : State) : Host.Outcome State Fault Refusal := s.does (source < 16) (·.urgentRequest source)

/-- HK_INJ (R541): an agent writes HK_INJ.OFS, as its 8 bits. -/
def execHkInj (agent : Nat) (ofs : Nat) (s : State) : Host.Outcome State Fault Refusal := s.wr (ofs < 256) agent A.HKA.HK_INJ (·.hkInj agent ofs)

end Sys2Proof.Machine
end

