-- ==== Sys2Proof/Machine/CmdTime.lean ====
section
/-! DEFINITION. Time bases and their exchanges, the timeline, SYNC pulses and the network-listen receiver (chapter 6): what each command does. -/

namespace Sys2Proof.Machine
open Sys2Proof

/-- CAPTURE (R174): an agent writes CAP_CTRL.CAPTURE = 1 of a host's bank. -/
def execCapture (agent : Nat) (host : Nat) (s : State) : Host.Outcome State Fault Refusal :=
  s.wr (host < 2) agent (A.TIM.CAP_CTRL host) (·.acts (·.capture host))

/-- TB_WRAP (R173): a time base passes from 0xFFFF_FFFF to 0. -/
def execTbWrap (base : Nat) (s : State) : Host.Outcome State Fault Refusal := s.does (base < 4) (·.tbWrap base)

/-- TB_HALF (R173): a time base passes 0x8000_0000. -/
def execTbHalf (base : Nat) (s : State) : Host.Outcome State Fault Refusal := s.does (base < 4) (·.tbHalf base)

/-- TB_STEP (R175): an agent writes a signed step in ns, as a 32-bit word. -/
def execTbStep (agent : Nat) (base : Nat) (step : Nat) (s : State) : Host.Outcome State Fault Refusal :=
  s.wr (base < 4) agent (A.TIM.TB_STEP base) (·.wrStep agent base step)

/-- TB_TALLY_SET (R175): an agent replaces a base's wrap tally. -/
def execTbTallySet (agent : Nat) (base : Nat) (tally : Nat) (s : State) : Host.Outcome State Fault Refusal :=
  s.wr (base < 4) agent (A.TIM.TB_TALLY_SET base) (·.wrTally agent base tally)

/-- TB_DISC_MODE (R179, R194): an agent writes TB_DISC.MODE and leaves the other fields as they are. -/
def execTbDiscMode (agent : Nat) (base : Nat) (mode : Nat) (s : State) : Host.Outcome State Fault Refusal :=
  s.wr (base < 4 && mode < 4) agent (A.TIM.TB_DISC base) (fun s => s.wrDisc agent base (s.withField (F.TIM.TB_DISC_MODE base) mode))

/-- SYNC_SEND (R178): a master sends a SYNC of a base on a port. -/
def execSyncSend (base : Nat) (port : Nat) (s : State) : Host.Outcome State Fault Refusal := s.does (base < 2 && port < 6) (·.syncSend base port)

/-- SYNC (R176 to R178): a SYNC arrives with the master's stamp t1 in 1/16 ns, servo state and stratum. -/
def execSync (base : Nat) (port : Nat) (exch : Nat) (t1 : Nat) (state : Nat) (stratum : Nat) (s : State) : Host.Outcome State Fault Refusal :=
  s.does (base < 2 && frameFrom s port) (fun s => let s := s.tickFree; s.syncIn base port exch (t1 % 2 ^ 44) state stratum (s.rxStamp base (s.logical port)))

/-- DELAY_REQ (R178): a DELAY_REQ arrives. -/
def execDelayReq (base : Nat) (port : Nat) (exch : Nat) (s : State) : Host.Outcome State Fault Refusal :=
  s.does (base < 2 && frameFrom s port) (fun s => let s := s.tickFree; s.delayReq base port exch (s.rxStamp base (s.logical port)))

/-- DELAY_RESP (R178, R179): a DELAY_RESP arrives with the master's stamp t4 in 1/16 ns. -/
def execDelayResp (base : Nat) (port : Nat) (exch : Nat) (t4 : Nat) (s : State) : Host.Outcome State Fault Refusal :=
  s.does (base < 2 && frameFrom s port) (·.delayResp base port exch (t4 % 2 ^ 44))

/-- EXCHANGE_TIMEOUT (R178): the exchange open longest is not complete 1 ms after t2. -/
def execExchangeTimeout (s : State) : Host.Outcome State Fault Refusal := s.does true State.exchDue

/-- SYNC_MISS (R178, R179): the SYNC expected first has not come by its instant. -/
def execSyncMiss (s : State) : Host.Outcome State Fault Refusal := s.does true State.syncMissDue

/-- TL_ARM (R181): an agent writes TL_CTRL.ARM = 1. -/
def execTlArm (agent : Nat) (s : State) : Host.Outcome State Fault Refusal := s.wr true agent A.TIM.TL_CTRL (·.wrTlCtrl agent 1)

/-- TL_CLEAR (R181): an agent writes TL_CTRL.CLEAR = 1. -/
def execTlClear (agent : Nat) (s : State) : Host.Outcome State Fault Refusal := s.wr true agent A.TIM.TL_CTRL (·.wrTlCtrl agent 2)

/-- TL_STARTED (R182, R600): the followed base reaches the armed start. -/
def execTlStarted (s : State) : Host.Outcome State Fault Refusal := s.does true State.tlStart

/-- TIMELINE_RESUME (R49, R182): RUN resumes from COAST. -/
def execTimelineResume (s : State) : Host.Outcome State Fault Refusal := s.does true State.tlResume

/-- ALT_MEASURE (R184): TIM measures the ALT base against the timeline. -/
def execAltMeasure (s : State) : Host.Outcome State Fault Refusal := s.does true State.altMeasure

/-- GRID_MS_BOUNDARY (R186): a 1 ms boundary of the grid passes. -/
def execGridMsBoundary (s : State) : Host.Outcome State Fault Refusal := s.does true State.gridMs

/-- SYNC_IN_EDGE (R187): an edge of SYNC_IN, measured in ps against the grid; `mark`: its pulse marks a frame. -/
def execSyncInEdge (raw : Int) (mark : Bool) (s : State) : Host.Outcome State Fault Refusal := s.does true (·.syncEdge raw mark)

/-- SYNC_LOSS (R188): no edge has come within 1.5 ms. -/
def execSyncLoss (s : State) : Host.Outcome State Fault Refusal := s.does true State.syncLoss

/-- NL_DETECT (R189 to R192): the receiver correlates the samples of both aerials up to an instant. -/
def execNlDetect (beforeA : List Nat) (beforeB : List Nat) (samplesA : List Nat) (samplesB : List Nat) (instant : Nat) (s : State) : Host.Outcome State Fault Refusal :=
  s.does true (·.nlDetect (beforeA, samplesA) (beforeB, samplesB) instant)

/-- NL_WINDOW_END (R190): a TRACK window ends. -/
def execNlWindowEnd (samplesA : List Nat) (samplesB : List Nat) (s : State) : Host.Outcome State Fault Refusal := s.does true (·.nlWindowEnd samplesA samplesB)

end Sys2Proof.Machine
end

