-- ==== Sys2Proof/Machine/InstrAlu.lean ====
section
/-! DEFINITION. Core instructions of the ALU, ALU-immediate, MAC and move classes (R404 to R408, R411): what each command does. -/

namespace Sys2Proof.Machine
open Sys2Proof

/-- ADD (R404): rd := ra + rb. -/
def execIAdd (core : Nat) (rd : Nat) (ra : Nat) (rb : Nat) (s : State) : Host.Outcome State Fault Refusal := s.issues core (.alu .add rd ra rb)

/-- SUB (R404): rd := ra - rb. -/
def execISub (core : Nat) (rd : Nat) (ra : Nat) (rb : Nat) (s : State) : Host.Outcome State Fault Refusal := s.issues core (.alu .sub rd ra rb)

/-- AND (R404): bitwise AND. -/
def execIAnd (core : Nat) (rd : Nat) (ra : Nat) (rb : Nat) (s : State) : Host.Outcome State Fault Refusal := s.issues core (.alu .and_ rd ra rb)

/-- OR (R404): bitwise OR. -/
def execIOr (core : Nat) (rd : Nat) (ra : Nat) (rb : Nat) (s : State) : Host.Outcome State Fault Refusal := s.issues core (.alu .or_ rd ra rb)

/-- XOR (R404): bitwise XOR. -/
def execIXor (core : Nat) (rd : Nat) (ra : Nat) (rb : Nat) (s : State) : Host.Outcome State Fault Refusal := s.issues core (.alu .xor_ rd ra rb)

/-- SHL (R404): shift left. -/
def execIShl (core : Nat) (rd : Nat) (ra : Nat) (rb : Nat) (s : State) : Host.Outcome State Fault Refusal := s.issues core (.alu .shl rd ra rb)

/-- SHR (R404): logical shift right. -/
def execIShr (core : Nat) (rd : Nat) (ra : Nat) (rb : Nat) (s : State) : Host.Outcome State Fault Refusal := s.issues core (.alu .shr rd ra rb)

/-- ASR (R404): arithmetic shift right. -/
def execIAsr (core : Nat) (rd : Nat) (ra : Nat) (rb : Nat) (s : State) : Host.Outcome State Fault Refusal := s.issues core (.alu .asr rd ra rb)

/-- MIN (R404): signed minimum. -/
def execIMin (core : Nat) (rd : Nat) (ra : Nat) (rb : Nat) (s : State) : Host.Outcome State Fault Refusal := s.issues core (.alu .min_ rd ra rb)

/-- MAX (R404): signed maximum. -/
def execIMax (core : Nat) (rd : Nat) (ra : Nat) (rb : Nat) (s : State) : Host.Outcome State Fault Refusal := s.issues core (.alu .max_ rd ra rb)

/-- ABS (R404): absolute value. -/
def execIAbs (core : Nat) (rd : Nat) (ra : Nat) (rb : Nat) (s : State) : Host.Outcome State Fault Refusal := s.issues core (.alu .abs_ rd ra rb)

/-- CMP (R404): flags of ra - rb. -/
def execICmp (core : Nat) (rd : Nat) (ra : Nat) (rb : Nat) (s : State) : Host.Outcome State Fault Refusal := s.issues core (.alu .cmp rd ra rb)

/-- TST (R404): flags of ra AND rb. -/
def execITst (core : Nat) (rd : Nat) (ra : Nat) (rb : Nat) (s : State) : Host.Outcome State Fault Refusal := s.issues core (.alu .tst rd ra rb)

/-- MUL16 (R404): exact product of the low halves. -/
def execIMul16 (core : Nat) (rd : Nat) (ra : Nat) (rb : Nat) (s : State) : Host.Outcome State Fault Refusal := s.issues core (.alu .mul16 rd ra rb)

/-- NORM (R404): count of redundant sign bits. -/
def execINorm (core : Nat) (rd : Nat) (ra : Nat) (rb : Nat) (s : State) : Host.Outcome State Fault Refusal := s.issues core (.alu .norm rd ra rb)

/-- CADD (R404): packed complex sum. -/
def execICadd (core : Nat) (rd : Nat) (ra : Nat) (rb : Nat) (s : State) : Host.Outcome State Fault Refusal := s.issues core (.alu .cadd rd ra rb)

/-- CSUB (R404): packed complex difference. -/
def execICsub (core : Nat) (rd : Nat) (ra : Nat) (rb : Nat) (s : State) : Host.Outcome State Fault Refusal := s.issues core (.alu .csub rd ra rb)

/-- CONJ (R404): packed conjugate. -/
def execIConj (core : Nat) (rd : Nat) (ra : Nat) (rb : Nat) (s : State) : Host.Outcome State Fault Refusal := s.issues core (.alu .conj rd ra rb)

/-- ASET (R404): accumulator from a register. -/
def execIAset (core : Nat) (rd : Nat) (ra : Nat) (rb : Nat) (s : State) : Host.Outcome State Fault Refusal := s.issues core (.alu .aset rd ra rb)

/-- AADD (R404): sum of accumulators. -/
def execIAadd (core : Nat) (rd : Nat) (ra : Nat) (rb : Nat) (s : State) : Host.Outcome State Fault Refusal := s.issues core (.alu .aadd rd ra rb)

/-- ASUB (R404): difference of accumulators. -/
def execIAsub (core : Nat) (rd : Nat) (ra : Nat) (rb : Nat) (s : State) : Host.Outcome State Fault Refusal := s.issues core (.alu .asub rd ra rb)

/-- ASHR (R404): accumulator shift. -/
def execIAshr (core : Nat) (rd : Nat) (ra : Nat) (rb : Nat) (s : State) : Host.Outcome State Fault Refusal := s.issues core (.alu .ashr rd ra rb)

/-- ANEG (R404): accumulator negation. -/
def execIAneg (core : Nat) (rd : Nat) (ra : Nat) (rb : Nat) (s : State) : Host.Outcome State Fault Refusal := s.issues core (.alu .aneg rd ra rb)

/-- MOVR (R402, R405): copy of a register, by 6-bit codes. -/
def execIMovr (core : Nat) (dst : Nat) (src : Nat) (s : State) : Host.Outcome State Fault Refusal := s.issues core (.movr dst src)

/-- ADDI (R406): signed immediate; IMM14 as its 14 bits. -/
def execIAddi (core : Nat) (rd : Nat) (ra : Nat) (imm : Nat) (s : State) : Host.Outcome State Fault Refusal := s.issues core (.imm .addi rd ra imm)

/-- ANDI (R406): zero-extended immediate; IMM14 as its 14 bits. -/
def execIAndi (core : Nat) (rd : Nat) (ra : Nat) (imm : Nat) (s : State) : Host.Outcome State Fault Refusal := s.issues core (.imm .andi rd ra imm)

/-- ORI (R406): zero-extended immediate; IMM14 as its 14 bits. -/
def execIOri (core : Nat) (rd : Nat) (ra : Nat) (imm : Nat) (s : State) : Host.Outcome State Fault Refusal := s.issues core (.imm .ori rd ra imm)

/-- XORI (R406): zero-extended immediate; IMM14 as its 14 bits. -/
def execIXori (core : Nat) (rd : Nat) (ra : Nat) (imm : Nat) (s : State) : Host.Outcome State Fault Refusal := s.issues core (.imm .xori rd ra imm)

/-- SHLI (R406): shift left; IMM14 as its 14 bits. -/
def execIShli (core : Nat) (rd : Nat) (ra : Nat) (imm : Nat) (s : State) : Host.Outcome State Fault Refusal := s.issues core (.imm .shli rd ra imm)

/-- SHRI (R406): logical shift right; IMM14 as its 14 bits. -/
def execIShri (core : Nat) (rd : Nat) (ra : Nat) (imm : Nat) (s : State) : Host.Outcome State Fault Refusal := s.issues core (.imm .shri rd ra imm)

/-- ASRI (R406): arithmetic shift right; IMM14 as its 14 bits. -/
def execIAsri (core : Nat) (rd : Nat) (ra : Nat) (imm : Nat) (s : State) : Host.Outcome State Fault Refusal := s.issues core (.imm .asri rd ra imm)

/-- CMPI (R406): flags of ra minus the signed immediate; IMM14 as its 14 bits. -/
def execICmpi (core : Nat) (rd : Nat) (ra : Nat) (imm : Nat) (s : State) : Host.Outcome State Fault Refusal := s.issues core (.imm .cmpi rd ra imm)

/-- LUI (R406): the immediate to the upper half. -/
def execILui (core : Nat) (dst : Nat) (imm : Nat) (s : State) : Host.Outcome State Fault Refusal := s.issues core (.lui dst imm)

/-- LLI (R406): the immediate to the lower half. -/
def execILli (core : Nat) (dst : Nat) (imm : Nat) (s : State) : Host.Outcome State Fault Refusal := s.issues core (.lli dst imm)

/-- PADDI (R406): a signed immediate added to a pointer. -/
def execIPaddi (core : Nat) (p : Nat) (imm : Nat) (s : State) : Host.Outcome State Fault Refusal := s.issues core (.paddi p imm)

/-- MOVI (R406): the sign-extended immediate. -/
def execIMovi (core : Nat) (dst : Nat) (imm : Nat) (s : State) : Host.Outcome State Fault Refusal := s.issues core (.movi dst imm)

/-- CMAC (R407, R408): complex product accumulated in pair k, operands by their 10-bit specs. -/
def execICmac (core : Nat) (k : Nat) (cj : Bool) (ng : Bool) (x : Nat) (y : Nat) (s : State) : Host.Outcome State Fault Refusal :=
  s.issuesOut core (.mac 0 k cj ng x y)

/-- RMAC2 (R407, R408): two real products accumulated in pair k, operands by their 10-bit specs. -/
def execIRmac2 (core : Nat) (k : Nat) (cj : Bool) (ng : Bool) (x : Nat) (y : Nat) (s : State) : Host.Outcome State Fault Refusal :=
  s.issuesOut core (.mac 1 k cj ng x y)

/-- CMUL (R407, R408): complex product in pair k, operands by their 10-bit specs. -/
def execICmul (core : Nat) (k : Nat) (cj : Bool) (ng : Bool) (x : Nat) (y : Nat) (s : State) : Host.Outcome State Fault Refusal :=
  s.issuesOut core (.mac 2 k cj ng x y)

/-- RMUL2 (R407, R408): two real products in pair k, operands by their 10-bit specs. -/
def execIRmul2 (core : Nat) (k : Nat) (cj : Bool) (ng : Bool) (x : Nat) (y : Nat) (s : State) : Host.Outcome State Fault Refusal :=
  s.issuesOut core (.mac 3 k cj ng x y)

/-- MVW (R411): an accumulator scaled and saturated to a register. -/
def execIMvw (core : Nat) (rd : Nat) (a : Nat) (s : State) : Host.Outcome State Fault Refusal := s.issues core (.mvw rd a)

/-- MVP (R411): an accumulator pair as a packed value. -/
def execIMvp (core : Nat) (rd : Nat) (a : Nat) (s : State) : Host.Outcome State Fault Refusal := s.issues core (.mvp rd a)

/-- BLKEND (R386): closes a block and sets the next block shift. -/
def execIBlkend (core : Nat) (s : State) : Host.Outcome State Fault Refusal := s.issues core .blkend

end Sys2Proof.Machine
end

