-- ==== Sys2Proof/Machine/InstrFlow.lean ====
section
/-! DEFINITION. Core instructions that branch, repeat and loop (R380, R381, R412 to R416): what each command does. -/

namespace Sys2Proof.Machine
open Sys2Proof

/-- BRANCH (R412, R413): a conditional branch with two delay slots; the offset as its 22 bits. -/
def execIBranch (core : Nat) (cond : Nat) (off : Nat) (s : State) : Host.Outcome State Fault Refusal := s.issues core (.branch cond off)

/-- CALL (R413): LINK is written and the core branches. -/
def execICall (core : Nat) (cond : Nat) (off : Nat) (s : State) : Host.Outcome State Fault Refusal := s.issues core (.call cond off)

/-- RETURN (R413): a jump to LINK. -/
def execIReturn (core : Nat) (cond : Nat) (s : State) : Host.Outcome State Fault Refusal := s.issues core (.ret cond)

/-- JUMP_REGISTER (R413): a jump to the address in a register. -/
def execIJumpRegister (core : Nat) (cond : Nat) (g : Nat) (s : State) : Host.Outcome State Fault Refusal := s.issues core (.jump cond g)

/-- RPT (R381, R414): the next instruction is repeated COUNT times. -/
def execIRpt (core : Nat) (count : Nat) (s : State) : Host.Outcome State Fault Refusal := s.issues core (.rpt count)

/-- RPTR (R414): a repeat with its count in a register. -/
def execIRptr (core : Nat) (g : Nat) (s : State) : Host.Outcome State Fault Refusal := s.issues core (.rptr g)

/-- LOOP (R415, R416): a loop level is armed with a count. -/
def execILoop (core : Nat) (lvl : Nat) (endw : Nat) (count : Nat) (s : State) : Host.Outcome State Fault Refusal := s.issues core (.loop lvl endw count)

/-- LOOPR (R415, R416): a loop level is armed with its count in a register. -/
def execILoopr (core : Nat) (lvl : Nat) (endw : Nat) (g : Nat) (s : State) : Host.Outcome State Fault Refusal := s.issues core (.loopr lvl endw g)

end Sys2Proof.Machine
end

