-- ==== Sys2Proof/Machine/InstrMem.lean ====
section
/-! DEFINITION. Core instructions that load and store (R369, R409, R410): what each command does. -/

namespace Sys2Proof.Machine
open Sys2Proof

/-- LOAD (R409): width code, sign extension, register, pointer, mode and argument. -/
def execILoad (core : Nat) (w : Nat) (sx : Bool) (g : Nat) (p : Nat) (mode : Nat) (arg : Nat) (s : State) : Host.Outcome State Fault Refusal :=
  s.issuesOut core (.load w sx g p mode arg)

/-- STORE (R409): width code, register, pointer, mode and argument. -/
def execIStore (core : Nat) (w : Nat) (g : Nat) (p : Nat) (mode : Nat) (arg : Nat) (s : State) : Host.Outcome State Fault Refusal :=
  s.issuesOut core (.store w g p mode arg)

/-- DUAL_ACCESS (R410): two 32-bit accesses, each with its direction, register, pointer and update. -/
def execIDualAccess (core : Nat) (xst : Bool) (yst : Bool) (gx : Nat) (px : Nat) (ux : Nat) (gy : Nat) (py : Nat) (uy : Nat) (s : State) : Host.Outcome State
    Fault Refusal :=
  s.issuesOut core (.dual xst yst gx px ux gy py uy)

end Sys2Proof.Machine
end

