-- ==== Sys2Proof/Machine/InstrSync.lean ====
section
/-! DEFINITION. Core instructions of the sync, accelerator-command and timeline classes (R417 to R425): what each command does. -/

namespace Sys2Proof.Machine
open Sys2Proof

/-- SEND (R417, R447 to R450): a message to an agent's inbox, with one status. -/
def execISend (core : Nat) (gs : Nat) (ga : Nat) (gb : Nat) (s : State) : Host.Outcome State Fault Refusal := s.issuesOut core (.send gs ga gb)

/-- RECV (R417, R451): the oldest message, or EMPTY. -/
def execIRecv (core : Nat) (gs : Nat) (ga : Nat) (s : State) : Host.Outcome State Fault Refusal := s.issuesOut core (.recv gs ga)

/-- RECVW (R417, R419): the oldest message, waiting for one. -/
def execIRecvw (core : Nat) (gs : Nat) (ga : Nat) (s : State) : Host.Outcome State Fault Refusal := s.issuesOut core (.recvw gs ga)

/-- RING (R417, R452): rings an agent's doorbell. -/
def execIRing (core : Nat) (gs : Nat) (gb : Nat) (s : State) : Host.Outcome State Fault Refusal := s.issuesOut core (.ring gs gb)

/-- ACQ (R417, R458, R459): acquires a semaphore, waiting in its queue. -/
def execIAcq (core : Nat) (gs : Nat) (n : Nat) (s : State) : Host.Outcome State Fault Refusal := s.issuesOut core (.acq gs n)

/-- TRYACQ (R417, R457): acquires a semaphore only if it is free. -/
def execITryacq (core : Nat) (gs : Nat) (n : Nat) (s : State) : Host.Outcome State Fault Refusal := s.issuesOut core (.tryacq gs n)

/-- REL (R417, R460): releases a semaphore. -/
def execIRel (core : Nat) (gs : Nat) (n : Nat) (s : State) : Host.Outcome State Fault Refusal := s.issuesOut core (.rel gs n)

/-- BAR (R417, R420): arrives at a barrier and waits for its other members. -/
def execIBar (core : Nat) (gs : Nat) (n : Nat) (s : State) : Host.Outcome State Fault Refusal := s.issuesOut core (.bar gs n)

/-- PUSH (R18 to R21, R422, R423): a command image to a block's table; `full`: the command crossing has no room. -/
def execIPush (core : Nat) (blk : Nat) (lsel : Nat) (gs : Nat) (gh : Nat) (p : Nat) (full : Bool) (s : State) : Host.Outcome State Fault Refusal :=
  (s.coreIssueWith core (.push blk lsel gs gh p) full).done

/-- SEAL (R15, R424, R599): seals the leader's staging tables. -/
def execISeal (core : Nat) (lsel : Nat) (gs : Nat) (s : State) : Host.Outcome State Fault Refusal := s.issuesOut core (.seal lsel gs)

/-- WSLOT (R425): waits for the next slot boundary of a leader's grid. -/
def execIWslot (core : Nat) (lsel : Nat) (s : State) : Host.Outcome State Fault Refusal := s.issuesOut core (.wslot lsel)

/-- WSYM (R425): waits for the start of a symbol. -/
def execIWsym (core : Nat) (gs : Nat) (sym : Nat) (lsel : Nat) (s : State) : Host.Outcome State Fault Refusal := s.issuesOut core (.wsym gs sym lsel)

/-- TTGT (R425): SLOT_STATUS of the leader. -/
def execITtgt (core : Nat) (g : Nat) (lsel : Nat) (s : State) : Host.Outcome State Fault Refusal := s.issues core (.ttgt g lsel)

/-- TNOW (R425): the present frame, slot and symbol. -/
def execITnow (core : Nat) (g : Nat) (lsel : Nat) (s : State) : Host.Outcome State Fault Refusal := s.issues core (.tnow g lsel)

end Sys2Proof.Machine
end

