-- ==== Sys2Proof/Machine/InstrSystem.lean ====
section
/-! DEFINITION. Core instructions of the system class, and words that are no instruction (R401, R426): what each command does. -/

namespace Sys2Proof.Machine
open Sys2Proof

/-- NOP (R426): does nothing. -/
def execINop (core : Nat) (s : State) : Host.Outcome State Fault Refusal := s.issues core .nop

/-- RETI (R383, R426): PC and SR come back from the save slot of the current level. -/
def execIReti (core : Nat) (s : State) : Host.Outcome State Fault Refusal := s.issues core .reti

/-- KICK (R388, R426): the watchdog count becomes 0. -/
def execIKick (core : Nat) (s : State) : Host.Outcome State Fault Refusal := s.issues core .kick

/-- STOP (R391, R426): the core stops. -/
def execIStop (core : Nat) (s : State) : Host.Outcome State Fault Refusal := s.issues core .stop

/-- EI (R426): maskable interrupts are enabled. -/
def execIEi (core : Nat) (s : State) : Host.Outcome State Fault Refusal := s.issues core .ei

/-- DI (R426): maskable interrupts are disabled. -/
def execIDi (core : Nat) (s : State) : Host.Outcome State Fault Refusal := s.issues core .di

/-- VETO (R426): the core's rest veto is set or cleared. -/
def execIVeto (core : Nat) (v : Bool) (s : State) : Host.Outcome State Fault Refusal := s.issues core (.veto v)

/-- BRK (R426): the core stops at itself; ILLEGAL in Deployed. -/
def execIBrk (core : Nat) (s : State) : Host.Outcome State Fault Refusal := s.issues core .brk

/-- RESERVED_ENCODING (R401): a core issues a word whose class or operation is reserved. -/
def execReservedEncoding (core : Nat) (word : Nat) (s : State) : Host.Outcome State Fault Refusal :=
  s.does (core < 34 && (decodeOp word).isNone) (·.issueWord core word)

end Sys2Proof.Machine
end

