-- ==== Sys2Proof/Machine/Dispatch.lean ====
section
/-! DEFINITION. The meaning of each command: one direct call for each constructor. -/

namespace Sys2Proof.Machine

def exec (i : Instr) (s : State) : Host.Outcome State Fault Refusal :=
  match i with
  | .slotBoundary leader => Sys2Proof.Machine.execSlotBoundary leader s
  | .symbolBoundary carrier => Sys2Proof.Machine.execSymbolBoundary carrier s
  | .stagingCutoff leader => Sys2Proof.Machine.execStagingCutoff leader s
  | .shdCommit agent blk => Sys2Proof.Machine.execShdCommit agent blk s
  | .shdDiscard agent blk => Sys2Proof.Machine.execShdDiscard agent blk s
  | .registerWrite agent addr value => Sys2Proof.Machine.execRegisterWrite agent addr value s
  | .resultDeadline blk frame slot => Sys2Proof.Machine.execResultDeadline blk frame slot s
  | .cmdNop blk issuer carrier trig payload => Sys2Proof.Machine.execCmdNop blk issuer carrier trig payload s
  | .commit blk issuer carrier trig payload => Sys2Proof.Machine.execCommit blk issuer carrier trig payload s
  | .pushComplete core => Sys2Proof.Machine.execPushComplete core s
  | .modeReq agent target => Sys2Proof.Machine.execModeReq agent target s
  | .modeTransitionApply => Sys2Proof.Machine.execModeTransitionApply s
  | .basecampExitDone => Sys2Proof.Machine.execBasecampExitDone s
  | .restReq agent budget => Sys2Proof.Machine.execRestReq agent budget s
  | .prepareStart => Sys2Proof.Machine.execPrepareStart s
  | .participantAnswer => Sys2Proof.Machine.execParticipantAnswer s
  | .prepTimeout => Sys2Proof.Machine.execPrepTimeout s
  | .restEntryComplete => Sys2Proof.Machine.execRestEntryComplete s
  | .restWake agent => Sys2Proof.Machine.execRestWake agent s
  | .microRestExit conv => Sys2Proof.Machine.execMicroRestExit conv s
  | .ledgeDecision => Sys2Proof.Machine.execLedgeDecision s
  | .ledgeExit => Sys2Proof.Machine.execLedgeExit s
  | .mgmtAddrMatch => Sys2Proof.Machine.execMgmtAddrMatch s
  | .wakeStart refclk upsets ue => Sys2Proof.Machine.execWakeStart refclk upsets ue s
  | .wakeRefclkTimeout => Sys2Proof.Machine.execWakeRefclkTimeout s
  | .padRelease agent mask => Sys2Proof.Machine.execPadRelease agent mask s
  | .porRelease => Sys2Proof.Machine.execPorRelease s
  | .supplyDip aon => Sys2Proof.Machine.execSupplyDip aon s
  | .resetPin => Sys2Proof.Machine.execResetPin s
  | .swReset agent key => Sys2Proof.Machine.execSwReset agent key s
  | .resetApply => Sys2Proof.Machine.execResetApply s
  | .resetSequence refclk => Sys2Proof.Machine.execResetSequence refclk s
  | .refclkPresent upsets ue => Sys2Proof.Machine.execRefclkPresent upsets ue s
  | .bootGo agent => Sys2Proof.Machine.execBootGo agent s
  | .bootVerifyDone => Sys2Proof.Machine.execBootVerifyDone s
  | .portEnable agent port => Sys2Proof.Machine.execPortEnable agent port s
  | .portDisable agent port => Sys2Proof.Machine.execPortDisable agent port s
  | .retrain agent port => Sys2Proof.Machine.execRetrain agent port s
  | .cairnReceived port lines skew fill full => Sys2Proof.Machine.execCairnReceived port lines skew fill full s
  | .ready port => Sys2Proof.Machine.execReady port s
  | .cairnMissing port lane => Sys2Proof.Machine.execCairnMissing port lane s
  | .losTimeout port => Sys2Proof.Machine.execLosTimeout port s
  | .trainTimeout port => Sys2Proof.Machine.execTrainTimeout port s
  | .signalReturn port => Sys2Proof.Machine.execSignalReturn port s
  | .txSleep agent port => Sys2Proof.Machine.execTxSleep agent port s
  | .rxSleep agent port => Sys2Proof.Machine.execRxSleep agent port s
  | .txWake agent port => Sys2Proof.Machine.execTxWake agent port s
  | .rxWake agent port => Sys2Proof.Machine.execRxWake agent port s
  | .sleepReq port => Sys2Proof.Machine.execSleepReq port s
  | .sleepAck port => Sys2Proof.Machine.execSleepAck port s
  | .sleepAsk port => Sys2Proof.Machine.execSleepAsk port s
  | .wakeReq port => Sys2Proof.Machine.execWakeReq port s
  | .deepReq port => Sys2Proof.Machine.execDeepReq port s
  | .deepAck port => Sys2Proof.Machine.execDeepAck port s
  | .sleepAckTimeout port => Sys2Proof.Machine.execSleepAckTimeout port s
  | .wakePatternDetected port => Sys2Proof.Machine.execWakePatternDetected port s
  | .dirWakeFail port => Sys2Proof.Machine.execDirWakeFail port s
  | .deepExitTimeout port => Sys2Proof.Machine.execDeepExitTimeout port s
  | .injBit agent port lane => Sys2Proof.Machine.execInjBit agent port lane s
  | .injStuff agent port lane => Sys2Proof.Machine.execInjStuff agent port lane s
  | .injCairnMiss agent port lane => Sys2Proof.Machine.execInjCairnMiss agent port lane s
  | .frameHeaderReceived port header => Sys2Proof.Machine.execFrameHeaderReceived port header s
  | .frameTailReceived port payload tail => Sys2Proof.Machine.execFrameTailReceived port payload tail s
  | .outputFrameEnd output => Sys2Proof.Machine.execOutputFrameEnd output s
  | .credit port cum => Sys2Proof.Machine.execCredit port cum s
  | .creditSend port => Sys2Proof.Machine.execCreditSend port s
  | .mreq port src seq payload => Sys2Proof.Machine.execMreq port src seq payload s
  | .bulkWrite port src seq addr xid data => Sys2Proof.Machine.execBulkWrite port src seq addr xid data s
  | .bulkWriteAck port src seq addr xid data => Sys2Proof.Machine.execBulkWriteAck port src seq addr xid data s
  | .bulkAck => Sys2Proof.Machine.execBulkAck s
  | .bondState port mask dist => Sys2Proof.Machine.execBondState port mask dist s
  | .ringBreak port addr => Sys2Proof.Machine.execRingBreak port addr s
  | .psum port frame poison => Sys2Proof.Machine.execPsum port frame poison s
  | .localBlockReady carrier sym part gram => Sys2Proof.Machine.execLocalBlockReady carrier sym part gram s
  | .psumHoldInstant => Sys2Proof.Machine.execPsumHoldInstant s
  | .capture agent host => Sys2Proof.Machine.execCapture agent host s
  | .tbWrap base => Sys2Proof.Machine.execTbWrap base s
  | .tbHalf base => Sys2Proof.Machine.execTbHalf base s
  | .tbStep agent base step => Sys2Proof.Machine.execTbStep agent base step s
  | .tbTallySet agent base tally => Sys2Proof.Machine.execTbTallySet agent base tally s
  | .tbDiscMode agent base mode => Sys2Proof.Machine.execTbDiscMode agent base mode s
  | .syncSend base port => Sys2Proof.Machine.execSyncSend base port s
  | .sync base port exch t1 state stratum => Sys2Proof.Machine.execSync base port exch t1 state stratum s
  | .delayReq base port exch => Sys2Proof.Machine.execDelayReq base port exch s
  | .delayResp base port exch t4 => Sys2Proof.Machine.execDelayResp base port exch t4 s
  | .exchangeTimeout => Sys2Proof.Machine.execExchangeTimeout s
  | .syncMiss => Sys2Proof.Machine.execSyncMiss s
  | .tlArm agent => Sys2Proof.Machine.execTlArm agent s
  | .tlClear agent => Sys2Proof.Machine.execTlClear agent s
  | .tlStarted => Sys2Proof.Machine.execTlStarted s
  | .timelineResume => Sys2Proof.Machine.execTimelineResume s
  | .altMeasure => Sys2Proof.Machine.execAltMeasure s
  | .gridMsBoundary => Sys2Proof.Machine.execGridMsBoundary s
  | .syncInEdge raw mark => Sys2Proof.Machine.execSyncInEdge raw mark s
  | .syncLoss => Sys2Proof.Machine.execSyncLoss s
  | .nlDetect beforeA beforeB samplesA samplesB instant => Sys2Proof.Machine.execNlDetect beforeA beforeB samplesA samplesB instant s
  | .nlWindowEnd samplesA samplesB => Sys2Proof.Machine.execNlWindowEnd samplesA samplesB s
  | .rxSym issuer carrier trig payload => Sys2Proof.Machine.execRxSym issuer carrier trig payload s
  | .gainSet issuer carrier trig payload => Sys2Proof.Machine.execGainSet issuer carrier trig payload s
  | .rxSymbolEnd path carrier before codes behind fault => Sys2Proof.Machine.execRxSymbolEnd path carrier before codes behind fault s
  | .layerBlockReceived data => Sys2Proof.Machine.execLayerBlockReceived data s
  | .layerFetch carrier => Sys2Proof.Machine.execLayerFetch carrier s
  | .layerMap issuer carrier trig payload => Sys2Proof.Machine.execLayerMap issuer carrier trig payload s
  | .txSym issuer carrier trig payload => Sys2Proof.Machine.execTxSym issuer carrier trig payload s
  | .pwrLoopUpdate => Sys2Proof.Machine.execPwrLoopUpdate s
  | .faultClr agent path => Sys2Proof.Machine.execFaultClr agent path s
  | .mlogPop agent => Sys2Proof.Machine.execMlogPop agent s
  | .dpdSwap issuer carrier trig payload => Sys2Proof.Machine.execDpdSwap issuer carrier trig payload s
  | .swap agent path => Sys2Proof.Machine.execSwap agent path s
  | .orxCaptureEnd orx peak observed drive neighbours => Sys2Proof.Machine.execOrxCaptureEnd orx peak observed drive neighbours s
  | .statReady => Sys2Proof.Machine.execStatReady s
  | .ctxOpen agent user carrier nports => Sys2Proof.Machine.execCtxOpen agent user carrier nports s
  | .ctxClose agent index => Sys2Proof.Machine.execCtxClose agent index s
  | .engineBoundary late => Sys2Proof.Machine.execEngineBoundary late s
  | .snd issuer carrier trig payload => Sys2Proof.Machine.execSnd issuer carrier trig payload s
  | .dlSched issuer carrier trig payload => Sys2Proof.Machine.execDlSched issuer carrier trig payload s
  | .ulSched issuer carrier trig payload => Sys2Proof.Machine.execUlSched issuer carrier trig payload s
  | .weightInstant late => Sys2Proof.Machine.execWeightInstant late s
  | .weightDeadline uplink late => Sys2Proof.Machine.execWeightDeadline uplink late s
  | .coreFrame payload poison => Sys2Proof.Machine.execCoreFrame payload poison s
  | .trimLogPop agent => Sys2Proof.Machine.execTrimLogPop agent s
  | .raOcc issuer carrier trig payload => Sys2Proof.Machine.execRaOcc issuer carrier trig payload s
  | .occasionQueued data => Sys2Proof.Machine.execOccasionQueued data s
  | .raDone => Sys2Proof.Machine.execRaDone s
  | .coreReset agent core => Sys2Proof.Machine.execCoreReset agent core s
  | .coreResetDone core => Sys2Proof.Machine.execCoreResetDone core s
  | .coreStop agent core => Sys2Proof.Machine.execCoreStop agent core s
  | .coreStart agent core => Sys2Proof.Machine.execCoreStart agent core s
  | .coreStep agent core => Sys2Proof.Machine.execCoreStep agent core s
  | .coreKick agent core => Sys2Proof.Machine.execCoreKick agent core s
  | .coreSoft agent core => Sys2Proof.Machine.execCoreSoft agent core s
  | .accessComplete core => Sys2Proof.Machine.execAccessComplete core s
  | .interruptEntry core => Sys2Proof.Machine.execInterruptEntry core s
  | .wdtWarn => Sys2Proof.Machine.execWdtWarn s
  | .wdtExpire => Sys2Proof.Machine.execWdtExpire s
  | .iAdd core rd ra rb => Sys2Proof.Machine.execIAdd core rd ra rb s
  | .iSub core rd ra rb => Sys2Proof.Machine.execISub core rd ra rb s
  | .iAnd core rd ra rb => Sys2Proof.Machine.execIAnd core rd ra rb s
  | .iOr core rd ra rb => Sys2Proof.Machine.execIOr core rd ra rb s
  | .iXor core rd ra rb => Sys2Proof.Machine.execIXor core rd ra rb s
  | .iShl core rd ra rb => Sys2Proof.Machine.execIShl core rd ra rb s
  | .iShr core rd ra rb => Sys2Proof.Machine.execIShr core rd ra rb s
  | .iAsr core rd ra rb => Sys2Proof.Machine.execIAsr core rd ra rb s
  | .iMin core rd ra rb => Sys2Proof.Machine.execIMin core rd ra rb s
  | .iMax core rd ra rb => Sys2Proof.Machine.execIMax core rd ra rb s
  | .iAbs core rd ra rb => Sys2Proof.Machine.execIAbs core rd ra rb s
  | .iCmp core rd ra rb => Sys2Proof.Machine.execICmp core rd ra rb s
  | .iTst core rd ra rb => Sys2Proof.Machine.execITst core rd ra rb s
  | .iMul16 core rd ra rb => Sys2Proof.Machine.execIMul16 core rd ra rb s
  | .iNorm core rd ra rb => Sys2Proof.Machine.execINorm core rd ra rb s
  | .iCadd core rd ra rb => Sys2Proof.Machine.execICadd core rd ra rb s
  | .iCsub core rd ra rb => Sys2Proof.Machine.execICsub core rd ra rb s
  | .iConj core rd ra rb => Sys2Proof.Machine.execIConj core rd ra rb s
  | .iAset core rd ra rb => Sys2Proof.Machine.execIAset core rd ra rb s
  | .iAadd core rd ra rb => Sys2Proof.Machine.execIAadd core rd ra rb s
  | .iAsub core rd ra rb => Sys2Proof.Machine.execIAsub core rd ra rb s
  | .iAshr core rd ra rb => Sys2Proof.Machine.execIAshr core rd ra rb s
  | .iAneg core rd ra rb => Sys2Proof.Machine.execIAneg core rd ra rb s
  | .iMovr core dst src => Sys2Proof.Machine.execIMovr core dst src s
  | .iAddi core rd ra imm => Sys2Proof.Machine.execIAddi core rd ra imm s
  | .iAndi core rd ra imm => Sys2Proof.Machine.execIAndi core rd ra imm s
  | .iOri core rd ra imm => Sys2Proof.Machine.execIOri core rd ra imm s
  | .iXori core rd ra imm => Sys2Proof.Machine.execIXori core rd ra imm s
  | .iShli core rd ra imm => Sys2Proof.Machine.execIShli core rd ra imm s
  | .iShri core rd ra imm => Sys2Proof.Machine.execIShri core rd ra imm s
  | .iAsri core rd ra imm => Sys2Proof.Machine.execIAsri core rd ra imm s
  | .iCmpi core rd ra imm => Sys2Proof.Machine.execICmpi core rd ra imm s
  | .iLui core dst imm => Sys2Proof.Machine.execILui core dst imm s
  | .iLli core dst imm => Sys2Proof.Machine.execILli core dst imm s
  | .iPaddi core p imm => Sys2Proof.Machine.execIPaddi core p imm s
  | .iMovi core dst imm => Sys2Proof.Machine.execIMovi core dst imm s
  | .iCmac core k cj ng x y => Sys2Proof.Machine.execICmac core k cj ng x y s
  | .iRmac2 core k cj ng x y => Sys2Proof.Machine.execIRmac2 core k cj ng x y s
  | .iCmul core k cj ng x y => Sys2Proof.Machine.execICmul core k cj ng x y s
  | .iRmul2 core k cj ng x y => Sys2Proof.Machine.execIRmul2 core k cj ng x y s
  | .iLoad core w sx g p mode arg => Sys2Proof.Machine.execILoad core w sx g p mode arg s
  | .iStore core w g p mode arg => Sys2Proof.Machine.execIStore core w g p mode arg s
  | .iDualAccess core xst yst gx px ux gy py uy => Sys2Proof.Machine.execIDualAccess core xst yst gx px ux gy py uy s
  | .iMvw core rd a => Sys2Proof.Machine.execIMvw core rd a s
  | .iMvp core rd a => Sys2Proof.Machine.execIMvp core rd a s
  | .iBlkend core => Sys2Proof.Machine.execIBlkend core s
  | .iBranch core cond off => Sys2Proof.Machine.execIBranch core cond off s
  | .iCall core cond off => Sys2Proof.Machine.execICall core cond off s
  | .iReturn core cond => Sys2Proof.Machine.execIReturn core cond s
  | .iJumpRegister core cond g => Sys2Proof.Machine.execIJumpRegister core cond g s
  | .iRpt core count => Sys2Proof.Machine.execIRpt core count s
  | .iRptr core g => Sys2Proof.Machine.execIRptr core g s
  | .iLoop core lvl endw count => Sys2Proof.Machine.execILoop core lvl endw count s
  | .iLoopr core lvl endw g => Sys2Proof.Machine.execILoopr core lvl endw g s
  | .iSend core gs ga gb => Sys2Proof.Machine.execISend core gs ga gb s
  | .iRecv core gs ga => Sys2Proof.Machine.execIRecv core gs ga s
  | .iRecvw core gs ga => Sys2Proof.Machine.execIRecvw core gs ga s
  | .iRing core gs gb => Sys2Proof.Machine.execIRing core gs gb s
  | .iAcq core gs n => Sys2Proof.Machine.execIAcq core gs n s
  | .iTryacq core gs n => Sys2Proof.Machine.execITryacq core gs n s
  | .iRel core gs n => Sys2Proof.Machine.execIRel core gs n s
  | .iBar core gs n => Sys2Proof.Machine.execIBar core gs n s
  | .iPush core blk lsel gs gh p full => Sys2Proof.Machine.execIPush core blk lsel gs gh p full s
  | .iSeal core lsel gs => Sys2Proof.Machine.execISeal core lsel gs s
  | .iWslot core lsel => Sys2Proof.Machine.execIWslot core lsel s
  | .iWsym core gs sym lsel => Sys2Proof.Machine.execIWsym core gs sym lsel s
  | .iTtgt core g lsel => Sys2Proof.Machine.execITtgt core g lsel s
  | .iTnow core g lsel => Sys2Proof.Machine.execITnow core g lsel s
  | .iNop core => Sys2Proof.Machine.execINop core s
  | .iReti core => Sys2Proof.Machine.execIReti core s
  | .iKick core => Sys2Proof.Machine.execIKick core s
  | .iStop core => Sys2Proof.Machine.execIStop core s
  | .iEi core => Sys2Proof.Machine.execIEi core s
  | .iDi core => Sys2Proof.Machine.execIDi core s
  | .iVeto core v => Sys2Proof.Machine.execIVeto core v s
  | .iBrk core => Sys2Proof.Machine.execIBrk core s
  | .waitTimeout agent => Sys2Proof.Machine.execWaitTimeout agent s
  | .arbRequest id addr write realTime beats cycle => Sys2Proof.Machine.execArbRequest id addr write realTime beats cycle s
  | .burstBoundary bank cycle => Sys2Proof.Machine.execBurstBoundary bank cycle s
  | .starve bank cycle => Sys2Proof.Machine.execStarve bank cycle s
  | .postCmd agent owner word => Sys2Proof.Machine.execPostCmd agent owner word s
  | .postComplete agent index => Sys2Proof.Machine.execPostComplete agent index s
  | .compPop agent owner => Sys2Proof.Machine.execCompPop agent owner s
  | .lfsrSeed agent seed => Sys2Proof.Machine.execLfsrSeed agent seed s
  | .hostSend agent host word => Sys2Proof.Machine.execHostSend agent host word s
  | .hostRecv agent host => Sys2Proof.Machine.execHostRecv agent host s
  | .dbRing agent host target => Sys2Proof.Machine.execDbRing agent host target s
  | .ringWakeDone => Sys2Proof.Machine.execRingWakeDone s
  | .hostRestart agent host => Sys2Proof.Machine.execHostRestart agent host s
  | .poolRegister agent owner pool size => Sys2Proof.Machine.execPoolRegister agent owner pool size s
  | .poolRelease agent owner pool => Sys2Proof.Machine.execPoolRelease agent owner pool s
  | .hostAcq agent host sem => Sys2Proof.Machine.execHostAcq agent host sem s
  | .hostTryacq agent host sem => Sys2Proof.Machine.execHostTryacq agent host sem s
  | .hostRel agent host sem => Sys2Proof.Machine.execHostRel agent host sem s
  | .breakSem agent sem => Sys2Proof.Machine.execBreakSem agent sem s
  | .calFull agent => Sys2Proof.Machine.execCalFull agent s
  | .calRun issuer carrier trig payload => Sys2Proof.Machine.execCalRun issuer carrier trig payload s
  | .calResult kind path fail value => Sys2Proof.Machine.execCalResult kind path fail value s
  | .reload agent => Sys2Proof.Machine.execReload agent s
  | .planSwitch agent word => Sys2Proof.Machine.execPlanSwitch agent word s
  | .settlingWindowEnd => Sys2Proof.Machine.execSettlingWindowEnd s
  | .unlock => Sys2Proof.Machine.execUnlock s
  | .synthLock => Sys2Proof.Machine.execSynthLock s
  | .synthCalDone band trim residual => Sys2Proof.Machine.execSynthCalDone band trim residual s
  | .cancel agent => Sys2Proof.Machine.execCancel agent s
  | .clkSave agent => Sys2Proof.Machine.execClkSave agent s
  | .clkCal agent => Sys2Proof.Machine.execClkCal agent s
  | .txRxTurnround => Sys2Proof.Machine.execTxRxTurnround s
  | .rxTxTurnround => Sys2Proof.Machine.execRxTxTurnround s
  | .biasWrite agent dac word => Sys2Proof.Machine.execBiasWrite agent dac word s
  | .biasHoldRelease dac => Sys2Proof.Machine.execBiasHoldRelease dac s
  | .coexReqEdge port rise => Sys2Proof.Machine.execCoexReqEdge port rise s
  | .coexGntSample port carrier level => Sys2Proof.Machine.execCoexGntSample port carrier level s
  | .regSave agent => Sys2Proof.Machine.execRegSave agent s
  | .sensorReading sensor value => Sys2Proof.Machine.execSensorReading sensor value s
  | .escalateDwell => Sys2Proof.Machine.execEscalateDwell s
  | .relaxDwell => Sys2Proof.Machine.execRelaxDwell s
  | .failClr agent sensor => Sys2Proof.Machine.execFailClr agent sensor s
  | .shutdownPowerOff => Sys2Proof.Machine.execShutdownPowerOff s
  | .aonSensorReading value => Sys2Proof.Machine.execAonSensorReading value s
  | .thmInjShdn agent sensor => Sys2Proof.Machine.execThmInjShdn agent sensor s
  | .thmInjFail agent sensor => Sys2Proof.Machine.execThmInjFail agent sensor s
  | .thmInjOfs agent sensor ofs => Sys2Proof.Machine.execThmInjOfs agent sensor ofs s
  | .hkConversionDone conv codeA codeB => Sys2Proof.Machine.execHkConversionDone conv codeA codeB s
  | .plausStart => Sys2Proof.Machine.execPlausStart s
  | .harvest agent acc => Sys2Proof.Machine.execHarvest agent acc s
  | .harvestPeriodEnd => Sys2Proof.Machine.execHarvestPeriodEnd s
  | .urgentRequest source => Sys2Proof.Machine.execUrgentRequest source s
  | .hkInj agent ofs => Sys2Proof.Machine.execHkInj agent ofs s
  | .nvmCmd agent record length => Sys2Proof.Machine.execNvmCmd agent record length s
  | .nvmWordWriteDone => Sys2Proof.Machine.execNvmWordWriteDone s
  | .lcReq agent key target => Sys2Proof.Machine.execLcReq agent key target s
  | .lcAuthDone => Sys2Proof.Machine.execLcAuthDone s
  | .nvmInjTorn agent => Sys2Proof.Machine.execNvmInjTorn agent s
  | .injArm agent key time => Sys2Proof.Machine.execInjArm agent key time s
  | .disarm agent => Sys2Proof.Machine.execDisarm agent s
  | .injWindowEnd => Sys2Proof.Machine.execInjWindowEnd s
  | .injCmd agent word => Sys2Proof.Machine.execInjCmd agent word s
  | .ocMonitorTick monitor => Sys2Proof.Machine.execOcMonitorTick monitor s
  | .spiWrite addr data => Sys2Proof.Machine.execSpiWrite addr data s
  | .spiRead addr count => Sys2Proof.Machine.execSpiRead addr count s
  | .spiStatus => Sys2Proof.Machine.execSpiStatus s
  | .spiWordApply => Sys2Proof.Machine.execSpiWordApply s
  | .mgmtWrite device addr data => Sys2Proof.Machine.execMgmtWrite device addr data s
  | .mgmtRead device addr count => Sys2Proof.Machine.execMgmtRead device addr count s
  | .extest pads => Sys2Proof.Machine.execExtest pads s
  | .idcode => Sys2Proof.Machine.execIdcode s
  | .samplePreload pads shift => Sys2Proof.Machine.execSamplePreload pads shift s
  | .dbgacc write addr bytes data => Sys2Proof.Machine.execDbgacc write addr bytes data s
  | .bypass => Sys2Proof.Machine.execBypass s
  | .signalChange port present => Sys2Proof.Machine.execSignalChange port present s
  | .checkerLock port lane => Sys2Proof.Machine.execCheckerLock port lane s
  | .patErr port lane gap => Sys2Proof.Machine.execPatErr port lane gap s
  | .reservedEncoding core word => Sys2Proof.Machine.execReservedEncoding core word s
  | .coresComplete => Sys2Proof.Machine.execCoresComplete s
  | .wipeComplete => Sys2Proof.Machine.execWipeComplete s

end Sys2Proof.Machine
end

