-- ==== Sys2Proof/Safety.lean ====
section
/-! DEFINITION. The terms the statements are written in: fields that lie apart, what a command leaves as it was, when an agent is served, and when a
core issues an instruction. -/

namespace Sys2Proof.Machine
open Sys2Proof

/-! ## Fields -/

/-- A field lies within its word. -/
abbrev Fld.ok (x : Fld) : Prop := x.lo ≤ x.hi ∧ x.hi < 32

/-- Two fields do not overlap. -/
abbrev Fld.apart (x y : Fld) : Prop := y.addr ≠ x.addr ∨ y.hi < x.lo ∨ x.hi < y.lo

/-! ## What follows every command -/

/-- Fields of a port that its transmitter may change as time passes or a frame joins its output: the sleep handshake and the directions (R110 to R115). -/
def trailingPort (p : Nat) : List Fld :=
  [F.LNK.SLEEP_CTRL_TX_SLEEP p, F.LNK.SLEEP_CTRL_RX_SLEEP p, F.LNK.SLEEP_CTRL_TX_WAKE p, F.LNK.SLEEP_STATUS_CODE p,
   F.LNK.EVT_SLEEP_REFUSED p, F.LNK.PORT_STATUS_TX_DIR p, F.LNK.PORT_STATUS_RX_DIR p, F.LNK.PORT_STATUS_CAIRN_LOCK p, F.LNK.EVT_DIR_CHANGE p]

/-- Fields that follow the state at once after every command, whichever it is: DET_STATUS.THROTTLE (R39), the safe-holds of the bias DACs (R502), and
what the transmitters of the ports and the routing of this device's own frames change (R102, R110 to R115, R151, R154). -/
def trailing : List Fld :=
  [F.SYS.DET_STATUS_THROTTLE, F.SYS.EVT_DET_VOID, F.RTE.FRM_CNT1_NOROUTE_CNT, F.RTE.EVT_NOROUTE, F.RTE.BOND_STATUS_ACTIVE, F.RTE.EVT_BOND_CHANGE] ++
    ((List.range 6).map trailingPort).flatten ++ ((List.range 128).map (fun n => [F.AUX.BIAS_BUSY n, F.AUX.BIAS_HELD n])).flatten

/-- Every field outside `l`, and outside what follows every command, reads as before. -/
def State.fieldsBut (s t : State) (l : List Fld) : Prop := ∀ x : Fld, (∀ y ∈ l ++ trailing, y.apart x) → t.f x = s.f x

/-- A port without its output's frames and their counts, its transmitter, and the requests and answers of the sleep handshake. -/
def PortSt.inner (x : PortSt) : PortSt :=
  { x with busy := none, queue := [], passed := [], lastIn := [], sent := [], txScr := [], txRun := [], txWords := [], txAt := 0, txNorm := 0, txLast := none,
           stripe := 0, sig := 0, sigHold := 0, reqTx := none, reqRx := none, ackGot := false, wakeAfter := false, oweReady := false, oweAck := false,
           oweDeep := false, deepAgreed := false, bondIn := 0, lockRun := [], missRun := [], txWakeAt := 0 }

/-- A time base without the departure of its open exchange. -/
def TimeBase.inner (x : TimeBase) : TimeBase := { x with exch := x.exch.map (fun e => { e with t3 := 0 }) }

/-- The state without the register file and without what follows every command: the transmitters and frames on their way out with the stamps they take, the pins and the
instant at which they last sent, the bias outputs, injections waiting for a frame, the records in the crossings, and the level of IRQ_B_N. -/
def State.inner (s : State) : State :=
  { s with regs := [], ports := s.ports.map PortSt.inner, outbox := [], hopOut := [], lineOut := [], txSeq := [], freeCnt := 0,
           tim := { s.tim with nlTxAt := 0, bases := s.tim.bases.map TimeBase.inner },
           aux := { s.aux with pa := 0, trsw := 0, coexReq := 0, dacs := [] }, flt := { s.flt with injs := [] }, crossed := [], crossLost := [], irqB := false }

/-- No core stands in a single step. -/
def State.calm (s : State) : Prop := ∀ c ∈ s.cores, c.stepping = false

/-- `s` becomes `t`: outside the register file and what follows every command `t` is `u` (written as `s` with what changes), the fields of `l` have these
values, and every other field reads as in `s`. -/
def State.becomes (s t u : State) (l : List (Fld × Nat)) : Prop :=
  t.inner = u.inner ∧ (∀ p ∈ l, t.f p.1 = p.2) ∧ s.fieldsBut t (l.map (·.1))

/-! ## Accesses -/

/-- An agent is served at a register, and nothing refuses the access before the register is asked (R574, R575, R606). -/
def State.serves (s : State) (agent a : Nat) (write : Bool) : Prop :=
  agent < 36 ∧ s.unserved agent = false ∧ s.regCause agent a 4 write = 0

/-! ## Issues of a core -/

/-- Core n runs, TKC has not stopped for a rest entry, its fetch is good, no repeat is open, and no stop or single step is asked for: its next instruction issues (R379, R394). -/
def State.runs (s : State) (n : Nat) : Prop :=
  n < 34 ∧ s.coreState n = CoreState.running ∧ s.resting 0 = false ∧ (s.core n).pc % 4 = 0 ∧ (s.core n).pc < 0x10000 ∧
    s.injEcc (imemBase n + (s.core n).pc) 4 = none ∧ (s.core n).rep = 0 ∧ (s.core n).stepping = false ∧ (s.core n).stopReq = false

/-- Instruction o passes the checks of an issue by core n: its fields name what it allows, it may stand where the core is, and it reads no register inside
an open window (R378, R379, R380, R401). -/
def State.readyFor (s : State) (n : Nat) (o : Op) : Prop :=
  s.runs n ∧ o.ok n s.deployed = true ∧ ((s.core n).slots ≠ 0 → o.slotOk = true) ∧ (s.core n).hazard o = false

/-- The state in which an instruction of a ready core has its effect: one issue has passed and is counted. -/
def State.issuing (s : State) (n : Nat) : State := (s.modCore n (·.passIssues 1)).countIssues n 1

/-- The state after an issue that changes core n alone: the core is `c`, ISSUE_CNT has counted k issues, and IRQ_B_N follows (R379). -/
def State.issued (s : State) (n k : Nat) (c : Core) : State :=
  ((({ s with cores := setNth s.cores n c } : State).setF (F.TKC.C_CNT0_ISSUE_CNT n) ((s.f (F.TKC.C_CNT0_ISSUE_CNT n) + k) % 2 ^ 32))).refresh

/-- Core n after an instruction that only goes on: its windows shrink by one issue, and its pc, delay slots and loop counts advance (R378, R413, R415). -/
def State.next (s : State) (n : Nat) : Core := ((s.core n).passIssues 1).advance

/-- The flags N, Z, C and V of a status word are these, and its other bits are those of `old` (R374, R403). -/
def flagsAre (old sr : Word) (n z c v : Bool) : Prop :=
  sr.getLsbD 3 = n ∧ sr.getLsbD 2 = z ∧ sr.getLsbD 1 = c ∧ sr.getLsbD 0 = v ∧ ∀ b, 4 ≤ b → sr.getLsbD b = old.getLsbD b

/-- Core n has issued an instruction that writes general register rd and the status register. -/
def State.issuedG (s : State) (n rd : Nat) (v sr : Word) : State := s.issued n 1 { s.next n with g := setNth (s.core n).g rd v, sr := sr }

/-- Core n has issued an ALU write of accumulator k, whose window of one issue opens (R378). -/
def State.issuedA (s : State) (n k : Nat) (v : Acc40) (sr : Word) : State :=
  s.issued n 1 { s.next n with a := setNth (s.core n).a k v, win := { reg := 0x10 + k, kind := 1, left := 1 } :: (s.next n).win, sr := sr }

/-- The halves of a packed word as signed numbers: I in bits 15:0, Q in bits 31:16 (R372). -/
def halfI (w : Word) : Int := (w.extractLsb' 0 16).toInt
def halfQ (w : Word) : Int := (w.extractLsb' 16 16).toInt

/-- A number clamped to 16 bits, and the packed word of two clamped numbers. -/
def clamp16 (i : Int) : Int := max (-32768) (min 32767 i)
def packed (i q : Int) : Word := BitVec.ofInt 16 (clamp16 q) ++ BitVec.ofInt 16 (clamp16 i)

/-- A status word after two numbers were packed: a clamp sets SAT (R385, R404). -/
def packedSr (sr : Word) (i q : Int) : Word := if clamp16 i = i ∧ clamp16 q = q then sr else sr ||| 0x80#32

/-- A status word after a number was written to an accumulator: one that does not fit wraps and sets AOV (R371). -/
def accSr (sr : Word) (i : Int) : Word := if -(2 ^ 39) ≤ i ∧ i < 2 ^ 39 then sr else sr ||| 0x40#32

/-- A value scaled by a shift, before it is clamped: a right shift rounds as RND says (1 down, 2 to nearest with ties to even, else to nearest with halves
up), and a negative shift multiplies (R385). -/
def isScaled (rnd : Nat) (sh v q : Int) : Prop :=
  if 0 < sh then
    let d : Int := 2 ^ sh.toNat
    if rnd = 1 then q * d ≤ v ∧ v < (q + 1) * d
    else if rnd = 2 then 2 * (v - q * d).natAbs ≤ d.natAbs ∧ (2 * (v - q * d).natAbs = d.natAbs → q % 2 = 0)
    else 2 * q * d ≤ 2 * v + d ∧ 2 * v + d < 2 * (q + 1) * d
  else q = v * 2 ^ (-sh).toNat

/-- The smallest two's-complement width that holds a number (R386). -/
def isWidth (i : Int) (w : Nat) : Prop := 1 ≤ w ∧ -(2 ^ (w - 1)) ≤ i ∧ i < 2 ^ (w - 1) ∧ (1 < w → i < -(2 ^ (w - 2)) ∨ 2 ^ (w - 2) ≤ i)

/-- A number clamped to 32 bits. -/
def clamp32 (i : Int) : Int := max (-(2 ^ 31)) (min (2 ^ 31 - 1) i)

/-- Field values after an issue of core n: ISSUE_CNT has counted one (R379). -/
def State.oneIssue (s : State) (n : Nat) : Fld × Nat := (F.TKC.C_CNT0_ISSUE_CNT n, (s.f (F.TKC.C_CNT0_ISSUE_CNT n) + 1) % 2 ^ 32)

/-- A data access inside the own data memory and aligned to its width (R368, R375). -/
def localOk (a w : Nat) : Prop := isLocal a = true ∧ a % w = 0

/-- The little-endian number in w bytes of the own data memory of core n. -/
def State.localVal (s : State) (n a w : Nat) : Nat := ofLe (memRead s.mem (localCell n a) w)

/-- A MAC operand by its spec: the value of a general register; or that of an element of w bytes, with the pointer after it (R407). -/
def State.operand (s : State) (n x w : Nat) (v : Word) (ups : List (Nat × Word)) : Prop :=
  let c := s.core n
  if x.testBit 9 then
    localOk (c.pReg (specPtr x)).toNat w ∧ s.injEcc (localCell n (c.pReg (specPtr x)).toNat) w = none ∧ v = BitVec.ofNat 32 (s.localVal n (c.pReg (specPtr x)).toNat w) ∧
      ∃ q, c.afterSpec x w = some q ∧ ups = [(specPtr x, q)]
  else v = c.gReg (bits x 7 4) ∧ ups = []

/-- The core and the instruction of a command that is an instruction of a core (R400 to R426). -/
def coreInstr : Instr → Option (Nat × Op)
  | .iAdd core rd ra rb => some (core, .alu .add rd ra rb)
  | .iSub core rd ra rb => some (core, .alu .sub rd ra rb)
  | .iAnd core rd ra rb => some (core, .alu .and_ rd ra rb)
  | .iOr core rd ra rb => some (core, .alu .or_ rd ra rb)
  | .iXor core rd ra rb => some (core, .alu .xor_ rd ra rb)
  | .iShl core rd ra rb => some (core, .alu .shl rd ra rb)
  | .iShr core rd ra rb => some (core, .alu .shr rd ra rb)
  | .iAsr core rd ra rb => some (core, .alu .asr rd ra rb)
  | .iMin core rd ra rb => some (core, .alu .min_ rd ra rb)
  | .iMax core rd ra rb => some (core, .alu .max_ rd ra rb)
  | .iAbs core rd ra rb => some (core, .alu .abs_ rd ra rb)
  | .iCmp core rd ra rb => some (core, .alu .cmp rd ra rb)
  | .iTst core rd ra rb => some (core, .alu .tst rd ra rb)
  | .iMul16 core rd ra rb => some (core, .alu .mul16 rd ra rb)
  | .iNorm core rd ra rb => some (core, .alu .norm rd ra rb)
  | .iCadd core rd ra rb => some (core, .alu .cadd rd ra rb)
  | .iCsub core rd ra rb => some (core, .alu .csub rd ra rb)
  | .iConj core rd ra rb => some (core, .alu .conj rd ra rb)
  | .iAset core rd ra rb => some (core, .alu .aset rd ra rb)
  | .iAadd core rd ra rb => some (core, .alu .aadd rd ra rb)
  | .iAsub core rd ra rb => some (core, .alu .asub rd ra rb)
  | .iAshr core rd ra rb => some (core, .alu .ashr rd ra rb)
  | .iAneg core rd ra rb => some (core, .alu .aneg rd ra rb)
  | .iMovr core dst src => some (core, .movr dst src)
  | .iAddi core rd ra imm => some (core, .imm .addi rd ra imm)
  | .iAndi core rd ra imm => some (core, .imm .andi rd ra imm)
  | .iOri core rd ra imm => some (core, .imm .ori rd ra imm)
  | .iXori core rd ra imm => some (core, .imm .xori rd ra imm)
  | .iShli core rd ra imm => some (core, .imm .shli rd ra imm)
  | .iShri core rd ra imm => some (core, .imm .shri rd ra imm)
  | .iAsri core rd ra imm => some (core, .imm .asri rd ra imm)
  | .iCmpi core rd ra imm => some (core, .imm .cmpi rd ra imm)
  | .iLui core dst imm => some (core, .lui dst imm)
  | .iLli core dst imm => some (core, .lli dst imm)
  | .iPaddi core p imm => some (core, .paddi p imm)
  | .iMovi core dst imm => some (core, .movi dst imm)
  | .iCmac core k cj ng x y => some (core, .mac 0 k cj ng x y)
  | .iRmac2 core k cj ng x y => some (core, .mac 1 k cj ng x y)
  | .iCmul core k cj ng x y => some (core, .mac 2 k cj ng x y)
  | .iRmul2 core k cj ng x y => some (core, .mac 3 k cj ng x y)
  | .iMvw core rd a => some (core, .mvw rd a)
  | .iMvp core rd a => some (core, .mvp rd a)
  | .iBlkend core => some (core, .blkend)
  | .iLoad core w sx g p mode arg => some (core, .load w sx g p mode arg)
  | .iStore core w g p mode arg => some (core, .store w g p mode arg)
  | .iDualAccess core xst yst gx px ux gy py uy => some (core, .dual xst yst gx px ux gy py uy)
  | .iBranch core cond off => some (core, .branch cond off)
  | .iCall core cond off => some (core, .call cond off)
  | .iReturn core cond => some (core, .ret cond)
  | .iJumpRegister core cond g => some (core, .jump cond g)
  | .iRpt core count => some (core, .rpt count)
  | .iRptr core g => some (core, .rptr g)
  | .iLoop core lvl endw count => some (core, .loop lvl endw count)
  | .iLoopr core lvl endw g => some (core, .loopr lvl endw g)
  | .iSend core gs ga gb => some (core, .send gs ga gb)
  | .iRecv core gs ga => some (core, .recv gs ga)
  | .iRecvw core gs ga => some (core, .recvw gs ga)
  | .iRing core gs gb => some (core, .ring gs gb)
  | .iAcq core gs n => some (core, .acq gs n)
  | .iTryacq core gs n => some (core, .tryacq gs n)
  | .iRel core gs n => some (core, .rel gs n)
  | .iBar core gs n => some (core, .bar gs n)
  | .iPush core blk lsel gs gh p _ => some (core, .push blk lsel gs gh p)
  | .iSeal core lsel gs => some (core, .seal lsel gs)
  | .iWslot core lsel => some (core, .wslot lsel)
  | .iWsym core gs sym lsel => some (core, .wsym gs sym lsel)
  | .iTtgt core g lsel => some (core, .ttgt g lsel)
  | .iTnow core g lsel => some (core, .tnow g lsel)
  | .iNop core => some (core, .nop)
  | .iReti core => some (core, .reti)
  | .iKick core => some (core, .kick)
  | .iStop core => some (core, .stop)
  | .iEi core => some (core, .ei)
  | .iDi core => some (core, .di)
  | .iVeto core v => some (core, .veto v)
  | .iBrk core => some (core, .brk)
  | _ => none

/-- The conditions of R412 on a status word: N at bit 3, Z at 2, C at 1, V at 0, AOV at 6, SAT at 7. -/
def condHolds (sr : Word) (k : Nat) : Bool :=
  let n := sr.getLsbD 3
  let z := sr.getLsbD 2
  let c := sr.getLsbD 1
  let v := sr.getLsbD 0
  [true, z, !z, n != v, n == v, !z && (n == v), z || (n != v), c, !c, n, !n, v, !v, sr.getLsbD 7, sr.getLsbD 6, false].getD k false

/-- Core n after its issue left RUNNING: its results in flight are complete, a wait, a hold, a repeat and a stop asked for are over, and its watchdog holds
the time it has counted (R388, R394, R419). -/
def State.halted (s : State) (n : Nat) (c : Core) : Core :=
  { c with win := [], wait := none, got := none, hold := none, rep := 0, stopReq := false, stepping := false, wdtAcc := s.wdtTime n, wdtSince := none }

/-- Core n stands in FAULT at its pc with a cause and a data address, and TKC has raised FAULT (R394). -/
def State.faulted (s t : State) (n cause addr : Nat) : Prop :=
  s.becomes t { s with cores := setNth s.cores n (s.halted n (s.core n)), mbx := (s.withdraw n).mbx }
    [(F.TKC.C_STATUS_STATE n, 4), (F.TKC.C_STATUS_CAUSE n, cause), (F.TKC.C_FAULT_ADDR_ADDR n, addr), (F.TKC.EVT_FAULT, 1)]

/-- A command ends in a state that `becomes` describes. -/
def State.leads (s : State) (i : Instr) (u : State) (l : List (Fld × Nat)) : Prop := ∃ t, exec i s = .next t ∧ s.becomes t u l

/-- A command ends in a state that is `u` but for what changes from `v`, the state in which its own effect begins. -/
def State.leadsFrom (s v : State) (i : Instr) (u : State) (l : List (Fld × Nat)) : Prop := ∃ t, exec i s = .next t ∧ v.becomes t u l

/-- No cairn period and no wake of an outgoing direction is due at any port (R103, R112). -/
def State.still (s : State) : Prop :=
  ∀ p < 6, (s.lanesSend p = true → s.now < (s.port p).txAt + s.lineSpan p (periodBits + 64)) ∧
    (s.txDir p = 2 → s.now < (s.port p).txWakeAt + 3300 * nsU)

/-- Nothing follows a command at the outputs: no frame of this device waits to be routed, no event sends one, no cairn period is due, and no core stands in a single
step. -/
def State.quiet (s : State) : Prop := s.calm ∧ s.outbox = [] ∧ s.hopOut = [] ∧ s.f F.RTE.MGMT_CFG_EVT_EN = 0 ∧ s.still

/-- Block b of t is armed as a commit at u arms it (R22, R27, R28, R33): every register whose shadow was written is armed, an armed register holds its shadow word, its
fields of each kind wait for the trigger g and, of triggers of register commits, for no other; the armed copies of other blocks stay. -/
def State.armsBlock (u t : State) (b : Nat) (g : ArmTrig) : Prop :=
  t.armed.filter (fun r => blkOf r.addr != b) = u.armed.filter (fun r => blkOf r.addr != b) ∧
  (∀ e ∈ u.shadow, blkOf e.1 = b → ∃ r ∈ t.armed, r.addr = e.1) ∧
  ∀ r ∈ t.armed, blkOf r.addr = b → r.val = u.shadowWord r.addr ∧
    (fieldsOf r.addr .rws ≠ [] → g ∈ r.sym) ∧ (fieldsOf r.addr .rws = [] → r.sym = []) ∧
    (fieldsOf r.addr .rwsSlot ≠ [] → g ∈ r.slot) ∧ (fieldsOf r.addr .rwsSlot = [] → r.slot = []) ∧
    ∀ k m, (ArmTrig.commit k ∈ r.sym ∨ ArmTrig.commit k ∈ r.slot) → g = .commit m → k = m

/-- A counter field after n more counts; it saturates. -/
def State.countsTo (s : State) (x : Fld) (n : Nat) : Fld × Nat := (x, min (s.f x + n) (2 ^ (x.hi + 1 - x.lo) - 1))

/-- An agent is served at a register it writes, and no core stands in a single step. -/
def State.accepts (s : State) (agent a : Nat) : Prop := s.serves agent a true ∧ s.calm

/-- Core n after an instruction that returns a status in general register gs and goes on (R417). -/
def State.answered (s : State) (n gs code : Nat) : Core := { s.next n with g := setNth (s.core n).g gs (BitVec.ofNat 32 code) }

/-- Core n stands in a wait whose first issue is now (R419). -/
def State.waiting (s : State) (n : Nat) (o : Op) : Core :=
  { (s.core n).passIssues 1 with
    wait := some o, waitAt := s.now, waitPc := (s.core n).pc, got := none, wdtAcc := s.wdtTime n, wdtSince := some s.now }

/-- Core n runs on after it was held or waited: its watchdog counts on. -/
def State.goesOn (s : State) (n : Nat) (c : Core) : State :=
  { s with cores := setNth s.cores n { c with hold := none, wdtAcc := s.wdtTime n, wdtSince := some s.now } }

/-- The power sequencer's state after a doorbell or wake request that is kept until a committed entry is over (R58). -/
def State.rungPwr (s : State) : PwrState := { s.pwr with wakeSrc := if s.f F.PWR.REST_STATUS_STATE = 3 then s.pwr.wakeSrc ||| 8 else s.pwr.wakeSrc }

/-- The registers of a prepare phase that a wake source ends, no participant having stopped: PWR counts as refusing with code WAKE (R57, R58). -/
def State.wakeRefusal (s : State) : List (Fld × Nat) :=
  [(F.PWR.REST_STATUS_STATE, s.pwr.was % 16), (F.PWR.MODE_STATUS_PENDING, 0), (F.PWR.REST_STATUS_REFUSE_BLOCK, 31), (F.PWR.REST_STATUS_REFUSE_CODE, 7),
   (F.PWR.REST_STATUS_REFUSE_CNT, min (s.f F.PWR.REST_STATUS_REFUSE_CNT + 1) 255), (F.PWR.EVT_REST_REFUSED, 1)]

/-- Registers whose writes act by the access codes of R4 and the refusals of R29 alone: those of blocks 10, 14 and 18, those of SYS, PWR, CLK, TIM, LNK, THM, AUX and REG
but the ones named here, and the event and interrupt registers that every block has. -/
def plainAddr (a : Nat) : Bool :=
  let off := offOf a
  decide (off ≠ 0xC) && (decide (off ≠ 0x18) || cmdBlocks.contains (blkOf a)) &&
    (decide (off < 0x20) || match blkOf a with
      | 0 => a != A.SYS.SW_RESET && a != A.SYS.BOOT_CTRL
      | 1 => a != A.PWR.MODE_REQ && a != A.PWR.REST_REQ && a != A.PWR.REST_CTRL && a != A.PWR.PAD_CTRL
      | 2 => a != A.CLK.PLAN_SWITCH && a != A.CLK.CLK_CTRL && decide (off < 0x200)
      | 3 => decide (0x200 ≤ off) && off != 0x30C && off != 0x400 && off != 0x420
      | 4 | 5 | 6 | 7 | 8 | 9 => decide (0x200 ≤ off) && decide (off < 0x300) && off % 0x20 != 0xC && off % 0x20 != 0x1C
      | 10 | 14 | 18 => true
      | 20 => a != A.THM.THM_INJ && decide (off < 0x200)
      | 22 => decide (off < 0x400)
      | 23 => off != 0x100
      | _ => false)

/-- A counter field of 16 bits after one more count. -/
def State.counted (s : State) (x : Fld) : Fld × Nat := (x, min (s.f x + 1) 0xFFFF)

end Sys2Proof.Machine
end

