-- ==== Sys2Proof/Certificates/Slice0/Obligations.lean ====
section
/-! DEFINITION. The statements about the machine, for the provers. -/

open Sys2Proof Sys2Proof.Machine

/-! ## Core instructions of the ALU and ALU-immediate classes -/

/-- ADD, ADDI, SUB, CMP and CMPI (R403, R404, R406): the sum or difference, and all four flags of it. -/
def Parts.SumsAndDifferences : Prop :=
  ∀ (s : State) (n rd ra rb imm : Nat),
    let c := s.core n
    let x := c.gReg ra
    let y := c.gReg rb
    let z : Word := (BitVec.ofNat 14 imm).signExtend 32
    let sum := fun (w sr : Word) => flagsAre c.sr sr (x + w).msb (x + w == 0) (x.uaddOverflow w) (x.saddOverflow w)
    let diff := fun (w sr : Word) => flagsAre c.sr sr (x - w).msb (x - w == 0) (decide (w.toNat ≤ x.toNat)) (x.ssubOverflow w)
    (s.readyFor n (.alu .add rd ra rb) → ∃ sr, sum y sr ∧ exec (.iAdd n rd ra rb) s = .next (s.issuedG n rd (x + y) sr)) ∧
    (s.readyFor n (.imm .addi rd ra imm) → ∃ sr, sum z sr ∧ exec (.iAddi n rd ra imm) s = .next (s.issuedG n rd (x + z) sr)) ∧
    (s.readyFor n (.alu .sub rd ra rb) → ∃ sr, diff y sr ∧ exec (.iSub n rd ra rb) s = .next (s.issuedG n rd (x - y) sr)) ∧
    (s.readyFor n (.alu .cmp rd ra rb) → ∃ sr, diff y sr ∧ exec (.iCmp n rd ra rb) s = .next (s.issued n 1 { s.next n with sr := sr })) ∧
    (s.readyFor n (.imm .cmpi rd ra imm) → ∃ sr, diff z sr ∧ exec (.iCmpi n rd ra imm) s = .next (s.issued n 1 { s.next n with sr := sr }))

/-- AND, ANDI, OR, ORI, XOR, XORI, TST, MIN, MAX and MUL16 (R403, R404, R406): the result and its N and Z; C and V stay. -/
def Parts.LogicMinMaxProduct : Prop :=
  ∀ (s : State) (n rd ra rb imm : Nat),
    let c := s.core n
    let x := c.gReg ra
    let y := c.gReg rb
    let z : Word := (BitVec.ofNat 14 imm).zeroExtend 32
    let nz := fun (r sr : Word) => flagsAre c.sr sr r.msb (r == 0) (c.sr.getLsbD 1) (c.sr.getLsbD 0)
    let writes := fun (i : Instr) (o : Op) (r : Word) => s.readyFor n o → ∃ sr, nz r sr ∧ exec i s = .next (s.issuedG n rd r sr)
    imm < 2 ^ 14 →
    writes (.iAnd n rd ra rb) (.alu .and_ rd ra rb) (x &&& y) ∧ writes (.iAndi n rd ra imm) (.imm .andi rd ra imm) (x &&& z) ∧
    writes (.iOr n rd ra rb) (.alu .or_ rd ra rb) (x ||| y) ∧ writes (.iOri n rd ra imm) (.imm .ori rd ra imm) (x ||| z) ∧
    writes (.iXor n rd ra rb) (.alu .xor_ rd ra rb) (x ^^^ y) ∧ writes (.iXori n rd ra imm) (.imm .xori rd ra imm) (x ^^^ z) ∧
    writes (.iMin n rd ra rb) (.alu .min_ rd ra rb) (if x.sle y then x else y) ∧
    writes (.iMax n rd ra rb) (.alu .max_ rd ra rb) (if x.sle y then y else x) ∧
    writes (.iMul16 n rd ra rb) (.alu .mul16 rd ra rb) (BitVec.ofInt 32 (halfI x * halfI y)) ∧
    (s.readyFor n (.alu .tst rd ra rb) → ∃ sr, nz (x &&& y) sr ∧ exec (.iTst n rd ra rb) s = .next (s.issued n 1 { s.next n with sr := sr }))

/-- Together: sums and differences; logic min max product. -/
def Obligations.SumsAndLogic : Prop := Parts.SumsAndDifferences ∧ Parts.LogicMinMaxProduct

/-- SHL, SHR, ASR and their immediate forms (R404, R406): the amount is rb[4:0] or IMM14[4:0], C is the last bit out and stays where the amount is 0. -/
def Parts.Shifts : Prop :=
  ∀ (s : State) (n rd ra rb imm : Nat),
    let c := s.core n
    let x := c.gReg ra
    let writes := fun (i : Instr) (o : Op) (k : Nat) (r : Word) (out : Bool) => s.readyFor n o →
      ∃ sr, flagsAre c.sr sr r.msb (r == 0) (if k = 0 then c.sr.getLsbD 1 else out) (c.sr.getLsbD 0) ∧ exec i s = .next (s.issuedG n rd r sr)
    let m := (c.gReg rb).toNat % 32
    let k := imm % 32
    writes (.iShl n rd ra rb) (.alu .shl rd ra rb) m (x <<< m) (x.getLsbD (32 - m)) ∧
    writes (.iShr n rd ra rb) (.alu .shr rd ra rb) m (x >>> m) (x.getLsbD (m - 1)) ∧
    writes (.iAsr n rd ra rb) (.alu .asr rd ra rb) m (x.sshiftRight m) (x.getLsbD (m - 1)) ∧
    writes (.iShli n rd ra imm) (.imm .shli rd ra imm) k (x <<< k) (x.getLsbD (32 - k)) ∧
    writes (.iShri n rd ra imm) (.imm .shri rd ra imm) k (x >>> k) (x.getLsbD (k - 1)) ∧
    writes (.iAsri n rd ra imm) (.imm .asri rd ra imm) k (x.sshiftRight k) (x.getLsbD (k - 1))

/-- ABS and NORM (R404): 0x8000_0000 has the absolute value 0x7FFF_FFFF with V = 1; NORM counts redundant sign bits and leaves N. -/
def Parts.AbsoluteAndNorm : Prop :=
  ∀ (s : State) (n rd ra rb : Nat),
    let c := s.core n
    let x := c.gReg ra
    let most := x == 0x80000000#32
    let r := if most then 0x7FFFFFFF#32 else BitVec.ofNat 32 x.toInt.natAbs
    (s.readyFor n (.alu .abs_ rd ra rb) → ∃ sr, flagsAre c.sr sr r.msb (r == 0) (c.sr.getLsbD 1) most ∧
      exec (.iAbs n rd ra rb) s = .next (s.issuedG n rd r sr)) ∧
    (s.readyFor n (.alu .norm rd ra rb) → ∃ k sr, k ≤ 31 ∧ (∀ i, i < k → x.getLsbD (30 - i) = x.msb) ∧ (k < 31 → x.getLsbD (30 - k) ≠ x.msb) ∧
      flagsAre c.sr sr (c.sr.getLsbD 3) (k == 0) (c.sr.getLsbD 1) (c.sr.getLsbD 0) ∧
      exec (.iNorm n rd ra rb) s = .next (s.issuedG n rd (BitVec.ofNat 32 k) sr))

/-- Together: shifts; absolute and norm. -/
def Obligations.ShiftsAndNorms : Prop := Parts.Shifts ∧ Parts.AbsoluteAndNorm

/-- CADD, CSUB and CONJ (R404): each half is computed and clamped by itself, and a clamp sets SAT. -/
def Parts.PackedSums : Prop :=
  ∀ (s : State) (n rd ra rb : Nat),
    let c := s.core n
    let x := c.gReg ra
    let y := c.gReg rb
    let writes := fun (i : Instr) (o : Op) (re im : Int) => s.readyFor n o → exec i s = .next (s.issuedG n rd (packed re im) (packedSr c.sr re im))
    writes (.iCadd n rd ra rb) (.alu .cadd rd ra rb) (halfI x + halfI y) (halfQ x + halfQ y) ∧
    writes (.iCsub n rd ra rb) (.alu .csub rd ra rb) (halfI x - halfI y) (halfQ x - halfQ y) ∧
    writes (.iConj n rd ra rb) (.alu .conj rd ra rb) (halfI x) (-halfQ x)

/-- ASET, AADD, ASUB, ASHR and ANEG (R371, R378, R404): the accumulator takes the value modulo 2^40, a wrap sets AOV, and its window opens. -/
def Parts.AccumulatorWrites : Prop :=
  ∀ (s : State) (n rd ra rb : Nat),
    let c := s.core n
    let x := c.gReg ra
    let d := (c.aReg rd).toInt
    let writes := fun (i : Instr) (o : Op) (v : Int) => s.readyFor n o → exec i s = .next (s.issuedA n rd (BitVec.ofInt 40 v) (accSr c.sr v))
    writes (.iAset n rd ra rb) (.alu .aset rd ra rb) x.toInt ∧
    writes (.iAadd n rd ra rb) (.alu .aadd rd ra rb) (d + (c.aReg ra).toInt) ∧
    writes (.iAsub n rd ra rb) (.alu .asub rd ra rb) (d - (c.aReg ra).toInt) ∧
    writes (.iAshr n rd ra rb) (.alu .ashr rd ra rb) ((c.aReg rd).sshiftRight (x.toNat % 64)).toInt ∧
    writes (.iAneg n rd ra rb) (.alu .aneg rd ra rb) (-d)

/-- Together: packed sums; accumulator writes. -/
def Obligations.PackedSumsAndAccumulators : Prop := Parts.PackedSums ∧ Parts.AccumulatorWrites

/-! ## Moves, MACs and data accesses of a core -/

/-- MOVR, LUI, LLI, MOVI and PADDI (R402, R405, R406): the value, and what each kind of destination takes of it. -/
def Parts.RegisterMoves : Prop :=
  ∀ (s : State) (n x src imm : Nat) (i : Instr) (o : Op) (w : Word),
    let c := s.core n
    let put := fun (d : Core) => exec i s = .next (s.issued n 1 d)
    (i, o, w) ∈ [(.iMovr n x src, .movr x src, c.readCode (s.cid n) src), (.iLui n x imm, .lui x imm, BitVec.ofNat 16 imm ++ (0 : BitVec 16)),
                 (.iLli n x imm, .lli x imm, (c.readCode (s.cid n) x).extractLsb' 16 16 ++ BitVec.ofNat 16 imm),
                 (.iMovi n x imm, .movi x imm, (BitVec.ofNat 16 imm).signExtend 32)] →
    s.readyFor n o →
    (x < 0x10 → put { s.next n with g := setNth c.g x w }) ∧
    (0x10 ≤ x ∧ x < 0x18 → exec i s = .next (s.issuedA n (x - 0x10) (w.signExtend 40) c.sr)) ∧
    (0x18 ≤ x ∧ x < 0x20 → put { s.next n with p := setNth c.p (x - 0x18) w }) ∧
    (0x20 ≤ x ∧ x < 0x24 → put { s.next n with m := setNth c.m (x - 0x20) w }) ∧
    (0x24 ≤ x ∧ x < 0x28 → put { s.next n with l := setNth c.l (x - 0x24) (w.toNat % 2 ^ 17) }) ∧
    (x = 0x31 → put { s.next n with sr := srWrite w.toNat }) ∧
    (x = 0x33 → put { s.next n with expo := w &&& 0xFF00FFFF#32 }) ∧
    (x = 0x34 → put { s.next n with link := w }) ∧
    (x = 0x35 → put { s.next n with vbar := w &&& 0xFFFFFFF0#32 }) ∧
    (0x38 ≤ x ∧ x < 0x3E → put { s.next n with lp := setNth (s.next n).lp (x - 0x38) w })

/-- A move to SCL (R385, R386): SHIFT is clamped to -8 to 31, the shift in force becomes SHIFT clamped to 0 to 24, and E becomes 0; and PADDI (R406): the
pointer plus the signed immediate, with no circular rule. -/
def Parts.ScaleWritesAndPaddi : Prop :=
  ∀ (s : State) (n src imm p : Nat),
    let c := s.core n
    let w := c.readCode (s.cid n) src
    let sh : Int := max (-8) (min 31 (w.extractLsb' 0 8).toInt)
    (s.readyFor n (.movr 0x32 src) → ∃ scl : Word, exec (.iMovr n 0x32 src) s =
        .next (s.issued n 1 { s.next n with scl := scl, blkShift := (max 0 (min 24 sh)).toNat, blkE := 0 }) ∧
      (scl.extractLsb' 0 8).toInt = sh ∧ scl.extractLsb' 16 2 = w.extractLsb' 16 2 ∧ scl.extractLsb' 24 2 = w.extractLsb' 24 2 ∧
      scl.msb = w.msb) ∧
    (s.readyFor n (.paddi p imm) → exec (.iPaddi n p imm) s =
      .next (s.issued n 1 { s.next n with p := setNth c.p p (c.pReg p + (BitVec.ofNat 14 imm).signExtend 32) }))

/-- Together: register moves; scale writes and paddi. -/
def Obligations.MovesAndImmediates : Prop := Parts.RegisterMoves ∧ Parts.ScaleWritesAndPaddi

/-- MVW, MVP and BLKEND (R385, R386, R411): scaled, rounded and clamped values with SAT; the tracked width of block mode; and the close of a block. -/
def Obligations.ScaledMoves : Prop :=
  ∀ (s : State) (n g a : Nat),
    let c := s.core n
    let re := (c.aReg a).toInt
    let im := (c.aReg (a + 1)).toInt
    let sh : Int := (c.scl.extractLsb' 0 8).toInt
    let rnd := (c.scl.extractLsb' 24 2).toNat
    (s.readyFor n (.mvw g a) → ∃ q, isScaled rnd sh re q ∧
      exec (.iMvw n g a) s = .next (s.issuedG n g (BitVec.ofInt 32 (clamp32 q)) (if clamp32 q = q then c.sr else c.sr ||| 0x80#32))) ∧
    (s.readyFor n (.mvp g a) → c.scl.msb = false → ∃ q r, isScaled rnd sh re q ∧ isScaled rnd sh im r ∧
      exec (.iMvp n g a) s = .next (s.issuedG n g (packed q r) (packedSr c.sr q r))) ∧
    (s.readyFor n (.mvp g a) → c.scl.msb = true → ∃ q r v w, isScaled rnd c.blkShift re q ∧ isScaled rnd c.blkShift im r ∧ isWidth re v ∧ isWidth im w ∧
      exec (.iMvp n g a) s =
        .next (s.issued n 1 { s.next n with g := setNth c.g g (packed q r), sr := packedSr c.sr q r, blkE := max c.blkE (max v w) })) ∧
    (s.readyFor n .blkend → exec (.iBlkend n) s = .next (s.issued n 1 { s.next n with
      expo := BitVec.ofNat 8 c.blkShift ++ (0 : BitVec 8) ++ BitVec.ofNat 16 (c.expo.toNat + c.blkShift),
      blkShift := (max 0 (min 24 ((c.blkE : Int) - 16 + (c.scl.extractLsb' 16 2).toNat))).toNat, blkE := 0 }))

/-- CMAC, RMAC2, CMUL and RMUL2 (R371, R372, R378, R407, R408): the exact products of two operands, each a register or a local element, added to the pair or put
in their place, with AOV on a wrap, the windows of two issues, and the pointers after the accesses. -/
def Obligations.Macs : Prop :=
  ∀ (s : State) (n op k x y : Nat) (cj ng : Bool) (i : Instr) (v w : Word) (ux uy : List (Nat × Word)),
    let c := s.core n
    let o := Op.mac op k cj ng x y
    let sg : Int := if ng then -1 else 1
    let cs : Int := if cj then -1 else 1
    let re := if op % 2 = 0 then sg * (halfI v * halfI w - cs * (halfQ v * halfQ w)) else sg * (halfI v * halfI w)
    let im := if op % 2 = 0 then sg * (halfQ v * halfI w + cs * (halfI v * halfQ w)) else sg * (halfQ v * halfI w)
    let a := if op < 2 then (c.aReg (2 * k)).toInt + re else re
    let b := if op < 2 then (c.aReg (2 * k + 1)).toInt + im else im
    (op, i) ∈ [(0, .iCmac n k cj ng x y), (1, .iRmac2 n k cj ng x y), (2, .iCmul n k cj ng x y), (3, .iRmul2 n k cj ng x y)] →
    s.calm → s.readyFor n o → s.operand n x 4 v ux → s.operand n y (if op % 2 = 1 then 2 else 4) w uy →
    ∃ t, exec i s = .next t ∧ s.becomes t { s with cores := setNth s.cores n (({ s.next n with
        a := setNth (setNth c.a (2 * k) (BitVec.ofInt 40 a)) (2 * k + 1) (BitVec.ofInt 40 b), sr := accSr (accSr c.sr a) b,
        win := { reg := 0x10 + 2 * k + 1, kind := 2, left := 2 } :: { reg := 0x10 + 2 * k, kind := 2, left := 2 } :: (s.next n).win } :
          Core).moveAll (ux ++ uy)) } [s.oneIssue n]

/-- LOAD and STORE in the own data memory (R375 to R378, R409): the register or pair and its window, or the bytes stored; the pointer after the access;
every other byte of memory is as before. -/
def Parts.LocalLoadsAndStores : Prop :=
  ∀ (s : State) (n w g p mode arg : Nat) (sx : Bool) (q : Word),
    let c := s.core n
    let a := c.addrMode p (2 ^ w) mode arg
    let v := s.localVal n a (2 ^ w)
    s.calm → w < 4 → c.afterMode p (2 ^ w) mode arg = some q → localOk a (2 ^ w) →
    (s.readyFor n (.load w sx g p mode arg) → s.injEcc (localCell n a) (2 ^ w) = none → ∃ t, exec (.iLoad n w sx g p mode arg) s = .next t ∧
      s.becomes t { s with cores := setNth s.cores n { s.next n with
        g := if w = 3 then setNth (setNth c.g g (BitVec.ofNat 32 v)) (g + 1) (BitVec.ofNat 32 (v / 2 ^ 32))
             else setNth c.g g (if sx then (BitVec.ofNat (8 * 2 ^ w) v).signExtend 32 else BitVec.ofNat 32 v),
        p := setNth c.p p q,
        win := if w = 3 then { reg := g + 1, kind := 0, left := 1 } :: { reg := g, kind := 0, left := 1 } :: (s.next n).win
               else { reg := g, kind := 0, left := 1 } :: (s.next n).win } } [s.oneIssue n]) ∧
    (s.readyFor n (.store w g p mode arg) → ∃ t, exec (.iStore n w g p mode arg) s = .next t ∧
      s.becomes t { s with cores := setNth s.cores n { s.next n with p := setNth c.p p q }, mem := t.mem } [s.oneIssue n] ∧
      (∀ i, i < 2 ^ w → memGet t.mem (localCell n a + i) = BitVec.ofNat 8 ((if 4 ≤ i then (c.gReg (g + 1)).toNat / 256 ^ (i - 4) else (c.gReg g).toNat / 256 ^ i))) ∧
      ∀ b, b < localCell n a ∨ localCell n a + 2 ^ w ≤ b → memGet t.mem b = memGet s.mem b)

/-- DUAL_ACCESS in the own data memory (R375, R410): X takes effect before Y, a Y load reads what X stored, and of two updates of one pointer Y's stands. -/
def Parts.LocalDualAccess : Prop :=
  ∀ (s : State) (n gx px ux gy py uy : Nat) (xst yst : Bool) (qx qy : Word),
    let c := s.core n
    let cell := fun (p : Nat) => localCell n (c.pReg p).toNat
    let after := fun (m : List Host.Cell) (st : Bool) (g p : Nat) => if st then memWrite m (cell p) (leBytes 4 (c.gReg g).toNat) else m
    let m := after s.mem xst gx px
    let load := fun (g : List Word) (m : List Host.Cell) (st : Bool) (r p : Nat) => if st then g else setNth g r (BitVec.ofNat 32 (ofLe (memRead m (cell p) 4)))
    let opens := fun (w : List Window) (st : Bool) (r : Nat) => if st then w else { reg := r, kind := 0, left := 1 } :: w
    s.calm → s.readyFor n (.dual xst yst gx px ux gy py uy) →
    c.afterDual px ux = some qx → c.afterDual py uy = some qy → localOk (c.pReg px).toNat 4 → localOk (c.pReg py).toNat 4 →
    (xst = false → s.injEcc (cell px) 4 = none) → (yst = false → s.injEcc (cell py) 4 = none) →
    ∃ t, exec (.iDualAccess n xst yst gx px ux gy py uy) s = .next t ∧
      s.becomes t { s with mem := after m yst gy py, cores := setNth s.cores n { s.next n with
        g := load (load c.g s.mem xst gx px) m yst gy py, win := opens (opens (s.next n).win xst gx) yst gy,
        p := setNth (setNth c.p px qx) py qy } } [s.oneIssue n] ∧
      ∀ b, (xst = true → b < cell px ∨ cell px + 4 ≤ b) → (yst = true → b < cell py ∨ cell py + 4 ≤ b) → memGet t.mem b = memGet s.mem b

/-- Together: local loads and stores; local dual access. -/
def Obligations.LocalAccesses : Prop := Parts.LocalLoadsAndStores ∧ Parts.LocalDualAccess

/-- An access that leaves the own data memory holds its instruction (R369, R375): the core is WAITING with nothing else changed; two such accesses of one
instruction are ILLEGAL, and a misaligned address faults with cause ALIGN. -/
def Obligations.FarAndMisalignedAccesses : Prop :=
  ∀ (s : State) (i : Instr) (n : Nat) (o : Op) (pl : Plan),
    coreInstr i = some (n, o) → s.calm → s.readyFor n o → (s.core n).plan o = some pl →
    (1 < (pl.accs.filter Acc.far).length → ∃ u, exec i s = .next u ∧ ((s.issuing n).faulted u n 1 0)) ∧
    ((pl.accs.filter Acc.far).length ≤ 1 → ∀ a, pl.misaligned = some a → ∃ u, exec i s = .next u ∧ ((s.issuing n).faulted u n 3 a)) ∧
    ((pl.accs.filter Acc.far).length = 1 → pl.misaligned = none → ∃ u, exec i s = .next u ∧
      s.becomes u { s with cores := setNth s.cores n { (s.core n).passIssues 1 with hold := some o, wdtAcc := s.wdtTime n, wdtSince := some s.now } }
        [s.oneIssue n, (F.TKC.C_STATUS_STATE n, 3)])

/-! ## Branches, repeats and loops of a core -/

/-- BRANCH, CALL, RETURN and JUMP_REGISTER (R412, R413): two delay slots follow whether taken or not; the condition is that of SR now; a taken call writes LINK. -/
def Parts.Branches : Prop :=
  ∀ (s : State) (n k off g : Nat),
    let c := s.core n
    let t := condHolds c.sr k
    let near := (BitVec.ofNat 32 c.pc + 4 * (BitVec.ofNat 22 off).signExtend 32).toNat
    let goes := fun (target : Nat) => { c.passIssues 1 with pc := c.pc + 4, slots := 2, target := if t then some target else none }
    (s.readyFor n (.branch k off) → exec (.iBranch n k off) s = .next (s.issued n 1 (goes near))) ∧
    (s.readyFor n (.call k off) → exec (.iCall n k off) s =
      .next (s.issued n 1 { goes near with link := if t then BitVec.ofNat 32 (c.pc + 12) else c.link })) ∧
    (s.readyFor n (.ret k) → exec (.iReturn n k) s = .next (s.issued n 1 (goes c.link.toNat))) ∧
    (s.readyFor n (.jump k g) → exec (.iJumpRegister n k g) s = .next (s.issued n 1 (goes ((c.gReg g).toNat % 2 ^ 16))))

/-- RPT, RPTR, LOOP and LOOPR (R381, R414 to R416): the repeat opens with its count; the loop level is armed with its start, end and count. -/
def Parts.RepeatsAndLoops : Prop :=
  ∀ (s : State) (n k g lvl e : Nat),
    let c := s.core n
    let lpe := (c.pc + 4 * e) % 2 ^ 32
    let fits := (lvl = 1 → c.lp.getD 2 0 = 0 ∨ lpe ≤ (c.lp.getD 1 0).toNat) ∧
      ∀ o, lpe < 0x10000 → lpe % 4 = 0 → decodeOp (s.imemWord n lpe) = some o → o.isJump = false
    let put := fun (l : List Word) (i v : Nat) => setNth l (3 * lvl + i) (BitVec.ofNat 32 v)
    let armed := fun (count : Nat) => { s.next n with lp := put (put (put (s.next n).lp 0 (c.pc + 4)) 1 (c.pc + 4 * e)) 2 count }
    let x := (c.gReg g).toNat
    (s.readyFor n (.rpt k) → exec (.iRpt n k) s = .next (s.issued n 1 { c.passIssues 1 with rep := k, repPc := c.pc, pc := c.pc + 4 })) ∧
    (s.readyFor n (.rptr g) → 1 ≤ x ∧ x ≤ 4096 →
      exec (.iRptr n g) s = .next (s.issued n 1 { c.passIssues 1 with rep := x, repPc := c.pc, pc := c.pc + 4 })) ∧
    (s.readyFor n (.loop lvl e k) → fits → exec (.iLoop n lvl e k) s = .next (s.issued n 1 (armed k))) ∧
    (s.readyFor n (.loopr lvl e g) → fits → 1 ≤ x ∧ x ≤ 4096 → exec (.iLoopr n lvl e g) s = .next (s.issued n 1 (armed x)))

/-- The instruction after an RPT executes COUNT times, and two drain issues follow (R381): ADDI in place adds its immediate COUNT times. -/
def Parts.RepeatedAdd : Prop :=
  ∀ (s : State) (n rd imm : Nat),
    let c := s.core n
    n < 34 → n < s.cores.length → rd < c.g.length → s.coreState n = 2 → c.pc % 4 = 0 → c.pc < 0x10000 → s.injEcc (imemBase n + c.pc) 4 = none →
    c.rep ≠ 0 → c.win = [] → c.stepping = false → c.stopReq = false →
    ∃ t sr, exec (.iAddi n rd rd imm) s = .next t ∧
      s.becomes t { s with cores := setNth s.cores n { c with
        g := setNth c.g rd (c.gReg rd + BitVec.ofNat 32 c.rep * (BitVec.ofNat 14 imm).signExtend 32), sr := sr, rep := 0, pc := c.pc + 4 } }
        [(F.TKC.C_CNT0_ISSUE_CNT n, (s.f (F.TKC.C_CNT0_ISSUE_CNT n) + c.rep + 2) % 2 ^ 32)]

/-- Together: branches; repeats and loops; repeated add. -/
def Obligations.BranchesRepeatsAndLoops : Prop := Parts.Branches ∧ Parts.RepeatsAndLoops ∧ Parts.RepeatedAdd

/-! ## System instructions and faults of a core -/

/-- NOP, RETI, KICK, EI, DI and VETO (R383, R388, R392, R426). -/
def Parts.SystemInstructions : Prop :=
  ∀ (s : State) (n : Nat) (v : Bool),
    let c := s.core n
    let back := c.save.getD c.ipl (0, 0)
    (s.readyFor n .nop → exec (.iNop n) s = .next (s.issued n 1 (s.next n))) ∧
    (s.readyFor n .reti → c.ipl ≠ 0 → ∃ t, exec (.iReti n) s = .next t ∧
      s.becomes t { s with cores := setNth s.cores n { (c.passIssues 1).passIssues 1 with
        pc := back.1, sr := back.2, open_ := c.open_.filter (· != c.ipl) } } [(F.TKC.C_CNT0_ISSUE_CNT n, (s.f (F.TKC.C_CNT0_ISSUE_CNT n) + 2) % 2 ^ 32)]) ∧
    (s.readyFor n .kick → exec (.iKick n) s = .next (s.issued n 1 { s.next n with wdtAcc := 0, wdtSince := some s.now, warned := false, pend := c.pend &&& 1022 })) ∧
    (s.readyFor n .ei → exec (.iEi n) s = .next (s.issued n 1 { s.next n with sr := c.sr ||| 0x8000#32 })) ∧
    (s.readyFor n .di → exec (.iDi n) s = .next (s.issued n 1 { s.next n with sr := c.sr &&& 0xFFFF7FFF#32 })) ∧
    (s.readyFor n (.veto v) → ∃ t, exec (.iVeto n v) s = .next t ∧
      s.becomes t { s with cores := setNth s.cores n (s.next n) } [s.oneIssue n, (F.TKC.C_CTRL_VETO n, if v then 1 else 0)])

/-- STOP and BRK (R391, R426): the core is STOPPED, C_PC names the next instruction or the BRK itself, and TKC raises STOPPED. -/
def Parts.StopAndBreak : Prop :=
  ∀ (s : State) (n : Nat), s.calm →
    let ends := fun (t : State) (c : Core) => s.becomes t { s with cores := setNth s.cores n (s.halted n c), mbx := (s.withdraw n).mbx }
      [s.oneIssue n, (F.TKC.C_STATUS_STATE n, 1), (F.TKC.EVT_STOPPED, 1)]
    (s.readyFor n .stop → ∃ t, exec (.iStop n) s = .next t ∧ ends t (s.next n)) ∧
    (s.readyFor n .brk → ∃ t, exec (.iBrk n) s = .next t ∧ ends t (s.core n))

/-- Together: system instructions; stop and break. -/
def Obligations.SystemAndStops : Prop := Parts.SystemInstructions ∧ Parts.StopAndBreak

/-- What an issue checks first (R379, R380, R401): a field that breaks a rule, an instruction a delay slot does not allow, and a reserved encoding fault with
cause ILLEGAL; a read inside an open window faults with cause HAZARD; neither has another effect. -/
def Obligations.IssueChecks : Prop :=
  ∀ (s : State) (n : Nat), s.calm → s.runs n →
    (∀ i o, coreInstr i = some (n, o) → (o.ok n s.deployed = false ∨ ((s.core n).slots ≠ 0 ∧ o.slotOk = false)) →
      ∃ t, exec i s = .next t ∧ s.faulted t n 1 0) ∧
    (∀ i o, coreInstr i = some (n, o) → o.ok n s.deployed = true → ((s.core n).slots ≠ 0 → o.slotOk = true) → (s.core n).hazard o = true →
      ∃ t, exec i s = .next t ∧ s.faulted t n 2 0) ∧
    (∀ w, decodeOp w = none → ∃ t, exec (.reservedEncoding n w) s = .next t ∧ s.faulted t n 1 0)

/-- TTGT and TNOW (R425): SLOT_STATUS of the leader; and the frame, slot and symbol in progress on its grid, all ones outside RUN. -/
def Parts.TimelineReads : Prop :=
  ∀ (s : State) (n g l scs k j : Nat),
    let c := s.core n
    let put := fun (w : Word) => s.issued n 1 { s.next n with g := setNth c.g g w }
    (s.readyFor n (.ttgt g l) → exec (.iTtgt n g l) s = .next (put (s.reg (slotStatusAddr l)))) ∧
    (s.readyFor n (.tnow g l) → (s.tlRun = false ∨ s.leaderScs l = none) → exec (.iTnow n g l) s = .next (put 0xFFFFFFFF#32)) ∧
    (s.readyFor n (.tnow g l) → s.tlRun = true → s.leaderScs l = some scs → scs ≤ 2 → j ≤ 13 → s.tim.t0 ≤ s.now →
      s.slotInstant scs k ≤ s.now → s.now < s.slotInstant scs (k + 1) → s.symInstant scs k j ≤ s.now → (j < 13 → s.now < s.symInstant scs k (j + 1)) →
      exec (.iTnow n g l) s = .next (put (BitVec.ofNat 32 ((s.tim.frame0 + k / slotsPerFrame scs) % 1024 * 2 ^ 16 + k % slotsPerFrame scs * 2 ^ 8 + j))))

/-! ## Messages, semaphores, barriers and waits of a core -/

/-- SEND (R417, R447, R448, R450): the message enters the inbox with the sender's epoch; a part that is off answers DOWN. -/
def Parts.MessagesSent : Prop :=
  ∀ (s : State) (n gs ga gb : Nat),
    let c := s.core n
    let g := (c.gReg gb).toNat % 64
    let msg := ((c.gReg ga).toNat, (c.gReg (ga + 1)).toNat % 2 ^ 24 + n * 2 ^ 24 + s.epochOf n * 2 ^ 30)
    let down := s.domOn (agentDom g) = false ∨ (g < 34 ∧ (s.coreState g = 5 ∨ s.coreState g = 0))
    s.calm → s.readyFor n (.send gs ga gb) → g ≤ 35 →
    (down → s.leads (.iSend n gs ga gb) { s with cores := setNth s.cores n (s.answered n gs 3) }
      [s.oneIssue n, (F.MBX.MBX_CNT0_DOWN_CNT, min (s.f F.MBX.MBX_CNT0_DOWN_CNT + 1) 0xFFFF), (F.MBX.EVT_DOWN, 1)]) ∧
    (¬ down → (s.inboxOf g).length < 4 → s.injHit 11 g = false → (s.core g).wait = none →
      s.leads (.iSend n gs ga gb) { s with cores := setNth s.cores n (s.answered n gs (if s.mbx.peer.contains (n, g) then 4 else 0)),
                                           mbx := { s.mbx with inbox := setNth s.mbx.inbox g (s.inboxOf g ++ [msg]), peer := s.mbx.peer.filter (· != (n, g)) } }
        (s.oneIssue n :: (if g = 34 then [(F.MBX.EVT_INBOX_A, 1)] else if g = 35 then [(F.MBX.EVT_INBOX_B, 1)] else [])))

/-- RECV and RECVW take the oldest message (R417, R451): the pair and a status; STALE where the sender's epoch has moved on; EMPTY leaves the pair. -/
def Parts.MessagesReceived : Prop :=
  ∀ (s : State) (n gs ga w0 w1 : Nat) (rest : List (Nat × Nat)) (i : Instr) (o : Op),
    let c := s.core n
    let taken := fun (code : Nat) => { s with
      cores := setNth s.cores n { s.next n with g := setNth (setNth (setNth c.g ga (BitVec.ofNat 32 w0)) (ga + 1) (BitVec.ofNat 32 w1)) gs (BitVec.ofNat 32 code) },
      mbx := { s.mbx with inbox := setNth s.mbx.inbox n rest } }
    s.calm → s.readyFor n o → c.wait = none → c.got = none →
    (s.inboxOf n = [] → (i, o) = (.iRecv n gs ga, .recv gs ga) → s.leads i { s with cores := setNth s.cores n (s.answered n gs 1) } [s.oneIssue n]) ∧
    ((i, o) ∈ [(.iRecv n gs ga, .recv gs ga), (.iRecvw n gs ga, .recvw gs ga)] → s.inboxOf n = (w0, w1) :: rest →
      (s.epochOf (w1 / 2 ^ 24 % 64) = w1 / 2 ^ 30 % 4 → s.leads i (taken 0) [s.oneIssue n]) ∧
      (s.epochOf (w1 / 2 ^ 24 % 64) ≠ w1 / 2 ^ 30 % 4 → s.leads i (taken 5) [s.oneIssue n,
        (F.MBX.MBX_CNT0_STALE_CNT, min (s.f F.MBX.MBX_CNT0_STALE_CNT + 1) 0xFFFF), (F.MBX.EVT_STALE, 1)]))

/-- Together: messages sent; messages received. -/
def Obligations.Messages : Prop := Parts.MessagesSent ∧ Parts.MessagesReceived

/-- ACQ, TRYACQ and REL (R417, R418, R457, R458, R460, R461): a free semaphore is given with its owner's epoch, BROKEN where it was marked; TRYACQ of an owned
one answers BUSY; a release by its owner frees it or hands it to a host at the head of the queue; by another it answers NOTOWNER. -/
def Parts.SemaphoresOfCores : Prop :=
  ∀ (s : State) (n gs k : Nat),
    let c := s.core n
    let x := s.sem k
    let me := (n, s.epochOf n)
    let ends := fun (i : Instr) (y : Sem) (code : Nat) (l : List (Fld × Nat)) =>
      s.leads i { s with cores := setNth s.cores n (s.answered n gs code), mbx := { s.mbx with sems := setNth s.mbx.sems k y } } (s.oneIssue n :: l)
    s.calm → c.wait = none → c.got = none → k < s.mbx.sems.length →
    (s.readyFor n (.acq gs k) → s.waitsFor n = none → s.injHit 10 n = false → x.owner = none →
      ends (.iAcq n gs k) { x with owner := some me, broken := false } (if x.broken then 8 else 0) []) ∧
    (s.readyFor n (.tryacq gs k) → x.owner = none → ends (.iTryacq n gs k) { x with owner := some me, broken := false } (if x.broken then 8 else 0) []) ∧
    (s.readyFor n (.tryacq gs k) → x.owner ≠ none → ends (.iTryacq n gs k) x 6 []) ∧
    (s.readyFor n (.rel gs k) → x.owner = some me → x.queue = [] → ends (.iRel n gs k) { x with owner := none, broken := false } 0 []) ∧
    (∀ g q, s.readyFor n (.rel gs k) → x.owner = some me → x.queue = g :: q → g = 34 ∨ g = 35 →
      ends (.iRel n gs k) ({ x with owner := some (g, s.epochOf g), broken := false, queue := q } : Sem).fill 0
        [(F.BLY.HOST_STATUS_CODE (g - 34), 0), (F.BLY.HOST_STATUS_QUEUED (g - 34), 0), (if g = 34 then F.BLY.EVT_GRANT_A else F.BLY.EVT_GRANT_B, 1)]) ∧
    (s.readyFor n (.rel gs k) → x.owner ≠ some me →
      ends (.iRel n gs k) x 10 [(F.BLY.BLY_CNT2_NOTOWNER_CNT, min (s.f F.BLY.BLY_CNT2_NOTOWNER_CNT + 1) 0xFFFF), (F.BLY.EVT_NOTOWNER, 1)])

/-- RING and BAR (R417, R420, R452): a ring sets the ringer's bit; a core outside the mask gets NOT_MEMBER; the arrival of a barrier's only member closes its
generation at once. -/
def Parts.RingsAndBarriers : Prop :=
  ∀ (s : State) (n gs gb b : Nat),
    let c := s.core n
    let g := (c.gReg gb).toNat % 64
    let pend := s.dbPend g ||| 2 ^ n
    let rest := s.mbx.arrived.map (fun l => l.filter (· != n))
    s.calm → c.wait = none → c.got = none → b < 16 →
    (s.readyFor n (.ring gs gb) → g ≤ 35 → s.mode ≠ 5 →
      let l := [s.oneIssue n, (F.MBX.DB_PEND_LO_PEND g, pend % 2 ^ 32), (F.MBX.DB_PEND_HI_PEND g, pend / 2 ^ 32)] ++
        (if g = 34 then [(F.MBX.EVT_DOORBELL_A, 1)] else if g = 35 then [(F.MBX.EVT_DOORBELL_B, 1)] else [])
      (s.f F.PWR.REST_STATUS_STATE ≠ 1 →
        s.leads (.iRing n gs gb) { s with cores := setNth s.cores n (s.answered n gs 0), pwr := s.rungPwr } l) ∧
      (s.f F.PWR.REST_STATUS_STATE = 1 → s.pwr.stopped = [] → s.pwr.req = none → s.leads (.iRing n gs gb)
        { s with cores := setNth s.cores n (s.answered n gs 0), pwr := { s.pwr with asked := none } } (l ++ s.wakeRefusal))) ∧
    (s.readyFor n (.bar gs b) → (s.barMembers b).testBit n = false →
      s.leads (.iBar n gs b) { s with cores := setNth s.cores n (s.answered n gs 11), mbx := { s.mbx with arrived := rest } } [s.oneIssue n]) ∧
    (s.readyFor n (.bar gs b) → s.barMembers b = 2 ^ n → rest.getD b [] = [] → b < s.mbx.arrived.length →
      s.leads (.iBar n gs b) { s with cores := setNth s.cores n (s.answered n gs 0), mbx := { s.mbx with arrived := setNth rest b [] } }
        [s.oneIssue n, (F.TKC.BAR_STATUS_GEN b, (s.f (F.TKC.BAR_STATUS_GEN b) + 1) % 256)])

/-- Together: semaphores of cores; rings and barriers. -/
def Obligations.SemaphoresRingsAndBarriers : Prop := Parts.SemaphoresOfCores ∧ Parts.RingsAndBarriers

/-- RECVW of an empty inbox, ACQ of an owned semaphore, BAR before its last member, WSLOT, and WSYM of a symbol ahead wait (R419, R420, R425, R458); WSYM of
one that has started returns. -/
def Parts.WaitsOfCores : Prop :=
  ∀ (s : State) (n gs ga k b l sym : Nat),
    let c := s.core n
    let waits := fun (i : Instr) (o : Op) (m : MbxState) =>
      s.leads i { s with cores := setNth s.cores n (s.waiting n o), mbx := m } [s.oneIssue n, (F.TKC.C_STATUS_STATE n, 3)]
    let rest := s.mbx.arrived.map (fun l => l.filter (· != n))
    let arrived := rest.getD b [] ++ [n]
    s.calm → c.wait = none → c.got = none → s.injHit 9 n = false → s.injHit 10 n = false → s.waitsFor n = none →
    (s.readyFor n (.recvw gs ga) → s.inboxOf n = [] → waits (.iRecvw n gs ga) (.recvw gs ga) s.mbx) ∧
    (s.readyFor n (.acq gs k) → (s.sem k).owner ≠ none → s.closesCycle n k = false → (s.sem k).queue.length < 8 →
      waits (.iAcq n gs k) (.acq gs k) { s.mbx with sems := setNth s.mbx.sems k { s.sem k with queue := (s.sem k).queue ++ [n] } }) ∧
    (s.readyFor n (.bar gs b) → b < 16 → (s.barMembers b).testBit n = true → (∃ m, m < 34 ∧ (s.barMembers b).testBit m = true ∧ m ∉ arrived) →
      waits (.iBar n gs b) (.bar gs b) { s.mbx with arrived := setNth rest b arrived }) ∧
    (s.readyFor n (.wslot l) → waits (.iWslot n l) (.wslot l) s.mbx) ∧
    (s.readyFor n (.wsym gs sym l) → s.leaderScs l = none → waits (.iWsym n gs sym l) (.wsym gs sym l) s.mbx) ∧
    (∀ scs p j, s.readyFor n (.wsym gs sym l) → s.gridPos l = some (scs, p, j) → s.now < s.symInstant scs p sym →
      s.leads (.iWsym n gs sym l) { s with cores := setNth s.cores n { s.waiting n (.wsym gs sym l) with waitSym := 14 * p + sym } }
        [s.oneIssue n, (F.TKC.C_STATUS_STATE n, 3)]) ∧
    (∀ scs p j, s.readyFor n (.wsym gs sym l) → s.gridPos l = some (scs, p, j) → s.symInstant scs p sym < s.now →
      s.leads (.iWsym n gs sym l) { s with cores := setNth s.cores n (s.answered n gs 1) } [s.oneIssue n])

/-- Together: timeline reads; waits of cores. -/
def Obligations.TimelineReadsAndWaits : Prop := Parts.TimelineReads ∧ Parts.WaitsOfCores

/-- PUSH and SEAL (R15, R18 to R20, R422 to R424, R599): the entry joins the staging or live table and the pointer moves past the payload; a refused push
counts and pends source 5; with a full crossing the core is held; a seal of a leader that paces nothing returns 0, and an accepted one marks its table SEALED. -/
def Obligations.PushesAndSeals : Prop :=
  ∀ (s : State) (n blk lsel gs gh p : Nat),
    let c := s.core n
    let u := s.issuing n
    let o := Op.push blk lsel gs gh p
    let header := (c.gReg gh).toNat
    let ptr := (c.pReg p).toNat
    let len := header / 2 ^ 16 % 256
    let words := (List.range len).map (fun i => BitVec.ofNat 32 (ofLe (memRead s.mem (localCell n (ptr + 4 * i)) 4)))
    let e : CmdEntry := { blk := blk, leader := lsel, issuer := n, trig := header / 2 ^ 28 % 16, carrier := header / 2 ^ 26 % 4,
                          op := header % 2 ^ 16, payload := words }
    let status := u.pushStatus n lsel blk header (words.map BitVec.toNat)
    let after := { s.answered n gs status with p := setNth c.p p (BitVec.ofNat 32 (ptr + 4 * len)) }
    let refused := fun (x : Fld) (bit : Nat) => s.leads (.iPush n blk lsel gs gh p false) { s with cores := setNth s.cores n { after with pend := c.pend ||| 32 } }
      [s.oneIssue n, (x, min (s.f x + 1) 0xFFFF), (⟨blockBase blk, bit, bit⟩, 1)]
    s.calm →
    (s.readyFor n o → isLocal ptr = true → ptr + 4 * len ≤ 0x0F040000 → ptr % 4 = 0 → (∀ i, i < len → s.injEcc (localCell n (ptr + 4 * i)) 4 = none) →
      (status = 0 → s.leads (.iPush n blk lsel gs gh p false)
        (if header.testBit 25 then { s with live := s.live ++ [e], cores := setNth s.cores n after }
         else { s with staging := s.staging ++ [e], cores := setNth s.cores n after }) [s.oneIssue n]) ∧
      (status = 2 → refused (F.common.CMDQ_REFUSE_CNT_QUOTA_CNT blk) 30) ∧ (status = 3 → refused (F.common.CMDQ_REFUSE_CNT_QUOTA_CNT blk) 29) ∧
      s.leads (.iPush n blk lsel gs gh p true)
        { s with cores := setNth s.cores n { c.passIssues 1 with hold := some o, wdtAcc := s.wdtTime n, wdtSince := some s.now } }
        [s.oneIssue n, (F.TKC.C_STATUS_STATE n, 3)]) ∧
    (s.readyFor n (.seal lsel gs) → u.paces lsel = false →
      s.leads (.iSeal n lsel gs) { s with cores := setNth s.cores n (s.answered n gs 0) } [s.oneIssue n]) ∧
    (s.readyFor n (.seal lsel gs) → u.paces lsel = true → (u.ldr lsel).target = true → u.cutPassed lsel = false → (u.ldr lsel).sealed = false →
      lsel < s.leaders.length → ∃ t, exec (.iSeal n lsel gs) s = .next t ∧ (t.ldr lsel).sealed = true ∧ t.f (slotStatusSealed lsel) = 1 ∧ t.tim = s.tim)

/-! ## Held accesses, interrupts and the control of a core -/

/-- The access that holds a core completes (R369, R423): a load writes its register and opens its window, a store has stored, the pointer moves, and the core
goes on; the push at a full crossing reaches its block. -/
def Obligations.HeldAccesses : Prop :=
  ∀ (s : State) (n w g p mode arg : Nat) (sx : Bool) (q : Word),
    let c := s.core n
    let a := c.addrMode p (2 ^ w) mode arg
    let held := fun (u : State) => u.calm ∧ u.coreState n = 3 ∧ (u.core n).stopReq = false
    let ends := fun (i : Instr) (u : State) (d : Core) => s.leadsFrom u i (u.goesOn n d.advance) [(F.TKC.C_STATUS_STATE n, 2)]
    n < 34 → s.coreState n = 3 → w < 4 → c.afterMode p (2 ^ w) mode arg = some q → isLocal a = false → a % 2 ^ w = 0 →
    (c.hold = some (.load w sx g p mode arg) →
      let u := s.busRead n a (2 ^ w)
      let d := u.core n
      let v := u.resp.data
      u.resp.err = 0 → held u → ends (.accessComplete n) u { d with
        g := if w = 3 then setNth (setNth d.g g (BitVec.ofNat 32 v)) (g + 1) (BitVec.ofNat 32 (v / 2 ^ 32))
             else setNth d.g g (if sx then (BitVec.ofNat (8 * 2 ^ w) v).signExtend 32 else BitVec.ofNat 32 v),
        p := setNth d.p p q,
        win := if w = 3 then { reg := g + 1, kind := 0, left := 1 } :: { reg := g, kind := 0, left := 1 } :: d.win
               else { reg := g, kind := 0, left := 1 } :: d.win }) ∧
    (c.hold = some (.store w g p mode arg) →
      let u := s.busWrite n a (2 ^ w) (c.storeVal g (2 ^ w))
      u.resp.err = 0 → held u → ends (.accessComplete n) u { u.core n with p := setNth (u.core n).p p q }) ∧
    (∀ blk lsel gs gh r, c.hold = some (.push blk lsel gs gh r) →
      let u := s.pushEffect n (.push blk lsel gs gh r)
      held u → ends (.pushComplete n) u (u.core n))

/-- A core takes a pending source at an issue boundary (R382, R383): the highest level above IPL, then the lowest number; level 4 needs no IE.  PC and SR are saved,
IPL rises, the core continues at VBAR + 16 × source, and two issues pass. -/
def Obligations.InterruptEntry : Prop :=
  ∀ (s : State) (n k : Nat),
    let c := s.core n
    let takes := fun (x : Nat) => x < 10 ∧ (s.coreSources n).testBit x = true ∧ (c.sr.extractLsb' 12 3).toNat < s.srcLevel n x ∧
      (s.srcLevel n x = 4 ∨ c.sr.getLsbD 15 = true)
    let l := s.srcLevel n k
    n < 34 → s.calm → (s.coreState n = 2 ∨ (s.coreState n = 3 ∧ c.hold = none)) → c.slots = 0 → c.rep = 0 → takes k →
    (∀ x, takes x → s.srcLevel n x < l ∨ (s.srcLevel n x = l ∧ k ≤ x)) →
    ∃ sr : Word, sr.extractLsb' 12 3 = BitVec.ofNat 3 l ∧ (∀ b, b < 12 ∨ b = 15 → sr.getLsbD b = c.sr.getLsbD b) ∧
      s.leads (.interruptEntry n) { s with cores := setNth s.cores n { c.passIssues 2 with
          save := setNth c.save l (c.pc, c.sr), open_ := l :: c.open_, sr := sr, pc := (c.vbar.toNat + 16 * k) % 2 ^ 32,
          pend := if k ≤ 2 ∨ k = 6 then c.pend else c.pend &&& (1023 - 2 ^ k), wdtAcc := s.wdtTime n, wdtSince := some s.now } }
        [(F.TKC.C_CNT0_ISSUE_CNT n, (s.f (F.TKC.C_CNT0_ISSUE_CNT n) + 2) % 2 ^ 32), (F.TKC.C_STATUS_STATE n, 2)]

/-- C_CTRL (R382, R388, R390, R391): STOP halts a core at a boundary or asks it to stop; START runs a stopped or faulted core from C_START_PC with nothing open;
KICK clears the watchdog count and its warning, source 0; SOFT raises source 9; a START elsewhere draws an error response. -/
def Parts.CoreControl : Prop :=
  ∀ (s : State) (agent n : Nat), n < 34 → s.accepts agent (A.TKC.C_CTRL n) →
    let c := s.core n
    let st := s.coreState n
    let ends := fun (i : Instr) (d : Core) (m : MbxState) (l : List (Fld × Nat)) => s.leads i { s with cores := setNth s.cores n d, mbx := m, resp := {} } l
    (st = 2 ∨ (st = 3 ∧ c.hold = none) → c.slots = 0 → c.rep = 0 →
      ends (.coreStop agent n) (s.halted n c) (s.withdraw n).mbx [(F.TKC.C_STATUS_STATE n, 1), (F.TKC.EVT_STOPPED, 1)]) ∧
    ((st = 2 ∧ (c.slots ≠ 0 ∨ c.rep ≠ 0)) ∨ (st = 3 ∧ c.hold ≠ none) → ends (.coreStop agent n) { c with stopReq := true } s.mbx []) ∧
    (st = 1 ∨ st = 4 → ends (.coreStart agent n)
      { c with pc := s.f (F.TKC.C_START_PC_PC n) * 4, slots := 0, target := none, rep := 0, win := [], wait := none, got := none, hold := none, stopReq := false,
               wdtAcc := s.wdtTime n, wdtSince := some s.now } s.mbx [(F.TKC.C_STATUS_STATE n, 2), (F.TKC.C_STATUS_CAUSE n, 0)]) ∧
    (st ≠ 1 → st ≠ 4 → s.leadsFrom (s.refuse agent (A.TKC.C_CTRL n)) (.coreStart agent n) (s.refuse agent (A.TKC.C_CTRL n)) []) ∧
    ends (.coreKick agent n) { c with wdtAcc := 0, wdtSince := if st = 2 ∨ st = 3 then some s.now else none, warned := false, pend := c.pend &&& 1022 } s.mbx [] ∧
    (st ≠ 0 → ends (.coreSoft agent n) { c with pend := c.pend ||| 512 } s.mbx [])

/-- C_CTRL.STEP issues one instruction of a stopped core, which then stops again (R391); C_CTRL.RESET resets the agent and its registers, and RESETTING ends with
the data memory wiped (R393). -/
def Parts.StepsAndResets : Prop :=
  ∀ (s : State) (agent n : Nat), n < 34 → s.calm →
    let v := (s.stepBegin n).ok 0
    let u := s.agentReset n
    let w := { s with mem := memClear s.mem (dmemBase n) 0x40000,
                      cores := setNth s.cores n { s.core n with wdtAcc := s.wdtTime n, wdtSince := none } }
    (∀ o, s.accepts agent (A.TKC.C_CTRL n) → s.coreState n = 1 → s.deployed = false → decodeOp (s.imemWord n (s.core n).pc) = some o →
      (v.coreIssue n o).coreState n = 1 → s.leadsFrom (v.coreIssue n o) (.coreStep agent n) (v.coreIssue n o) []) ∧
    (s.accepts agent (A.TKC.C_CTRL n) → s.coreState n ≠ 0 → (s.core n).hold = none → s.leadsFrom u (.coreReset agent n)
      { u with cores := setNth u.cores n { wdtAcc := u.wdtTime n, wdtSince := none }, resp := {},
               arb := { u.arb with rings := setNth u.arb.rings n [], posts := u.arb.posts.map (fun p => if p.agent = n then { p with mute := true } else p) } }
      [(F.TKC.C_STATUS_STATE n, 5), (F.TKC.C_STATUS_CAUSE n, 0)]) ∧
    (s.coreState n = 5 → (s.core n).hold = none → s.leads (.coreResetDone n) w [(F.TKC.C_STATUS_STATE n, 1)])

/-- Together: core control; steps and resets. -/
def Obligations.ControlOfCores : Prop := Parts.CoreControl ∧ Parts.StepsAndResets

/-- Watchdogs (R388, R389): the one due first reaches WARN with source 0 and detector 23, or EXPIRE, which resets the device where it escalates and else faults the
core with cause WDT. -/
def Parts.Watchdogs : Prop :=
  ∀ (s : State) (n : Nat), n < 34 → s.calm →
    let due := fun (x : Nat → Fld) (m : Nat) => s.wdtInstant m (s.f (x m))
    let first := fun (x : Nat → Fld) (on : Nat → Prop) => on n ∧ ∀ m, m < 34 → on m → due x n < due x m ∨ (due x n = due x m ∧ n ≤ m)
    let counts := fun (m : Nat) => s.coreState m = 2 ∨ s.coreState m = 3
    let u := (s.advanceTo (due F.TKC.C_WDT_WARN n)).occur 23 n false
    let v := s.advanceTo (due F.TKC.C_WDT_EXPIRE n)
    let r := v.resetTrigger 4
    let w := v.occur 24 n false
    (first F.TKC.C_WDT_WARN (fun m => counts m ∧ (s.core m).warned = false ∧ s.f (F.TKC.C_WDT_WARN m) ≠ 0 ∧ s.f (F.TKC.C_WDT_WARN m) < s.f (F.TKC.C_WDT_EXPIRE m)) →
      s.leadsFrom u .wdtWarn { u with cores := setNth u.cores n { u.core n with warned := true, pend := (u.core n).pend ||| 1 } } [(F.TKC.EVT_WDT_WARN, 1)]) ∧
    (first F.TKC.C_WDT_EXPIRE (fun m => counts m ∧ s.f (F.TKC.C_WDT_EXPIRE m) ≠ 0) →
      (s.wdtEscalates n = true → s.leadsFrom r .wdtExpire r []) ∧
      (s.wdtEscalates n = false → s.leadsFrom w .wdtExpire
        { w with cores := setNth w.cores n (w.halted n (w.core n)), mbx := (w.withdraw n).mbx }
        [(F.TKC.C_STATUS_STATE n, 4), (F.TKC.C_STATUS_CAUSE n, 7), (F.TKC.C_FAULT_ADDR_ADDR n, 0), (F.TKC.EVT_FAULT, 1), (F.TKC.EVT_WDT_EXPIRE, 1)]))

/-- WAIT_TMO expires (R462, R463): a RECVW, an ACQ or a BAR of a core ends with TIMEOUT and source 8, and a queued acquire of a host with its event; the waiter
leaves its queue or barrier, and an acquire is an occurrence of detector 9. -/
def Parts.WaitTimeouts : Prop :=
  ∀ (s : State) (n gs k : Nat), s.calm →
    let us := s.f (F.MBX.WAIT_TMO_TMO n) * 384000
    let u := s.advanceTo ((s.core n).waitAt + us)
    let v := u.occur 9 n false
    let h := (s.advanceTo (s.mbx.hostAt.getD (n - 34) 0 + us)).occur 9 n false
    let waits := fun (o : Op) => n < 34 ∧ (s.core n).wait = some o ∧ (s.core n).got = none ∧ s.coreState n = 3 ∧ (s.core n).hold = none ∧ (s.core n).stopReq = false
    let ends := fun (x : State) (m : MbxState) (l : List (Fld × Nat)) => s.leadsFrom x (.waitTimeout n)
      ({ x with mbx := m }.goesOn n { x.core n with pend := (x.core n).pend ||| 256, g := setNth (x.core n).g gs 9#32, wait := none, got := none }.advance) ((F.TKC.C_STATUS_STATE n, 2) :: l)
    s.f (F.MBX.WAIT_TMO_TMO n) ≠ 0 →
    (waits (.recvw gs k) → s.inboxOf n = [] → ends u u.mbx [s.counted F.MBX.MBX_CNT1_RX_TMO_CNT, (F.MBX.EVT_RECV_TIMEOUT, 1)]) ∧
    (waits (.acq gs k) → ends v (v.leaveQueue n).mbx [s.counted F.BLY.BLY_CNT0_TIMEOUT_CNT, (F.BLY.EVT_TIMEOUT, 1)]) ∧
    (waits (.bar gs k) → ends u (u.leaveBarrier n).mbx []) ∧
    (n = 34 ∨ n = 35 → s.f (F.BLY.HOST_STATUS_QUEUED (n - 34)) = 1 → s.leadsFrom h (.waitTimeout n) { h with mbx := (h.leaveQueue n).mbx }
      [s.counted F.BLY.BLY_CNT0_TIMEOUT_CNT, (F.BLY.EVT_TIMEOUT, 1), (F.BLY.HOST_STATUS_CODE (n - 34), 9), (F.BLY.HOST_STATUS_QUEUED (n - 34), 0),
        (if n = 34 then F.BLY.EVT_GRANT_A else F.BLY.EVT_GRANT_B, 1)])

/-- Together: watchdogs; wait timeouts. -/
def Obligations.WatchdogsAndTimeouts : Prop := Parts.Watchdogs ∧ Parts.WaitTimeouts

/-! ## The shadow, plain writes, and the commands NOP and COMMIT -/

/-- SHD_CTRL (R27, R28, R33): COMMIT copies the block's shadow into the armed copy, in place of what was armed, and the fields of each register wait from then on; DISCARD
copies the active values into the shadow and keeps the armed copy. -/
def Parts.ShadowCommits : Prop :=
  ∀ (s : State) (agent b : Nat), b < 28 → s.accepts agent (blockBase b + 0xC) →
    let g := ArmTrig.commit s.now
    let u := (s.armShadow b g).applyArmed b false (fun _ => true)
    (s.commitOk b = true → (b = 3 → s.tlCounts = true) → (b = 22 → s.tlRun = true) → ∃ t, exec (.shdCommit agent b) s = .next t ∧
      s.becomes t { s with armed := t.armed, bfm := { s.bfm with committed := s.bfm.committed || b == 17 }, resp := {} } [] ∧ s.armsBlock t b g) ∧
    (s.commitOk b = false → s.leadsFrom (s.refuse agent (blockBase b + 0xC)) (.shdCommit agent b) (s.refuse agent (blockBase b + 0xC)) []) ∧
    (b = 22 → s.tlRun = false → s.leadsFrom u (.shdCommit agent b) { u with resp := {} } []) ∧
    (b = 3 → s.tlCounts = false → s.leadsFrom u.followSel (.shdCommit agent b) { u.followSel with resp := {} } []) ∧
    s.leads (.shdDiscard agent b) { s with shadow := s.shadow.map (fun e => if blkOf e.1 = b then (e.1, (s.reg e.1).toNat) else e), resp := {} } []

/-- REGISTER_WRITE (R4, R7, R27, R29): of a register that the access codes alone govern, RW and RWX fields take the word, RWL ones before Deployed and RWT ones in Test; a 1 clears a
W1C bit and a 0 leaves it; every other field keeps its value; fields of the shadow take the word in the shadow; a field that is locked or outside Test is logged, in CLK,
AUX and REG with LOCK_WRITE; a changed RWX field of what runs, or a word outside the ranges of its block, refuses the whole write. -/
def Obligations.RegisterWrites : Prop :=
  ∀ (s : State) (agent a v : Nat) (r : RegSpec), v < 2 ^ 32 → s.accepts agent a → plainAddr a = true → regSpec? a = some r →
    let i := Instr.registerWrite agent a v
    let runs := s.blkRuns a = true ∧ s.changes a v .rwx = true
    let legal := (s.tentative a v).blkLegal a = true ∧ (s.tentative a v).gridWsymOk a = true
    let takes := fun (c : Access) => c = .rw ∨ c = .rwx ∨ (c = .rwl ∧ s.afterDeployed = false) ∨ (c = .rwt ∧ s.mode = 5)
    let locked := s.changes a v .rwl = true ∧ s.afterDeployed = true
    let testOnly := s.changes a v .rwt = true ∧ s.mode ≠ 5
    let logged := s.logAccess agent a true 5
    let coded := s.setF F.BFM.WGT_STATUS_CODE 1
    let taken := fun (u : State) => ∃ t w, exec i s = .next t ∧ u.becomes t { u with shadow := t.shadow, resp := {} } [(⟨a, 31, 0⟩, w)] ∧
      (∀ x ∈ r.fields, ∀ k, x.lo ≤ k → k ≤ x.hi → (∀ y ∈ trailing, y.addr = a → k < y.lo ∨ y.hi < k) →
        (takes x.acc → w.testBit k = v.testBit k) ∧ (x.acc = .w1c → w.testBit k = ((u.reg a).getLsbD k && !v.testBit k)) ∧
        (¬ takes x.acc → x.acc ≠ .w1c → w.testBit k = (u.reg a).getLsbD k)) ∧
      (shadowFields a = [] → t.shadow = u.shadow) ∧
      (shadowFields a ≠ [] → Store.find? t.shadow a = some (t.shadowWord a) ∧ (∀ x ∈ shadowFields a, bits (t.shadowWord a) x.hi x.lo = bits v x.hi x.lo) ∧
        ∀ k, k ≠ a → Store.find? t.shadow k = Store.find? u.shadow k)
    (¬ runs → legal → ¬ locked → ¬ testOnly → taken s) ∧
    (¬ runs → legal → locked → ¬ testOnly →
      taken (if blkOf a = 2 ∨ blkOf a = 22 ∨ blkOf a = 23 then logged.setF F.REG.EVT_LOCK_WRITE 1 else logged)) ∧
    (¬ runs → legal → ¬ locked → testOnly → taken (s.logAccess agent a true 6)) ∧
    (runs ∨ ((s.tentative a v).blkLegal a = false ∧ (s.tentative a v).gridWsymOk a = true) → s.leadsFrom (s.refuse agent a) i (s.refuse agent a) []) ∧
    (¬ runs → (s.tentative a v).gridWsymOk a = false → s.leadsFrom (coded.refuse agent a) i (coded.refuse agent a) [])

/-- NOP and COMMIT of a command table (R18, R22, R27): NOP takes its time and nothing else; COMMIT arms the block's shadow for its carrier at its trigger symbol,
and the symbol-boundary fields, which RXP and TXP have, are active from then on. -/
def Parts.NopAndCommit : Prop :=
  ∀ (s : State) (b issuer c trig : Nat) (payload : List Word),
    let n := s.slotOfTrig c trig
    let u := s.advanceTo (s.symInstant (s.carScs c) n trig)
    let g := ArmTrig.command c (14 * n + trig)
    let w := (u.armShadow b g).applyAll true (fun r => blkOf r.addr == b && u.boundaryTakes c (14 * n + trig) true r)
    let ready := fun (op : Nat) => s.cmdShape b c trig op false (payload.map BitVec.toNat) = true ∧ s.cmdInSlot b c n trig op (payload.map BitVec.toNat) = true
    s.calm → b ∈ cmdBlocks → issuer < 34 → c < 4 → s.tlRun = true → s.carEn c = true → trig ≤ 13 →
    (ready 0 → s.leadsFrom u (.cmdNop b issuer c trig payload) u []) ∧
    (ready 1 → u.commitOk b = true → s.leadsFrom w (.commit b issuer c trig payload) w []) ∧
    (ready 1 → u.commitOk b = false → s.leadsFrom u (.commit b issuer c trig payload) u []) ∧
    (ready 1 → u.commitOk b = true → b ≠ 14 → b ≠ 15 → ∃ t, exec (.commit b issuer c trig payload) s = .next t ∧
      u.becomes t { u with armed := t.armed, bfm := { u.bfm with committed := u.bfm.committed || b == 17 } } [] ∧ u.armsBlock t b g)

/-- Together: shadow commits; nop and commit. -/
def Obligations.CommitsAndNops : Prop := Parts.ShadowCommits ∧ Parts.NopAndCommit

/-! ## Boundaries -/

/-- SLOT_BOUNDARY (R15, R16, R19): where the leader's table was sealed it becomes live and staging of the slot after opens, unsealed; where it was not, no command is live.  Of a
grid that is not that of R14 nothing else happens but source 3. -/
def Parts.SlotBoundaries : Prop :=
  ∀ (s : State) (l c : Nat), l < 2 → s.tlRun = true → s.paces l = true →
    let scs := (s.leaderScs l).getD 0
    let n := s.slotIdxOf l
    let u := ((s.advanceTo (s.slotInstant scs n)).txRun).applySlot l
    let t' := { u with live := u.live.filter (fun (e : CmdEntry) => e.leader != l) ++ u.staging.filter (fun (e : CmdEntry) => e.leader == l),
                       staging := u.staging.filter (fun (e : CmdEntry) => e.leader != l), leaders := setNth u.leaders l { target := true },
                       tim := { u.tim with slotIdx := setNth u.tim.slotIdx l (n + 1) } }
    -- the entries of the leader in a table; the mark of those fetched before (a COMMIT for symbol 0, R26) apart
    let own := fun (t : List CmdEntry) => (t.filter (fun e => e.leader == l)).map (fun e => { e with done := false })
    (∃ t, exec (.slotBoundary l) s = .next t ∧ t.f (slotStatusSealed l) = 0 ∧ ∀ e ∈ t.staging, CmdEntry.leader e ≠ l) ∧
    (s.calm → s.hostLedge = false → s.f F.PWR.REST_STATUS_STATE ≠ 1 → s.f F.PWR.REST_STATUS_STATE ≠ 3 → l < s.leaders.length → l < s.tim.slotIdx.length →
      ∃ t, exec (.slotBoundary l) s = .next t ∧ t.slotIdxOf l = n + 1 ∧ own t.live = (if (s.ldr l).sealed then own s.staging else []) ∧ own t.staging = [] ∧
        (t.ldr l).sealed = false ∧ (t.ldr l).missed = !(s.ldr l).sealed ∧ t.f (slotStatusSealed l) = 0 ∧
        t.f (slotStatusFrame l) = t.frameOf ((t.leaderScs l).getD 0) (n + 1) ∧ t.f (slotStatusSlot l) = (n + 1) % slotsPerFrame ((t.leaderScs l).getD 0)) ∧
    (s.calm → s.lowCarrier = some c → s.carLeader c ≠ l → (s.ldr l).sealed = true → s.restEmpty = false → s.coreState l = 1 →
      (∀ m, m < 34 → s.coreState m ≠ 3) → s.armed = [] → (∀ e ∈ s.staging, CmdEntry.op e ≠ 1) → s.leadsFrom u (.slotBoundary l)
        { t' with cores := setNth u.cores l { u.core l with pend := (u.core l).pend ||| 8 } }
        [(slotStatusSealed l, 0), (slotStatusFrame l, u.frameOf scs (n + 1)), (slotStatusSlot l, (n + 1) % slotsPerFrame scs)])

/-- SYMBOL_BOUNDARY (R19, R22): at the nominal start of its next symbol a carrier's count of symbols moves on, and no live command of that symbol is left; with no command of that
symbol, nothing armed, and no transmission nothing else happens but that the symbol's UL_CFG is noted. -/
def Parts.SymbolBoundaries : Prop :=
  ∀ (s : State) (c : Nat), c < 4 → s.tlRun = true → s.carEn c = true → c < s.tim.symIdx.length →
    let i := s.tim.symIdx.getD c 0
    let n := i / 14
    let l := s.carLeader c
    let u := (s.advanceTo (s.symInstant (s.carScs c) n (i % 14))).txRun
    (s.calm → l < s.tim.slotIdx.length → s.slotIdxOf l = n + 1 ∨ (s.slotIdxOf l = n ∧ i % 14 = 0) → ∃ t, exec (.symbolBoundary c) s = .next t ∧
      t.tim.symIdx.getD c 0 = i + 1 ∧ t.slotIdxOf l = n + 1 ∧ ∀ e ∈ t.live, CmdEntry.leader e = l → e.carrier = c → e.trig = i % 14 → e.done = true) ∧
    (s.calm → i % 14 ≠ 0 → i < s.fetchNext c → s.armed = [] → s.live = [] → s.staging = [] → s.mode ≠ 3 → s.cal.runs = [] → s.f F.CAL.CAL_STATUS_STATE ≠ 1 →
      s.lowCarrier ≠ some c → (∃ d, d < c ∧ s.carEn d = true ∧ s.carLeader d = s.carLeader c) →
      s.leadsFrom u (.symbolBoundary c) { u with
        tim := { u.tim with symIdx := setNth u.tim.symIdx c (i + 1) }
        rx := { u.rx with hold := 0 }
        bfm := { u.bfm with ulCfg := (c, i, (u.reg A.BFM.UL_CFG).toNat) :: u.bfm.ulCfg.take 127 }
        tx := { u.tx with coexMute := u.tx.coexMute &&& (255 - 2 ^ c - 2 ^ (4 + c)) } } [])

/-- Together: slot boundaries; symbol boundaries. -/
def Obligations.SlotAndSymbolBoundaries : Prop := Parts.SlotBoundaries ∧ Parts.SymbolBoundaries

/-- STAGING_CUTOFF (R15, R16): STAGE_GUARD before the boundary a sealed table is kept, and an unsealed one is discarded whole with its scheduling content, counted and
reported; RESULT_DEADLINE (R10): a late result of a block marks its output for the slot and sets RESULT_OVF. -/
def Obligations.Deadlines : Prop :=
  ∀ (s : State) (l b frame slot : Nat), s.calm →
    let scs := (s.leaderScs l).getD 0
    let u := s.advanceTo (s.slotInstant scs (s.slotIdxOf l) - s.f F.SYS.STAGE_CFG_STAGE_GUARD * 384000)
    let cut := { u with leaders := setNth u.leaders l { u.ldr l with cutoff := true } }
    (l < 2 → s.tlRun = true → s.paces l = true → l < s.leaders.length → (s.ldr l).target = true → (s.ldr l).cutoff = false →
      ((s.ldr l).sealed = true → s.leadsFrom u (.stagingCutoff l) cut []) ∧
      ((s.ldr l).sealed = false → s.leadsFrom u (.stagingCutoff l)
        { cut with staging := u.staging.filter (fun (e : CmdEntry) => e.leader != l),
                   bfm := { u.bfm with scheds := u.bfm.scheds.filter (fun (j : SchedJob) => !(j.leader == l && j.slot == u.slotIdxOf l)) } }
        [(F.SYS.DET_STATUS_SLOT_MISS, 1), s.counted (slotMissCnt l), (F.SYS.EVT_SLOT_MISS, 1)])) ∧
    (b < 28 → s.leads (.resultDeadline b frame slot) { s with invalidOut := s.invalidOut ++ [(b, frame, slot)] } [(F.SYS.DET_STATUS_RESULT_OVF, 1)])

/-! ## Modes and rests -/

/-- MODE_REQ (R47, R48, R71): refused while a transition or a rest protocol runs (5), for a transition R47 does not list (1), with held pads (2), to Test in Deployed
(3), to Serve at throttle level 4 (4), and without lock (6); else pending, or at once without a running timeline. -/
def Parts.ModeRequests : Prop :=
  ∀ (s : State) (agent m : Nat), m < 8 → s.accepts agent A.PWR.MODE_REQ →
    let i := Instr.modeReq agent m
    let refused := fun (reason : Nat) => s.leads i { s with resp := {} } [(F.PWR.MODE_STATUS_REASON, reason), (F.PWR.EVT_MODE_REFUSED, 1)]
    let pends := fun (u : State) (l : List (Fld × Nat)) => s.leads i { u with resp := {} } ((F.PWR.MODE_STATUS_PENDING, 1) :: l)
    let timed := 2 ≤ m ∧ m ≤ 4
    let free := s.f F.PWR.MODE_STATUS_PENDING = 0 ∧ s.restRuns = false
    let ok := free ∧ modeAllowed s.mode m = true
    (¬ free → refused 5) ∧
    (free → modeAllowed s.mode m = false → refused 1) ∧
    (ok → timed → s.f F.PWR.PAD_CTRL_HOLD ≠ 0 → refused 2) ∧
    (ok → m = 5 → s.deployed = true → refused 3) ∧
    (ok → timed → s.f F.PWR.PAD_CTRL_HOLD = 0 → m = 3 → s.level = 4 → refused 4) ∧
    (ok → timed → s.f F.PWR.PAD_CTRL_HOLD = 0 → ¬ (m = 3 ∧ s.level = 4) → s.f F.CLK.CLK_STATUS_STATE ≠ 2 → refused 6) ∧
    (ok → s.modeHurdle m = 0 →
      (s.mode = 1 → m = 5 → pends { s with pwr := { s.pwr with req := some (5, s.now) } } []) ∧
      (s.mode = 1 → timed → ∃ t, exec i s = .next t ∧ t.pwr.req = some (m, s.now) ∧ t.doms = 0xFFFFFFFFF ∧ t.resp = {} ∧ t.now = s.now) ∧
      (2 ≤ s.mode → s.mode ≤ 4 → timed → s.tlRun = true → pends { s with pwr := { s.pwr with req := some (m, s.now) } } []) ∧
      (2 ≤ s.mode → s.mode ≤ 4 → timed → s.tlRun = false → ∃ t, exec i s = .next t ∧ t.mode = m ∧ t.f F.PWR.MODE_STATUS_PENDING = 0 ∧
        t.f F.PWR.EVT_MODE_DONE = 1 ∧ t.pwr.req = none ∧ t.resp = {}) ∧
      (2 ≤ s.mode → s.mode ≤ 4 → m = 1 → s.tlRun = true →
        pends { s with pwr := { s.pwr with was := if s.f F.PWR.REST_STATUS_STATE = 5 then 4 else s.f F.PWR.REST_STATUS_STATE, prev := s.mode, asked := none, stopped := [], at_ := s.now, wakeSrc := 0 } }
          [(F.PWR.REST_STATUS_DEPTH, 2), (F.PWR.REST_STATUS_STATE, 1)]) ∧
      (s.mode = 5 → ∃ t, exec i s = .next t ∧ t.pwr.req = some (1, s.now) ∧ t.f F.PWR.MODE_STATUS_PENDING = 1 ∧ t.f F.SYS.BOOT_STATUS_WIPE = 1 ∧ t.resp = {}))

/-- Pending transitions (R47, R49, R70, R87, R598): at its slot boundary a transition is done; Test is reached after 10 µs with every domain on and the timeline IDLE;
Base camp is left after 120 µs; and the wipe on leaving Test clears context and message memory. -/
def Parts.ModeTransitions : Prop :=
  ∀ (s : State) (m at_ : Nat), s.calm → s.pwr.req = some (m, at_) →
    let u := s.advanceTo (at_ + 10 * 384000)
    let done := fun (t : State) => t.f F.PWR.MODE_STATUS_PENDING = 0 ∧ t.f F.PWR.EVT_MODE_DONE = 1 ∧ t.pwr.req = none
    (2 ≤ s.mode → s.mode ≤ 4 → m < 8 → ∃ t, exec .modeTransitionApply s = .next t ∧ done t ∧ t.mode = m) ∧
    (s.mode = 1 → m = 5 → s.f F.TIM.TL_STATUS_STATE = 0 → s.leadsFrom u .modeTransitionApply { u with doms := 0xFFFFFFFFF, pwr := { u.pwr with req := none } }
      [(F.PWR.MODE_STATUS_MODE, 5), (F.PWR.MODE_STATUS_PENDING, 0), (F.PWR.EVT_MODE_DONE, 1)]) ∧
    (s.mode = 1 → 2 ≤ m → m ≤ 4 → ∃ t, exec .basecampExitDone s = .next t ∧ done t ∧ t.mode = m ∧ t.pwr.prev = m) ∧
    (s.mode = 5 → m = 1 → ∃ t, exec .wipeComplete s = .next t ∧ done t ∧ t.mode = 1 ∧ t.f F.SYS.BOOT_STATUS_WIPE = 0 ∧ t.doms = 0xFC0000FFF ∧
      ∀ a, a < 0x03000000 ∨ (0x04000000 ≤ a ∧ a < 0x04200000) → memGet t.mem a = 0)

/-- Together: mode requests; mode transitions. -/
def Obligations.MajorModes : Prop := Parts.ModeRequests ∧ Parts.ModeTransitions

/-- REST_REQ and the prepare phase (R53, R55 to R57): a request is refused by PWR as busy or as fitting no depth, or starts; each participant is asked in turn,
agrees or refuses, or does not answer in time; the last agreement commits. -/
def Parts.RestProtocol : Prop :=
  ∀ (s : State) (agent budget k c j : Nat), s.calm →
    let refusal := fun (u : State) (b code : Nat) => [(F.PWR.REST_STATUS_REFUSE_BLOCK, b), (F.PWR.REST_STATUS_REFUSE_CODE, code),
      (F.PWR.REST_STATUS_REFUSE_CNT, min (u.f F.PWR.REST_STATUS_REFUSE_CNT + 1) 255), (F.PWR.EVT_REST_REFUSED, 1)]
    let busy := s.mode = 5 ∨ s.f F.PWR.MODE_STATUS_PENDING ≠ 0 ∨ s.restRuns = true ∨ s.wakeRuns = true
    let ask := fun (u : State) (stopped : List Nat) (i : Nat) => { u with pwr := { u.pwr with stopped := stopped, asked := some i, at_ := u.now } }
    let port := fun (i : Nat) => 9 ≤ i ∧ i ≤ 14
    let u := match s.gridScs with
      | some scs => s.advanceTo (s.slotInstant scs (s.slotAfter scs (s.now + 1)))
      | none => s
    let v := s.advanceTo (s.pwr.at_ + s.f F.PWR.REST_CFG_PREP_TIMEOUT * 384000)
    let fails := fun (i : Instr) (x : State) (code : Nat) =>
      let y := x.each x.pwr.stopped.reverse State.restRestart
      s.leadsFrom y i { y with pwr := { y.pwr with asked := none, stopped := [] } } ((F.PWR.REST_STATUS_STATE, y.pwr.was % 16) ::
        (F.PWR.MODE_STATUS_PENDING, if y.pwr.req = none then 0 else y.f F.PWR.MODE_STATUS_PENDING) :: refusal y k code)
    (budget < 2 ^ 24 → s.accepts agent A.PWR.REST_REQ →
      (busy → s.leads (.restReq agent budget) { s with resp := {} } (refusal s 31 9)) ∧
      (¬ busy → s.chooseDepth budget = 0 → s.leads (.restReq agent budget) { s with resp := {} } (refusal s 31 8)) ∧
      (¬ busy → s.chooseDepth budget = k → k ≠ 0 → s.active = true → s.tlRun = true → s.leads (.restReq agent budget)
        { s with pwr := { s.pwr with was := if s.f F.PWR.REST_STATUS_STATE = 5 then 4 else s.f F.PWR.REST_STATUS_STATE, prev := s.mode, asked := none, stopped := [], at_ := s.now, wakeSrc := 0 }, resp := {} }
        [(F.PWR.REST_STATUS_DEPTH, k), (F.PWR.REST_STATUS_STATE, 1)])) ∧
    (s.f F.PWR.REST_STATUS_STATE = 1 → s.pwr.asked = none →
      s.leadsFrom u .prepareStart (ask u u.pwr.stopped (if s.depth = 1 then 3 else if s.depth = 2 then 1 else 0)) []) ∧
    (s.pwr.asked = some k →
      (s.partAnswer k = 0 → k ≠ 18 → (participants s.depth).find? (k < ·) = some j → ¬ port j →
        s.leads .participantAnswer (ask s (s.pwr.stopped ++ [k]) j) []) ∧
      (s.partAnswer k = 0 → k ≠ 18 → (participants s.depth).find? (k < ·) = none → s.depth ≠ 3 → s.leads .participantAnswer
        { s with pwr := { s.pwr with stopped := s.pwr.stopped ++ [k], asked := none, at_ := s.now, sigs := [] } } [(F.PWR.REST_STATUS_STATE, 3)]) ∧
      (s.partAnswer k = c → c ≠ 0 → k < 32 → c < 16 → fails .participantAnswer s c) ∧
      (k < 32 → fails .prepTimeout v 6))

/-- Entries and wakes (R54, R55, R58, R62, R65, R72, R606): host Ledge, Base camp and Bivouac are entered; REST_CTRL.WAKE ends host Ledge at the next slot boundary,
leaves Base camp for the mode before the rest, refuses a prepare, and is kept after a commit; the management address is acknowledged outside a wake and a reset, wakes
from Bivouac and counts as a wake source during an entry. -/
def Parts.RestEntriesAndWakes : Prop :=
  ∀ (s : State) (agent : Nat), s.calm →
    let st := s.f F.PWR.REST_STATUS_STATE
    let u := match s.gridScs with
      | some scs => s.advanceTo (s.slotInstant scs (s.slotAfter scs s.pwr.at_))
      | none => s
    let later := fun (k : Nat) => { s with pwr := { s.pwr with wakeSrc := s.pwr.wakeSrc ||| k } }
    let acked := fun (x : State) (d : Bool) => { x with io := { x.io with mgmtAck := decide (s.pwr.seq = 0), mgmtData := d } }
    (st = 3 → s.depth = 1 →
      let l := fun (x : Nat) => [(F.PWR.LEDGE_STATUS_TX_LEDGE, 0xFF), (F.PWR.LEDGE_STATUS_RX_LEDGE, 0xFF), (F.PWR.REST_STATUS_STATE, x), (F.PWR.EVT_REST_ENTERED, 1)]
      (s.pwr.wakeSrc = 0 → s.leadsFrom u .restEntryComplete { u with pwr := { u.pwr with stopped := [], rest := 1 } } (l 4)) ∧
      (s.pwr.wakeSrc ≠ 0 → s.leadsFrom u .restEntryComplete { u with pwr := { u.pwr with stopped := [], rest := 1 } }
        (l 5 ++ [(⟨A.PWR.WAKE_CAUSE, 31, 0⟩, s.pwr.wakeSrc % 8), (F.PWR.REST_CTRL_WAKE, 1)]))) ∧
    (st = 3 → s.depth = 2 → s.pwr.wakeSrc = 0 → ∃ t, exec .restEntryComplete s = .next t ∧ t.f F.PWR.REST_STATUS_STATE = 4 ∧
      t.f F.PWR.EVT_REST_ENTERED = 1 ∧ t.f F.PWR.MODE_STATUS_PENDING = 0 ∧ t.f F.PWR.EVT_MODE_DONE = 1 ∧ t.mode = 1 ∧ t.doms = 0xFC0000FFF) ∧
    (st = 3 → s.depth = 3 → ∃ t, exec .restEntryComplete s = .next t ∧ t.mode = 0 ∧ t.doms = 3 ∧ t.cores = List.replicate 34 {} ∧ t.mbx = {} ∧ t.pwr.seq = 0 ∧
      ∀ a, s.isRetained a = true → memGet t.mem a = memGet s.mem a) ∧
    (s.accepts agent A.PWR.REST_CTRL →
      (st = 4 → s.hostLedge = true → s.leads (.restWake agent) { s with resp := {} }
        [(⟨A.PWR.WAKE_CAUSE, 31, 0⟩, 4), (F.PWR.REST_CTRL_WAKE, 1), (F.PWR.REST_STATUS_STATE, 5)]) ∧
      (st = 4 → s.hostLedge = false → s.mode = 1 → s.f F.PWR.MODE_STATUS_PENDING = 0 → 2 ≤ s.pwr.prev → s.pwr.prev ≤ 4 →
        (s.modeHurdle s.pwr.prev = 0 → ∃ t, exec (.restWake agent) s = .next t ∧ t.pwr.req = some (s.pwr.prev, s.now) ∧ t.f ⟨A.PWR.WAKE_CAUSE, 31, 0⟩ = 4 ∧
          t.f F.PWR.REST_STATUS_STATE = 5 ∧ t.f F.PWR.MODE_STATUS_PENDING = 1 ∧ t.doms = 0xFFFFFFFFF ∧ t.resp = {}) ∧
        (s.modeHurdle s.pwr.prev ≠ 0 → s.leads (.restWake agent) { s with resp := {} }
          [(F.PWR.MODE_STATUS_REASON, s.modeHurdle s.pwr.prev), (F.PWR.EVT_MODE_REFUSED, 1)])) ∧
      (st = 3 → s.leads (.restWake agent) { later 4 with resp := {} } []) ∧
      (st = 1 → s.pwr.stopped = [] → s.leads (.restWake agent) { s with pwr := { s.pwr with asked := none }, resp := {} }
        [(F.PWR.REST_STATUS_STATE, s.pwr.was % 16), (F.PWR.MODE_STATUS_PENDING, if s.pwr.req = none then 0 else s.f F.PWR.MODE_STATUS_PENDING), (F.PWR.REST_STATUS_REFUSE_BLOCK, 31), (F.PWR.REST_STATUS_REFUSE_CODE, 7),
         (F.PWR.REST_STATUS_REFUSE_CNT, min (s.f F.PWR.REST_STATUS_REFUSE_CNT + 1) 255), (F.PWR.EVT_REST_REFUSED, 1)])) ∧
    ((s.mode = 0 → s.pwr.seq = 0 → s.leads .mgmtAddrMatch (acked (later 1) false) []) ∧
      (¬ (s.mode = 0 ∧ s.pwr.seq = 0) → st = 3 → s.leads .mgmtAddrMatch (acked (later 1) (decide (s.pwr.seq = 0))) []) ∧
      (¬ (s.mode = 0 ∧ s.pwr.seq = 0) → st ≠ 1 → st ≠ 3 → s.leads .mgmtAddrMatch (acked s (decide (s.pwr.seq = 0))) []) ∧
      (¬ (s.mode = 0 ∧ s.pwr.seq = 0) → st = 1 → s.pwr.stopped = [] → s.pwr.req = none → s.leads .mgmtAddrMatch
        (acked { s with pwr := { s.pwr with asked := none } } (decide (s.pwr.seq = 0))) s.wakeRefusal))

/-- Together: rest protocol; rest entries and wakes. -/
def Obligations.Rest : Prop := Parts.RestProtocol ∧ Parts.RestEntriesAndWakes

/-- Ledge, micro-rest and pads (R50, R51, R61): 2.0 µs before a boundary the groups without work are chosen and those with work leave Ledge; a converter leaves
micro-rest for its next work; PAD_CTRL.RELEASE frees the named groups and no other. -/
def Obligations.LedgeAndPads : Prop :=
  ∀ (s : State) (q agent mask c : Nat), s.calm →
    let u := s.advanceTo (s.slotInstant (s.carScs c) (s.slotIdxOf (s.carLeader c)) - 2 * 384000)
    let v := s.advanceTo (s.symStartAt (s.tim.symIdx.getD c 0) - 500 * 384)
    let hold := s.f F.PWR.PAD_CTRL_HOLD
    (s.tlRun = true → s.lowCarrier = some c → s.leadsFrom u .ledgeDecision { u with pwr := { u.pwr with ledge := u.ledgeNext } } []) ∧
    (s.tlRun = true → s.lowCarrier = some c → s.mode = 3 → s.hostLedge = false → s.leadsFrom u .ledgeExit u
      [(F.PWR.LEDGE_STATUS_TX_LEDGE, u.f F.PWR.LEDGE_STATUS_TX_LEDGE &&& (u.ledgeNext / 256)), (F.PWR.LEDGE_STATUS_RX_LEDGE, u.f F.PWR.LEDGE_STATUS_RX_LEDGE &&& (u.ledgeNext % 256))]) ∧
    (s.tlRun = true → s.lowCarrier = some c → q < 136 → 64 ≤ q ∨ (s.txp q).dac ≠ 1 ∨ s.f (F.TXP.P_STATUS_SWITCH q) = 0 → q ∈ s.pwr.micro →
      s.leadsFrom v (.microRestExit q) { v with pwr := { v.pwr with micro := v.pwr.micro.filter (· != q) } } []) ∧
    (s.tlRun = true → s.lowCarrier = some c → q < 64 → q ∈ s.pwr.micro → (s.txp q).dac = 1 → s.f (F.TXP.P_STATUS_SWITCH q) = 1 →
      s.leadsFrom v (.microRestExit q) { v with pwr := { v.pwr with micro := v.pwr.micro.filter (· != q) },
                                                tx := { v.tx with paths := setNth v.tx.paths q { v.txp q with dac := 3 } } } []) ∧
    (mask < 64 → s.accepts agent A.PWR.PAD_CTRL → ∃ h, (∀ k, k < 6 → h.testBit k = (hold.testBit k && !mask.testBit k)) ∧ h < 64 ∧
      s.leads (.padRelease agent mask) { s with pwr := { s.pwr with latch := s.pwr.latch.filter (fun x => !mask.testBit x.1) }, resp := {} } [(F.PWR.PAD_CTRL_HOLD, h)])

/-! ## Resets, wakes and boot -/

/-- Reset sources (R78, R82 to R84): a supply dip resets at once; RESET_N and the key 0xA5 of SW_RESET quiet the outputs and wait for the NVM word in flight, another key
does nothing, nor does a core's write (log entry 81); while a reset is active a source is only recorded; and a reset leaves every register but RESET_CAUSE and the held pads at its Reset value. -/
def Parts.Resets : Prop :=
  ∀ (s : State) (agent key : Nat), s.calm →
    let inReset := fun (t : State) (l : List (Fld × Nat)) => State.reset.becomes t
      { State.reset with pending := s.pending, now := s.now, freeCnt := t.freeCnt, nvm := t.nvm, pwr := t.pwr }
      ((⟨A.SYS.RESET_CAUSE, 31, 0⟩, (s.reg A.SYS.RESET_CAUSE).toNat) :: l) ∧ t.pwr.seq = 2
    let triggered := fun (t : State) (c : Nat) => t.pwr.seq = 1 ∧ t.pwr.seqAt = s.now ∧ t.pwr.cause = s.pwr.cause ||| 2 ^ c ∧
      ∀ p, p < 64 → t.f (F.TXP.P_STATUS_SWITCH p) = 0
    (∃ t, exec (.supplyDip true) s = .next t ∧ inReset t [] ∧ t.nvm.mem = s.nvm.mem ∧ t.pwr.cause = s.pwr.cause ||| 1 ∧ t.pwr.railLow = true) ∧
    (∃ t, exec (.supplyDip false) s = .next t ∧ inReset t [(F.PWR.PAD_CTRL_HOLD, s.f F.PWR.PAD_CTRL_HOLD)] ∧ t.nvm.mem = s.nvm.mem ∧
      t.pwr.cause = s.pwr.cause ||| 2 ∧ t.pwr.latch = s.pwr.latch) ∧
    (s.pwr.seq ≠ 1 → s.pwr.seq ≠ 2 → ∃ t, exec .resetPin s = .next t ∧ triggered t 2 ∧ t.pwr.resetLow = true) ∧
    (s.pwr.seq = 1 ∨ s.pwr.seq = 2 → s.leads .resetPin { s with pwr := { s.pwr with cause := s.pwr.cause ||| 4, resetLow := true } } []) ∧
    (key < 256 → s.accepts agent A.SYS.SW_RESET →
      (key = 0xA5 → 34 ≤ agent → s.pwr.seq = 0 → ∃ t, exec (.swReset agent key) s = .next t ∧ triggered t 3) ∧
      (key ≠ 0xA5 ∨ agent < 34 → s.leads (.swReset agent key) { s with resp := {} } [])) ∧
    (s.pwr.seq = 1 → ∃ t, exec .resetApply s = .next t ∧ inReset t [(F.PWR.PAD_CTRL_HOLD, s.f F.PWR.PAD_CTRL_HOLD)] ∧ t.nvm.mem = s.nvmHalt.nvm.mem ∧
      t.pwr.latch = s.pwr.latch ∧ t.pwr.seqAt = s.now)

/-- The sequence after a reset (R78, R85, R86, R93): the supplies release it; RESET_CAUSE takes the sources, alone after a power-on; without REFCLK it waits, and with
it Base camp is reached with every core STOPPED and RESET_DONE raised. -/
def Parts.ResetSequences : Prop :=
  ∀ (s : State) (upsets : List (Nat × Byte)) (ue : List Nat),
    let base := fun (t : State) => t.mode = 1 ∧ t.pwr.seq = 0 ∧ t.doms = 0xFC0000FFF ∧ t.f F.SYS.EVT_RESET_DONE = 1 ∧ t.f F.SYS.BOOT_STATUS_WIPE = 0 ∧
      ∀ n, n < 34 → t.coreState n = 1
    let por := s.pwr.cause.testBit 0
    let off := ∀ n, n < 34 → s.coreState n = 0
    s.calm →
    (s.pwr.railLow = true → s.leads .porRelease { s with pwr := { s.pwr with railLow := false, resetLow := false, seq := 3, seqAt := s.now } } []) ∧
    (s.pwr.seq = 2 ∨ s.pwr.seq = 3 → s.pwr.railLow = false →
      (∃ t, exec (.resetSequence false) s = .next t ∧ t.pwr.seq = 4 ∧ t.pwr.seqAt = s.now ∧ t.doms = 0xF ∧ t.now = s.now + 100 * 384000 ∧
        t.f ⟨A.SYS.RESET_CAUSE, 5, 0⟩ = (if por then s.pwr.cause % 64 else (s.f ⟨A.SYS.RESET_CAUSE, 5, 0⟩ ||| s.pwr.cause) % 64) ∧
        t.f F.SYS.RESET_CAUSE_RESET_CNT = (if por then 0 else min (s.f F.SYS.RESET_CAUSE_RESET_CNT + 1) 255)) ∧
      (off → ∃ t, exec (.resetSequence true) s = .next t ∧ base t)) ∧
    (s.pwr.seq = 4 → off → ∃ t, exec (.refclkPresent upsets ue) s = .next t ∧ base t)

/-- Together: resets; reset sequences. -/
def Obligations.ResetsAndTheirSequences : Prop := Parts.Resets ∧ Parts.ResetSequences

/-- Wakes from Bivouac (R64 to R69): the latched source is recorded; without REFCLK the sequencer waits and after 10 ms returns to Bivouac; with it the domains come on
and the boot window opens, with the image of the boot bank where BOOT_EN is set and no thermal restart woke it. -/
def Parts.Wakes : Prop :=
  ∀ (s : State) (upsets : List (Nat × Byte)) (ue : List Nat), s.calm →
    let src := if s.thm.off ∧ s.pwr.wakeSrc.testBit 1 = false then 0 else s.pwr.wakeSrc
    let window := fun (t : State) => t.pwr.seq = 6 ∧ t.doms = 0x1FFF ∧ (t.f F.PWR.WAKE_CFG_BOOT_EN = 1 → t.f F.PWR.WAKE_CAUSE_THERMAL = 0 → t.f F.SYS.BOOT_STATUS_ROM_STATE = 3 ∧
      t.pwr.boot = some { wake := true, base := (bankBase (t.f F.PWR.WAKE_CFG_BOOT_BANK)).1, len := 0 })
    (s.mode = 0 → s.pwr.seq = 0 → src ≠ 0 →
      (∃ t, exec (.wakeStart false upsets ue) s = .next t ∧ t.pwr.seq = 5 ∧ t.pwr.seqAt = s.now ∧ t.doms = 0xF ∧ t.f F.PWR.REST_STATUS_STATE = 5 ∧
        t.f ⟨A.PWR.WAKE_CAUSE, 31, 0⟩ = src % 8 + (if s.pwr.late then 512 else 0) ∧ t.now = s.now + 100 * 384000) ∧
      (∃ t, exec (.wakeStart true upsets ue) s = .next t ∧ window t ∧ t.pwr.seqAt = s.now)) ∧
    (s.pwr.seq = 5 → (∃ t, exec .wakeRefclkTimeout s = .next t ∧ t.mode = 0 ∧ t.f F.PWR.WAKE_CAUSE_REFCLK_LATE = 1 ∧ t.pwr.late = true ∧ t.doms = 3 ∧ t.pwr.seq = 0) ∧
      (s.doms = 0xF → ∃ t, exec (.refclkPresent upsets ue) s = .next t ∧ window t))

/-- Boot (R88 to R90, R561): GO starts the check of the image BOOT_IMG names, in LINK_UP, WAIT_IMAGE and REJECTED only; an image that fails is rejected with its code; one
that passes is copied section by section, and LC0 runs at its entry. -/
def Parts.Boots : Prop :=
  ∀ (s : State) (agent : Nat) (b : BootRun), s.calm →
    let code := s.imageCode b
    let secs := (List.range (s.img b 16 2)).map (s.imgSection b)
    (s.accepts agent A.SYS.BOOT_CTRL →
      (s.f F.SYS.BOOT_STATUS_ROM_STATE ∈ [1, 2, 6] → s.leads (.bootGo agent)
        { s with pwr := { s.pwr with boot := some { wake := false, base := s.f F.SYS.BOOT_IMG_ADDR_ADDR, len := s.f F.SYS.BOOT_IMG_LEN_LEN } }, resp := {} }
        [(F.SYS.BOOT_STATUS_SOURCE, if agent = 35 then 1 else 0), (F.SYS.BOOT_STATUS_ROM_STATE, 3)]) ∧
      (s.f F.SYS.BOOT_STATUS_ROM_STATE ∉ [1, 2, 6] → s.leadsFrom (s.refuse agent A.SYS.BOOT_CTRL) (.bootGo agent) (s.refuse agent A.SYS.BOOT_CTRL) [])) ∧
    (s.pwr.boot = some b → code ≠ 0 → s.leads .bootVerifyDone { s with pwr := { s.pwr with boot := none } }
      [(F.SYS.BOOT_STATUS_REJECT_CODE, code), (F.SYS.BOOT_STATUS_REJECT_CNT, min (s.f F.SYS.BOOT_STATUS_REJECT_CNT + 1) 255),
       (F.SYS.BOOT_STATUS_ROM_STATE, 6), (F.SYS.EVT_BOOT_REJECT, 1)]) ∧
    (s.pwr.boot = some b → code = 0 → 0 < s.cores.length → (b.wake = true → b.base + 524288 ≤ 0x03000000) → ∃ t, exec .bootVerifyDone s = .next t ∧
      t.pwr.boot = none ∧ t.coreState 0 = 2 ∧ (t.core 0).pc = s.img b 12 4 ∧ t.f F.SYS.BOOT_STATUS_ROM_STATE = 5 ∧ t.f F.SYS.EVT_BOOT_DONE = 1 ∧
      ∀ x ∈ secs, memRead t.mem ((if x.data then dmemBase x.core else imemBase x.core) + x.dst) x.len = memRead s.mem (b.base + x.src) x.len)

/-- Together: wakes; boots. -/
def Obligations.WakesAndBoots : Prop := Parts.Wakes ∧ Parts.Boots

/-! ## Ports, lanes and sleep -/

/-- Training (R97, R107, R108, R120, R121): a port that is enabled, retrained, timed out or back with AUTO_RETRAIN searches, sending training cairns from the seeds of LANE_SEED; READY
makes it UP once its own receive side is complete; a port that leaves UP raises PORT_DOWN and counts. -/
def Obligations.PortTraining : Prop :=
  ∀ (s : State) (agent p present : Nat), p < 6 → p < s.ports.length →
    let x := s.port p
    let seeds := (List.range 8).map (fun l => s.f (F.LNK.LANE_SEED_SEED p l))
    let sets := fun (u : State) (y : PortSt) => { u with ports := setNth u.ports p y }
    let down := fun (y : PortSt) => { y with reqWake := none, reqDeep := none, deepOk := false, seeking := false }
    let downs := fun (cause next : Nat) => [(F.LNK.PORT_STATUS_DOWN_CAUSE p, cause), (F.LNK.PORT_STATUS_STATE p, next), (F.LNK.PORT_STATUS_CAIRN_LOCK p, 0),
      (F.LNK.PORT_STATUS_TX_DIR p, 0), (F.LNK.PORT_STATUS_RX_DIR p, 0), (F.LNK.SLEEP_CTRL_RX_WAKE p, 0)]
    let seeks := fun (i : Instr) (v u : State) (l : List (Fld × Nat)) => ∃ t, exec i s = .next t ∧
      v.becomes t u ([(F.LNK.PORT_STATUS_STATE p, 1), (F.LNK.PORT_CTRL_RETRAIN p, 0)] ++ l) ∧ (t.port p).txScr = seeds
    let st := s.portState p
    let ends := s.advanceTo (x.trainAt + s.f (F.LNK.PORT_CFG_TRAIN_TIMEOUT p) * 384000000)
    let lost := fun (t : State) (cause next : Nat) => t.portState p = next ∧ t.f (F.LNK.PORT_STATUS_DOWN_CAUSE p) = cause ∧ t.f (F.LNK.EVT_PORT_DOWN p) = 1 ∧
      t.f (F.LNK.ERR_CNT1_DOWN_CNT p) = (s.countsTo (F.LNK.ERR_CNT1_DOWN_CNT p) 1).2 ∧ t.resp = {}
    (s.accepts agent (A.LNK.PORT_CTRL p) → s.f (F.LNK.PORT_CTRL_EN p) = 0 → st = 0 →
      seeks (.portEnable agent p) s { sets s { x with seeking := true } with resp := {} } [(F.LNK.PORT_CTRL_EN p, 1), (F.LNK.PORT_STATUS_DOWN_CAUSE p, 0)]) ∧
    (s.quiet → s.accepts agent (A.LNK.PORT_CTRL p) →
      (s.f (F.LNK.PORT_CTRL_EN p) = 1 →
        (st ≠ 3 → s.leads (.portDisable agent p) { sets s (down x) with resp := {} } ((F.LNK.PORT_CTRL_EN p, 0) :: downs 7 0)) ∧
        (st = 3 → ∃ t, exec (.portDisable agent p) s = .next t ∧ lost t 7 0 ∧ t.f (F.LNK.PORT_CTRL_EN p) = 0)) ∧
      (st = 0 → s.leads (.retrain agent p) { s with resp := {} } []) ∧
      (st ≠ 0 → st ≠ 3 → seeks (.retrain agent p) s { sets s { down x with seeking := true } with resp := {} } ((downs 8 1).filter (fun y => y.1 != F.LNK.PORT_STATUS_STATE p))) ∧
      (st = 3 → ∃ t, exec (.retrain agent p) s = .next t ∧ lost t 8 1 ∧ (t.port p).seeking = true ∧ (t.port p).txScr = seeds)) ∧
    (s.quiet → st = 2 → s.bonded p = false → s.f F.SYS.BOOT_STATUS_ROM_STATE ≠ 1 →
      (x.rxDone = false → s.leads (.ready p) (sets s { x with readyGot := true }) []) ∧
      (x.rxDone = true → s.leads (.ready p)
        (sets s { x with readyGot := true, alloc := [], cum := List.replicate 8 0, freed := List.replicate 8 0, announced := false, upAt := s.now, rx := none,
                         rxAt := {}, rxWords := [], rxNorm := none })
        [(F.LNK.PORT_STATUS_STATE p, 3), (F.LNK.PORT_STATUS_TX_DIR p, 0), (F.LNK.PORT_STATUS_RX_DIR p, 0), (F.LNK.EVT_PORT_UP p, 1),
         (F.RTE.BOND_STATUS_ACTIVE, (s.f F.RTE.BOND_STATUS_ACTIVE ||| 2 ^ p) % 64)])) ∧
    (s.calm → st ≠ 2 → s.f F.SYS.BOOT_STATUS_ROM_STATE ≠ 1 → s.leads (.ready p) s []) ∧
    (s.quiet → st = 2 →
      (s.f (F.LNK.PORT_CFG_AUTO_RETRAIN p) = 0 → s.leadsFrom ends (.trainTimeout p) (sets ends (down (ends.port p))) ((F.LNK.EVT_TRAIN_FAIL p, 1) :: downs 5 1)) ∧
      (s.f (F.LNK.PORT_CFG_AUTO_RETRAIN p) = 1 → seeks (.trainTimeout p) ends (sets ends { down (ends.port p) with seeking := true })
        ((F.LNK.EVT_TRAIN_FAIL p, 1) :: (downs 5 1).filter (fun y => y.1 != F.LNK.PORT_STATUS_STATE p)))) ∧
    (s.quiet → ∀ t0, x.sigSince = some t0 → s.f (F.LNK.PORT_CTRL_EN p) = 1 → st = 1 →
      let u := s.advanceTo (t0 + s.f (F.LNK.SLEEP_CFG_PLUG_DEBOUNCE p) * 38400000)
      (s.f (F.LNK.PORT_CFG_AUTO_RETRAIN p) = 0 ∨ x.seeking = true → s.leadsFrom u (.signalReturn p) u [(F.LNK.EVT_SIGNAL_RETURN p, 1)]) ∧
      (s.f (F.LNK.PORT_CFG_AUTO_RETRAIN p) = 1 → x.seeking = false →
        seeks (.signalReturn p) u (sets u { u.port p with seeking := true }) [(F.LNK.EVT_SIGNAL_RETURN p, 1)])) ∧
    (s.calm → x.deepAgreed = false → s.leads (.signalChange p present) (sets s { x with
        sigSince := if present % 256 = 255 then some (x.sigSince.getD s.now) else none,
        losSince := (List.range 8).map (fun l => if present.testBit l then none else some ((x.losSince.getD l none).getD s.now)) })
      [(F.LNK.PORT_STATUS_LOS p, 255 - present % 256)])

/-- Lanes and loss (R98 to R104, R107, R109, R119, R121 to R125): in training eight good cairns adopt their scrambler states, and four in a row lock; all eight complete the receive
side; a missing one counts, and the fourth drops the lock and an UP port; loss of signal drops it; the pattern checkers lock, count and lose lock. -/
def Parts.LanesAndLoss : Prop :=
  ∀ (s : State) (p l gap a b : Nat) (lines : List (List Bool)) (bs : List Bool), s.quiet → p < 6 → l < 8 → p < s.ports.length →
    let x := s.port p
    let sets := fun (u : State) (y : PortSt) => { u with ports := setNth u.ports p y }
    let lane := fun (k : Nat) => unstuff (x.runBit.getD k (0, 0)) (lines.getD k [])
    let span := fun (k : Nat) => (lane k).out.length - 64
    let cairn := fun (k : Nat) => bitsToNat ((lane k).out.drop (span k))
    let lock := s.f (F.LNK.PORT_STATUS_CAIRN_LOCK p)
    let up := s.portState p = 3
    let downs := fun (t : State) (cause : Nat) => t.portState p = 1 ∧ t.f (F.LNK.PORT_STATUS_DOWN_CAUSE p) = cause ∧ t.f (F.LNK.EVT_PORT_DOWN p) = 1 ∧
      t.f (F.LNK.PORT_STATUS_CAIRN_LOCK p) = 0
    let checks := s.mode = 5 ∧ s.f (F.LNK.PORT_CTRL_EN p) = 0 ∧ s.f (F.LNK.LANE_PAT_CFG_CHK_EN p l) = 1 ∧ s.f (F.LNK.LANE_PAT_CFG_LOOP p l) = 0
    let pat := s.f (F.LNK.LANE_PAT_CFG_PAT p l)
    let win := (x.chkWin.getD l 0 * 2 ^ (min gap 64 + 1) + 1) % 2 ^ 64
    (s.portState p = 2 → s.rxDir p = 0 → lock = 0 → s.mode ≠ 5 → s.bonded p = false → s.f F.SYS.BOOT_STATUS_ROM_STATE ≠ 1 → x.readyGot = false → x.bondRx = 0 →
      x.injMiss = List.replicate 8 0 → x.runBit.length = 8 → x.rxScr.length = 8 → x.missRun.length = 8 → x.lockRun.length = 8 →
      (∀ k, k < 8 → 64 ≤ (lane k).out.length ∧ (lane k).viol = 0 ∧ (x.lockRun.getD k 0 = 0 ∨ span k = 8192) ∧ cairnGood k (cairn k) = true ∧ cairnKind (cairn k) = 2 ∧
        cairnSig (cairn k) = 0) → ∃ t, exec (.cairnReceived p lines 0 0 false) s = .next t ∧
      s.becomes t (sets s { x with
          skew := 0, fill := 0
          runBit := (List.range 8).map (fun k => (lane k).run),
          rxScr := (List.range 8).map (fun k => cairnState (cairn k)),
          rxNorm := none,
          rxDone := x.rxDone || (List.range 8).all (fun k => decide (3 ≤ x.lockRun.getD k 0)) })
        ((F.LNK.PORT_STATUS_CAIRN_LOCK p, ((List.range 8).filter (fun k => 3 ≤ x.lockRun.getD k 0)).foldl (fun m k => m + 2 ^ k) 0) ::
          (List.range 8).flatMap (fun k => [(F.LNK.LANE_EQ_CTLE p k, t.f (F.LNK.LANE_EQ_CTLE p k)), (F.LNK.LANE_EQ_EYE_MARGIN p k, t.f (F.LNK.LANE_EQ_EYE_MARGIN p k))])) ∧
      (t.port p).lockRun = x.lockRun.map (fun n => min 4 (n + 1)) ∧ (t.port p).missRun = List.replicate 8 0) ∧
    (x.missRun.getD l 0 < 3 ∨ lock.testBit l = false → ∃ t, exec (.cairnMissing p l) s = .next t ∧
      s.becomes t (sets s { x with rxScr := modNth x.rxScr l (scrAdvance 8192) }) [s.countsTo (F.LNK.ERR_CNT1_CAIRN_MISS_CNT p) 1] ∧
      (t.port p).missRun = setNth x.missRun l (x.missRun.getD l 0 + 1) ∧ (t.port p).lockRun = setNth x.lockRun l 0) ∧
    (3 ≤ x.missRun.getD l 0 → lock.testBit l = true → up → s.rxDir p = 0 → ∃ t, exec (.cairnMissing p l) s = .next t ∧ downs t 2 ∧
      t.f F.FLT.DET_STATUS_OCC = (s.f F.FLT.DET_STATUS_OCC ||| 2 ^ 8) % 2 ^ 26) ∧
    (∀ t0, some t0 ∈ x.losSince → up → s.rxDir p = 0 → ∃ t, exec (.losTimeout p) s = .next t ∧ downs t 1) ∧
    (checks → s.f (F.LNK.LANE_PAT_ERR_LOCK p l) = 0 → (pat, a, b) ∈ [(0, 6, 7), (1, 14, 15), (2, 18, 23), (3, 28, 31)] → b + 64 ≤ bs.length →
      (∀ k, bs.length - 64 ≤ k → k < bs.length → bs.getD k false = (bs.getD (k - a) false != bs.getD (k - b) false)) →
      s.leads (.checkerLock p { lane := l, bits := bs }) (sets s { x with chkWin := setNth x.chkWin l 0 }) [(F.LNK.LANE_PAT_ERR_LOCK p l, 1)]) ∧
    (checks → bs.length < 64 → s.leads (.checkerLock p { lane := l, bits := bs }) s []) ∧
    (checks → s.f (F.LNK.LANE_PAT_ERR_LOCK p l) = 1 → s.leads (.patErr p l gap)
      (sets s { x with chkWin := setNth x.chkWin l (if 16 ≤ popCount 64 win then 0 else win) })
      [s.countsTo (F.LNK.LANE_PAT_ERR_ERR_CNT p l) 1, (F.LNK.EVT_PAT_ERR p, 1), (F.LNK.LANE_PAT_ERR_LOCK p l, if 16 ≤ popCount 64 win then 0 else 1)])

/-- LANE_INJ (R125, R569, R570): with injection armed an inverted bit, a stuffing violation and four missing cairns are armed; else the write is ignored and counted. -/
def Parts.LaneInjections : Prop :=
  ∀ (s : State) (agent p l : Nat), p < 6 → l < 8 → s.accepts agent (A.LNK.LANE_INJ p l) →
    let x := s.port p
    let sets := fun (y : PortSt) => { s with ports := setNth s.ports p y, resp := {} }
    let u := s.occur 7 p true
    let v := s.injIgnored agent (A.LNK.LANE_INJ p l)
    let sends := s.mode = 5 ∧ s.f (F.LNK.PORT_CTRL_EN p) = 0 ∧ s.f (F.LNK.LANE_PAT_CFG_GEN_EN p l) = 1
    (s.f F.FLT.INJ_STATUS_ARMED = 1 →
      (sends → s.leads (.injBit agent p l) (sets { x with patInv := setNth x.patInv l (x.patInv.getD l 0 + 1) }) []) ∧
      (¬ sends → s.leads (.injBit agent p l) { s with resp := {} } []) ∧
      s.leadsFrom u (.injStuff agent p l) { u with resp := {} } [s.countsTo (F.LNK.ERR_CNT0_STUFF_VIOL_CNT p) 1, (F.LNK.EVT_STUFF_VIOL p, 1)] ∧
      s.leads (.injCairnMiss agent p l) (sets { x with injMiss := setNth x.injMiss l 4 }) []) ∧
    (s.f F.FLT.INJ_STATUS_ARMED = 0 → ∀ i ∈ [Instr.injBit agent p l, .injStuff agent p l, .injCairnMiss agent p l], s.leadsFrom v i v [])

/-- Together: lanes and loss; lane injections. -/
def Obligations.LanesLossAndInjection : Prop := Parts.LanesAndLoss ∧ Parts.LaneInjections

/-- The sleep handshake (R102, R110 to R118): requests are opened or refused, answers are owed and taken, directions sleep and wake, and an unanswered request is refused with
PARTNER. -/
def Obligations.PortSleep : Prop :=
  ∀ (s : State) (agent p : Nat), s.quiet → p < 6 → p < s.ports.length →
    let x := s.port p
    let up := s.portState p = 3
    let m32 := s.f (F.LNK.PORT_CFG_M32 p) = 1
    let sets := fun (u : State) (y : PortSt) => { u with ports := setNth u.ports p y }
    let write := s.accepts agent (A.LNK.SLEEP_CTRL p)
    let turn := (F.LNK.EVT_DIR_CHANGE p, 1)
    let refused := fun (code : Nat) (bits : List Fld) => [(F.LNK.SLEEP_STATUS_CODE p, code), (F.LNK.EVT_SLEEP_REFUSED p, 1)] ++ bits.map (fun b => (b, 0))
    let leads := fun (i : Instr) (l : List (Fld × Nat)) => s.leads i { s with resp := {} } l
    -- a command whose effect is what the port asks for or owes
    let asks := fun (i : Instr) (r : Resp) (y : PortSt) (l : List (Fld × Nat)) (holds : PortSt → Prop) =>
      ∃ t, exec i s = .next t ∧ s.becomes t { sets s y with resp := r } l ∧ holds (t.port p)
    let txS := F.LNK.SLEEP_CTRL_TX_SLEEP p
    let rxS := F.LNK.SLEEP_CTRL_RX_SLEEP p
    let txW := F.LNK.SLEEP_CTRL_TX_WAKE p
    let rxW := F.LNK.SLEEP_CTRL_RX_WAKE p
    let busy := (s.port (s.logical p)).busy
    let waits := s.f (F.LNK.SLEEP_CFG_AUTO_WAKE p) = 1 ∧ (s.port (s.logical p)).queue ≠ []
    let v := s.advanceTo (x.deepExitAt + 180 * 384000)
    (write → m32 → ∀ i ∈ [Instr.txSleep agent p, .rxSleep agent p, .txWake agent p, .rxWake agent p], leads i (refused 9 [])) ∧
    (write → ¬ m32 →
      (x.reqTx = none →
        (up → s.txDir p = 0 → s.rxDir p = 0 → asks (.txSleep agent p) {} x [(txS, 1)] (fun y => y.reqTx = some s.now ∧ 2 ∈ y.wants)) ∧
        (¬ up ∨ s.rxDir p ≠ 0 ∨ s.txDir p = 2 → leads (.txSleep agent p) (refused 9 [txS]))) ∧
      (x.reqRx = none →
        (up → s.txDir p = 0 → s.rxDir p = 0 → asks (.rxSleep agent p) {} x [(rxS, 1)] (fun y => y.reqRx = some s.now ∧ 7 ∈ y.wants)) ∧
        (¬ up ∨ s.txDir p ≠ 0 ∨ s.rxDir p = 2 → leads (.rxSleep agent p) (refused 9 [rxS]))) ∧
      (s.txDir p = 1 → leads (.txWake agent p) [(txW, 1), (F.LNK.PORT_STATUS_TX_DIR p, 2), turn]) ∧
      (s.txDir p = 0 → x.reqTx = none → leads (.txWake agent p) [(txW, 0)]) ∧
      (s.rxDir p = 0 ∨ ¬ up → leads (.rxWake agent p) [(rxW, 0)]) ∧
      (up → s.rxDir p = 1 → x.reqWake = none →
        (s.txDir p = 0 → asks (.rxWake agent p) {} { x with reqWake := some s.now } [(rxW, 1)] (fun y => 4 ∈ y.wants)) ∧
        (s.txDir p = 1 → asks (.rxWake agent p) {} { x with reqWake := some s.now } [(rxW, 1), (F.LNK.PORT_STATUS_TX_DIR p, 2), turn] (fun y => 4 ∈ y.wants)))) ∧
    (let allows := up ∧ s.f (F.LNK.SLEEP_CFG_ALLOW_PARTNER p) = 1 ∧ (¬ m32);
      (allows → s.rxEmpty p = true → s.txDir p = 0 → s.rxDir p = 0 → asks (.sleepReq p) s.resp x [] (fun y => y.oweAck = true ∧ 3 ∈ y.wants)) ∧
      (¬ allows ∨ s.rxEmpty p = false ∨ s.txDir p ≠ 0 ∨ s.rxDir p ≠ 0 → asks (.sleepReq p) s.resp x [] (fun y => y.oweAck = x.oweAck)) ∧
      (allows → s.txDir p = 0 → s.rxDir p = 0 → x.reqTx = none → asks (.sleepAsk p) s.resp x [] (fun y => y.reqTx = some s.now))) ∧
    (x.reqTx ≠ none →
      (s.txDir p = 0 → x.oweAck = false → x.reqRx = none → busy = none → x.wakeAfter = false → ¬ waits →
        asks (.sleepAck p) s.resp x [(txS, 0), (F.LNK.PORT_STATUS_TX_DIR p, 1), turn] (fun y => y.reqTx = none)) ∧
      (x.oweAck = true ∨ busy ≠ none → asks (.sleepAck p) s.resp x [] (fun y => y.ackGot = true ∧ y.reqTx = x.reqTx)) ∧
      (x.ackGot = false → s.leads (.wakeReq p) s (refused 7 [txS]))) ∧
    (x.reqTx = none → s.leads (.sleepAck p) s [] ∧ (s.txDir p = 1 → s.leads (.wakeReq p) s [(F.LNK.PORT_STATUS_TX_DIR p, 2), turn])) ∧
    (up → asks (.deepReq p) s.resp x [] (fun y => y.oweDeep = true ∧ 6 ∈ y.wants)) ∧
    (x.reqDeep ≠ none → s.leads (.deepAck p) (sets s { x with reqDeep := none, deepOk := true }) []) ∧
    (∀ t0, let u := s.advanceTo (t0 + 10 * 384000)
      (x.reqTx = some t0 → x.ackGot = false → x.reqRx = none → x.reqDeep = none → s.leadsFrom u (.sleepAckTimeout p) u (refused 5 [txS])) ∧
      (x.reqRx = some t0 → x.reqTx = none → x.reqDeep = none → s.leadsFrom u (.sleepAckTimeout p) u (refused 5 [rxS])) ∧
      (x.reqDeep = some t0 → x.reqTx = none → x.reqRx = none →
        s.leadsFrom u (.sleepAckTimeout p) (sets u { u.port p with reqDeep := none, deepOk := false }) (refused 5 []))) ∧
    (up → s.rxDir p = 1 → s.leads (.wakePatternDetected p) (sets s { x with wakeAt := s.now, reqWake := none }) [(F.LNK.PORT_STATUS_RX_DIR p, 2), turn]) ∧
    (up → s.rxDir p = 2 ∨ (s.rxDir p = 1 ∧ x.reqWake ≠ none) → ∃ t, exec (.dirWakeFail p) s = .next t ∧ t.portState p = 1 ∧ t.f (F.LNK.PORT_STATUS_DOWN_CAUSE p) = 6 ∧
      t.f (F.LNK.EVT_DIR_WAKE_FAIL p) = 1 ∧ t.f (F.LNK.EVT_PORT_DOWN p) = 1 ∧ t.f rxW = 0) ∧
    (s.portState p = 5 → s.leadsFrom v (.deepExitTimeout p) (sets v { v.port p with seeking := true })
      [(F.LNK.PORT_STATUS_TX_DIR p, 0), (F.LNK.PORT_STATUS_RX_DIR p, 0), (F.LNK.PORT_STATUS_STATE p, 1), (F.LNK.PORT_CTRL_RETRAIN p, 0)])

/-! ## Frames -/

/-- Frames (R131 to R163): a header is checked, dropped, delivered or forwarded; a tail ends it; an output puts its frame on the line, behind an idle word; credits, memory
requests, bulk writes, bond changes and ring breaks take effect. -/
def Obligations.Frames : Prop :=
  ∀ (s : State) (p hdr tail mask dist src seq a xid : Nat) (payload data : List Byte) (cum : List Nat), s.quiet → s.localIn = [] → p < 6 → p < s.ports.length → s.portState p = 3 →
    -- a bond receives and sends as its lower member (R153)
    let o := s.logical p
    let x := s.port o
    let sets := fun (u : State) (y : PortSt) => { u with ports := setNth u.ports o y }
    let f := decodeHeader hdr
    let len := headerLen hdr
    let frees := fun (y : PortSt) (vc typ n : Nat) => { y with freed := modNth y.freed vc (fun k => (k + frameCost typ n) % 65536) }
    let h := Instr.frameHeaderReceived p hdr
    let own := s.f F.RTE.DEV_CFG_DEV_ADDR
    let mate := if p % 2 = 0 then p + 1 else p - 1
    let crc := s.occur 5 o false
    let alone := ∀ y ∈ s.ports, ∀ l ∈ y.queue ++ y.busy.toList, LineFrame.inp l ≠ o
    (s.rxDir p = 0 → x.rx = none →
      (hcrc hdr ≠ bits hdr 7 0 → s.leadsFrom crc h (sets crc (frees (crc.port o) f.vc f.typ len)) [s.countsTo F.RTE.FRM_CNT0_HCRC_CNT 1, (F.RTE.EVT_HCRC_ERR, 1)]) ∧
      (hcrc hdr = bits hdr 7 0 →
        (headerMalformed hdr = true → s.leads h (sets s (frees x f.vc f.typ len)) [s.countsTo F.RTE.FRM_CNT0_MALFORMED_CNT 1, (F.RTE.EVT_MALFORMED, 1)]) ∧
        (headerMalformed hdr = false →
          (hopLocal f.typ = true → (∀ q, q < 6 → (s.port q).bondWait = false) → ∃ stamps,
            s.leads h (sets s { x with partner := f.src, rx := some { hdr := f, len := len, outs := [6], at_ := s.now, stamps := stamps } }) []) ∧
          (hopLocal f.typ = false → f.src = own → s.leads h (sets s (frees x f.vc f.typ len)) [s.countsTo F.RTE.FRM_CNT1_LOOP_CNT 1, (F.RTE.EVT_LOOP_DROP, 1)]) ∧
          (hopLocal f.typ = false → f.src ≠ own → f.typ ≠ 2 → f.dst = own → frameMc f = false →
            s.leads h (sets s { x with rx := some { hdr := f, len := len, outs := [6], at_ := s.now } }) []) ∧
          (hopLocal f.typ = false → f.src ≠ own → f.typ ≠ 2 → f.hops ≠ 0 → ∀ outs, s.lookup f o = some outs →
            s.leads h (sets s { x with rx := some { hdr := f, len := len, outs := outs, at_ := s.now } }) [])))) ∧
    (∀ r, x.rx = some r → r.outs = [6] → r.hdr.typ = 1 → r.hdr.vc = 2 → payload.length = r.len → alone →
      (pcrc payload = bits tail 63 32 → tail.testBit 16 = false →
        s.leads (.frameTailReceived p payload tail) (sets s (frees { x with rx := none } 2 1 r.len)) []) ∧
      (pcrc payload ≠ bits tail 63 32 ∨ tail.testBit 16 = true → ∃ t, exec (.frameTailReceived p payload tail) s = .next t ∧ (t.port o).rx = none ∧
        t.f F.RTE.FRM_CNT2_POISON_RX_CNT = (s.countsTo F.RTE.FRM_CNT2_POISON_RX_CNT 1).2 ∧ t.f F.RTE.EVT_POISON_RX = 1 ∧ t.mem = s.mem)) ∧
    (∀ l, x.busy = some l → l.inp = 6 → ∃ t, exec (.outputFrameEnd p) s = .next t ∧ s.becomes t s [] ∧ t.lineOut = s.lineOut ++ [(o, l)] ∧
      (s.bonded p = false → l.hcrcBad = false → (t.port p).txWords = x.txWords ++ [0x0F0FA55A0F0FA55A,
        encodeHeader l.fr l.len / 2 ^ 64, encodeHeader l.fr l.len % 2 ^ 64] ++ bytesToWords ((l.fr.payload ++ List.replicate l.len 0).take l.len) ++
          [l.pcrc * 2 ^ 32 + 0xE7 * 2 ^ 24 + (if l.cut then 2 ^ 17 else 0) + (if l.poison then 2 ^ 16 else 0) + l.poisonAt % 4096 * 2 ^ 4])) ∧
    s.leads (.credit p cum) (sets s (if x.alloc = [] then { x with alloc := cum } else { x with cum := cum })) [] ∧
    (∃ t, exec (.creditSend p) s = .next t ∧ s.becomes t (sets s { x with announced := true }) [] ∧ ∃ l ∈ (t.port o).busy.toList ++ (t.port o).queue, l.fr.typ = 7 ∧
      l.fr.vc = 0 ∧ l.fr.src = own ∧ l.len = 16 ∧ l.fr.payload = ((if x.announced then x.freed else (s.vcUnits o).map (8 * ·)).map (leBytes 2)).flatten) ∧
    (let w := payloadWord data 1
      let u := (s.mreqWords data (w.testBit 31) (w.testBit 30) (payloadWord data 0) (bits w 15 0) 0 []).1
      (mreqOk data = true → u.calm → u.logical p = o → s.leadsFrom u (.mreq p src seq data) (sets u (frees (u.port o) 4 4 data.length)) []) ∧
      (mreqOk data = false → s.f F.SYS.BOOT_STATUS_ROM_STATE ≠ 5 → ∃ t, exec (.mreq p src seq data) s = .next t ∧ s.becomes t (sets s (frees x 4 4 data.length)) [] ∧
        ∃ l ∈ (t.port o).busy.toList ++ (t.port o).queue, l.fr.typ = 5 ∧ l.fr.vc = 4 ∧ l.fr.dst = src ∧ l.fr.src = own ∧ l.fr.payload = leBytes 4 1)) ∧
    (∀ i ∈ [Instr.bulkWrite p src seq a xid data, .bulkWriteAck p src seq a xid data],
      let good := a % 8 = 0 ∧ data.length % 8 = 0 ∧ data.length ≤ 4080
      let u := s.logAccess Agent.mpA a true (s.bulkCause a data.length)
      (good → s.bulkCause a data.length = 0 → s.leads i { sets s (frees x 7 1 (16 + data.length)) with mem := memWrite s.mem a data } []) ∧
      (good → s.bulkCause a data.length ≠ 0 → s.leadsFrom u i (sets u (frees (u.port o) 7 1 (16 + data.length))) []) ∧
      (¬ good → s.leads i (sets s (frees x 7 1 (16 + data.length))) [s.countsTo F.RTE.FRM_CNT0_MALFORMED_CNT 1])) ∧
    s.leads .bulkAck s [] ∧
    (s.bonded p = true → s.leads (.bondState p mask dist)
      { s with ports := setNth s.ports p { s.port p with
          bondRx := if mask.testBit p = true ∧ mask.testBit mate = true then max 1 dist else 1
          bondMask := mask } } []) ∧
    (s.bonded p = false → s.leads (.bondState p mask dist) s []) ∧
    (s.f F.RTE.TOPO_CFG_TOPO = 1 → s.f F.RTE.TOPO_CFG_RING_AUTO = 1 → s.f F.RTE.PS_STATUS_SPLIT = 0 →
      s.f F.RTE.PS_CFG_HEAD = 1 ∨ o = s.logical (s.f F.RTE.PS_CFG_OUT) →
      s.leads (.ringBreak p a) { s with splitAt := s.now } [(F.RTE.PS_STATUS_SPLIT, 1), (F.RTE.EVT_RING_SPLIT, 1)])

/-! ## Commands of the command tables -/

/-- Commands of a table (R18, R218, R219, R238, R261, R277, R303, R318 to R320, R351, R482): each takes effect at its trigger symbol, those of TXP at the fetch of it and
scheduling commands in the leader's staging slot. -/
def Obligations.TableCommands : Prop :=
  ∀ (s : State) (issuer c trig p : Nat) (payload : List Word), s.calm → issuer < 34 → c < 4 → s.tlRun = true → s.carEn c = true → trig ≤ 13 → p < 64 →
    let pl := payload.map BitVec.toNat
    let w := fun (i : Nat) => pl.getD i 0
    let mask := w 1 + 2 ^ 32 * w 2
    let n := s.slotOfTrig c trig
    let m := s.slotIdxOf (s.carLeader c)
    let u := s.advanceTo (s.symInstant (s.carScs c) n trig)
    let v := s.advanceTo (s.fetchInstant c n trig)
    let ready := fun (b op k : Nat) => s.cmdShape b c trig op false pl = true ∧ s.cmdInSlot b c k trig op pl = true
    let rxJob : RxJob := { carrier := c, slot := n, trig := trig, nsym := bits (w 0) 3 0, dest := bits (w 0) 9 8, mask := mask, addr := w 3 }
    let sched := fun (ul : Bool) => ({
        ul := ul, carrier := c, slot := m, trig := trig, user := bits (w 0) 31 16, port := bits (w 0) 15 14,
        layer := bits (w 0) 13 9, prio := bits (w 0) 8 5, nsym := bits (w 0) 3 0, fb := bits (w 1) 31 24, gFirst := bits (w 1) 23 16,
        gCount := bits (w 1) 15 8, out := bits (w 2) 31 30, mod := bits (w 2) 29 27, dmrs := bits (w 2) 26 13, dport := bits (w 2) 12 10,
        cinit := bits (w 3) 30 0, leader := s.carLeader c } : SchedJob)
    (ready 14 0x100 n → s.leadsFrom u (.rxSym issuer c trig payload)
      { u with rx := { u.rx with jobs := u.rx.jobs ++ [rxJob] } } []) ∧
    (ready 14 0x101 n → u.f F.RXP.AGC_CFG_MODE = 0 → mask < 2 ^ 64 → ∃ t, exec (.gainSet issuer c trig payload) s = .next t ∧
      t.f (F.RXP.P_STATUS_ATT_NOW p) = if mask.testBit p then bits (w 0) 4 0 else u.f (F.RXP.P_STATUS_ATT_NOW p)) ∧
    (ready 14 0x101 n → u.f F.RXP.AGC_CFG_MODE ≠ 0 → s.leadsFrom u (.gainSet issuer c trig payload) u []) ∧
    (ready 15 0x200 n → s.leadsFrom v (.txSym issuer c trig payload)
      { v with tx := { v.tx with jobs := v.tx.jobs ++ [{ carrier := c, slot := n, trig := trig, nsym := bits (w 0) 3 0, mask := mask }] } } []) ∧
    (ready 15 0x201 n → s.leadsFrom v (.layerMap issuer c trig payload)
      { v with tx := { v.tx with maps := v.tx.maps ++ [mapJobOf c n trig pl (v.f (F.RXP.CAR_CFG_NRB c))] } } []) ∧
    (ready 16 0x300 n → (w 0 + 2 ^ 32 * w 1).testBit p = true → u.revertDue p = false → ∃ t, exec (.dpdSwap issuer c trig payload) s = .next t ∧
      (u.bankCode p (u.stgBank p) = 0 → t.f (F.DPD.P_STATUS_ACTIVE_BANK p) = u.stgBank p ∧ t.f (F.DPD.P_STATUS_STAGE_DIRTY p) = 0 ∧
        t.f (F.DPD.P_CNT_SWAP_CNT p) = (u.countsTo (F.DPD.P_CNT_SWAP_CNT p) 1).2) ∧
      (u.bankCode p (u.stgBank p) ≠ 0 → t.f (F.DPD.P_STATUS_ACTIVE_BANK p) = u.actBank p ∧
        t.f (F.DPD.P_STATUS_SWAP_CODE p) = u.bankCode p (u.stgBank p) ∧ t.f F.DPD.EVT_SWAP_REFUSED = 1)) ∧
    (ready 17 0x400 n → ∃ order, s.leadsFrom u (.snd issuer c trig payload)
      { u with bfm := { u.bfm with snds := u.bfm.snds ++ [{ carrier := c, slot := n, trig := trig, order := order, descs := sndDescs pl }] } } []) ∧
    (ready 17 0x401 m → s.leads (.dlSched issuer c trig payload) { s with bfm := { s.bfm with scheds := s.bfm.scheds ++ [sched false] } } []) ∧
    (ready 17 0x402 m → s.leads (.ulSched issuer c trig payload) { s with bfm := { s.bfm with scheds := s.bfm.scheds ++ [sched true] } } []) ∧
    (ready 18 0x500 n → ∃ t o, exec (.raOcc issuer c trig payload) s = .next t ∧ t.rad.open_ = u.rad.open_ ++ [o] ∧ o.carrier = c ∧ o.slot = n ∧
      o.trig = trig ∧ o.smask = w 0 ∧ o.start = u.raStart c n trig (w 1) ∧ t.f F.RAD.RA_STATUS_BUSY = 1) ∧
    (ready 19 0x600 n → u.fullRun = true → s.leadsFrom u (.calRun issuer c trig payload) u []) ∧
    (ready 19 0x600 n → u.fullRun = false → mask = 2 ^ p → u.cal.runs = [] → ∃ t, exec (.calRun issuer c trig payload) s = .next t ∧
      (u.calModeOk (bits (w 0) 2 0) = true → t.cal.runs = [{ kind := bits (w 0) 2 0, path := p, carrier := c, slot := n, trig := trig, nsym := bits (w 0) 7 4 }] ∧
        t.f F.CAL.CAL_STATUS_STATE = 2) ∧
      (u.calModeOk (bits (w 0) 2 0) = false → t.cal.runs = [] ∧ t.f F.CAL.CAL_STATUS_FAIL_CODE = 6 ∧ t.f F.CAL.CAL_STATUS_FAIL_PATH = p ∧
        t.f F.CAL.EVT_CAL_FAIL = 1))

/-! ## Receive and transmit paths, observation -/

/-- The receive path (R16, R211, R218 to R223): the end of a symbol with receive work delivers its bins, and an invalid one counts with its cause; of an enabled path without
work only the detectors run on, and a path that is not enabled or rests does nothing. -/
def Parts.ReceivedSymbols : Prop :=
  ∀ (s : State) (p c m : Nat) (before codes behind : List Int) (fault : Bool), s.calm → p < 64 → c < 4 →
    let i := s.tim.symIdx.getD c 0 - 1
    let n := i / 14
    let k := i % 14
    let named := s.rx.jobs.any (fun j => j.carrier == c && j.slot == n && j.mask.testBit p && j.trig ≤ k && k < j.trig + j.nsym)
    let a := (s.symSpan c n k).1
    let b := (s.symSpan c n k).2
    let u := s.advanceTo b
    let x := u.invCause p c a b fault
    let e := Instr.rxSymbolEnd p c before codes behind fault
    let peak := fun (t : State) => s.lowCarrier = some c → m ≤ 8191 → (∀ v ∈ codes, v.natAbs ≤ m) → (∃ v ∈ codes, v.natAbs = m) → t.f (F.RXP.P_WB_PEAK p) = m
    (s.tlRun = false ∨ s.carEn c = false ∨ (named = false ∧ (s.rxEnabled p = false ∨ s.rxRests p = true)) → s.leads e s []) ∧
    (named = false → s.rxEnabled p = true → s.rxRests p = false → s.tlRun = true → s.carEn c = true → ∃ t, exec e s = .next t ∧
      t.rx.delivered = s.rx.delivered ∧ t.mem = s.mem ∧ t.f (F.RXP.P_CNT_INVALID_CNT p) = s.f (F.RXP.P_CNT_INVALID_CNT p) ∧ peak t) ∧
    (named = true → s.tlRun = true → s.carEn c = true → ∃ t r, exec e s = .next t ∧ t.rx.delivered = s.rx.delivered ++ [r] ∧
      r.path = p ∧ r.carrier = c ∧ r.slot = n ∧ r.sym = k ∧ (s.rx.hold.testBit p = false → r.bins.length = 12 * s.f (F.RXP.CAR_CFG_NRB c)) ∧ peak t ∧
      (x ≠ 0 → t.f (F.RXP.P_STATUS_INV_CAUSE p) = x ∧ t.f (F.RXP.P_CNT_INVALID_CNT p) = (s.countsTo (F.RXP.P_CNT_INVALID_CNT p) 1).2 ∧
        r.flags.testBit 7 = true ∧ ∀ v ∈ r.bins, v = ({} : Cplx)))

/-- The transmit path and its observation (R231 to R236, R253, R257, R267, R277, R282 to R288): layer blocks are stored or counted, fetched and mapped; power updates,
fault clears, swaps and pops of the mute log; observation captures and their statistics. -/
def Parts.TransmitAndObserve : Prop :=
  ∀ (s : State) (agent p c k peak : Nat) (data : List Byte) (obs drive : List Cplx) (nbrs : List (List Cplx)), s.calm → p < 64 → c < 4 → k < 8 →
    let block := Instr.layerBlockReceived data
    (s.domOn Dom.ctl = true →
      (s.layerBlock? data = none → s.leads block s [s.countsTo F.RTE.FRM_CNT0_MALFORMED_CNT 1, (F.RTE.EVT_MALFORMED, 1)]) ∧
      (∀ b, s.layerBlock? data = some b →
        let fetch := s.fetchInstant b.carrier b.slot b.sym
        let four := s.slotInstant (s.carScs b.carrier) (b.slot + 4) - s.slotInstant (s.carScs b.carrier) b.slot
        let dup := s.tx.store.any (fun a => a.sameKey b && a.off < b.off + b.count && b.off < a.off + a.count)
        let used := (s.tx.store.map LBlock.size).foldl (· + ·) 0
        (fetch < s.now ∨ s.tlRun = false → s.leads block s [s.countsTo F.TXP.LSTORE_CNT0_LATE_CNT 1, (F.TXP.EVT_LAYER_LATE, 1)]) ∧
        (s.now ≤ fetch → s.tlRun = true →
          (s.now + four < fetch → s.leads block s [s.countsTo F.TXP.LSTORE_CNT2_EARLY_CNT 1]) ∧
          (fetch ≤ s.now + four → dup = true → s.leads block s [s.countsTo F.TXP.LSTORE_CNT0_DUP_CNT 1, (F.TXP.EVT_LAYER_DUP, 1)]) ∧
          (fetch ≤ s.now + four → dup = false → s.f F.TXP.LSTORE_SIZE * 65536 < used + b.size →
            s.leads block s [s.countsTo F.TXP.LSTORE_CNT1_OVF_CNT 1, (F.TXP.EVT_LSTORE_OVF, 1)]) ∧
          (fetch ≤ s.now + four → dup = false → used + b.size ≤ s.f F.TXP.LSTORE_SIZE * 65536 →
            -- the block enters a free place of the layer store, with an index block the spec does not describe; or a write refused leaves it out
            let at_ := s.f F.TXP.LSTORE_BASE * 65536 + 64 * (Config.lstorePlace s.freeCnt % (s.f F.TXP.LSTORE_SIZE * 65536 / 64 - b.size / 64 + 1))
            let img := data ++ List.replicate (b.size - 64 - data.length) 0 ++ (Config.lstoreIndex s.freeCnt).take 64
            (s.engRefused at_ img.length = false → s.leads block { s with mem := memWrite s.mem at_ img, tx := { s.tx with store := s.tx.store ++ [b] } } []) ∧
            (s.engRefused at_ img.length = true → ∃ t, exec block s = .next t ∧ t.mem = s.mem ∧ t.tx.store = s.tx.store))))) ∧
    (s.tlRun = true → s.carEn c = true → let i := s.fetchNext c
      ∃ t, exec (.layerFetch c) s = .next t ∧ (s.advanceTo (s.fetchInstant c (i / 14) (i % 14))).now = t.now ∧
        t.tx.store.any (fun b => b.carrier == c && b.slot == i / 14 && b.sym == i % 14) = false) ∧
    (s.f F.TXP.PWR_LOOP_EN = 0 → s.leads .pwrLoopUpdate s []) ∧
    (s.f F.TXP.PWR_LOOP_EN = 1 → s.tlRun = true → s.txEnabled p = true → ∃ t, exec .pwrLoopUpdate s = .next t ∧ p ∉ t.dpd.fresh ∧
      (p ∉ s.dpd.fresh → t.f (F.DPD.P_CNT_PWR_STALE_CNT p) = (s.countsTo (F.DPD.P_CNT_PWR_STALE_CNT p) 1).2 ∧ t.f F.DPD.EVT_PWR_STALE = 1 ∧
        t.f (F.TXP.P_GAIN_TRIM p) = s.f (F.TXP.P_GAIN_TRIM p)) ∧
      (p ∈ s.dpd.fresh → -200 ≤ t.fi (F.TXP.P_GAIN_TRIM p) ∧ t.fi (F.TXP.P_GAIN_TRIM p) ≤ 200)) ∧
    (s.accepts agent (A.TXP.P_CTRL p) →
      (s.f F.FLT.DET_STATUS_OCC &&& (s.txp p).causes = 0 → s.leads (.faultClr agent p)
        { s with resp := {}, tx := { s.tx with paths := setNth s.tx.paths p { s.txp p with faultClr := true } } } []) ∧
      (s.f F.FLT.DET_STATUS_OCC &&& (s.txp p).causes ≠ 0 → s.leads (.faultClr agent p) { s with resp := {} } [])) ∧
    (s.serves agent (A.TXP.MLOG_ENTRY 3) false → ∀ e l, s.tx.mlog = e :: l → l.length < 64 → s.leads (.mlogPop agent)
      { s with resp := { err := 0, data := e.getD 3 0 }, tx := { s.tx with mlog := l } } [(F.TXP.MLOG_STATUS_LEVEL, l.length)]) ∧
    (s.accepts agent (A.DPD.P_CTRL p) → s.leads (.swap agent p) { s with resp := {}, dpd := { s.dpd with swaps := s.dpd.swaps ++ [(p, s.now)] } } []) ∧
    ((s.orx k).entry = none → s.leads (.orxCaptureEnd k peak obs drive nbrs) s []) ∧
    (∀ e, (s.orx k).entry = some e → k < s.dpd.orx.length →
      let u := s.advanceTo (s.orxWindow e).2
      let q := 8 * k + e.tap
      let w := s.orxWindow e
      let runs := u.orxNamed q w.1 w.2 = true ∧ w.2 ≤ u.slotInstant ((u.gridScs).getD 0) (e.slot + 1) ∧
        u.f (F.TXP.P_STATUS_FAULT q) = 0 ∧ u.f (F.TXP.P_STATUS_SWITCH q) = 1 ∧ (∀ m ∈ (u.txp q).mutes, ¬ (m.1 < w.2 ∧ w.1 < m.2.1)) ∧
        u.f (F.DPD.ORX_STATUS_HELD k) = 0 ∧ peak < 8191 ∧ s.flt.injs = []
      ∃ t, exec (.orxCaptureEnd k peak obs drive nbrs) s = .next t ∧ (t.orx k).entry = none ∧
        (u.orxNamed q w.1 w.2 = false ∨ u.slotInstant ((u.gridScs).getD 0) (e.slot + 1) < w.2 → t.f (F.DPD.ORX_STATUS_MISS_REASON k) = 1 ∧
          t.f (F.DPD.ORX_CNT_MISS_CNT k) = (u.countsTo (F.DPD.ORX_CNT_MISS_CNT k) 1).2 ∧ t.f F.DPD.EVT_HOP_MISS = 1) ∧
        (runs → e.kind = 0 → q < 64 → q ∈ t.dpd.fresh ∧ t.f (F.DPD.ORX_CNT_MISS_CNT k) = u.f (F.DPD.ORX_CNT_MISS_CNT k)) ∧
        (runs → e.kind = 1 → u.f (F.DPD.P_CTRL_ADAPT_HOLD q) = 0 → (s.orx k).stat = none → ∃ r, (t.orx k).stat = some r ∧ r.path = q ∧ r.bank = u.actBank q)) ∧
    (∀ r, (s.orx k).stat = some r → (∀ j, j < 8 → j ≠ k → (s.orx j).stat = none) → k < s.dpd.orx.length →
      let u := s.advanceTo r.ready
      let size := 64 + 8 * r.nt + 8 * (r.nt * (r.nt + 1) / 2)
      let slotB := u.f F.DPD.STAT_CFG_SLOT * 1024
      let depth := u.f F.DPD.STAT_CFG_DEPTH
      let wr := u.f (F.DPD.ORX_RING_WR k)
      let next := (wr + 1) % depth
      let sets := fun (y : OrxSt) => { u.dpd with orx := setNth u.dpd.orx k y }
      ((u.orx k).full = true ∨ slotB < size → s.leadsFrom u .statReady { u with dpd := sets { u.orx k with stat := none } } [(F.DPD.EVT_STAT_OVF, 1)]) ∧
      let at_ := u.f F.DPD.STAT_CFG_BASE * 65536 + k * depth * slotB + wr * slotB
      let body := r.record.take size
      ((u.orx k).full = false → size ≤ slotB → 1 ≤ depth → depth ≤ 8 → r.path < 64 →
        (u.engRefused at_ body.length = false → s.leadsFrom u .statReady
          { u with dpd := sets { u.orx k with stat := none, full := decide (next = u.f (F.DPD.ORX_RING_RD k)) }, mem := memWrite u.mem at_ body }
          [(F.DPD.ORX_RING_WR k, next), u.countsTo (F.DPD.P_CNT2_ADAPT_CNT r.path) 1, (F.DPD.EVT_STAT_READY, 1)]) ∧
        (u.engRefused at_ body.length = true → ∃ t, exec .statReady s = .next t ∧ t.mem = s.mem ∧ t.f (F.DPD.ORX_RING_WR k) = next)))

/-- Together: received symbols; transmit and observe. -/
def Obligations.SymbolsOfThePaths : Prop := Parts.ReceivedSymbols ∧ Parts.TransmitAndObserve

/-! ## Contexts, weights, partial sums and random access -/

/-- Contexts and weights (R296, R298 to R302, R324, R330, R333 to R335, R349): contexts open and close; an engine boundary completes due closes and moves on; weight
instants and deadlines pass; core frames are checked; the head finishes its cores; the trim log pops. -/
def Obligations.ContextsAndWeights : Prop :=
  ∀ (s : State) (agent user c ports idx : Nat) (late : List Nat) (lateG : List (Nat × Nat)) (ul : Bool) (data : List Byte), s.calm →
    let g := (s.gridScs).getD 0
    let result := fun (x : State) (st i : Nat) => { x with resp := {}, bfm := { x.bfm with results := Store.insert x.bfm.results agent (st * 2 ^ 28 + i) } }
    let opens := Instr.ctxOpen agent user c ports
    let closes := Instr.ctxClose agent idx
    (user < 2 ^ 16 → c < 4 → ports < 4 → s.accepts agent A.BFM.CTX_OPEN →
      (s.carEn c = false → s.leads opens (result s 4 0) []) ∧
      (s.carEn c = true →
        (∀ i cx, s.ctxOf user c = some (i, cx) → s.leads opens (result s 2 i) []) ∧
        (s.ctxOf user c = none →
          ((∀ i, i < 384 → Store.find? s.bfm.ctxs i ≠ none) → s.leads opens (result s 1 0) [s.countsTo F.BFM.CTX_CNT_FULL_CNT 1, (F.BFM.EVT_CTX_FULL, 1)]) ∧
          (∀ i, i < 384 → Store.find? s.bfm.ctxs i = none → (∀ j, j < i → Store.find? s.bfm.ctxs j ≠ none) → ∃ t, exec opens s = .next t ∧ t.resp = {} ∧
            Store.find? t.bfm.results agent = some i ∧ ∃ cx, Store.find? t.bfm.ctxs i = some cx ∧ cx.user = user ∧ cx.carrier = c ∧ cx.nports = ports ∧ cx.st = 2 ∧
              cx.closing = none ∧ (s.wiping = false → t.mem = memWrite s.mem (s.pageAddr i) (headerPage (some cx))))))) ∧
    (idx < 512 → s.accepts agent A.BFM.CTX_CLOSE →
      (∀ cx, Store.find? s.bfm.ctxs idx = some cx → cx.closing = none →
        s.leads closes (result { s with bfm := { s.bfm with ctxs := Store.insert s.bfm.ctxs idx { cx with closing := some s.now } } } 0 idx) []) ∧
      (Store.find? s.bfm.ctxs idx = none → s.leads closes (result s 3 idx) [])) ∧
    (s.gridScs ≠ none → s.tlCounts = true → let u := s.advanceTo (s.slotInstant g s.bfm.engIdx)
      ∃ t, exec (.engineBoundary late) s = .next t ∧ t.now = u.now ∧ t.bfm.engIdx = s.bfm.engIdx + 1 ∧
        (s.mode = Mode.baseCamp → t.mem = s.mem ∧ t.bfm.ctxs = s.bfm.ctxs) ∧
        (∀ i cx since, s.mode ≠ Mode.baseCamp → Store.find? s.bfm.ctxs i = some cx → cx.closing = some since → since + 2 * 384000 ≤ u.now → Store.find? t.bfm.ctxs i = none) ∧
        (s.mode ≠ Mode.baseCamp → s.bfm.ctxs = [] → t.f F.BFM.CTX_COUNT_OPEN_N = 0)) ∧
    (s.gridScs ≠ none → s.tlRun = true → 1 ≤ s.bfm.wgtIdx → ∃ t, exec (.weightInstant late) s = .next t ∧ t.bfm.wgtIdx = s.bfm.wgtIdx + 1 ∧ t.bfm.lateJobs = late ∧
      t.now = (s.advanceTo (s.symInstant g (s.bfm.wgtIdx - 1) (s.f F.BFM.WGT_CFG_WSYM))).now) ∧
    (let d := s.bfm.dead.getD (dirIdx ul) 0
      let missed := s.bfm.pend.filter (fun p => p.1 == d && p.2.ul == ul)
      let lateW := s.bfm.weights.filter (fun w => w.1 == d && w.2.ul == ul && !w.2.fb && lateG.contains (w.2.carrier, w.2.group))
      let n := missed.length + ((lateW.map (fun w => (w.2.carrier, w.2.group))).eraseDups).length
      s.tlRun = true → d < s.bfm.wgtIdx → dirIdx ul < s.bfm.dead.length →
      let u := s.advanceTo ((s.deadlineAt ul d).getD s.now)
      (n = 0 → s.leadsFrom u (.weightDeadline ul lateG) { u with bfm := { u.bfm with dead := setNth s.bfm.dead (dirIdx ul) (d + 1) } } []) ∧
      (n ≠ 0 → ∃ t, exec (.weightDeadline ul lateG) s = .next t ∧ t.bfm.dead.getD (dirIdx ul) 0 = d + 1 ∧ t.bfm.pend.all (fun p => !(p.1 == d && p.2.ul == ul)) = true ∧
        t.f F.BFM.WGT_CNT0_WLATE_CNT = (s.countsTo F.BFM.WGT_CNT0_WLATE_CNT n).2 ∧ t.f F.BFM.EVT_WGT_LATE = 1 ∧
        t.invalidOut = s.invalidOut ++ [(17, s.frameOf g d, d % slotsPerFrame g)])) ∧
    (s.domOn Dom.ctl = true →
      (parseCores (ofLe ((data.drop 3).take 1)) (data.drop 16) = none → s.leads (.coreFrame data false) s
        [s.countsTo F.RTE.FRM_CNT0_MALFORMED_CNT 1, (F.RTE.EVT_MALFORMED, 1)]) ∧
      (∀ gs, parseCores (ofLe ((data.drop 3).take 1)) (data.drop 16) = some gs → 16 ≤ data.length → ofLe ((data.drop 2).take 1) = 0x10 + 2 * b2n ul + 4 * c → c < 4 →
        (∀ i, i < 12 → data.getD (4 + i) 0 = 0) →
        (s.f F.RTE.PS_CFG_HEAD = 1 → s.leads (.coreFrame data false) s []) ∧
        (s.f F.RTE.PS_CFG_HEAD = 0 → s.bfm.pend = [] → s.bfm.weights = [] → s.leads (.coreFrame data false) s []) ∧
        -- the core of a group that waits for it gives the weights of the group's layers; FB gives their fallback entries; the last group settles the direction
        (∀ grp L core p, s.f F.RTE.PS_CFG_HEAD = 0 → gs = [(grp, L, core)] →
          let n := s.slotAbs g (ofLe (data.take 2) / 64) (ofLe (data.take 2) % 64)
          let og := p.2
          let rest := s.bfm.pend.filter (fun (y : Nat × OpenGroup) => !(y.1 == n && y.2 == og))
          let more := fun (ws : List Weight) => { s with bfm := { s.bfm with pend := rest, weights := s.bfm.weights ++ ws.map (fun w => (n, w)) } }
          let weight := fun (m : List Cplx) (e : Int) (i : Nat) =>
            ({ ul := ul, carrier := c, group := grp, layer := og.layers.getD i 0, vec := (weightExact og.vecs m e i).1, wexp := (weightExact og.vecs m e i).2, fb := false } : Weight)
          s.bfm.pend.find? (fun y => y.1 == n && y.2.ul == ul && y.2.carrier == c && y.2.group == grp) = some p →
          (rest.any (fun y => y.1 == n && y.2.ul == ul) = true →
            (∀ m e, core = some (m, e) → L = og.layers.length → s.leads (.coreFrame data false) (more ((List.range L).map (weight m e))) []) ∧
            (core = none → s.leads (.coreFrame data false)
              (more (og.layers.filterMap (fun l => (s.jobIn ul c n l grp).map (fun j => s.fbWeight j grp)))) [])) ∧
          ∃ t, exec (.coreFrame data false) s = .next t ∧ t.bfm.pend = rest ∧ t.mem = s.mem) ∧
        s.leads (.coreFrame data true) s [])) ∧
    (s.f F.RTE.PS_CFG_HEAD = 0 → s.leads .coresComplete s []) ∧
    (s.f F.RTE.PS_CFG_HEAD = 1 → ∀ p, p ∈ s.bfm.pend → p.1 = s.bfm.wgtIdx - 1 → ∃ t, exec .coresComplete s = .next t ∧
      t.bfm.pend = s.bfm.pend.filter (fun p => p.1 != s.bfm.wgtIdx - 1)) ∧
    (s.serves agent A.BFM.TRIM_LOG false → ∀ e l, s.bfm.trimLog = e :: l → l.length < 16 → s.leads (.trimLogPop agent)
      { s with resp := { err := 0, data := e }, bfm := { s.bfm with trimLog := l } } [(F.BFM.TRIM_STATUS_LEVEL, l.length)])

/-- Partial sums and random access (R157 to R161, R338, R355 to R361): a term joins its key or is dropped, late or malformed; a local block without a chain is the full
sum; a hold instant resolves its key; an occasion that has ended queues, or is dropped at the ninth, and its result is written. -/
def Obligations.SumsAndOccasions : Prop :=
  ∀ (s : State) (p c k part : Nat) (fr : Frame) (wins : List (List (List Cplx))), s.calm → p < 6 → s.portState p = 3 → c < 4 → k < 14 →
    let o := s.logical p
    -- the frame leaves the receive buffer of its port or bond, and its credits are freed (R145)
    let frees := fun (u : State) => { u with ports := setNth u.ports o { u.port o with
      freed := modNth (u.port o).freed 3 (fun x => (x + frameCost 2 fr.payload.length) % 65536) } }
    let term := Instr.psum p fr false
    let keyed := fun (ks : List PsKey) => frees { s with bfm := { s.bfm with keys := ks } }
    (∀ y ∈ s.bfm.keys, y.due = false) →
    (s.psTakes p = false → s.leads term (frees s) []) ∧
    (s.psTakes p = true → s.psParse fr.payload = none → s.leads term (frees s) [s.countsTo F.RTE.FRM_CNT0_MALFORMED_CNT 1, (F.RTE.EVT_MALFORMED, 1)]) ∧
    (∀ key ncon vals, s.psTakes p = true → s.psParse fr.payload = some (key, ncon, vals) →
      let t0 : PsTerm := { src := o, fmt := key.fmt, ncon := ncon, degr := frameDegr fr, sat := frameSat fr, poison := false, vals := vals }
      (s.holdInstant key < s.now ∨ s.bfm.doneKeys.contains key.id = true → s.leads term (frees s) [s.countsTo F.RTE.PS_CNT0_LATE_CNT 1, (F.RTE.EVT_PS_LATE, 1)]) ∧
      (s.now ≤ s.holdInstant key → s.bfm.doneKeys.contains key.id = false →
        (s.bfm.keys = [] → s.leads term (keyed [{ key with terms := [t0] }]) []) ∧
        (∀ x, s.bfm.keys.find? (fun (y : PsKey) => y.same key) = some x →
          let other := x.terms.any (fun y => y.src == 6 && (y.fmt != key.fmt || y.vals.length != vals.length))
          let z := { x with terms := x.terms ++ [t0] }
          (other = true → s.leads term (frees s) [s.countsTo F.RTE.PS_CNT2_MISMATCH_CNT 1, (F.RTE.EVT_PS_MISMATCH, 1)]) ∧
          (other = false → x.terms.any (fun y => y.src == o) = true → s.leads term (frees s) []) ∧
          (other = false → x.terms.any (fun y => y.src == o) = false → s.psReady z = false →
            s.leads term (keyed (s.bfm.keys.map (fun (y : PsKey) => if y.same z then z else y))) [])))) ∧
    -- a payload that fails its check: the head counts it, a forwarder passes it on in its sum (R140)
    (s.f F.RTE.PS_CFG_HEAD = 1 ∨ s.psTakes p = false → ∃ t, exec (.psum p fr true) s = .next t ∧
      t.f F.RTE.FRM_CNT2_POISON_RX_CNT = (s.countsTo F.RTE.FRM_CNT2_POISON_RX_CNT 1).2 ∧ t.f F.RTE.EVT_POISON_RX = 1) ∧
    (s.f F.RTE.PS_CFG_HEAD = 0 → s.psTakes p = true → ∃ t, exec (.psum p fr true) s = .next t ∧
      t.f F.RTE.FRM_CNT2_POISON_FWD_CNT = (s.countsTo F.RTE.FRM_CNT2_POISON_FWD_CNT 1).2) ∧
    (let i := s.tim.symIdx.getD c 0 - 1
      let n := (if k ≤ i % 14 then 14 * (i / 14) + k else 14 * (i / 14 - 1) + k) / 14
      (s.tlCounts = false ∨ s.ulLength c n k ≤ 1020 * part → s.leads (.localBlockReady c k part false) s []) ∧
      (s.tlCounts = true → 1020 * part < s.ulLength c n k → s.f F.RTE.PS_CFG_EN = 0 → s.bfm.sums = [] → ∃ t x, exec (.localBlockReady c k part false) s = .next t ∧
        t.bfm.sums = [x] ∧ x.carrier = c ∧ x.sym = k ∧ x.abs = n ∧ x.kind = 0 ∧ x.offset = 1020 * part ∧ x.count = min 1020 (s.ulLength c n k - 1020 * part))) ∧
    (s.bfm.keys = [] → s.leads .psumHoldInstant s []) ∧
    (∀ key, s.bfm.keys = [key] → let u := s.advanceTo (s.holdInstant key)
      -- a term whose header came in time still arrives: the key waits for it (R159)
      (u.psArriving key = true → s.leadsFrom u .psumHoldInstant { u with bfm := { u.bfm with keys := [{ key with due := true }] } } []) ∧
      (u.psArriving key = false → s.f F.RTE.PS_CFG_HEAD = 0 → ∃ t, exec .psumHoldInstant s = .next t ∧ t.bfm.keys = [] ∧ key.id ∈ t.bfm.doneKeys ∧
        t.now = u.now ∧ t.f F.RTE.PS_CNT0_DEGR_CNT = (s.countsTo F.RTE.PS_CNT0_DEGR_CNT 1).2 ∧ t.f F.RTE.EVT_PS_DEGRADED = 1)) ∧
    (s.rad.open_ = [] → s.leads (.occasionQueued wins) s []) ∧
    (∀ o, s.rad.open_ = [o] → let u := s.advanceTo o.stop
      (9 ≤ s.rad.queue.length → s.rad.queue.length < 16 → s.leadsFrom u (.occasionQueued wins) { u with rad := { u.rad with open_ := [] } }
        [u.countsTo F.RAD.RA_CNT0_DROP_CNT 1, (F.RAD.EVT_OCC_DROP, 1), (F.RAD.RA_STATUS_BUSY, 1), (F.RAD.RA_STATUS_QLEN, s.rad.queue.length - 1)]) ∧
      (s.rad.queue.length < 9 → ∃ t excl, exec (.occasionQueued wins) s = .next t ∧ t.rad.queue = s.rad.queue ++ [{ o with data := wins, excl := excl }] ∧
        t.rad.open_ = [] ∧ t.f F.RAD.RA_STATUS_QLEN = s.rad.queue.length)) ∧
    (s.rad.queue = [] → s.leads .raDone s []) ∧
    (∀ o l, s.rad.queue = o :: l → l.length < 9 →
      let wr := s.f F.RAD.RA_RING_PTR_WR
      let depth := if s.f F.RAD.RA_RING_DEPTH = 0 then 16 else s.f F.RAD.RA_RING_DEPTH
      ∃ t, exec .raDone s = .next t ∧ t.rad.queue = l ∧ t.f F.RAD.RA_CNT1_OCC_CNT = (s.countsTo F.RAD.RA_CNT1_OCC_CNT 1).2 ∧ t.f F.RAD.EVT_RA_DONE = 1 ∧
        ((wr + 1) % depth = s.f F.RAD.RA_RING_PTR_RD → t.mem = s.mem ∧ t.f F.RAD.RA_CNT1_OVF_CNT = (s.countsTo F.RAD.RA_CNT1_OVF_CNT 1).2 ∧
          t.f F.RAD.EVT_RING_OVF = 1 ∧ t.f F.RAD.RA_RING_PTR_WR = wr) ∧
        ((wr + 1) % depth ≠ s.f F.RAD.RA_RING_PTR_RD → ∃ body, let a := s.f F.RAD.RA_RING_BASE * 65536 + 4096 * wr
          let scs := s.carScs o.carrier
          body.take 4 = leBytes 2 (64 * s.frameOf scs o.slot + o.slot % slotsPerFrame scs) ++ leBytes 1 (16 * o.trig + 4 * o.carrier) ++ leBytes 1 o.smask ∧
          (s.engRefused a body.length = false → t.f F.RAD.RA_RING_PTR_WR = (wr + 1) % depth ∧ t.mem = memWrite s.mem a body) ∧
          (s.engRefused a body.length = true → t.f F.RAD.RA_RING_PTR_WR = wr ∧ t.mem = s.mem)))

/-! ## Time -/

/-- Time bases and their exchanges (R173 to R179, R194): captures, wraps, steps, tallies and modes of the bases; SYNC, DELAY_REQ and DELAY_RESP are sent, taken or dropped;
missing answers count. -/
def Obligations.TimeBases : Prop :=
  ∀ (s : State) (agent n p host w tally exch t1 t4 state stratum : Nat), s.quiet → n < 4 → p < 6 → host < 2 → n < s.tim.bases.length → p < s.ports.length →
    let b := s.tb n
    let sets := fun (u : State) (x : TimeBase) => { u with tim := { u.tim with bases := setNth u.tim.bases n x } }
    let drops := [s.countsTo F.TIM.TIME_DROP_CNT_CNT 1, (F.TIM.EVT_TIME_DROP, 1)]
    let step := signed 32 w
    let up := s.portState p = 3
    -- a bond is one port: either of its numbers names it (R153)
    let o := s.logical p
    let slave := s.f (F.TIM.TB_DISC_MODE n) = 1 ∧ s.logical (s.f (F.TIM.TB_DISC_PORT n)) = o
    let master := ∃ q ∈ s.members p, (s.f (F.TIM.TB_DISC_MASTER_MASK n)).testBit q = true
    let sends := fun (t : State) (kind e : Nat) => ∃ l ∈ (t.port o).busy.toList ++ (t.port o).queue, l.fr.typ = 3 ∧ l.fr.vc = 0 ∧
      l.fr.payload.take 4 = leBytes 1 kind ++ leBytes 1 n ++ leBytes 2 e
    let single := fun (m : Nat) => m < 2 → m ≠ n → (s.tb m).exch = none ∧ s.f (F.TIM.TB_DISC_MODE m) ≠ 1
    (s.accepts agent (A.TIM.CAP_CTRL host) → s.leads (.capture agent host) { s with resp := {} }
      [(F.TIM.CAP_NS_NS host 0, (s.tb 0).ns), (F.TIM.CAP_NS_NS host 1, (s.tb 1).ns), (F.TIM.CAP_NS_NS host 2, (s.tb 2).ns), (F.TIM.CAP_NS_NS host 3, (s.tb 3).ns),
       (F.TIM.CAP_TALLY_TB0 host, (s.tb 0).tally), (F.TIM.CAP_TALLY_TB1 host, (s.tb 1).tally), (F.TIM.CAP_TALLY_TB2 host, (s.tb 2).tally),
       (F.TIM.CAP_TALLY_TB3 host, (s.tb 3).tally)]) ∧
    (s.domOn Dom.ctl = true →
      s.leadsFrom (s.tbRunTo n 0) (.tbWrap n) (s.tbRunTo n 0) [(F.TIM.EVT_WRAP n, 1)] ∧
      s.leadsFrom (s.tbRunTo n (2 ^ 63)) (.tbHalf n) (s.tbRunTo n (2 ^ 63)) [(F.TIM.EVT_HALF n, 1)]) ∧
    (s.accepts agent (A.TIM.TB_STEP n) → s.frameStep n step = false →
      (s.tbHeld n = false → s.servo n = 0 → ∃ t, exec (.tbStep agent n w) s = .next t ∧
        s.becomes t { s with
            resp := {}
            tim := { s.tim with bases := setNth s.tim.bases n { b with val := (((b.val : Int) + step * 2 ^ 32) % 2 ^ 72).toNat }, startFrom := s.now } }
          [(F.TIM.EVT_WRAP n, t.f (F.TIM.EVT_WRAP n)), (F.TIM.EVT_HALF n, t.f (F.TIM.EVT_HALF n))]) ∧
      (s.tbHeld n = true ∨ s.servo n ≠ 0 → s.leadsFrom (s.refuse agent (A.TIM.TB_STEP n)) (.tbStep agent n w) (s.refuse agent (A.TIM.TB_STEP n)) [])) ∧
    (s.accepts agent (A.TIM.TB_TALLY_SET n) →
      (s.tbHeld n = false → s.leads (.tbTallySet agent n tally) { s with
          resp := {}
          tim := { s.tim with
            bases := setNth s.tim.bases n { b with val := b.val % 2 ^ 64 + tally % 256 * 2 ^ 64 }
            startFrom := s.now
            nlPredict := if n = 2 then ((s.tim.nlPredict + ((tally % 256 : Nat) - (b.tally : Int)) * 2 ^ 36) % (2 ^ 44 : Int)).toNat else s.tim.nlPredict } } []) ∧
      (s.tbHeld n = true → s.leadsFrom (s.refuse agent (A.TIM.TB_TALLY_SET n)) (.tbTallySet agent n tally) (s.refuse agent (A.TIM.TB_TALLY_SET n)) [])) ∧
    (s.accepts agent (A.TIM.TB_DISC n) → s.f (F.TIM.TB_DISC_MODE n) ≠ 0 → ∃ t, exec (.tbDiscMode agent n 0) s = .next t ∧ t.resp = {} ∧
      t.f (F.TIM.TB_DISC_MODE n) = 0 ∧ t.servo n = 0 ∧ (t.tb n).exch = none ∧ (t.tb n).val = b.val) ∧
    -- a SYNC leaves when it is due, and sets when the next one is (R178)
    (n < 2 → up → master →
      let v := s.advanceTo (b.syncDue.getD o 0)
      let y := v.tb n
      v.still → ∃ t, exec (.syncSend n p) s = .next t ∧ sends t 0 y.exchNo ∧
        v.becomes t (sets v { y with
          exchNo := (y.exchNo + 1) % 65536
          syncDue := setNth y.syncDue o (v.now + 1000 * 384000000 / 2 ^ s.f (F.TIM.TB_DISC_SYNC_RATE n)) }) []) ∧
    (n < 2 → up → ¬ master → s.leads (.syncSend n p) s []) ∧
    (n < 2 → up → slave → state < 4 → ∃ t, exec (.sync n p exch t1 state stratum) s = .next t ∧ sends t 1 exch ∧
      s.becomes t (sets s { b with
          exch := some { num := exch, t1 := t1 % 2 ^ 44, t2 := s.tickFree.rxStamp n o, opened := s.now }
          syncRef := s.now
          missK := 0 })
        [(F.TIM.TB_STATUS_MASTER_STATE n, state), (F.TIM.TB_STATUS_STRATUM n, min 15 (stratum + 1))]) ∧
    (n < 2 → up → ¬ slave → s.leads (.sync n p exch t1 state stratum) s drops ∧ s.leads (.delayResp n p exch t4) s drops) ∧
    (n < 2 → up → master → ∃ t, exec (.delayReq n p exch) s = .next t ∧ s.becomes t s [] ∧ sends t 2 exch) ∧
    (n < 2 → up → ¬ master → s.leads (.delayReq n p exch) s drops) ∧
    (n < 2 → up → slave → b.exch.all (fun x => x.num != exch) = true → s.leads (.delayResp n p exch t4) s drops) ∧
    (n < 2 → up → slave → ∀ x, b.exch = some x → x.num = exch → ∃ t, exec (.delayResp n p exch t4) s = .next t ∧ (t.tb n).exch = none ∧ (t.tb n).missRun = 0 ∧
      t.now = s.now ∧ (s.servo n = 0 → (t.tb n).val = b.val ∧ t.servo n = 0 ∧ t.fi (F.TIM.TB_FREQ_FREQ n) = s.fi (F.TIM.TB_FREQ_FREQ n)) ∧
      (s.servo n = 1 → (t.tb n).stepped = true) ∧ (s.servo n = 3 → s.tbHeld n = false → (t.servo n = 1 ∨ t.servo n = 2) ∧ (t.tb n).stepped = true)) ∧
    (n < 2 → (∀ m, single m) → ∀ x, b.exch = some x → let u := s.advanceTo (x.opened + 384000000)
      let y := u.tb n
      (y.missRun + 1 < u.f (F.TIM.TB_SERVO_HOLD_MISS n) → s.leadsFrom u .exchangeTimeout (sets u { y with exch := none, missRun := y.missRun + 1 })
        [u.countsTo (F.TIM.TB_STATUS_MISS n) 1]) ∧
      (u.f (F.TIM.TB_SERVO_HOLD_MISS n) ≤ y.missRun + 1 → u.servo n = 1 ∨ u.servo n = 2 → ∃ t, exec .exchangeTimeout s = .next t ∧ t.servo n = 3 ∧
        t.f (F.TIM.EVT_STATE_CHG n) = 1 ∧ (t.tb n).exch = none)) ∧
    (n < 2 → (∀ m, single m) → s.f (F.TIM.TB_DISC_MODE n) = 1 →
      let u := s.advanceTo (b.syncRef + (b.missK + 1) * (1000 * 384000000 / 2 ^ s.f (F.TIM.TB_DISC_SYNC_RATE n)) + 384000000)
      let y := u.tb n
      y.missRun + 1 < u.f (F.TIM.TB_SERVO_HOLD_MISS n) → s.leadsFrom u .syncMiss (sets u { y with missK := b.missK + 1, missRun := y.missRun + 1 })
        [u.countsTo (F.TIM.TB_STATUS_MISS n) 1])

/-- The timeline and network listening (R181 to R192): arming and clearing; the start and a resume enter RUN; the ALT base is measured; SYNC pulses are given, followed and
lost; detections and missed windows of the network-listen receiver. -/
def Obligations.TimelineAndListening : Prop :=
  ∀ (s : State) (agent at_ : Nat) (ha hb sa sb : List Nat) (raw : Int) (mark : Bool), s.calm →
    let ctrl := A.TIM.TL_CTRL
    let run := s.f F.TIM.TL_STATUS_STATE
    let follows := s.f F.TIM.TL_CFG_FOLLOW = 1 ∧ (run = 1 ∨ run = 2)
    let listens := s.f F.NLR.NL_CFG_EN = 1 ∧ s.active = true
    let pa := (s.nlListen ha sa).2
    let pb := (s.nlListen hb sb).2
    let aerial := s.nlAerial pa.1 pb.1
    let back := if aerial = 0 then pa.2.2 else pb.2.2
    let h := s.advanceTo at_
    let tp := (((h.tb 2).ext16 - (back : Int)) % (2 ^ 44 : Nat)).toNat
    let detect := Instr.nlDetect ha hb sa sb at_
    let low := fun (a b : Nat) => max a b ≤ s.f F.NLR.NL_DET_THRESH
    let stray := s.nlState = 0 ∨ s.resting 7 = true ∨ low pa.1 pb.1 ∨ h.nlCutSince (h.now - back * 24) = true ∨ h.nlInWindow tp = false
    let ends := Instr.nlWindowEnd sa sb
    let gap : Int := s.startAhead * 2 ^ 32 - ((s.tb s.followed).val % 2 ^ 32 : Nat)
    let forgets := { s.tim with syncOn := false, syncRun := 0, syncNear := 0 }
    (s.accepts agent ctrl →
      -- a start that lies in the past is latched as the first whole-frame one at least 100 µs ahead (R182)
      (run = 0 → s.active = true → ∃ k : Nat, (0 ≤ gap → k = 0) ∧ (gap < 0 → 100000 * 2 ^ 32 ≤ gap + k * (10000000 * 2 ^ 32) ∧ gap + k * (10000000 * 2 ^ 32) < 10100000 * 2 ^ 32) ∧
        s.leads (.tlArm agent) { s with resp := {}, tim := { forgets with startK := k, startFrom := s.now } } [(F.TIM.TL_STATUS_STATE, 1), (F.TIM.TL_STATUS_SYNC_LOCK, 0)]) ∧
      (run = 0 → s.active = false → s.leads (.tlArm agent) { s with resp := {}, tim := forgets } [(F.TIM.TL_STATUS_STATE, 1), (F.TIM.TL_STATUS_SYNC_LOCK, 0)]) ∧
      (run ≠ 0 → s.leadsFrom (s.refuse agent ctrl) (.tlArm agent) (s.refuse agent ctrl) []) ∧
      (run = 3 → s.leads (.tlClear agent) { s with resp := {}, tim := forgets, leaders := [{}, {}], live := [], staging := [] }
        [(F.TIM.TL_STATUS_STATE, 0), (F.TIM.TL_STATUS_SYNC_LOCK, 0)]) ∧
      (run ≠ 3 → s.leadsFrom (s.refuse agent ctrl) (.tlClear agent) (s.refuse agent ctrl) [])) ∧
    (run = 1 → s.active = true → ∃ t, exec .tlStarted s = .next t ∧ t.tlState = 2 ∧ t.tim.t0 ≤ t.now ∧ (0 ≤ s.startGap → t.tim.t0 = t.now) ∧
      t.f F.TIM.EVT_TL_STARTED = 1 ∧ t.tim.frame0 = (s.f F.TIM.TL_START_EXT_FRAME + s.tim.startK) % 1024 ∧ (s.tim.startK ≠ 0 → t.f F.TIM.EVT_TL_START_LATE = 1)) ∧
    (run ≠ 1 ∨ s.active = false → s.leads .tlStarted s []) ∧
    (∀ scs, s.gridScs = some scs → run = 3 → s.active = true → ∃ t, exec .timelineResume s = .next t ∧ t.tlState = 2 ∧
      t.now = (s.advanceTo (s.slotInstant scs (s.slotAfter scs s.now))).now) ∧
    (s.tlCounts = true → let u := s.advanceTo (s.tim.t0 + (max s.now s.tim.altAt - s.tim.t0 + 383999999) / 384000000 * 384000000)
      ∃ t, exec .altMeasure s = .next t ∧ u.becomes t { u with tim := { u.tim with altAt := u.now + 1 } } [(F.TIM.TL_ALT_OFFSET_ALT_OFFSET, t.f F.TIM.TL_ALT_OFFSET_ALT_OFFSET)]) ∧
    (s.active = false ∨ run = 0 ∨ run = 3 → s.leads .gridMsBoundary s []) ∧
    (s.active = true → run = 2 →
      let k := (max s.now s.tim.syncAt - s.tim.t0 + 383999999) / 384000000
      let u := s.advanceTo (s.tim.t0 + k * 384000000)
      (s.f F.TIM.SYNC_CFG_OUT_EN = 1 → u.clkWindow = false → s.leadsFrom u .gridMsBoundary { u with tim := { u.tim with
          syncOut := u.tim.syncOut + 1
          syncWidth := if k % 10 = 0 then 400 else 100
          syncAt := u.now + 1 } } []) ∧
      (s.f F.TIM.SYNC_CFG_OUT_EN = 0 ∨ u.clkWindow = true → s.leadsFrom u .gridMsBoundary { u with tim := { u.tim with syncAt := u.now + 1 } } [])) ∧
    (¬ follows → s.leads (.syncInEdge raw mark) s []) ∧
    (follows → mark ≠ s.frameMark → s.leads (.syncInEdge raw mark) s [(F.TIM.EVT_SYNC_FRAME_ERR, 1)]) ∧
    (follows → mark = s.frameMark → ∃ t, exec (.syncInEdge raw mark) s = .next t ∧ t.tim.syncLast = s.now ∧ (run = 1 → t.tim.syncOn = true) ∧
      (s.tim.syncOn = true → t.tim.syncOn = true) ∧ (s.tim.syncOn = true → (s.syncError raw).natAbs ≤ 50 → 3 ≤ s.tim.syncNear → t.f F.TIM.TL_STATUS_SYNC_LOCK = 1) ∧
      (run = 2 → s.tim.syncOn = true → s.syncError raw = 0 → t.tim.err = 0)) ∧
    (s.f F.TIM.TL_CFG_FOLLOW = 1 → s.tim.syncOn = true → ∃ t, exec .syncLoss s = .next t ∧ t.tim.syncOn = false ∧ t.tim.syncRun = 0 ∧
      t.f F.TIM.TL_STATUS_SYNC_LOCK = 0 ∧ t.f F.TIM.SYNC_STATUS_LOSS_CNT = (s.countsTo F.TIM.SYNC_STATUS_LOSS_CNT 1).2 ∧ t.f F.TIM.EVT_SYNC_LOSS = 1 ∧
      t.now = (s.advanceTo (s.tim.syncLast + 576000000)).now) ∧
    (¬ listens ∨ stray → s.leadsFrom h detect h []) ∧
    (listens → ¬ stray → ∃ t, exec detect s = .next t ∧ t.f F.NLR.NL_STATUS_STATE = 2 ∧ t.f F.NLR.NL_STATUS_MISS_RUN = 0 ∧ t.f F.NLR.NL_STATUS_AERIAL = aerial ∧
      t.f F.NLR.NL_ENERGY_ENERGY_A = pa.1 ∧ t.f F.NLR.NL_ENERGY_ENERGY_B = pb.1 ∧ t.f F.NLR.NL_CNT_DETECT_CNT = (s.countsTo F.NLR.NL_CNT_DETECT_CNT 1).2 ∧
      t.f F.NLR.EVT_DETECT = 1 ∧ (s.f F.NLR.NL_STATUS_AERIAL ≠ aerial → t.f F.NLR.EVT_AERIAL_SWITCH = 1)) ∧
    (¬ listens ∨ s.nlState ≠ 2 → s.leads ends s []) ∧
    (listens → s.nlState = 2 →
      (s.tim.nlSeen = true → s.leads ends { s with tim := { s.tim with nlSeen := false } } []) ∧
      (s.tim.nlSeen = false → low (s.nlListen [] sa).2.1 (s.nlListen [] sb).2.1 →
        let u := s.nlWindowRun
        let v := { u with tim := { u.tim with nlPredict := (u.tim.nlPredict + u.nlPeriod) % 2 ^ 44 } }
        let cut := u.nlCutSince (u.now - 24 * (u.nlDist ((u.tb 2).ext16) + u.nlHalf).toNat)
        let misses := s.f F.NLR.NL_STATUS_MISS_RUN
        (cut = true → s.leadsFrom u ends v [u.countsTo F.NLR.NL_CNT_SKIP_CNT 1]) ∧
        (cut = false → misses < 3 → s.f (F.TIM.TB_DISC_MODE 2) ≠ 2 → s.leadsFrom u ends v [(F.NLR.NL_STATUS_MISS_RUN, misses + 1), (F.NLR.EVT_MISS, 1)]) ∧
        (cut = false → misses = 3 → s.f (F.TIM.TB_DISC_MODE 2) ≠ 2 → s.leadsFrom u ends v
          [(F.NLR.NL_STATUS_MISS_RUN, 4), (F.NLR.EVT_MISS, 1), (F.NLR.NL_STATUS_STATE, 1), (F.NLR.EVT_LOST, 1)])) ∧
      (s.tim.nlSeen = false → ¬ low (s.nlListen [] sa).2.1 (s.nlListen [] sb).2.1 → ∃ t, exec ends s = .next t ∧ t.tim.nlSeen = false))

/-! ## The arbiter and the hosts -/

/-- The arbiter (R430 to R442): a request takes an idle bank or waits; a burst boundary grants the oldest real-time request, or a best-effort one after a draw, or leaves
the bank idle; starvation is flagged once; posted transfers start, complete and are popped; the lottery is seeded. -/
def Obligations.Arbiter : Prop :=
  ∀ (s : State) (agent g id a beats cyc b word k seed : Nat) (write vcRt : Bool), s.calm →
    let sets := fun (u : State) (n : Nat) (x : ArbBank) => { u with arb := { u.arb with banks := Store.set u.arb.banks {} n x } }
    let n := a / 0x80000
    let r : ArbReq := { id := id, rt := reqRt id vcRt, stamp := cyc % 2 ^ 32, beats := beats }
    let asks := Instr.arbRequest id a write vcRt beats cyc
    let refused := (reqIsAgent id && s.ctxRefused a (64 * beats) write) = true
    let x := s.bank b
    let rts := x.waiting.filter (fun q => q.rt)
    let bes := x.waiting.filter (fun q => !q.rt)
    let waited := fun (m : Fld) (q : ArbReq) => (m, max (s.f m) (min (q.age cyc / 64) 0xFFFF))
    let bound := Instr.burstBoundary b cyc
    let p : ArbPost := { agent := g, ctx := s.f (F.ARB.POST_CTX_ADDR g), loc := s.f (F.ARB.POST_LOC_ADDR g), write := word.testBit 31, beats := bits word 3 0 + 1,
                         tag := bits word 23 16 }
    let first := 16 - a / 64 % 16
    let on := s.resting 17 = false
    (id < 19 → 0x03000000 < a / 64 * 64 + 64 * beats ∨ beats = 0 ∨ s.domOn Dom.ctx = false ∨ s.wiping = true ∨ refused → s.leads asks s []) ∧
    -- a transfer that crosses no 1 KB boundary is one burst (R428)
    (id < 19 → a / 64 * 64 + 64 * beats ≤ 0x03000000 → 1 ≤ beats → beats ≤ first → s.domOn Dom.ctx = true → s.wiping = false → ¬ refused →
      (on → (s.bank n).owner = none → (s.bank n).waiting = [] → s.leads asks (sets s n { s.bank n with owner := some id, rtRun := 0 }) []) ∧
      ((s.bank n).owner ≠ none ∨ (s.bank n).waiting ≠ [] → s.injHit 12 id = false →
        s.leads asks (sets s n { s.bank n with waiting := (s.bank n).waiting ++ [r] })
          (if 16 ≤ (s.bank n).waiting.length then [s.countsTo F.ARB.ARB_CNT0_QFULL_CNT 1, (F.ARB.EVT_QFULL, 1)] else []))) ∧
    -- one that crosses a boundary is split there, and its bursts are arbitrated each on its own (R428)
    (id < 19 → a / 64 * 64 + 64 * beats ≤ 0x03000000 → first < beats → beats ≤ 16 → (a / 64 * 64 + 64 * first) / 0x80000 = n → s.domOn Dom.ctx = true →
      s.wiping = false → ¬ refused → on → (s.bank n).owner = none → (s.bank n).waiting = [] → s.injHit 12 id = false →
      s.leads asks (sets s n { s.bank n with owner := some id, rtRun := 0, waiting := [{ r with beats := beats - first }] }) []) ∧
    (b < 96 → ¬ on → s.leads bound (sets s b { x with owner := none }) []) ∧
    (b < 96 → on → x.waiting = [] → s.leads bound (sets s b { x with owner := none, rtRun := 0 }) []) ∧
    (b < 96 → on → bes = [] ∨ x.rtRun < 15 → ∀ q, oldestReq cyc rts = some q → s.leads bound
      (sets s b { waiting := x.waiting.erase q, owner := some q.id, rtRun := if bes = [] then 0 else x.rtRun + 1 }) [waited F.ARB.MAX_WAIT_RT q]) ∧
    (b < 96 → on → rts = [] ∨ 15 ≤ x.rtRun → ∀ q, bes = [q] → s.leads bound (sets s b { waiting := x.waiting.erase q, owner := some q.id, rtRun := 0 })
      ((F.ARB.LFSR_STATE_STATE, lfsrDraw (s.f F.ARB.LFSR_STATE_STATE)) :: waited F.ARB.MAX_WAIT_BE q ::
        (if rts = [] then [] else [s.countsTo F.ARB.ARB_CNT0_FLOOR_CNT 1]))) ∧
    (b < 96 → (∀ q ∈ x.waiting, s.isStarved cyc q = false) → s.leads (.starve b cyc) (sets s b x) []) ∧
    (b < 96 → ∀ q, x.waiting = [q] → s.isStarved cyc q = true → q.id < 19 → ∃ t, exec (.starve b cyc) s = .next t ∧
      (t.bank b).waiting = [{ q with starved := true }] ∧ t.f F.ARB.STARVE_FLAG = s.f F.ARB.STARVE_FLAG ||| 2 ^ q.id ∧
      t.f F.ARB.ARB_CNT1_STARVE_CNT = (s.countsTo F.ARB.ARB_CNT1_STARVE_CNT 1).2 ∧ t.f (if q.rt then F.ARB.EVT_STARVE_RT else F.ARB.EVT_STARVE_BE) = 1) ∧
    (g < 36 → s.accepts agent (A.ARB.POST_CMD g) →
      (s.postCode p = 0 → s.leads (.postCmd agent g word) { s with resp := {}, arb := { s.arb with posts := s.arb.posts ++ [p] } } []) ∧
      (s.postCode p ≠ 0 → s.leads (.postCmd agent g word) { s with resp := {} }
        [(F.ARB.POST_STATUS_CODE g, s.postCode p), s.countsTo F.ARB.ARB_CNT1_POST_REFUSE_CNT 1, (F.ARB.EVT_POST_REFUSED, 1)])) ∧
    (g < 36 → ∀ q, (s.arb.posts.filter (fun (y : ArbPost) => y.agent == g))[k]? = some q → q.mute = false → s.wiping = false → s.ctxRefused q.ctx q.bytes q.write = false →
      s.bootLocks (if q.write then q.ctx else localAddr g q.loc) q.bytes = false → (g < 34 → s.coreState g ≠ 0 ∧ s.coreState g ≠ 5) → s.flt.injs = [] →
      let loc := localAddr g q.loc
      let m := if q.write then memWrite s.mem q.ctx (memRead s.mem loc q.bytes) else memWrite s.mem loc (memRead s.mem q.ctx q.bytes)
      let e := 2 ^ 31 + q.ctx / 0x80000 * 2 ^ 24 + q.tag * 2 ^ 16
      s.leads (.postComplete g k) { s with mem := m, arb := { s.arb with posts := s.arb.posts.erase q, rings := modNth s.arb.rings g (· ++ [e]) } } []) ∧
    (g < 36 → s.serves agent (A.ARB.COMP_POP g) false → agent = g →
      (s.arb.rings.getD g [] = [] → s.leads (.compPop agent g) { s with resp := {} } []) ∧
      (∀ e l, s.arb.rings.getD g [] = e :: l → s.leads (.compPop agent g)
        { s with resp := { err := 0, data := e }, arb := { s.arb with rings := setNth s.arb.rings g l } } [])) ∧
    (s.accepts agent A.ARB.LFSR_SEED → seed < 2 ^ 16 →
      (seed ≠ 0 → s.leads (.lfsrSeed agent seed) { s with resp := {} } [(F.ARB.LFSR_SEED_SEED, seed), (F.ARB.LFSR_STATE_STATE, seed)]) ∧
      (seed = 0 → s.leadsFrom (s.refuse agent A.ARB.LFSR_SEED) (.lfsrSeed agent seed) (s.refuse agent A.ARB.LFSR_SEED) []))

/-- What hosts do with the other agents (R447 to R472): they send and receive messages, ring doorbells, restart, register and release pools, acquire, release and break
semaphores; a core rung in Test comes up. -/
def Obligations.HostAgents : Prop :=
  ∀ (s : State) (h word target owner pool size k : Nat), s.calm → h < 2 → k < 64 → k < s.mbx.sems.length →
    let me := 34 + h
    let g := bits word 29 24
    let msg := (s.f (F.MBX.SEND_PTR_PTR h), word % 2 ^ 24 + me * 2 ^ 24 + s.epochOf me * 2 ^ 30)
    let down := s.domOn (agentDom g) = false ∨ (g < 34 ∧ (s.coreState g = 5 ∨ s.coreState g = 0))
    let rings := fun (dst : Nat) => if dst = 34 then [(F.MBX.EVT_DOORBELL_A, 1)] else if dst = 35 then [(F.MBX.EVT_DOORBELL_B, 1)] else []
    let pend := s.dbPend target ||| 2 ^ me
    let x := s.sem k
    let mine := (me, s.epochOf me)
    let code := F.BLY.HOST_STATUS_CODE h
    let sem := (F.BLY.HOST_STATUS_SEM h, k)
    let sems := fun (y : Sem) => { s with resp := {}, mbx := { s.mbx with sems := setNth s.mbx.sems k y } }
    let given := (code, if x.broken then 8 else 0)
    let w := 2 ^ 31 + size
    let refuses := fun (i : Instr) (a : Nat) => s.leadsFrom (s.refuse me a) i (s.refuse me a) []
    (s.accepts me (A.MBX.SEND_CMD h) →
      (35 < g ∨ s.resting 15 = true → refuses (.hostSend me h word) (A.MBX.SEND_CMD h)) ∧
      (s.resting 15 = false → g ≤ 35 → down → s.leads (.hostSend me h word) { s with resp := {} }
        [(F.MBX.SEND_STATUS_CODE h, 3), s.countsTo F.MBX.MBX_CNT0_DOWN_CNT 1, (F.MBX.EVT_DOWN, 1)]) ∧
      (s.resting 15 = false → g ≤ 35 → ¬ down → s.injHit 11 g = false → (s.core g).wait = none →
        ((s.inboxOf g).length < 4 → s.leads (.hostSend me h word)
          { s with resp := {}, mbx := { s.mbx with inbox := setNth s.mbx.inbox g (s.inboxOf g ++ [msg]), peer := s.mbx.peer.filter (· != (me, g)) } }
          ((F.MBX.SEND_STATUS_CODE h, if s.mbx.peer.contains (me, g) then 4 else 0) ::
            (if g = 34 then [(F.MBX.EVT_INBOX_A, 1)] else if g = 35 then [(F.MBX.EVT_INBOX_B, 1)] else []))) ∧
        (4 ≤ (s.inboxOf g).length → g < s.mbx.inbox.length → ∃ t, exec (.hostSend me h word) s = .next t ∧ t.inboxOf g = (s.inboxOf g).dropLast ++ [msg] ∧
          t.f (F.MBX.SEND_STATUS_CODE h) = (if s.mbx.peer.contains (me, g) then 4 else 2) ∧
          t.f (F.MBX.INBOX_STATUS_COLL_CNT g) = (s.countsTo (F.MBX.INBOX_STATUS_COLL_CNT g) 1).2 ∧ t.f F.MBX.EVT_COLLIDE = 1))) ∧
    (s.serves me (A.MBX.RECV_META h) false →
      (s.inboxOf me = [] → s.leads (.hostRecv me h) { s with resp := {} } [(F.MBX.RECV_STATUS_CODE h, 1)]) ∧
      (∀ w0 w1 l, s.inboxOf me = (w0, w1) :: l →
        let u := { s with resp := { err := 0, data := w1 }, mbx := { s.mbx with inbox := setNth s.mbx.inbox me l } }
        (s.epochOf (bits w1 29 24) = bits w1 31 30 → s.leads (.hostRecv me h) u [(F.MBX.RECV_STATUS_CODE h, 0)]) ∧
        (s.epochOf (bits w1 29 24) ≠ bits w1 31 30 → s.leads (.hostRecv me h) u
          [(F.MBX.RECV_STATUS_CODE h, 5), s.countsTo F.MBX.MBX_CNT0_STALE_CNT 1, (F.MBX.EVT_STALE, 1)]))) ∧
    (s.accepts me (A.MBX.DB_RING h) → target ≤ 35 → s.mode ≠ 5 →
      let l := [(F.MBX.DB_PEND_LO_PEND target, pend % 2 ^ 32), (F.MBX.DB_PEND_HI_PEND target, pend / 2 ^ 32)] ++ rings target
      (s.f F.PWR.REST_STATUS_STATE ≠ 1 → s.leads (.dbRing me h target) { s with resp := {}, pwr := s.rungPwr } l) ∧
      (s.f F.PWR.REST_STATUS_STATE = 1 → s.pwr.stopped = [] → s.pwr.req = none →
        s.leads (.dbRing me h target) { s with resp := {}, pwr := { s.pwr with asked := none } } (l ++ s.wakeRefusal))) ∧
    (s.accepts me (A.MBX.DB_RING h) → 35 < target % 64 → refuses (.dbRing me h target) (A.MBX.DB_RING h)) ∧
    (∀ dst, s.mode = 5 → s.mbx.ringWake = [(dst, target)] → dst < 34 → s.coreState dst = 0 → 34 ≤ target → target < 36 → s.domOn (coreDom dst) = false → ∃ t, exec .ringWakeDone s = .next t ∧
      t.domOn (coreDom dst) = true ∧ t.mbx.ringWake = [] ∧ t.coreState dst = 1 ∧ (t.dbPend target).testBit dst = true ∧ t.f F.MBX.EVT_WAKE_DONE = 1) ∧
    (s.accepts me (A.MBX.HOST_CTRL h) → me < s.mbx.inbox.length → ∃ t, exec (.hostRestart me h) s = .next t ∧ t.resp = {} ∧ t.inboxOf me = [] ∧
      t.epochOf me = (s.epochOf me + 1) % 4 ∧ t.f (F.BLY.HOST_STATUS_QUEUED h) = 0 ∧ ∀ q, q < 36 → (q, me) ∈ t.mbx.peer) ∧
    (owner < 36 → pool < 2 → size < 2 ^ 16 → s.accepts me (A.MBX.POOL_CFG owner pool) →
      (s.f (F.MBX.POOL_CFG_ORPHANED owner pool) = 0 → (s.poolSet owner pool w).poolFits owner pool = true → s.leads (.poolRegister me owner pool size) { s with resp := {} }
        [(F.MBX.POOL_CFG_VALID owner pool, 1), (F.MBX.POOL_CFG_SIZE owner pool, size), (F.MBX.POOL_CFG_EPOCH owner pool, s.epochOf owner)]) ∧
      (s.f (F.MBX.POOL_CFG_ORPHANED owner pool) = 1 ∨ (s.poolSet owner pool w).poolFits owner pool = false →
        refuses (.poolRegister me owner pool size) (A.MBX.POOL_CFG owner pool)) ∧
      s.leads (.poolRelease me owner pool) { s with resp := {} } [(F.MBX.POOL_CFG_VALID owner pool, 0), (F.MBX.POOL_CFG_ORPHANED owner pool, 0)]) ∧
    (s.accepts me (A.BLY.ACQ h) →
      (s.f (F.BLY.HOST_STATUS_QUEUED h) = 1 ∨ s.resting 16 = true → ∀ i ∈ [Instr.hostAcq me h k, .hostTryacq me h k], refuses i (A.BLY.ACQ h)) ∧
      (s.f (F.BLY.HOST_STATUS_QUEUED h) = 0 → s.resting 16 = false →
        (x.owner = none → s.leads (.hostTryacq me h k) (sems { x with owner := some mine, broken := false }) [sem, given]) ∧
        (x.owner ≠ none → s.leads (.hostTryacq me h k) { s with resp := {} } [sem, (code, 6)]) ∧
        (s.waitsFor me = none → s.flt.injs = [] →
          (x.owner = none → s.leads (.hostAcq me h k) (sems { x with owner := some mine, broken := false }) [sem, given]) ∧
          (x.owner ≠ none → s.closesCycle me k = false → x.queue.length < 8 → s.leads (.hostAcq me h k)
            { s with resp := {}, mbx := { s.mbx with sems := setNth s.mbx.sems k { x with queue := x.queue ++ [me] }, hostAt := setNth s.mbx.hostAt h s.now } }
            [sem, (F.BLY.HOST_STATUS_QUEUED h, 1)]) ∧
          (x.owner ≠ none → s.closesCycle me k = true → ∃ t, exec (.hostAcq me h k) s = .next t ∧ t.f code = 7 ∧ t.sem k = x ∧
            t.f (F.BLY.HOST_STATUS_QUEUED h) = 0 ∧ t.f F.BLY.BLY_CNT0_CYCLE_CNT = (s.countsTo F.BLY.BLY_CNT0_CYCLE_CNT 1).2 ∧ t.f F.BLY.EVT_CYCLE = 1)))) ∧
    (s.accepts me (A.BLY.REL h) →
      (x.owner = some mine → x.queue = [] → s.leads (.hostRel me h k) (sems { x with owner := none, broken := false }) [(code, 0)]) ∧
      (x.owner ≠ some mine → s.leads (.hostRel me h k) { s with resp := {} } [(code, 10), s.countsTo F.BLY.BLY_CNT2_NOTOWNER_CNT 1, (F.BLY.EVT_NOTOWNER, 1)])) ∧
    (s.accepts me A.BLY.BREAK → x.queue = [] → s.leads (.breakSem me k) (sems { x with owner := none, broken := true })
      [s.countsTo F.BLY.BLY_CNT1_BROKEN_CNT 1, (F.BLY.EVT_BROKEN, 1)])

/-! ## Calibration and the converter clocks -/

/-- Calibration (R475 to R483): a full run is asked for in Calibrate and refused elsewhere; a reload puts the stored set in force with a new ramp for every path and kind and no
delta of its own; a path-run fails with the code noted in its symbols, with SAT or, for RECIP, with TOL, and is counted; one that completes is counted and its values enter
a ramp of their own path and kind. -/
def Obligations.Calibrations : Prop :=
  ∀ (s : State) (agent k p fail : Nat) (v got : List Int) (r : Nat × Nat × Nat) (x : CalRun), s.calm → k < 6 → p < 64 → k ≠ 4 →
    let a := A.CAL.CAL_CTRL
    let i := Instr.calResult k p fail v
    let sets := fun (u : State) (c : CalState) => ({ u with cal := c } : State)
    let steps := if s.f F.CAL.CAL_CFG_RAMP = 0 then 256 else s.f F.CAL.CAL_CFG_RAMP
    let turns := fun (i : Int) => (960 * 65536 : Int) ∣ i
    let t := s.pathTemp k p
    let delta := fun (i : Nat) => if k = 5 then got.getD i 0 else 960 * got.getD i 0 - baseline960 s.cal.set k p i t
    -- what a RECIP run measured twice, and the values that a run gives
    let first := s.recipFit p (v.take (v.length / 2))
    let agrees := s.recipAgrees p first (s.recipFit p (v.drop (v.length / 2)))
    let gives := if k = 5 then agrees = true ∧ got = first else got = v
    -- the ramp of a result on a path and kind that had none
    let enters := fun (u : State) (rs : List Ramp) => rs.filter (fun y => !y.isOf k p) = s.cal.ramps.filter (fun y => !y.isOf k p) ∧
      ∃ y ∈ rs, y.isOf k p = true ∧ y.old = List.replicate (kindSize k) 0 ∧ y.total = steps ∧ y.step = 0 ∧ y.ready = u.now ∧
        ∀ i, i < kindSize k → if isPhase k i then (kindDen k * 65536 : Int) ∣ (y.new.getD i 0 - delta i) ∧ 2 * (y.new.getD i 0).natAbs ≤ kindDen k * 65536 else y.new.getD i 0 = delta i
    let lasts := fun (u : State) => [(F.CAL.KIND_LAST_FRAME k, u.logFrame), (F.CAL.KIND_LAST_SLOT k, u.slotOfFrame), (F.CAL.KIND_LAST_TB0_TB0 k, (u.tb 0).ns),
      (F.CAL.KIND_RUNS_RUNS k, (s.f (F.CAL.KIND_RUNS_RUNS k) + 1) % 2 ^ 32), (F.CAL.EVT_RUN_DONE, 1)]
    let word := fun (lo hi : Fld) (m : Nat) => [(lo, m % 2 ^ 32), (hi, m / 2 ^ 32)]
    let temp := fun (x : Fld) (y : Int) => (x, (BitVec.ofInt 16 y).toNat)
    let bits := if k = 2 then temp (F.CAL.P_TEMP_T_RX_LAST p) t :: word F.CAL.PEND_RX_LO_PEND F.CAL.PEND_RX_HI_PEND (s.pendRx &&& (2 ^ 64 - 1 - 2 ^ p))
      else if k = 3 then temp (F.CAL.P_TEMP_T_TX_LAST p) t :: word F.CAL.PEND_TX_LO_PEND F.CAL.PEND_TX_HI_PEND (s.pendTx &&& (2 ^ 64 - 1 - 2 ^ p))
      else if k = 5 then temp (F.CAL.RECIP_TEMP_T_RX_RUN p) t :: temp (F.CAL.RECIP_TEMP_T_TX_RUN p) (s.pathTemp 3 p) ::
        word F.CAL.RECIP_VALID_LO_VALID F.CAL.RECIP_VALID_HI_VALID (s.recipMask ||| 2 ^ p)
      else []
    let fails := fun (c : Nat) => [(F.CAL.CAL_STATUS_FAIL_CODE, c), (F.CAL.CAL_STATUS_FAIL_PATH, p), s.countsTo F.CAL.CAL_CNT_FAIL_CNT 1, (F.CAL.EVT_CAL_FAIL, 1)]
    -- a path-run ends at u with the code noted, and leaves the runs of c
    let ends := fun (u : State) (c : CalState) (l : List (Fld × Nat)) (noted : Nat) =>
      (noted ≠ 0 → s.leadsFrom u i (sets u c) (l ++ fails noted)) ∧
      (noted = 0 → fail = 3 → s.leadsFrom u i (sets u c) (l ++ fails 3)) ∧
      (noted = 0 → fail ≠ 3 → k = 5 → agrees = false → s.leadsFrom u i (sets u c) (l ++ fails 7)) ∧
      (noted = 0 → fail ≠ 3 → gives → s.cal.ramps.all (fun y => !y.isOf k p) = true →
        ∃ rs, s.leadsFrom u i (sets u { c with ramps := rs }) (l ++ lasts u ++ bits) ∧ enters u rs)
    let u := s.advanceTo (s.symSpan x.carrier x.slot (x.trig + x.nsym - 1)).2
    (s.accepts agent a →
      (s.mode = 4 → s.f F.CAL.CAL_STATUS_STATE ≠ 1 → s.resting 3 = false → s.leads (.calFull agent) { sets s { s.cal with fullAt := some s.now } with resp := {} } []) ∧
      (s.mode ≠ 4 ∨ s.f F.CAL.CAL_STATUS_STATE = 1 ∨ s.resting 3 = true → s.leadsFrom (s.refuse agent a) (.calFull agent) (s.refuse agent a) []) ∧
      (∃ rs, s.leads (.reload agent) { sets s { s.cal with set := s.recBody 4, ramps := rs } with resp := {} }
          [(F.CAL.KIND_RUNS_RUNS 4, (s.f (F.CAL.KIND_RUNS_RUNS 4) + 1) % 2 ^ 32), (F.CAL.EVT_RELOADED, 1)] ∧
        ∀ j q, j < 5 → q < 64 → ∃ y ∈ rs, y.isOf j q = true ∧ y.total = steps ∧ y.step = 0 ∧ ∀ i ∈ y.new, turns i ∨ i = 0)) ∧
    (s.cal.fullRuns = [r] → r.1 = k → r.2.1 = p → ends s { s.cal with fullRuns := [] } []
      (if s.f F.CLK.CLK_STATUS_STATE ≠ 2 then 4
       else if (k = 3 ∨ k = 5) ∧ (s.f (F.TXP.P_STATUS_FAULT p) ≠ 0 ∨ (s.f F.THM.THM_STATUS_MUTED).testBit (p / 8) = true) then 2 else 0)) ∧
    (s.cal.fullRuns = [] → s.cal.runs = [x] → x.kind = k → x.path = p → s.f F.CAL.CAL_STATUS_STATE = 2 → x.fail < 8 →
      ends u { u.cal with runs := [] } [(F.CAL.CAL_STATUS_STATE, 0)] (if x.fail ≠ 0 then x.fail else u.legEnds x x.slot (x.trig + x.nsym - 1))) ∧
    (s.cal.fullRuns = [] → s.cal.runs = [] → s.leads i s [])

/-- The converter clock synthesiser (R489 to R495): a plan switch that R491 refuses changes nothing but its code; one that is taken is armed for its slot while the timeline
runs, and else converts every frequency word and opens a window; CANCEL, CAL and SAVE act as they say; lock is gained and lost, and a window ends by its lock. -/
def Obligations.Synthesiser : Prop :=
  ∀ (s : State) (agent w band trim residual : Nat), s.calm → w < 2 ^ 32 →
    let plan := bits w 30 27
    let full := w.testBit 31
    let st := s.f F.CLK.CLK_STATUS_STATE
    let busy := s.clk.armed.isSome = true ∨ st = 3 ∨ st = 4 ∨ s.f F.PWR.REST_STATUS_STATE ≠ 0
    let shows := fun (v : Nat) => (F.CLK.CLK_STATUS_STATE, v)
    let sets := fun (u : State) (c : ClkState) => ({ u with clk := c } : State)
    let window := fun (u : State) (long : Bool) (stage : Nat) => { u.clk with winEnd := u.now + (if long then 4005 else 40) * usU, locked := false, stage := stage }
    let refused := fun (c : Nat) => s.leads (.planSwitch agent w) { s with resp := {} } [(F.CLK.CLK_STATUS_CODE, c), (F.CLK.EVT_SWITCH_REFUSED, 1)]
    let old := s.f (F.CLK.PLAN_FS_FS_KHZ s.plan) * 1000
    let new := s.f (F.CLK.PLAN_FS_FS_KHZ plan) * 1000
    let scaled := fun (x : Nat) => (2 * x * old + new) / (2 * new) % 2 ^ 48
    let word := fun (x : Nat) (lo hi : Fld) => [(lo, scaled x % 2 ^ 32), (hi, scaled x / 2 ^ 32)]
    let words := (List.range 4).flatMap (fun c => word (s.ncoW c) (F.RXP.CAR_NCO_LO_W_LO c) (F.RXP.CAR_NCO_HI_W_HI c)) ++
      word s.txCentre F.TXP.TX_CENTRE_LO_W_LO F.TXP.TX_CENTRE_HI_W_HI ++ [(F.NLR.NL_NCO_FREQ, (2 * s.f F.NLR.NL_NCO_FREQ * old + new) / (2 * new) % 2 ^ 32)]
    let long := full = true ∨ s.f (F.CLK.PLAN_CAL0_CAL_VALID plan) = 0
    let o := s.occur 17 0 false
    let lost := fun (u : State) => [shows 4, u.countsTo F.CLK.CLK_CNT_UNLOCK_CNT 1, (F.CLK.EVT_UNLOCK, 1)]
    let v := s.advanceTo s.clk.winEnd
    let vo := v.occur 17 0 false
    let p := s.plan
    -- a window that begins with a usable clock mutes the transmit symbols in progress
    let muted := fun (u : State) => if st = 2 then u.each (List.range 4) State.muteOngoing else u
    let m := muted s
    let mo := muted o
    let bad := s.f F.SYS.BOOT_STATUS_NVM_BAD
    let usable := fun (u : State) => sets u { u.clk with okSince := u.now }
    (s.accepts agent A.CLK.PLAN_SWITCH →
      (busy → refused 1) ∧
      (¬ busy → s.f (F.CLK.PLAN_FS_VALID plan) = 0 → refused 2) ∧
      (¬ busy → s.f (F.CLK.PLAN_FS_VALID plan) = 1 → s.tlRun = true →
        (s.slotInstant ((s.gridScs).getD 0) (s.boundaryOf (bits w 26 17) (bits w 16 11)) < s.now + 100 * usU → refused 3) ∧
        (s.now + 100 * usU ≤ s.slotInstant ((s.gridScs).getD 0) (s.boundaryOf (bits w 26 17) (bits w 16 11)) → s.planBreaks plan = false →
          s.leads (.planSwitch agent w) { sets s { s.clk with armed := some (plan, full, bits w 26 17, bits w 16 11) } with resp := {} } [(F.CLK.CLK_STATUS_ARMED, 1)]) ∧
        (s.now + 100 * usU ≤ s.slotInstant ((s.gridScs).getD 0) (s.boundaryOf (bits w 26 17) (bits w 16 11)) → s.planBreaks plan = true → refused 4)) ∧
      (¬ busy → s.f (F.CLK.PLAN_FS_VALID plan) = 1 → s.tlRun = false → s.planBreaks plan = true → refused 4) ∧
      (¬ busy → s.f (F.CLK.PLAN_FS_VALID plan) = 1 → s.tlRun = false → s.planBreaks plan = false → 0 < new →
        (long → s.leads (.planSwitch agent w) { sets s { window s true 0 with armed := none } with resp := {} }
          ([shows 3, (F.CLK.CLK_STATUS_PLAN, plan), (F.CLK.CLK_STATUS_ARMED, 0)] ++ words)) ∧
        (¬ long → s.leads (.planSwitch agent w) { sets s { window s false 0 with armed := none } with resp := {} }
          ([shows 4, (F.CLK.CLK_STATUS_PLAN, plan), (F.CLK.CLK_STATUS_ARMED, 0)] ++ words)))) ∧
    (s.accepts agent A.CLK.CLK_CTRL →
      s.leads (.cancel agent) { sets s { s.clk with armed := none } with resp := {} } [(F.CLK.CLK_STATUS_ARMED, 0)] ∧
      (st = 0 ∨ st = 3 ∨ st = 4 ∨ s.resting 19 = true → s.leads (.clkCal agent) { s with resp := {} } []) ∧
      (st ≠ 0 → st ≠ 3 → st ≠ 4 → s.resting 19 = false → s.leadsFrom m (.clkCal agent) { sets m (window m true 0) with resp := {} } [shows 3]) ∧
      (s.nvm.held = true → s.leads (.clkSave agent) { s with resp := {} } [s.countsTo F.NVM.NVM_CNT1_REFUSE_CNT 1, (F.NVM.EVT_WRITE_REFUSED, 1)]) ∧
      (s.nvm.held = false → s.quieting = true → s.leads (.clkSave agent) { s with resp := {} } []) ∧
      (s.nvm.held = false → s.quieting = false → s.nvm.write.isSome = true ∨ s.nvm.auth.isSome = true → s.leads (.clkSave agent) { s with resp := {}, nvm := { s.nvm with queue := s.nvm.queue ++ [(2, .clk, 264)] } } []) ∧
      (s.nvm.held = false → s.quieting = false → s.nvm.write = none → s.nvm.auth = none → s.inForce 2 = none → s.leads (.clkSave agent)
        { s with resp := {}, nvm := { s.nvm with write := some { id := 2, slotB := false, seq := 1, len := 264, src := .clk, torn := s.nvm.injTorn }, injTorn := false } }
        [(F.NVM.NVM_STATUS_BUSY, 1), (F.NVM.NVM_STATUS_ID, 2), (F.NVM.NVM_STATUS_LEFT, 42)])) ∧
    (st = 2 → s.leadsFrom mo .unlock (sets mo (window mo false 1)) (lost s)) ∧
    (st ≠ 2 → s.leads .unlock (sets s { s.clk with locked := false }) []) ∧
    (bad = 0 → s.clk.locked = false → st ≠ 0 → st ≠ 5 → s.leads .synthLock
      (sets s { s.clk with locked := true, okSince := if st = 1 then s.now else s.clk.okSince }) ((F.CLK.EVT_LOCKED, 1) :: if st = 1 then [shows 2] else [])) ∧
    (bad = 1 ∨ s.clk.locked = true ∨ st = 0 ∨ st = 5 → s.leads .synthLock s []) ∧
    (band < 256 → trim < 256 → residual < 2 ^ 32 →
      (st = 3 → s.leads (.synthCalDone band trim residual) s
        [shows 4, (F.CLK.PLAN_CAL0_VCO_BAND p, band), (F.CLK.PLAN_CAL0_LOOP_TRIM p, trim), (F.CLK.PLAN_CAL1_PHASE_RES p, residual), (F.CLK.PLAN_CAL0_CAL_VALID p, 1),
          s.countsTo F.CLK.CLK_CNT_CAL_CNT 1, (F.CLK.EVT_CAL_DONE, 1)]) ∧
      (st ≠ 3 → s.leads (.synthCalDone band trim residual) s [])) ∧
    (st = 3 ∨ st = 4 →
      (s.clk.locked = true → s.leadsFrom v .settlingWindowEnd (usable v) [shows 2, (F.CLK.EVT_SWITCH_DONE, 1)]) ∧
      (s.clk.locked = false → s.clk.stage = 0 → s.leadsFrom vo .settlingWindowEnd (sets vo (window vo false 1)) (lost v)) ∧
      (s.clk.locked = false → s.clk.stage = 1 → s.f F.CLK.CLK_CFG_AUTO_CAL = 1 → s.leadsFrom v .settlingWindowEnd (sets v (window v true 2)) [shows 3]) ∧
      (s.clk.locked = false → s.clk.stage = 1 → s.f F.CLK.CLK_CFG_AUTO_CAL = 0 → s.leadsFrom v .settlingWindowEnd v [shows 5, (F.CLK.EVT_SYNTH_FAIL, 1)]) ∧
      (s.clk.locked = false → s.clk.stage = 2 → s.leadsFrom v .settlingWindowEnd v [shows 5, (F.CLK.EVT_SYNTH_FAIL, 1)])) ∧
    (st ≠ 3 → st ≠ 4 → s.leads .settlingWindowEnd s [])

/-! ## The front end -/

/-- Front-end pins, bias DACs, coexistence wires and the regulatory record (R496 to R505): the turnrounds move PA_EN and TRSW at their instants; a write of a bias DAC is clamped
and goes to its output, to a hold or to the wait of a hold, and a hold's end releases it; COEX_REQ moves, COEX_GNT mutes or is counted; SAVE writes the record until Deployed. -/
def Obligations.FrontEndPins : Prop :=
  ∀ (s : State) (agent n p i w port carrier t : Nat) (rise level : Bool), s.quiet → n < 136 → n < s.aux.dacs.length → p < 64 → port < 2 → carrier < 4 → w < 2 ^ 32 →
    let instant := s.symStartAt i
    let v := s.advanceTo (s.symStartAt (i + 1))
    let u := s.advanceTo (instant - 2 * usU)
    let pins := fun (x : State) (pa trsw : Nat) => ({ x with aux := { x.aux with paAt := pa, trswAt := trsw } } : State)
    let may := u.mode = 3 ∧ u.txEnabled p = true ∧ u.f (F.TXP.P_STATUS_FAULT p) = 0 ∧ (u.f F.THM.THM_STATUS_MUTED).testBit (p / 8) = false
    let range := bits w 12 12
    let top := min 4095 (s.f (F.AUX.BIAS_LIM_LIMIT n) * 4096 / (if range = 0 then 1250 else 2500))
    let code := min top (bits w 11 0)
    let clamp := if top < bits w 11 0 then [s.countsTo F.AUX.BIAS_CNT_BIAS_CLAMP_CNT 1, (F.AUX.EVT_BIAS_CLAMP, 1)] else []
    let out := 4096 * range + code
    let x := s.dac n
    -- no safe-hold is about to begin or to end
    let still := s.f (F.AUX.BIAS_HELD n) = b2n (s.biasHeld n)
    let writes := fun (y : BiasDac) (busy : Nat) => ∃ z, exec (.biasWrite agent n w) s = .next z ∧
      s.becomes z { s with resp := {} } ([(F.AUX.BIAS_RANGE n, range), (F.AUX.BIAS_CODE n, code), (F.AUX.BIAS_BUSY n, busy)] ++ clamp) ∧ z.dac n = y
    let releases := fun (y : BiasDac) (busy : Nat) => ∃ z, exec (.biasHoldRelease n) s = .next z ∧ s.becomes z s [(F.AUX.BIAS_BUSY n, busy)] ∧ z.dac n = y
    let c := s.tim.symIdx.getD carrier 0
    let g := s.advanceTo (s.symInstant (s.carScs carrier) (c / 14) (c % 14) - usU)
    let span := g.symSpan carrier (c / 14) (c % 14)
    let dir := s.f (F.AUX.COEX_CFG_DIR port)
    let mine := if dir = 1 then g.rxAllowed span.1 span.2 else g.txAllowed span.1 span.2
    let pol := decide (s.f (F.AUX.COEX_CFG_GNT_POL port) = 1)
    let acts := s.f (F.AUX.COEX_CFG_EN port) = 1 ∧ s.tlRun = true ∧ (s.mode = 3 ∨ (dir = 1 ∧ s.mode = 2))
    let samples := Instr.coexGntSample port carrier level
    let started : NvmWrite := { id := 3, slotB := false, seq := 1, len := 1096, src := .reg, torn := s.nvm.injTorn }
    (s.tlRun = true → s.mode ≠ 4 →
      (s.nextSym (fun j => s.endsTx j && decide (s.now ≤ s.symStartAt (j + 1))) = some i → ∃ z, exec .txRxTurnround s = .next z ∧
        v.becomes z (pins v (v.now + 7 * usU / 10) (v.now + 12 * usU / 10)) [] ∧ z.aux.pa = 0 ∧ z.aux.trsw = 0) ∧
      (s.nextSym (fun j => s.beginsTx j && decide (s.now + 2 * usU ≤ s.symStartAt j)) = some i → s.now + 2 * usU ≤ instant → ∃ z, exec .rxTxTurnround s = .next z ∧
        u.becomes z (pins u (instant - usU) (instant - 16 * usU / 10)) [] ∧ (z.aux.pa.testBit p = true ↔ may) ∧ (z.aux.trsw.testBit p = true ↔ may))) ∧
    (s.tlRun = false → s.leads .txRxTurnround s [] ∧ s.leads .rxTxTurnround s []) ∧
    (s.accepts agent (A.AUX.BIAS n) → still →
      (s.f (F.AUX.BIAS_HELD n) = 1 → writes x (s.f (F.AUX.BIAS_BUSY n))) ∧
      (s.f (F.AUX.BIAS_HELD n) = 0 → s.f (F.AUX.BIAS_BUSY n) = 1 → writes { x with queued := some out } 1) ∧
      (s.f (F.AUX.BIAS_HELD n) = 0 → s.f (F.AUX.BIAS_BUSY n) = 0 →
        (out / 256 = x.out / 256 → writes { x with out := out } 0) ∧
        (out / 256 ≠ x.out / 256 → writes { x with target := some out } 1))) ∧
    (still →
      (x.target = none → releases x (s.f (F.AUX.BIAS_BUSY n))) ∧
      (∀ new, x.target = some new →
        (x.queued = none → releases { out := new } 0) ∧
        (∀ q, x.queued = some q → if q / 256 = new / 256 then releases { out := q } 0 else releases { out := new, target := some q } 1))) ∧
    (acts → s.coexEdge port rise = some t → ∃ z, exec (.coexReqEdge port rise) s = .next z ∧ (s.advanceTo t).becomes z (s.advanceTo t) [] ∧
      z.aux.coexReq.testBit port = rise) ∧
    (¬ acts → s.leads (.coexReqEdge port rise) s [] ∧ s.leads samples s []) ∧
    (acts → s.carEn carrier = true →
      (mine = false ∨ level = pol → s.leadsFrom g samples g []) ∧
      (mine = true → level ≠ pol → dir = 1 → s.leadsFrom g samples g [s.countsTo (F.AUX.COEX_CNT_GNT_LOW_CNT port) 1, (F.AUX.EVT_COEX_DENY, 1)]) ∧
      (mine = true → level ≠ pol → dir = 0 → s.leadsFrom g samples { g with tx := { g.tx with coexMute := g.tx.coexMute ||| 2 ^ (4 * port + carrier) } }
        [s.countsTo (F.AUX.COEX_CNT_MUTE_CNT port) 1, (F.AUX.EVT_COEX_MUTE, 1)])) ∧
    (s.accepts agent A.REG.REG_CTRL →
      (2 ≤ s.f F.NVM.LC_STATUS_STATE → s.leads (.regSave agent) { s with resp := {} } []) ∧
      (s.f F.NVM.LC_STATUS_STATE < 2 →
        (s.nvm.held = true → s.leads (.regSave agent) { s with resp := {} } [(F.NVM.EVT_WRITE_REFUSED, 1)]) ∧
        (s.nvm.held = false → s.nvm.write.isSome = true → s.leads (.regSave agent) { s with resp := {}, nvm := { s.nvm with queue := s.nvm.queue ++ [(3, .reg, 1096)] } } []) ∧
        (s.nvm.held = false → s.nvm.write = none → s.nvm.auth = none → s.inForce 3 = none → s.leads (.regSave agent)
          { s with resp := {}, nvm := { s.nvm with write := some started, injTorn := false } }
          [(F.NVM.NVM_STATUS_BUSY, 1), (F.NVM.NVM_STATUS_ID, 3), (F.NVM.NVM_STATUS_LEFT, 146)])))

/-! ## Temperatures -/

/-- A sensor reading (R516 to R526): the raw value, the cross-check with the neighbours, the effective value, the state with its hysteresis and the interval; the first reading at
THROT raises the ladder at once.  A sensor that does not measure changes nothing. -/
def Obligations.SensorReadings : Prop :=
  ∀ (s : State) (x : Nat) (value : Int), s.quiet → x < 48 → x < s.thm.overRun.length → s.f (routeAction 14) = 0 → s.f (routeAction 15) = 0 →
    (∀ j, j < 4 → bits (s.f (F.THM.S_NBR_NBR x)) (8 * j + 7) (8 * j) ≠ 128 + x) →
    let deg := fun (f : Fld) => (16 * s.f f : Int)
    let throt := deg (F.THM.S_THR_THROT x)
    let warn := deg (F.THM.S_THR_WARN x)
    let raw := clamp16 (value + 16 * ((s.thm.ofs.find? (fun o => o.1 == x)).map (·.2)).getD 0)
    let nb := s.neighbours x
    let dev := 2 ≤ nb.length ∧ ((∀ v ∈ nb, v + 240 < raw) ∨ (∀ v ∈ nb, raw < v - 240))
    let st := s.f (F.THM.S_STATUS_STATE x)
    let enabled := s.f (F.THM.S_CTRL_EN x) = 1 ∧ s.domOn Dom.hk = true ∧ s.thm.shdn = none ∧ s.thm.off = false
    -- an on-die sensor or a diode is read when its interval ends
    let code := s.f (F.THM.S_STATUS_INTERVAL x)
    let u := if x < 40 then s.advanceTo (s.thm.readAt.getD x 0 + (if code = 0 then 20 else if code = 1 then 100 else 1000) * usU) else s
    let cool := ∀ y, y < 48 → y ≠ x → s.f (F.THM.S_CTRL_EN y) = 1 → y ∈ s.thm.seen → s.fi (F.THM.S_TEMP_TEMP y) < deg (F.THM.S_THR_THROT y)
    (¬ enabled → s.leads (.sensorReading x value) s []) ∧
    (enabled → s.thm.injShdn = [] → ∀ run : Nat, run = (if dev then min 3 (s.f (F.THM.S_STATUS_DEV_RUN x) + 1) else 0) →
      ∀ fail : Bool, fail = (decide (s.f (F.THM.S_STATUS_FAILED x) = 1) || decide (run = 3) || s.thm.injFail.contains x) →
      ∀ T : Int, (if fail then (nb = [] ∧ T = throt) ∨ (∃ v ∈ nb, (∀ u ∈ nb, u ≤ v) ∧ T = clamp16 (v + 80)) else T = raw) → T < deg (F.THM.S_THR_SHDN x) →
      let up := run ≠ 0 ∨ fail = true
      let was := if ¬ up ∧ x ∈ s.thm.fresh then 0 else st
      let new := if throt ≤ T then 2 else if was = 0 ∧ warn ≤ T then 1 else if up then was
        else if was = 2 ∧ T < throt - deg (F.THM.S_THR_HYST_T x) then 1 else if was = 1 ∧ T < warn - deg (F.THM.S_THR_HYST_W x) then 0 else was
      let iv := if deg (F.THM.S_THR_SHDN x) - 48 ≤ T then 0 else if throt - 80 ≤ T then 1 else 2
      ∃ t, exec (.sensorReading x value) s = .next t ∧
        t.inner = ({ u with thm := t.thm, flt := t.flt, cal := { u.cal with reads := u.cal.reads ++ [(x, u.now, T)] } } : State).inner ∧
        (x < s.thm.readAt.length → t.thm.readAt.getD x 0 = u.now) ∧ x ∉ t.thm.fresh ∧
        t.fi (F.THM.S_TEMP_RAW x) = raw ∧ t.fi (F.THM.S_TEMP_TEMP x) = T ∧ t.f (F.THM.S_STATUS_STATE x) = new ∧
        t.f (F.THM.S_STATUS_CHECK_OFF x) = (if nb.length < 2 then 1 else 0) ∧ t.f (F.THM.S_STATUS_DEV_RUN x) = run ∧
        t.f (F.THM.S_STATUS_FAILED x) = b2n fail ∧
        t.f (F.THM.S_STATUS_INTERVAL x) = (if run ≠ 0 then min iv (s.f (F.THM.S_STATUS_INTERVAL x)) else iv) ∧
        (st < new → new = 1 → t.f F.THM.EVT_WARN = 1) ∧ (st < new → new = 2 → t.f F.THM.EVT_THROT = 1 ∧ (t.f F.FLT.DET_STATUS_OCC).testBit 15 = true) ∧
        (s.f (F.THM.S_STATUS_FAILED x) = 0 → fail = true → t.f F.THM.EVT_SENSOR_FAIL = 1 ∧ (t.f F.FLT.DET_STATUS_OCC).testBit 14 = true) ∧
        (nb.length < 2 → s.f (F.THM.S_STATUS_CHECK_OFF x) = 0 → t.f F.THM.EVT_CHECK_OFF = 1) ∧
        (throt ≤ T → s.f F.THM.THM_STATUS_STEP = 0 → t.f F.THM.THM_STATUS_STEP = 1 ∧ t.f F.THM.THM_STATUS_LEVEL = 1 ∧ t.f F.THM.EVT_LEVEL_UP = 1) ∧
        ((T < throt ∧ cool) ∨ s.f F.THM.THM_STATUS_STEP ≠ 0 → t.f F.THM.THM_STATUS_STEP = s.f F.THM.THM_STATUS_STEP) ∧ x ∈ t.thm.seen)

/-- The throttle ladder and the sensor controls (R520 to R526, R531): a dwell moves STEP by one with its level, back-off, mutes and event; FAIL_CLR readmits a sensor whose latest
reading did not deviate; injected offsets, failures and shutdowns wait for the sensor while injection is armed. -/
def Obligations.ThrottleLadder : Prop :=
  ∀ (s : State) (agent x w : Nat), s.quiet → x < 48 → w < 256 → s.tlRun = true →
    let step := s.f F.THM.THM_STATUS_STEP
    let mm := s.f F.THM.THM_CFG_MUTE_MAX
    let level := fun (n : Nat) => if n = 0 then 0 else if n = 1 then 1 else if n ≤ 7 then 2 else if n ≤ 7 + mm then 3 else 4
    let backoff := fun (n : Nat) => if n ≤ 1 then 0 else min 6 (n - 1)
    let measures := s.domOn Dom.hk = true ∧ s.thm.shdn = none ∧ s.thm.off = false
    let due := fun (ms : Nat) => s.advanceTo (max s.thm.changeAt s.thm.condSince + ms * msU)
    let u := due (s.f F.THM.THM_CFG_ESC_DWELL)
    let d := due (10 * s.f F.THM.THM_CFG_RELAX)
    let sets := fun (v : State) (order : List Nat) => ({ v with thm := { v.thm with order := order, changeAt := v.now, prevMute := groupMask v.thm.order } } : State)
    let shows := fun (n l : Nat) => [(F.THM.THM_STATUS_STEP, n), (F.THM.THM_STATUS_LEVEL, l), (F.THM.THM_STATUS_BACKOFF, backoff n)]
    let a := A.THM.S_CTRL x
    let lo := if x < 32 then [(F.THM.THM_FAIL_LO_FAILED, s.f F.THM.THM_FAIL_LO_FAILED &&& (2 ^ 32 - 1 - 2 ^ x))]
      else [(F.THM.THM_FAIL_HI_FAILED, s.f F.THM.THM_FAIL_HI_FAILED &&& (2 ^ 16 - 1 - 2 ^ (x - 32)))]
    let inj := fun (i : Instr) (ofs : Int) (fail shdn : Bool) =>
      s.accepts agent A.THM.THM_INJ → s.injArmed = true → s.leads i { s with
        resp := {}
        thm := { s.thm with
          ofs := (x, ofs) :: s.thm.ofs.filter (fun o => o.1 != x)
          injFail := if fail then x :: s.thm.injFail.filter (· != x) else s.thm.injFail
          injShdn := if shdn && s.mode == 5 then x :: s.thm.injShdn.filter (· != x) else s.thm.injShdn } } []
    (measures → s.thm.cond = 0 → 1 ≤ step → step < 8 + mm → mm ≤ 8 → s.thm.order.length = min (step - 7) mm → ∃ order,
      s.leadsFrom u .escalateDwell (sets u order) (shows (step + 1) (level (step + 1)) ++ [(F.THM.EVT_LEVEL_UP, 1), u.countsTo F.THM.THM_CNT_LEVEL_UP_CNT 1]) ∧
      order.length = min (step + 1 - 7) mm ∧ order.take s.thm.order.length = s.thm.order) ∧
    (¬ (measures ∧ s.thm.cond = 0 ∧ 1 ≤ step ∧ step < 8 + mm) → s.leads .escalateDwell s []) ∧
    (measures → s.thm.cond = 2 → 1 ≤ step → 2 ≤ step ∨ s.f F.THM.THM_CFG_VSEL_EN = 0 →
      s.leadsFrom d .relaxDwell (sets d (s.thm.order.take (step - 1 - 7))) (shows (step - 1) (min (s.f F.THM.THM_STATUS_LEVEL) (level (step - 1))) ++ [(F.THM.EVT_LEVEL_DOWN, 1)])) ∧
    (¬ (measures ∧ s.thm.cond = 2 ∧ 1 ≤ step) → s.leads .relaxDwell s []) ∧
    (s.accepts agent a → ∀ r : State, r = (if s.f (F.THM.S_CTRL_EN x) = 1 then s else s.sensorDisable x) →
      (s.f (F.THM.S_STATUS_FAILED x) = 1 → r.thm.lastDev.contains x = false → s.leadsFrom r (.failClr agent x)
        { r with resp := {}, thm := { r.thm with fresh := x :: r.thm.fresh } } ([(F.THM.S_STATUS_FAILED x, 0), (F.THM.S_STATUS_DEV_RUN x, 0)] ++ lo)) ∧
      (s.f (F.THM.S_STATUS_FAILED x) = 0 ∨ r.thm.lastDev.contains x = true → s.leadsFrom r (.failClr agent x) { r with resp := {} } [])) ∧
    inj (.thmInjOfs agent x w) (signed 8 w) false false ∧ inj (.thmInjFail agent x) 0 true false ∧ inj (.thmInjShdn agent x) 0 false true ∧
    (s.accepts agent A.THM.THM_INJ → s.injArmed = false → ∀ i ∈ [Instr.thmInjOfs agent x w, .thmInjFail agent x, .thmInjShdn agent x],
      s.leadsFrom (s.injIgnored agent A.THM.THM_INJ) i (s.injIgnored agent A.THM.THM_INJ) [])

/-- The hardware shutdown (R527 to R529): the second reading in a row at or above SHDN is latched and counted and starts it; its end leaves only the AON and IO domains on; in
Bivouac two readings of the AON sensor at 120 °C start one, and 100 readings below RESTART_T restart the device where the count allows. -/
def Obligations.Shutdowns : Prop :=
  ∀ (s : State) (x t0 : Nat) (value : Int), s.quiet → x < 48 → x < s.thm.overRun.length →
    let hot := if 1920 ≤ value then min 2 (s.thm.aonHot + 1) else 0
    let cool := if value < 16 * s.f F.THM.RESTART_CFG_RESTART_T then min 100 (s.thm.aonCool + 1) else 0
    let aon := Instr.aonSensorReading value
    let allowed := s.f F.THM.SHDN_LOG_TALLY ≤ s.f F.THM.RESTART_CFG_RESTART_MAX
    let u := if x < 40 then s.advanceTo (s.readDue x) else s
    (s.f (F.THM.S_CTRL_EN x) = 1 → s.domOn Dom.hk = true → s.thm.shdn = none → s.thm.off = false → s.f (F.THM.S_STATUS_FAILED x) = 0 → s.neighbours x = [] →
      s.thm.injFail = [] → s.thm.injShdn = [] → s.thm.ofs = [] → s.thm.overRun.getD x 0 = 1 → value < 32768 → 16 * s.f (F.THM.S_THR_SHDN x) ≤ value → ∃ t,
      exec (.sensorReading x value) s = .next t ∧ t.thm.shdn = some u.now ∧ t.now = u.now ∧ t.fi F.THM.SHDN_LOG_TEMP = value ∧ t.f F.THM.SHDN_LOG_SENSOR = x ∧ t.f F.THM.SHDN_LOG_INJ = 0 ∧
      t.f F.THM.SHDN_LOG_TALLY = (s.countsTo F.THM.SHDN_LOG_TALLY 1).2 ∧ (t.f F.FLT.DET_STATUS_OCC).testBit 16 = true ∧ t.f F.FLT.EVT_CRITICAL = 1 ∧ t.f F.PWR.MODE_STATUS_PENDING = 0 ∧
      t.f F.PWR.REST_STATUS_STATE = 0 ∧ t.aux.pa = 0 ∧ t.aux.trsw = 0 ∧ ∀ p, p < 6 → (t.port p).busy = none ∧ (t.port p).queue = []) ∧
    (s.thm.shdn = none → s.leads .shutdownPowerOff s []) ∧
    (s.thm.shdn = some t0 → s.now ≤ t0 + 30 * usU → ∃ t, exec .shutdownPowerOff s = .next t ∧ t.now = t0 + 30 * usU ∧ t.doms = 3 ∧ t.mode = 0 ∧ t.thm.off = true ∧
      t.pwr.shdnLow = true ∧ t.mem = [] ∧ t.nvm.write = none ∧ t.f F.THM.SHDN_LOG_TEMP = s.f F.THM.SHDN_LOG_TEMP ∧ t.f F.THM.SHDN_LOG_TALLY = s.f F.THM.SHDN_LOG_TALLY ∧
      ∀ n, n < 34 → t.coreState n = 0) ∧
    (s.mode ≠ 0 ∨ s.pwr.seq ≠ 0 → s.leads aon s []) ∧
    (s.mode = 0 → s.pwr.seq = 0 →
      let sets := fun (u : ThmState) => ({ s with thm := { u with aonHot := hot, aonCool := cool } } : State)
      (s.thm.off = false → s.thm.shdn = none → hot < 2 → s.leads aon (sets s.thm) []) ∧
      (s.thm.off = false → s.thm.shdn = none → hot = 2 → -32768 ≤ value → value < 32768 → s.leads aon (sets { s.thm with shdn := some s.now })
        [(F.THM.SHDN_LOG_TEMP, (value % 2 ^ 16).toNat), (F.THM.SHDN_LOG_INJ, 0), (F.THM.SHDN_LOG_SENSOR, 63), s.countsTo F.THM.SHDN_LOG_TALLY 1]) ∧
      (s.thm.off = true → s.pwr.restart = true → allowed → cool = 100 → s.leads aon { sets s.thm with pwr := { s.pwr with wakeSrc := s.pwr.wakeSrc ||| 2 } } []) ∧
      (s.thm.off = true → s.pwr.restart = false ∨ ¬ allowed ∨ cool < 100 → s.leads aon (sets s.thm) []))

/-! ## Housekeeping converters -/

/-- The housekeeping converters (R534 to R542): a conversion gives the code of its voltage to its accumulator, its harvest sum, its half of a plausibility pair or its monitor, and
the converter goes on to its next work; a pair starts when both are free; a harvest reads and clears; urgent requests abort or wait. -/
def Obligations.Housekeeping : Prop :=
  ∀ (s : State) (agent v r acc ofs cnt : Nat) (a b code : Int), s.quiet → v < 2 → acc < 64 → acc < s.hk.accs.length → ofs < 256 → s.hk.conv.length = 2 → s.flt.injs = [] →
    let on := s.domOn Dom.hk = true
    let x := s.hkConv v
    let y := s.hkConv (1 - v)
    let run := if v = 0 then s.f F.HKA.HK_CFG_RUN_A else s.f F.HKA.HK_CFG_RUN_B
    let len := if v = 0 then s.f F.HKA.HK_CFG_LEN_A else s.f F.HKA.HK_CFG_LEN_B
    let sets := fun (u : State) (h : HkState) => ({ u with hk := h } : State)
    let e := x.pos
    -- the conversion in progress takes 1 µs, and a sequence entry its extra acquisition (R535)
    let c := s.advanceTo (x.since + usU + (if x.kind = 1 then s.f (F.HKA.ENTRY_STRETCH v e) * (usU / 4) else 0))
    let puts := fun (h : HkState) (n : Nat) (z : HkConv) => { h with conv := setNth h.conv n z }
    -- a converter with no urgent request and no pair to wait for goes on with its sequence, or stops
    let goes := fun (z : HkConv) => if run = 1 ∧ 1 ≤ len then { z with kind := 1, pos := if len ≤ z.pos then 0 else z.pos, since := c.now } else { z with kind := 0 }
    let free := x.urg = [] ∧ x.held = [] ∧ s.hk.plWant = false
    let done := Instr.hkConversionDone v a b
    let diff := s.f (F.HKA.ENTRY_DIFF v e)
    -- the code is the voltage over its range, rounded with halves up and clamped (R534)
    let single := ∃ q : Int, 2500000 * q ≤ 8192 * a + 1250000 ∧ 8192 * a + 1250000 < 2500000 * (q + 1) ∧ code = max 0 (min 4095 q)
    let double := ∃ q : Int, 2500000 * q ≤ 4096 * (a - b) + 1250000 ∧ 4096 * (a - b) + 1250000 < 2500000 * (q + 1) ∧ code = max (-2048) (min 2047 q)
    let next := goes { x with pos := if x.stop ∨ len ≤ e + 1 then 0 else e + 1, stop := false }
    let k := s.f (F.HKA.ENTRY_ACC v e)
    let g := s.hk.accs.getD k {}
    let value := if s.f (F.HKA.ACC_CFG_FMT k) = 1 then (if diff = 1 then code else code - 2048) else (if diff = 1 then code + 2048 else code)
    let value := if s.f (F.HKA.ACC_CFG_ALIGN k) = 1 then 16 * value else value
    let grown : HkAcc := { g with
      sum := g.sum + value
      count := g.count + 1
      min := if g.count = 0 then value else min g.min value
      max := if g.count = 0 then value else max g.max value }
    let chan := 40 * v + s.f (F.HKA.ENTRY_CHAN v e)
    let sum := Store.get s.hk.sums (0, 0) chan
    let sums := if diff = 1 then s.hk.sums else Store.insert s.hk.sums chan (sum.1 + code.toNat, sum.2 + 1)
    let pair := fun (d : Int) => (if v = 0 then code - d else d - code) - (if s.injArmed then s.hk.ofs else 0)
    let compared := fun (u : State) => sets u (puts (puts u.hk (1 - v) { y with code := none }) v (goes { x with code := none }))
    let shown := fun (d : Int) (n : Nat) => [(F.HKA.PLAUS_STATUS_DIFF, (pair d % 2 ^ 16).toNat), (F.HKA.PLAUS_STATUS_RUN, n)]
    let runs := s.f F.HKA.PLAUS_STATUS_RUN
    let p := s.advanceTo s.hk.plNext
    let again := p.hk.plNext + s.f F.HKA.PLAUS_CFG_PERIOD * msU
    let wants := { p.hk with plWant := true, plNext := again }
    let h := s.advanceTo s.hk.hpNext
    let fresh := { h.hk with sums := [], hpNext := h.hk.hpNext + s.f F.HKA.HK_CFG_HP * msU }
    let full := s.hk.accs.getD acc {}
    let latch : HkLatch := {
      acc := acc
      count := full.count
      ovf := full.ovf
      min := if full.count = 0 then 0 else full.min
      max := if full.count = 0 then 0 else full.max }
    let global := if r < 8 then s.f (F.FLT.OC_CFG_CHAN r) else s.f (F.THM.S_SRC_CHAN (32 + r))
    let ask := Instr.urgentRequest r
    -- a monitor asks every 100 µs, a thermistor when its interval ends
    let wanted := if r < 8 then s.f (F.FLT.OC_CFG_EN r) = 1 else s.f (F.THM.S_CTRL_EN (32 + r)) = 1 ∧ s.thm.shdn = none ∧ s.thm.off = false
    let w := s.advanceTo (if r < 8 then s.hk.ocAt.getD r 0 + 100 * usU else s.readDue (32 + r))
    let wh := if r < 8 then { s.hk with ocAt := setNth (s.hk.ocAt ++ List.replicate (8 - s.hk.ocAt.length) 0) r w.now } else s.hk
    (on → x.kind = 1 → free → (if diff = 1 then double else single) →
      (s.f (F.HKA.ENTRY_ACC_EN v e) = 0 → s.leadsFrom c done (sets c { puts s.hk v next with sums := sums }) []) ∧
      (s.f (F.HKA.ENTRY_ACC_EN v e) = 1 → g.count < 65535 → s.leadsFrom c done (sets c { puts s.hk v next with sums := sums, accs := setNth s.hk.accs k grown }) []) ∧
      (s.f (F.HKA.ENTRY_ACC_EN v e) = 1 → 65535 ≤ g.count →
        s.leadsFrom c done (sets c { puts s.hk v next with sums := sums, accs := setNth s.hk.accs k { g with ovf := true } }) [(F.HKA.EVT_ACC_OVF, 1)])) ∧
    (on → x.kind = 2 → free → single → y.code = none → s.leadsFrom c done (sets c (puts s.hk v (goes { x with code := some code }))) []) ∧
    (on → x.kind = 2 → free → single → ∀ d, y.code = some d → -32768 ≤ pair d → pair d < 32768 →
      ((pair d).natAbs ≤ s.f F.HKA.PLAUS_CFG_TOL → s.leadsFrom c done (compared c) (shown d 0)) ∧
      (s.f F.HKA.PLAUS_CFG_TOL < (pair d).natAbs → runs + 1 < s.f F.HKA.PLAUS_CFG_COUNT → s.leadsFrom c done (compared c) (shown d (runs + 1))) ∧
      (s.f F.HKA.PLAUS_CFG_TOL < (pair d).natAbs → s.f F.HKA.PLAUS_CFG_COUNT ≤ runs + 1 → s.injArmed = false →
        s.leadsFrom (c.occur 13 0 false) done (compared (c.occur 13 0 false)) (shown d 0 ++ [s.countsTo F.HKA.HK_CNT0_PLAUS_CNT 1, (F.HKA.EVT_PLAUS_FAIL, 1)]))) ∧
    (on → x.kind = 3 → x.urg = [(r, cnt)] → x.held = [] → s.hk.plWant = false → r < 8 → single →
      (code ≤ s.f (F.FLT.OC_CFG_LIMIT r) ∨ s.f (F.FLT.OC_CFG_EN r) = 0 → s.leadsFrom c done (sets c (puts s.hk v (goes { x with urg := [] }))) []) ∧
      (s.f (F.FLT.OC_CFG_LIMIT r) < code → s.f (F.FLT.OC_CFG_EN r) = 1 →
        s.leadsFrom (c.occur 25 r false) done (sets (c.occur 25 r false) (puts s.hk v (goes { x with urg := [] }))) [(F.FLT.EVT_OVERCURRENT, 1)])) ∧
    (on → x.kind = 3 → x.urg = [(r, cnt)] → x.held = [] → s.hk.plWant = false → 8 ≤ r → r < 16 → single → ∃ t, exec done s = .next t ∧
      t.hk = puts s.hk v (goes { x with urg := [] }) ∧ t.now = c.now ∧ (s.f (F.THM.S_CTRL_EN (32 + r)) = 1 → s.thm.shdn = none → s.thm.off = false →
        t.fi (F.THM.S_TEMP_RAW (32 + r)) = clamp16 (s.thermTemp (r - 8) code + 16 * ((s.thm.ofs.find? (fun o => o.1 == 32 + r)).map (·.2)).getD 0))) ∧
    (¬ on ∨ x.kind = 0 ∨ x.kind = 4 → s.leads done s []) ∧
    (on → s.f F.HKA.PLAUS_CFG_EN = 1 → x.urg = [] → y.urg = [] →
      (x.kind = 0 → y.kind = 0 ∨ y.kind = 4 → s.leadsFrom p .plausStart
        (sets p { puts (puts p.hk v { x with kind := 2, code := none, since := p.now }) (1 - v) { y with kind := 2, code := none, since := p.now } with plNext := again }) []) ∧
      (x.kind = 0 → y.kind = 1 → s.leadsFrom p .plausStart (sets p (puts wants v { x with kind := 4 })) []) ∧
      (x.kind = 1 → y.kind = 1 → s.leadsFrom p .plausStart (sets p wants) [])) ∧
    (¬ on ∨ s.f F.HKA.PLAUS_CFG_EN = 0 → s.leads .plausStart s []) ∧
    (s.serves agent (A.HKA.HARVEST acc) false → s.leads (.harvest agent acc) { sets s { s.hk with accs := setNth s.hk.accs acc {}, latch := Store.insert s.hk.latch agent latch } with
      resp := { err := 0, data := (full.sum % 2 ^ 32).toNat } } []) ∧
    (on → 1 ≤ s.f F.HKA.HK_CFG_HP →
      (h.vchNamed = [] → s.leadsFrom h .harvestPeriodEnd (sets h fresh) []) ∧
      (∀ c, h.vchNamed = [c] →
        (Store.find? h.hk.sums c = none → s.leadsFrom h .harvestPeriodEnd (sets h fresh) [h.countsTo F.HKA.HK_CNT1_HP_MISS_CNT 1, (F.HKA.EVT_HP_MISS, 1)]) ∧
        (∀ m, Store.find? h.hk.sums c = some m → s.leadsFrom h .harvestPeriodEnd (sets h { fresh with means := Store.insert h.hk.means c m }) []))) ∧
    (¬ on ∨ s.f F.HKA.HK_CFG_HP = 0 → s.leads .harvestPeriodEnd s []) ∧
    (r < 16 → on → wanted → global < 80 → global / 40 = v →
      let q := (r, global % 40)
      let taken := { x with kind := 3, urg := [q], since := w.now }
      (x.kind = 0 ∨ x.kind = 4 → s.leadsFrom w ask (sets w (puts wh v taken)) []) ∧
      (x.kind = 1 → s.leadsFrom w ask (sets w (puts wh v taken)) [s.countsTo F.HKA.HK_CNT0_ABORT_CNT 1]) ∧
      (x.kind = 2 → y.kind = 2 → s.leadsFrom w ask (sets w { puts (puts wh (1 - v) { y with code := none, kind := 4 }) v { taken with code := none } with plWant := true })
        [s.countsTo F.HKA.HK_CNT0_ABORT_CNT 1]) ∧
      (x.kind = 3 → 5 ≤ x.urg.length → s.leadsFrom w ask (sets w (puts wh v { x with held := x.held ++ [q] })) []) ∧
      (x.kind = 3 → x.urg.length < 5 → ∀ o l m, x.urg = o :: (l ++ m) → (∀ z ∈ l, z.1 < 8) → (∀ z ∈ m, 8 ≤ z.1) →
        s.leadsFrom w ask (sets w (puts wh v { x with urg := if r < 8 then o :: (l ++ [q] ++ m) else o :: (l ++ m ++ [q]) })) [])) ∧
    (r < 16 → ¬ on ∨ ¬ wanted → s.leads ask s []) ∧
    (s.accepts agent A.HKA.HK_INJ →
      (s.injArmed = true → s.leads (.hkInj agent ofs) { sets s { s.hk with ofs := signed 8 ofs } with resp := {} } []) ∧
      (s.injArmed = false → s.leadsFrom (s.injIgnored agent A.HKA.HK_INJ) (.hkInj agent ofs) (s.injIgnored agent A.HKA.HK_INJ) []))

/-! ## Records, the life cycle and injection -/

/-- Record writes (R550 to R556, R564): a command is refused with the first code that holds, or starts a write into the slot that holds no copy in force; every word written moves
the write on in the order marker cleared, body, header, marker; the last ends it.  An injected tear is armed. -/
def Parts.RecordWrites : Prop :=
  ∀ (s : State) (agent id len : Nat) (w : NvmWrite), s.quiet → id < 16 → len < 2 ^ 21 →
    let src := s.f F.NVM.NVM_SRC_ADDR
    let refused := fun (c : Nat) => s.leads (.nvmCmd agent id len) { s with resp := {} }
      [(F.NVM.NVM_STATUS_CODE, c), s.countsTo F.NVM.NVM_CNT1_REFUSE_CNT 1, (F.NVM.EVT_WRITE_REFUSED, 1)]
    let busy := s.nvm.write.isSome = true ∨ s.nvm.auth.isSome = true ∨ s.nvm.held = true ∨ s.quieting = true
    let size := (recSlot id false).2
    let wrong := id = 2 ∨ id = 3 ∨ 12 < id
    let misfit := len % 8 ≠ 0 ∨ size < len + 64
    let locked := id ≤ 1 ∧ 2 ≤ s.f F.NVM.LC_STATUS_STATE
    let outside := src % 64 ≠ 0 ∨ src < 0x04000000 ∨ 0x04200000 < src + len
    let starts := fun (b : Bool) (seq : Nat) => s.leads (.nvmCmd agent id len)
      { s with resp := {}, nvm := { s.nvm with write := some { id := id, slotB := b, seq := seq, len := len, src := .msg src, torn := s.nvm.injTorn }, injTorn := false } }
      [(F.NVM.NVM_STATUS_BUSY, 1), (F.NVM.NVM_STATUS_ID, id), (F.NVM.NVM_STATUS_LEFT, min 0xFFFF (len / 8 + 9))]
    let base := (recSlot w.id w.slotB).1
    let n := w.len / 8
    let puts := fun (off : Nat) (l : List Byte) (body : List Byte) => s.leads .nvmWordWriteDone
      { s with nvm := { s.nvm with mem := memWrite s.nvm.mem off l, bad := s.nvm.bad.filter (· != off / 8), write := some { w with done := w.done + 1, body := body } } }
      [(F.NVM.NVM_STATUS_BUSY, 1), (F.NVM.NVM_STATUS_ID, w.id), (F.NVM.NVM_STATUS_LEFT, min 0xFFFF (n + 8 - w.done))]
    let goes := s.nvm.write = some w ∧ s.pwr.seq ≠ 1 ∧ s.thm.shdn = none
    let header := leBytes 4 0x4E565243 ++ leBytes 1 w.id ++ leBytes 3 0 ++ leBytes 4 w.seq ++ leBytes 4 w.len ++ leBytes 4 (crc32ieee w.body) ++ List.replicate 36 0
    (s.accepts agent A.NVM.NVM_CMD →
      (busy → refused 1) ∧
      (¬ busy → wrong → refused 2) ∧
      (¬ busy → ¬ wrong → misfit → refused 3) ∧
      (¬ busy → ¬ wrong → ¬ misfit → locked → refused 4) ∧
      (¬ busy → ¬ wrong → ¬ misfit → ¬ locked → outside → refused 5) ∧
      (¬ busy → ¬ wrong → ¬ misfit → ¬ locked → ¬ outside →
        (s.inForce id = none → starts false 1) ∧
        (∀ b, s.inForce id = some b → starts (!b) ((s.nvmWord ((recSlot id b).1 + 8) + 1) % 2 ^ 32)))) ∧
    (goes →
      (w.done = 0 → puts (base + 56) (List.replicate 8 0) w.body) ∧
      (1 ≤ w.done → w.done ≤ n → w.id ≠ 0 → ∀ a, w.src = .msg a →
        let l := memRead s.mem (a + 8 * (w.done - 1)) 8
        puts (base + 64 + 8 * (w.done - 1)) l (w.body ++ l)) ∧
      (n < w.done → w.done ≤ n + 7 → w.done ≠ n + 7 ∨ w.torn = false →
        puts (base + 8 * (w.done - n - 1)) ((header.drop (8 * (w.done - n - 1))).take 8) w.body) ∧
      (w.done = n + 7 → w.torn = true → s.nvm.queue = [] → ∃ t, exec .nvmWordWriteDone s = .next t ∧ t.nvm.write = none ∧ (w.id, w.slotB) ∈ t.nvm.tornInj ∧
        t.nvmBytes (base + 56) 8 = s.nvmBytes (base + 56) 8 ∧ t.f F.NVM.EVT_WRITE_REFUSED = 1 ∧ t.f F.NVM.NVM_STATUS_BUSY = b2n s.nvm.auth.isSome) ∧
      (w.done = n + 8 → w.id ≠ 0 → w.id ≠ 3 → s.nvm.queue = [] → ∃ t, exec .nvmWordWriteDone s = .next t ∧ t.nvm.write = none ∧
        t.nvm.mem = memWrite s.nvm.mem (base + 56) (leBytes 8 0xC3A55AC3C3A55AC3) ∧ t.f F.NVM.EVT_WRITE_DONE = 1 ∧ t.f F.NVM.NVM_STATUS_BUSY = b2n s.nvm.auth.isSome ∧
        t.f (F.NVM.REC_STATUS_VALID w.id) = b2n (t.inForce w.id).isSome ∧ t.f (F.NVM.REC_STATUS_SLOT w.id) = b2n (t.inForce w.id == some true))) ∧
    (s.nvm.write = none → s.pwr.seq ≠ 1 → s.thm.shdn = none → s.leads .nvmWordWriteDone s []) ∧
    (s.nvm.write = some w → s.pwr.seq = 1 → ∃ t, exec .nvmWordWriteDone s = .next t ∧ t.nvm.write = none ∧ t.nvm.queue = []) ∧
    (s.accepts agent A.NVM.NVM_INJ →
      (s.injArmed = true → s.leads (.nvmInjTorn agent) { s with resp := {}, nvm := { s.nvm with injTorn := true } } []) ∧
      (s.injArmed = false → s.leadsFrom (s.injIgnored agent A.NVM.NVM_INJ) (.nvmInjTorn agent) (s.injIgnored agent A.NVM.NVM_INJ) []))

/-- Life-cycle requests (R557 to R559): a request is refused with the first code that holds; one to Fielded or Deployed marks its word and resets the device; one to Returned waits
for its authorisation, which fails with a code or marks the word with the reset that follows. -/
def Parts.LifeCycle : Prop :=
  ∀ (s : State) (agent key target : Nat), s.quiet → key < 256 → target < 4 →
    let st := s.f F.NVM.LC_STATUS_STATE
    let ok := fun (id : Nat) => (s.inForce id).isSome = true
    let refused := fun (c : Nat) => s.leads (.lcReq agent key target) { s with resp := {} } [(F.NVM.LC_STATUS_CODE, c), (F.NVM.EVT_LC_REFUSED, 1)]
    let busy := s.nvm.write.isSome = true ∨ s.nvm.auth.isSome = true ∨ s.quieting = true
    let wrong := key ≠ 0x5C ∨ target ≠ st + 1
    let mode := if target = 1 then s.mode = 5 else s.mode = 1
    let records := target = 3 ∨ (ok 1 ∧ ok 4 ∧ (target = 2 → ok 0 ∧ ok 3))
    let marked := fun (t : State) (g : Nat) => t.nvm.mem = memWrite s.nvm.mem (8 * (g - 1)) (leBytes 8 (0x4C43000000000001 + (g - 1))) ∧ t.pwr.seq = 1 ∧
      t.pwr.seqAt = s.now ∧ t.pwr.cause = s.pwr.cause ||| 2 ^ ResetCause.lct ∧ ∀ p, p < 64 → t.f (F.TXP.P_STATUS_SWITCH p) = 0
    (s.accepts agent A.NVM.LC_REQ →
      (busy → refused 7) ∧
      (¬ busy → wrong → refused 1) ∧
      (¬ busy → ¬ wrong → ¬ mode → refused 2) ∧
      (¬ busy → ¬ wrong → mode → ¬ records → refused 3) ∧
      (¬ busy → ¬ wrong → mode → records → target = 2 → s.keyLive 0 = false → s.keyLive 1 = false → refused 4) ∧
      (¬ busy → ¬ wrong → mode → records → target = 2 → s.keyLive 0 = true ∨ s.keyLive 1 = true → bodyEmpty ((s.recBody 3).getD []) = true → refused 5) ∧
      (¬ busy → ¬ wrong → mode → target = 3 → s.leads (.lcReq agent key target) { s with resp := {}, nvm := { s.nvm with auth := some 3 } } []) ∧
      (¬ busy → ¬ wrong → mode → records → target = 1 → s.pwr.seq = 0 → ∃ t, exec (.lcReq agent key target) s = .next t ∧ marked t 1) ∧
      (¬ busy → ¬ wrong → mode → records → target = 2 → s.keyLive 0 = true ∨ s.keyLive 1 = true → bodyEmpty ((s.recBody 3).getD []) = false → s.pwr.seq = 0 → ∃ t,
        exec (.lcReq agent key target) s = .next t ∧ marked t 2)) ∧
    (s.nvm.auth = none → s.leads .lcAuthDone s []) ∧
    (s.quieting = true → s.leads .lcAuthDone { s with nvm := { s.nvm with auth := none } } []) ∧
    (s.nvm.auth = some 3 → s.quieting = false → s.nvm.queue = [] → s.nvm.write = none →
      (s.lcAuthOk = false → s.leads .lcAuthDone { s with nvm := { s.nvm with auth := none } }
        [(F.NVM.LC_STATUS_CODE, 6), (F.NVM.EVT_LC_REFUSED, 1), (F.NVM.NVM_STATUS_BUSY, 0), (F.NVM.NVM_STATUS_LEFT, 0)]) ∧
      (s.lcAuthOk = true → s.pwr.seq = 0 → ∃ t, exec .lcAuthDone s = .next t ∧ marked t 3 ∧ t.nvm.auth = none))

/-- Together: record writes; life cycle. -/
def Obligations.RecordsAndLifeCycle : Prop := Parts.RecordWrites ∧ Parts.LifeCycle

/-- Fault injection (R566, R569, R570): arming needs its key, a window and, once Deployed, a mode other than Serve; the window's end and DISARM discard what has not acted; a command is
ignored while injection is not armed, refused for a detector or index there is none of, acts at once for the synthesiser and the watchdogs, and else waits for its detector.  An
overcurrent monitor that is enabled takes its converter. -/
def Obligations.Injections : Prop :=
  ∀ (s : State) (agent key time w m : Nat), s.quiet → key < 256 → time < 256 → w < 2 ^ 32 → m < 8 →
    let code := F.FLT.INJ_STATUS_CODE
    let disarmed := fun (u : State) => ({ u with
      flt := { u.flt with injs := [], windowEnd := 0 }
      nvm := { u.nvm with injTorn := false }
      thm := { u.thm with ofs := [], injFail := [], injShdn := [] }
      hk := { u.hk with ofs := 0 } } : State)
    let off := [(F.FLT.INJ_STATUS_ARMED, 0), (F.FLT.INJ_STATUS_LEFT, 0)]
    let v := s.advanceTo s.flt.windowEnd
    let d := bits w 5 0
    let param := bits w 15 8
    let a := A.FLT.INJ_CMD
    let cmd := Instr.injCmd agent w
    let oi := s.occur 17 0 true
    let o := if s.f F.CLK.CLK_STATUS_STATE = 2 then oi.each (List.range 4) State.muteOngoing else oi
    let x := s.hkConv (s.f (F.FLT.OC_CFG_CHAN m) / 40)
    let t := s.advanceTo (s.hk.ocAt.getD m 0 + 100 * usU)
    (s.accepts agent A.FLT.INJ_ARM →
      (key ≠ 0xA9 ∨ time = 0 → s.leads (.injArm agent key time) { s with resp := {} } [(code, 1)]) ∧
      (key = 0xA9 → time ≠ 0 → s.f F.NVM.LC_STATUS_STATE = 2 → s.mode = 3 → s.leads (.injArm agent key time) { s with resp := {} } [(code, 2)]) ∧
      (key = 0xA9 → time ≠ 0 → s.f F.NVM.LC_STATUS_STATE ≠ 2 ∨ s.mode ≠ 3 → s.leads (.injArm agent key time)
        { s with resp := {}, flt := { s.flt with windowEnd := s.now + time * 100 * msU } } [(F.FLT.INJ_STATUS_ARMED, 1)])) ∧
    (s.accepts agent A.FLT.INJ_STATUS →
      (s.injArmed = true → s.leads (.disarm agent) { disarmed s with resp := {} } ((F.FLT.EVT_DISARMED, 1) :: off)) ∧
      (s.injArmed = false → s.leads (.disarm agent) { disarmed s with resp := {} } off)) ∧
    (s.injArmed = true → s.leadsFrom v .injWindowEnd (disarmed v) ((F.FLT.EVT_DISARMED, 1) :: off)) ∧
    (s.injArmed = false → s.leads .injWindowEnd s []) ∧
    (s.accepts agent a → s.injArmed = false → s.leadsFrom (s.injIgnored agent a) cmd (s.injIgnored agent a) []) ∧
    (s.accepts agent a → s.injArmed = true →
      (25 < d ∨ (d = 16 ∧ s.mode ≠ 5) → s.leads cmd { s with resp := {} } [(code, 4)]) ∧
      (∀ k, detIndices d = some k → k ≤ param → s.leads cmd { s with resp := {} } [(code, 4)]) ∧
      (d = 17 → s.leadsFrom o cmd { o with resp := {}, clk := { o.clk with winEnd := o.now + 40 * usU, locked := false, stage := 1 } }
        [(F.CLK.CLK_STATUS_STATE, 4), s.countsTo F.CLK.CLK_CNT_UNLOCK_CNT 1, (F.CLK.EVT_UNLOCK, 1)]) ∧
      (d = 23 → param < 34 → s.coreState param = 2 → ∃ t, exec cmd s = .next t ∧ t.resp = {} ∧ (t.core param).warned = true ∧ t.f F.TKC.EVT_WDT_WARN = 1 ∧
        (t.f F.FLT.DET_STATUS_OCC).testBit 23 = true ∧ (t.f F.FLT.DET_INJ_INJ).testBit 23 = true) ∧
      (d = 24 → param < 34 → s.coreState param = 2 → 2 ≤ param → ∃ t, exec cmd s = .next t ∧ t.resp = {} ∧ t.coreState param = 4 ∧ t.f F.TKC.EVT_WDT_EXPIRE = 1 ∧
        (t.f F.FLT.DET_STATUS_OCC).testBit 24 = true ∧ (t.f F.FLT.DET_INJ_INJ).testBit 24 = true) ∧
      (d ∈ [4, 5, 6, 9, 10, 11, 12, 18, 19, 25] → (∀ k, detIndices d = some k → param < k) → ∃ t, exec cmd s = .next t ∧ s.becomes t { s with resp := {} } [] ∧
        { det := d, param := param, double := w.testBit 16, addr := s.f F.FLT.INJ_ADDR_ADDR } ∈ t.flt.injs)) ∧
    (s.domOn Dom.hk = true → s.f (F.FLT.OC_CFG_EN m) = 1 → s.f (F.FLT.OC_CFG_CHAN m) < 80 → x.kind = 0 → s.leadsFrom t (.ocMonitorTick m) { t with hk := { s.hk with
      conv := setNth s.hk.conv (s.f (F.FLT.OC_CFG_CHAN m) / 40) { x with kind := 3, urg := [(m, s.f (F.FLT.OC_CFG_CHAN m) % 40)], since := t.now }
      ocAt := setNth (s.hk.ocAt ++ List.replicate (8 - s.hk.ocAt.length) 0) m t.now } } []) ∧
    (s.f (F.FLT.OC_CFG_EN m) = 0 → s.leads (.ocMonitorTick m) s [])

/-! ## The host ports -/

/-- The serial peripheral port, the management bus and JTAG (R560, R590, R592, R593): words fill the buffer and overrun it, drain and are read as direct accesses of MP-B with
their status bytes; the status clears its flags; the management bus serves its own address; JTAG shows what its instruction captures, and in Deployed EXTEST and DBGACC are BYPASS. -/
def Obligations.HostPorts : Prop :=
  ∀ (s : State) (addr other pads shift n data : Nat) (bytes : List Byte) (ws : List (Nat × Nat)) (write : Bool), s.quiet → addr < 2 ^ 32 → other < 128 →
    let served := s.pwr.seq = 0 ∧ s.mode ≠ 0
    let sets := fun (u : State) (x : IoState) => ({ u with io := x } : State)
    let acked := fun (ack data : Bool) => { s.io with mgmtAck := ack, mgmtData := data }
    let spi := fun (l : List (Nat × Nat)) => sets s { s.io with spi := l }
    -- the whole words of the transaction, at rising addresses
    let words := ws.length = bytes.length / 4 ∧ ∀ i, i < ws.length → ws.getD i (0, 0) = ((addr + 4 * i) % 2 ^ 32, ofLe ((bytes.drop (4 * i)).take 4))
    let r := s.busRead 35 addr 4
    let got := (leBytes 4 r.resp.data).map BitVec.toNat
    let status := (if s.io.spi = [] then 0 else 128) + 4 * s.f F.SYS.BOOT_STATUS_WIPE + (if s.io.overrun then 2 else 0) + (if s.io.error then 1 else 0)
    let own := s.f F.PWR.WAKE_CFG_MGMT_ADDR
    let still := s.f F.PWR.REST_STATUS_STATE = 0
    let w := s.busWrite 35 addr 4 (ofLe (bytes.take 4))
    let tap := fun (ir tdo : Nat) => { s.io with ir := ir, extest := none, tdo := tdo }
    let access := if write then s.busWrite 35 addr n data else s.busRead 35 addr n
    let deployed := s.f F.NVM.LC_STATUS_STATE = 2
    (served →
      (words → s.io.spi.length + ws.length ≤ 256 → s.leads (.spiWrite addr bytes) (spi (s.io.spi ++ ws)) []) ∧
      (words → 256 ≤ s.io.spi.length → ws ≠ [] → s.leads (.spiWrite addr bytes) (sets s { s.io with overrun := true }) []) ∧
      (s.io.spi = [] → r.calm → r.resp.err = 0 → s.leadsFrom r (.spiRead addr 1) (sets r { s.io with spiOut := 0xA5 :: got }) []) ∧
      (s.io.spi = [] → r.calm → r.resp.err ≠ 0 → s.leadsFrom r (.spiRead addr 1) (sets r { s.io with spiOut := [0x5A, 0, 0, 0, 0] }) []) ∧
      s.leads .spiStatus (sets s { s.io with spiOut := [status], overrun := false, error := false }) [] ∧
      (∀ v l, s.io.spi = v :: l →
        let x := s.busWrite 35 v.1 4 v.2
        (x.calm → x.resp.err = 0 → s.leadsFrom x .spiWordApply (sets x { s.io with spi := l }) []) ∧
        (x.calm → x.resp.err ≠ 0 → s.leadsFrom x .spiWordApply (sets x { s.io with spi := l, error := true }) [])) ∧
      (still → s.io.spi = [] →
        (4 ≤ bytes.length → bytes.length < 8 → w.calm → s.leadsFrom w (.mgmtWrite own addr bytes) (sets w (acked true true)) []) ∧
        (r.calm → r.resp.err = 0 → s.leadsFrom r (.mgmtRead own addr 1) (sets r { acked true true with mgmtOut := got }) []) ∧
        (r.calm → r.resp.err ≠ 0 → s.leadsFrom r (.mgmtRead own addr 1) (sets r { acked true true with mgmtOut := [0xFF, 0xFF, 0xFF, 0xFF] }) []))) ∧
    (¬ served → ∀ i ∈ [Instr.spiWrite addr bytes, .spiRead addr n, .spiStatus, .spiWordApply], s.leads i s []) ∧
    (s.io.spi = [] → s.leads .spiWordApply s []) ∧
    (∀ i ∈ [Instr.mgmtWrite own addr bytes, .mgmtRead own addr n],
      (s.pwr.seq = 0 → s.mode = 0 → s.leads i { s with io := acked true false, pwr := { s.pwr with wakeSrc := s.pwr.wakeSrc ||| 1 } } []) ∧
      (s.pwr.seq ≠ 0 → still → s.leads i (sets s (acked false false)) [])) ∧
    (other ≠ own → ∀ i ∈ [Instr.mgmtWrite other addr bytes, .mgmtRead other addr n], s.leads i (sets s (acked false false)) []) ∧
    s.leads .bypass (sets s (tap 0xFF 0)) [] ∧
    s.leads .idcode (sets s (tap 0x01 ((s.f F.SYS.SYS_REV_MAJOR - 1) * 2 ^ 28 + 0x0006476B))) [] ∧
    s.leads (.samplePreload pads shift) (sets s { tap 0x02 pads with boundary := shift }) [] ∧
    (¬ deployed → s.leads (.extest pads) (sets s { tap 0x00 pads with extest := some s.io.boundary }) []) ∧
    (¬ deployed → access.calm → s.leadsFrom access (.dbgacc write addr n data) (sets access (tap 0x20 (if write then 0 else access.resp.data))) []) ∧
    (deployed → s.leads (.extest pads) (sets s (tap 0xFF 0)) [] ∧ s.leads (.dbgacc write addr n data) (sets s (tap 0xFF 0)) [])

/-! ## The block as a whole -/

/-- A step takes the command at the front of the queue and is its effect on the machine with the queue's rest; with an empty queue and no wake under way a tick of 2 ns passes
(the idle step is the model's choice, log entry 33). -/
def Obligations.StepRunsFront : Prop :=
  ∀ (s : State),
    (∀ c rest, s.pending = c :: rest → step s = exec c { s with pending := rest }) ∧
    (s.pending = [] → s.pwr.seq ≠ 6 → s.calm → ∃ t, step s = .next t ∧ t.pending = [] ∧ t.now = s.now + 768 ∧ t.mem = s.mem)

/-- The level of IRQ_B_N (R7): after every step, whatever the command, IRQ_B_N is driven exactly when the device serves and an event of some block is set in EVT_STATUS and
EVT_ENABLE_B. -/
def Obligations.InterruptLevel : Prop :=
  ∀ (s t : State), step s = .next t →
    (t.irqB = true ↔ t.pwr.seq = 0 ∧ t.mode ≠ 0 ∧ ∃ b, b < 28 ∧ ((t.reg (blockBase b)) &&& (t.reg (blockBase b + 8))) ≠ 0)

/-- Every step of every command answers a next state: no command, from any state, ends the run. -/
def Obligations.NoCommandStops : Prop := ∀ (s : State), ∃ t, step s = .next t

/-- Instruction words and instructions of a Therik core agree (R400 to R426): the word of every instruction whose fields fit decodes to it, and every word that decodes is the word of
its instruction, so that no bit of a word is dropped and no two words have one meaning. -/
def Obligations.WordsAndInstructions : Prop :=
  (∀ o : Op, o.fits = true → decodeOp (encodeOp o) = some o ∧ encodeOp o < 2 ^ 32) ∧
  (∀ (w : Nat) (o : Op), w < 2 ^ 32 → decodeOp w = some o → encodeOp o = w ∧ o.fits = true)

/-- The machine right after a power-on: in reset with POR the source to record, the AON and IO domains on, cores OFF, the timeline IDLE, ports DOWN, no event, no semaphore owned, every message read and every
epoch 0, memory not yet written, and IRQ_B_N released. -/
def Obligations.PowerOnState : Prop :=
  let s := State.reset
  s.pending = [] ∧ s.doms = 3 ∧ s.pwr.cause = 1 ∧ s.mem = [] ∧ s.irqB = false ∧ s.f F.TIM.TL_STATUS_STATE = 0 ∧ s.f F.SYS.BOOT_STATUS_WIPE = 1 ∧ s.f F.SYS.BOOT_STATUS_ROM_STATE = 0 ∧
    (∀ n, n < 34 → s.coreState n = 0 ∧ s.f (F.TKC.C_STATUS_CAUSE n) = 0) ∧ (∀ p, p < 6 → s.portState p = 0) ∧
    (∀ b, b < 28 → s.reg (blockBase b) = 0) ∧ (∀ k, k < 64 → s.sem k = {}) ∧ (∀ g, g < 36 → s.inboxOf g = [] ∧ s.epochOf g = 0) ∧ s.mem.Pairwise (fun x y => x.1 < y.1)

/-! ## Rules of the spec stated whole -/

/-- R377: the circular post-update of a pointer, for every load whose mode is circular, and the fault of an update that breaks its two limits. -/
def Obligations.CircularUpdates : Prop :=
  ∀ (s : State) (n g p mode arg w e : Nat), mode = 4 ∨ mode = 5 →
    let c := s.core n
    let l := c.lReg p
    let a := (c.pReg p).toNat
    let width : Nat := 2 ^ w
    let d : Int := if mode = 4 then (BitVec.ofNat 4 arg).toInt * width else (c.mReg (arg % 4)).toInt
    let i := Instr.iLoad n w false g p mode arg
    let o := Op.load w false g p mode arg
    let allowed := l = 0 ∨ (l % width = 0 ∧ l ≤ 65536 ∧ d.natAbs ≤ l)
    s.calm → s.readyFor n o → w ≤ 2 → c.wait = none → c.got = none → localOk a width → s.injEcc (localCell n a) width = none →
    (l = 0 → ∃ t, exec i s = .next t ∧ (t.core n).pReg p = c.pReg p + BitVec.ofInt 32 d) ∧
    (l ≠ 0 → allowed → l ≤ 2 ^ e → (∀ k, l ≤ 2 ^ k → e ≤ k) →
      let base := a / 2 ^ e * 2 ^ e
      ∃ t, exec i s = .next t ∧ ((((t.core n).pReg p).toNat : Nat) : Int) = base + ((a : Int) - base + d) % l) ∧
    (¬ allowed → ∃ t, exec i s = .next t ∧ t.coreState n = 4 ∧ t.f (F.TKC.C_STATUS_CAUSE n) = 1 ∧ (t.core n).pReg p = c.pReg p)

/-- R389: the expiry of LC0 or LC1 with its ESC bit resets the device with cause WDT and quiet-down; the core does not fault. -/
def Obligations.EscalatedExpiry : Prop :=
  ∀ (s : State) (n : Nat), n < 2 → s.calm → s.pwr.seq = 0 →
    s.f (if n = 0 then F.TKC.WDT_CFG_ESC_LC0 else F.TKC.WDT_CFG_ESC_LC1) = 1 →
    (s.coreState n = 2 ∨ s.coreState n = 3) → s.f (F.TKC.C_WDT_EXPIRE n) ≠ 0 →
    (∀ m, m < 34 → m ≠ n → s.coreState m ≠ 2 ∧ s.coreState m ≠ 3) →
    ∃ t, exec .wdtExpire s = .next t ∧ t.pwr.seq = 1 ∧ t.pwr.cause = s.pwr.cause ||| 2 ^ ResetCause.wdt ∧ t.coreState n = s.coreState n ∧
      t.f F.TKC.EVT_FAULT = s.f F.TKC.EVT_FAULT ∧ t.aux.pa = 0 ∧
      (∀ p, p < 64 → t.f (F.TXP.P_STATUS_SWITCH p) = 0) ∧
      ∀ k, 128 ≤ k → k < 136 → k < s.aux.dacs.length → (t.dac k).out = 4096 * s.f (F.AUX.BIAS_SAFE_RANGE k) + s.f (F.AUX.BIAS_SAFE_CODE k)

/-- R451: the reads of an inbox, by RECV and RECVW of a core and by a host: a message comes whole and is removed, STALE where its epoch is not its sender's and counted; an empty
inbox answers EMPTY and changes nothing. -/
def Obligations.InboxReads : Prop :=
  ∀ (s : State) (n h gs ga w0 w1 : Nat) (rest : List (Nat × Nat)),
    let g := fun (t : State) (r : Nat) => (t.core n).gReg r
    let stale := s.epochOf (w1 / 2 ^ 24 % 64) ≠ w1 / 2 ^ 30 % 4
    let counted := fun (t : State) => t.f F.MBX.MBX_CNT0_STALE_CNT = min (s.f F.MBX.MBX_CNT0_STALE_CNT + 1) 0xFFFF
    let same := fun (t : State) => t.f F.MBX.MBX_CNT0_STALE_CNT = s.f F.MBX.MBX_CNT0_STALE_CNT
    let whole := fun (t : State) => g t ga = BitVec.ofNat 32 w0 ∧ g t (ga + 1) = BitVec.ofNat 32 w1 ∧ t.inboxOf n = rest
    let reads := [(Instr.iRecv n gs ga, Op.recv gs ga), (.iRecvw n gs ga, .recvw gs ga)]
    let me := 34 + h
    s.calm → n < s.mbx.inbox.length → n < s.cores.length → (s.core n).g.length = 16 → gs < 16 → ga < 15 → gs ≠ ga → gs ≠ ga + 1 →
    (∀ x ∈ reads, s.readyFor n x.2 → (s.core n).wait = none → (s.core n).got = none → s.inboxOf n = (w0, w1) :: rest →
      (stale → ∃ t, exec x.1 s = .next t ∧ g t gs = 5 ∧ whole t ∧ counted t) ∧
      (¬ stale → ∃ t, exec x.1 s = .next t ∧ g t gs = 0 ∧ whole t ∧ same t)) ∧
    (s.readyFor n (.recv gs ga) → (s.core n).wait = none → (s.core n).got = none → s.inboxOf n = [] →
      ∃ t, exec (.iRecv n gs ga) s = .next t ∧ g t gs = 1 ∧ g t ga = g s ga ∧ g t (ga + 1) = g s (ga + 1) ∧ same t ∧ t.mbx = s.mbx) ∧
    (h < 2 → me < s.mbx.inbox.length → s.serves me (A.MBX.RECV_META h) false → s.serves me (A.MBX.RECV_PTR h) false →
      (s.inboxOf me = (w0, w1) :: rest → (s.busRead me (A.MBX.RECV_PTR h) 4).resp = { err := 0, data := w0 } ∧
        (stale → ∃ t, exec (.hostRecv me h) s = .next t ∧ t.f (F.MBX.RECV_STATUS_CODE h) = 5 ∧ t.resp = { err := 0, data := w1 } ∧ t.inboxOf me = rest ∧ counted t) ∧
        (¬ stale → ∃ t, exec (.hostRecv me h) s = .next t ∧ t.f (F.MBX.RECV_STATUS_CODE h) = 0 ∧ t.resp = { err := 0, data := w1 } ∧ t.inboxOf me = rest ∧ same t)) ∧
      (s.inboxOf me = [] → ∃ t, exec (.hostRecv me h) s = .next t ∧ t.f (F.MBX.RECV_STATUS_CODE h) = 1 ∧ t.mbx = s.mbx ∧ same t))

/-- R538: a read of HARVESTk returns SUM, fills the latch of the reading agent and clears the accumulator; HV_CNT and HV_MINMAX return that agent's latch, and no other latch
changes. -/
def Obligations.Harvests : Prop :=
  ∀ (s : State) (agent other k : Nat), s.calm → k < 64 → k < s.hk.accs.length → s.serves agent (A.HKA.HARVEST k) false → s.serves agent A.HKA.HV_CNT false →
    s.serves agent A.HKA.HV_MINMAX false →
    let a := s.hk.accs.getD k {}
    let half := fun (i : Int) => (BitVec.ofInt 16 i).toNat
    a.count < 2 ^ 16 →
    ∃ t, exec (.harvest agent k) s = .next t ∧ t.resp = { err := 0, data := (BitVec.ofInt 32 a.sum).toNat } ∧ t.hk.accs = setNth s.hk.accs k {} ∧
      (t.busRead agent A.HKA.HV_CNT 4).resp = { err := 0, data := (if a.ovf then 2 ^ 31 else 0) + 2 ^ 24 * k + a.count } ∧
      (t.busRead agent A.HKA.HV_MINMAX 4).resp = { err := 0, data := if a.count = 0 then 0 else 2 ^ 16 * half a.max + half a.min } ∧
      (other ≠ agent → t.hvCnt other = s.hvCnt other ∧ t.hvMinMax other = s.hvMinMax other)
end

