-- ==== Sys2Proof/Laws/Bits.lean ====
section
/-! SUPPORT. Parts of numbers: reading a part after it, or another part, was replaced. -/

namespace Sys2Proof

theorem testBit_bits (v hi lo i : Nat) : (bits v hi lo).testBit i = (decide (i < hi + 1 - lo) && v.testBit (lo + i)) := by
  simp [bits, Nat.testBit_mod_two_pow, Nat.testBit_div_two_pow, Nat.add_comm]

theorem bits_lt (v hi lo : Nat) : bits v hi lo < 2 ^ (hi + 1 - lo) := Nat.mod_lt _ (Nat.two_pow_pos _)

theorem testBit_setBits (v hi lo x i : Nat) (h : lo ≤ hi + 1) :
    (setBits v hi lo x).testBit i = if lo ≤ i ∧ i ≤ hi then x.testBit (i - lo) else v.testBit i := by
  have h1 : v % 2 ^ lo < 2 ^ lo := Nat.mod_lt _ (Nat.two_pow_pos _)
  have h2 : x % 2 ^ (hi + 1 - lo) * 2 ^ lo + v % 2 ^ lo < 2 ^ (hi + 1) := by
    have := Nat.mod_lt x (Nat.two_pow_pos (hi + 1 - lo))
    have e : 2 ^ (hi + 1) = 2 ^ (hi + 1 - lo) * 2 ^ lo := by rw [← Nat.pow_add]; congr 1; omega
    rw [e]
    calc x % 2 ^ (hi + 1 - lo) * 2 ^ lo + v % 2 ^ lo < x % 2 ^ (hi + 1 - lo) * 2 ^ lo + 2 ^ lo := by omega
      _ = (x % 2 ^ (hi + 1 - lo) + 1) * 2 ^ lo := by rw [Nat.add_mul, Nat.one_mul]
      _ ≤ 2 ^ (hi + 1 - lo) * 2 ^ lo := Nat.mul_le_mul_right _ (by omega)
  have e : setBits v hi lo x = 2 ^ (hi + 1) * (v / 2 ^ (hi + 1)) + (2 ^ lo * (x % 2 ^ (hi + 1 - lo)) + v % 2 ^ lo) := by
    rw [setBits, Nat.mul_comm (v / _), Nat.mul_comm (x % _), Nat.add_assoc]
  rw [e, Nat.testBit_two_pow_mul_add _ (by rw [Nat.mul_comm]; exact h2), Nat.testBit_two_pow_mul_add _ h1]
  by_cases a : i < hi + 1
  · by_cases b : i < lo
    · simp [a, b, Nat.testBit_mod_two_pow] <;> omega
    · have c : lo ≤ i := by omega
      have d : i ≤ hi := by omega
      have e2 : i - lo < hi + 1 - lo := by omega
      simp [a, b, c, d, Nat.testBit_mod_two_pow, e2]
  · have c : ¬ i ≤ hi := by omega
    simp [a, c, Nat.testBit_div_two_pow]
    congr 1
    omega

/-- A replaced part reads as it was put. -/
theorem bits_setBits_self (v hi lo x : Nat) (h : lo ≤ hi + 1) : bits (setBits v hi lo x) hi lo = x % 2 ^ (hi + 1 - lo) := by
  apply Nat.eq_of_testBit_eq
  intro i
  rw [testBit_bits, testBit_setBits _ _ _ _ _ h, Nat.testBit_mod_two_pow]
  by_cases a : i < hi + 1 - lo
  · have : lo ≤ lo + i ∧ lo + i ≤ hi := by omega
    simp [a, this]
  · simp [a]

/-- Another part keeps its value. -/
theorem bits_setBits_ne (v hi lo x hi' lo' : Nat) (h : lo ≤ hi + 1) (d : hi' < lo ∨ hi < lo') :
    bits (setBits v hi lo x) hi' lo' = bits v hi' lo' := by
  apply Nat.eq_of_testBit_eq
  intro i
  rw [testBit_bits, testBit_bits, testBit_setBits _ _ _ _ _ h]
  by_cases a : i < hi' + 1 - lo'
  · have : ¬ (lo ≤ lo' + i ∧ lo' + i ≤ hi) := by omega
    simp [this]
  · simp [a]

theorem setBits_lt (v hi lo x n : Nat) (h : lo ≤ hi + 1) (hn : hi < n) (hv : v < 2 ^ n) : setBits v hi lo x < 2 ^ n := by
  apply Nat.lt_pow_two_of_testBit
  intro i hi'
  rw [testBit_setBits _ _ _ _ _ h]
  have : ¬ (lo ≤ i ∧ i ≤ hi) := by omega
  rw [if_neg this]
  exact Nat.testBit_lt_two_pow (Nat.lt_of_lt_of_le hv (Nat.pow_le_pow_right (by omega) hi'))

theorem setBits_self (v hi lo : Nat) (h : lo ≤ hi + 1) : setBits v hi lo (bits v hi lo) = v := by
  apply Nat.eq_of_testBit_eq
  intro i
  rw [testBit_setBits _ _ _ _ _ h]
  split
  · rename_i c
    rw [testBit_bits]
    have : i - lo < hi + 1 - lo := by omega
    have e : lo + (i - lo) = i := by omega
    simp [this, e]
  · rfl

end Sys2Proof
end

