-- ==== Sys2Proof/Laws/Store.lean ====
section
/-! SUPPORT. Reading after writing in a sparse store, and that writes keep the canonical form. -/

namespace Sys2Proof.Machine

section
variable {β : Type}

theorem Store.find?_insert_self (l : List (Nat × β)) (k : Nat) (x : β) : Store.find? (Store.insert l k x) k = some x := by
  induction l with
  | nil => simp [Store.insert, Store.find?]
  | cons p l ih =>
    obtain ⟨a, v⟩ := p
    simp only [Store.insert]
    split
    · simp [Store.find?]
    · split
      · simp [Store.find?]
      · rename_i h
        simp [Store.find?, Ne.symm h, ih]

theorem Store.find?_insert_ne (l : List (Nat × β)) {k j : Nat} (x : β) (h : j ≠ k) : Store.find? (Store.insert l k x) j = Store.find? l j := by
  induction l with
  | nil => simp [Store.insert, Store.find?, Ne.symm h]
  | cons p l ih =>
    obtain ⟨a, v⟩ := p
    simp only [Store.insert]
    split
    · simp [Store.find?, Ne.symm h]
    · split
      · rename_i h2; subst h2; simp [Store.find?, Ne.symm h]
      · simp [Store.find?, ih]

theorem Store.find?_erase_self (l : List (Nat × β)) (k : Nat) : Store.find? (Store.erase l k) k = none := by
  induction l with
  | nil => simp [Store.erase, Store.find?]
  | cons p l ih =>
    obtain ⟨a, v⟩ := p
    by_cases h : a = k <;> simp [Store.erase, Store.find?, h, ih]

theorem Store.find?_erase_ne (l : List (Nat × β)) {k j : Nat} (h : j ≠ k) : Store.find? (Store.erase l k) j = Store.find? l j := by
  induction l with
  | nil => simp [Store.erase]
  | cons p l ih =>
    obtain ⟨a, v⟩ := p
    by_cases h1 : a = k
    · subst h1; simp [Store.erase, Store.find?, ih, Ne.symm h]
    · simp [Store.erase, Store.find?, h1, ih]

/-! ## Canonical form -/

/-- Keys at or above a bound, strictly rising. -/
def Store.rising (b : Nat) : List (Nat × β) → Prop
  | [] => True
  | (a, _) :: l => b ≤ a ∧ Store.rising (a + 1) l

theorem Store.rising_mono {b c : Nat} (h : c ≤ b) : ∀ {l : List (Nat × β)}, Store.rising b l → Store.rising c l
  | [], _ => trivial
  | (_, _) :: _, hl => ⟨Nat.le_trans h hl.1, hl.2⟩

theorem Store.rising_erase {b : Nat} (k : Nat) : ∀ {l : List (Nat × β)}, Store.rising b l → Store.rising b (Store.erase l k)
  | [], _ => trivial
  | (a, _) :: l, hl => by
    have ih := Store.rising_erase k hl.2
    by_cases h : a = k
    · simp only [Store.erase, h, if_true] at *
      exact Store.rising_mono (by have := hl.1; omega) ih
    · simp only [Store.erase, h, if_false]
      exact ⟨hl.1, ih⟩

theorem Store.rising_insert {b : Nat} (k : Nat) (x : β) (hk : b ≤ k) :
    ∀ {l : List (Nat × β)}, Store.rising b l → Store.rising b (Store.insert l k x)
  | [], _ => ⟨hk, trivial⟩
  | (a, v) :: l, hl => by
    simp only [Store.insert]
    split
    · rename_i h; exact ⟨hk, h, hl.2⟩
    · split
      · rename_i h1 h2; subst h2; exact ⟨hl.1, hl.2⟩
      · rename_i h1 h2
        exact ⟨hl.1, Store.rising_insert k x (by omega) hl.2⟩

theorem Store.mem_erase {l : List (Nat × β)} {k : Nat} {p : Nat × β} (h : p ∈ Store.erase l k) : p ∈ l := by
  induction l with
  | nil => exact h
  | cons q l ih =>
    obtain ⟨a, v⟩ := q
    by_cases ha : a = k
    · simp only [Store.erase, ha, if_true] at h; exact List.mem_cons_of_mem _ (ih h)
    · simp only [Store.erase, ha, if_false, List.mem_cons] at h
      rcases h with h | h
      · exact h ▸ List.mem_cons_self
      · exact List.mem_cons_of_mem _ (ih h)

theorem Store.mem_insert {l : List (Nat × β)} {k : Nat} {x : β} {p : Nat × β} (h : p ∈ Store.insert l k x) : p = (k, x) ∨ p ∈ l := by
  induction l with
  | nil => simpa [Store.insert] using h
  | cons q l ih =>
    obtain ⟨a, v⟩ := q
    simp only [Store.insert] at h
    split at h
    · rcases List.mem_cons.1 h with h | h
      · exact .inl h
      · exact .inr h
    · split at h
      · rcases List.mem_cons.1 h with h | h
        · exact .inl h
        · exact .inr (List.mem_cons_of_mem _ h)
      · rcases List.mem_cons.1 h with h | h
        · exact .inr (h ▸ List.mem_cons_self)
        · rcases ih h with h | h
          · exact .inl h
          · exact .inr (List.mem_cons_of_mem _ h)

theorem Store.rising_filter {b : Nat} (q : Nat × β → Bool) : ∀ {l : List (Nat × β)}, Store.rising b l → Store.rising b (l.filter q)
  | [], _ => trivial
  | (a, v) :: l, hl => by
    by_cases h : q (a, v)
    · simp only [List.filter_cons, h, if_true]; exact ⟨hl.1, Store.rising_filter q hl.2⟩
    · simp only [List.filter_cons, h]; exact Store.rising_mono (by have := hl.1; omega) (Store.rising_filter q hl.2)

variable [DecidableEq β]

/-- The canonical form, said without its checker: rising keys, and no entry with its default. -/
theorem Store.canon_iff (d : Nat → β) : ∀ l : List (Nat × β), Store.canon d l = true ↔ Store.rising 0 l ∧ ∀ p ∈ l, p.2 ≠ d p.1
  | [] => by simp [Store.canon, Store.rising]
  | [(a, v)] => by simp [Store.canon, Store.rising]
  | (a, v) :: (b, w) :: l => by
    have ih := Store.canon_iff d ((b, w) :: l)
    simp only [Store.canon, Bool.and_eq_true, decide_eq_true_eq, ih, Store.rising, List.mem_cons, forall_eq_or_imp]
    constructor
    · rintro ⟨⟨h1, h2⟩, ⟨_, h4⟩, h5, h6⟩; exact ⟨⟨by omega, by omega, h4⟩, h1, h5, h6⟩
    · rintro ⟨⟨_, h2, h3⟩, h1, h5, h6⟩; exact ⟨⟨h1, by omega⟩, ⟨by omega, h3⟩, h5, h6⟩

/-- A write keeps the canonical form. -/
theorem Store.canon_set (d : Nat → β) (l : List (Nat × β)) (k : Nat) (x : β) (h : Store.canon d l = true) :
    Store.canon d (Store.set l (d k) k x) = true := by
  rw [Store.canon_iff] at h ⊢
  unfold Store.set
  split
  · exact ⟨Store.rising_erase k h.1, fun p hp => h.2 p (Store.mem_erase hp)⟩
  · rename_i hx
    refine ⟨Store.rising_insert k x (Nat.zero_le _) h.1, fun p hp => ?_⟩
    rcases Store.mem_insert hp with rfl | hp
    · exact hx
    · exact h.2 p hp

/-- Removing entries keeps the canonical form. -/
theorem Store.canon_filter (d : Nat → β) (l : List (Nat × β)) (q : Nat × β → Bool) (h : Store.canon d l = true) :
    Store.canon d (l.filter q) = true := by
  rw [Store.canon_iff] at h ⊢
  exact ⟨Store.rising_filter q h.1, fun p hp => h.2 p (List.mem_filter.1 hp).1⟩

/-- A key reads as it was written. -/
theorem Store.get_set_self (l : List (Nat × β)) (d : β) (k : Nat) (x : β) : Store.get (Store.set l d k x) d k = x := by
  unfold Store.get Store.set
  split
  · rename_i h; simp [Store.find?_erase_self, h]
  · simp [Store.find?_insert_self]

/-- A write leaves every other key as it was. -/
theorem Store.get_set_ne (l : List (Nat × β)) (d e : β) {k j : Nat} (x : β) (h : j ≠ k) : Store.get (Store.set l d k x) e j = Store.get l e j := by
  unfold Store.get Store.set
  split
  · rw [Store.find?_erase_ne l h]
  · rw [Store.find?_insert_ne l x h]

end

end Sys2Proof.Machine
end

