-- ==== Sys2Proof/Laws/Regs.lean ====
section
/-! SUPPORT. Reading registers and fields after writing them, and the register file's canonical form. -/

namespace Sys2Proof.Machine
open Sys2Proof

@[simp] theorem State.reg_setReg_self (s : State) (a : Nat) (w : Word) : (s.setReg a w).reg a = w := Store.get_set_self _ _ _ _

theorem State.reg_setReg_ne (s : State) {a b : Nat} (w : Word) (h : b ≠ a) : (s.setReg a w).reg b = s.reg b := Store.get_set_ne _ _ _ _ h

theorem State.reg_setReg (s : State) (a b : Nat) (w : Word) : (s.setReg a w).reg b = if b = a then w else s.reg b := by
  split
  · rename_i h; subst h; simp
  · rename_i h; exact State.reg_setReg_ne s w h

theorem State.toNat_setF (s : State) (x : Fld) (v : Nat) (h : x.ok) :
    ((s.setF x v).reg x.addr).toNat = setBits (s.reg x.addr).toNat x.hi x.lo v := by
  have := setBits_lt (s.reg x.addr).toNat x.hi x.lo v 32 (by have := h.1; omega) h.2 (s.reg x.addr).isLt
  rw [State.setF, State.reg_setReg_self, BitVec.toNat_ofNat, Nat.mod_eq_of_lt this]

/-- A field reads as it was put. -/
theorem State.f_setF_self (s : State) (x : Fld) (v : Nat) (h : x.ok) : (s.setF x v).f x = v % 2 ^ (x.hi + 1 - x.lo) := by
  rw [State.f, State.toNat_setF s x v h, bits_setBits_self _ _ _ _ (by have := h.1; omega)]

/-- A field apart from the one that was put keeps its value. -/
theorem State.f_setF_ne (s : State) (x y : Fld) (v : Nat) (h : x.ok) (d : x.apart y) : (s.setF x v).f y = s.f y := by
  by_cases e : y.addr = x.addr
  · have d' : y.hi < x.lo ∨ x.hi < y.lo := by rcases d with d | d; exact absurd e d; exact d
    rw [State.f, e, State.toNat_setF s x v h, bits_setBits_ne _ _ _ _ _ _ (by have := h.1; omega) d', State.f, e]
  · rw [State.f, State.setF, State.reg_setReg_ne _ _ e, State.f]

theorem State.reg_setF_ne (s : State) (x : Fld) (v : Nat) {a : Nat} (h : a ≠ x.addr) : (s.setF x v).reg a = s.reg a := State.reg_setReg_ne _ _ h

/-! ## Counters -/

theorem State.reg_incBy_ne (s : State) (x : Fld) (n : Nat) {a : Nat} (h : a ≠ x.addr) : (s.incBy x n).reg a = s.reg a := State.reg_setF_ne _ _ _ h
theorem State.reg_inc_ne (s : State) (x : Fld) {a : Nat} (h : a ≠ x.addr) : (s.inc x).reg a = s.reg a := State.reg_setF_ne _ _ _ h

/-- A saturating counter counts one, or stays at its largest value. -/
theorem State.f_inc_self (s : State) (x : Fld) (h : x.ok) : (s.inc x).f x = min (s.f x + 1) (2 ^ (x.hi + 1 - x.lo) - 1) := by
  have := Nat.two_pow_pos (x.hi + 1 - x.lo)
  rw [State.inc, State.incBy, State.f_setF_self s x _ h, Nat.mod_eq_of_lt]
  omega

theorem State.f_inc_ne (s : State) (x y : Fld) (h : x.ok) (d : x.apart y) : (s.inc x).f y = s.f y := State.f_setF_ne _ _ _ _ h d

/-! ## Events -/

theorem State.raise_regs (s : State) (e : Fld) : (s.raise e).regs = (s.setF e 1).regs := by
  simp only [State.raise, State.cross, State.when]
  repeat (first | rfl | split)

theorem State.reg_raise_ne (s : State) (e : Fld) {a : Nat} (h : a ≠ e.addr) : (s.raise e).reg a = s.reg a := by
  have := State.raise_regs s e
  rw [State.reg, this]
  exact State.reg_setF_ne _ _ _ h

/-- A raised event reads 1. -/
theorem State.f_raise_self (s : State) (e : Fld) (h : e.ok) : (s.raise e).f e = 1 := by
  have := State.raise_regs s e
  have g : (s.raise e).f e = (s.setF e 1).f e := by rw [State.f, State.reg, this]; rfl
  rw [g, State.f_setF_self s e 1 h]
  apply Nat.mod_eq_of_lt
  have : 1 ≤ e.hi + 1 - e.lo := by have := h.1; omega
  exact Nat.lt_of_lt_of_le (by decide : 1 < 2 ^ 1) (Nat.pow_le_pow_right (by decide) this)

theorem State.f_raise_ne (s : State) (e y : Fld) (h : e.ok) (d : e.apart y) : (s.raise e).f y = s.f y := by
  have := State.raise_regs s e
  have g : (s.raise e).f y = (s.setF e 1).f y := by rw [State.f, State.reg, this]; rfl
  rw [g, State.f_setF_ne s e y 1 h d]

theorem State.reg_detBit_ne (s : State) (x : Fld) {a : Nat} (h1 : a ≠ x.addr) (h2 : a ≠ F.SYS.EVT_DET_VOID.addr) : (s.detBit x).reg a = s.reg a := by
  unfold State.detBit
  split
  · rfl
  · rw [State.reg_raise_ne _ _ h2, State.reg_setF_ne _ _ _ h1]

/-! ## Canonical forms -/

/-- The register file lists no register at its Reset value, and addresses rise. -/
def State.regsCanon (s : State) : Bool := Store.canon resetWord s.regs

theorem State.regsCanon_setReg (s : State) (a : Nat) (w : Word) (h : s.regsCanon = true) : (s.setReg a w).regsCanon = true :=
  Store.canon_set resetWord s.regs a w h

theorem State.regsCanon_reset : State.reset.regsCanon = true := rfl

/-! ## Byte memories -/

@[simp] theorem memGet_memSet_self (m : List Host.Cell) (a : Nat) (b : Byte) : memGet (memSet m a b) a = b := Store.get_set_self _ _ _ _

theorem memGet_memSet_ne (m : List Host.Cell) {a c : Nat} (b : Byte) (h : c ≠ a) : memGet (memSet m a b) c = memGet m c := Store.get_set_ne _ _ _ _ h

/-- A byte outside the bytes written keeps its value. -/
theorem memGet_memWrite_out (l : List Byte) : ∀ (m : List Host.Cell) (a c : Nat), (c < a ∨ a + l.length ≤ c) → memGet (memWrite m a l) c = memGet m c := by
  induction l with
  | nil => intro m a c _; rfl
  | cons b l ih =>
    intro m a c h
    simp only [List.length_cons] at h
    rw [memWrite, ih _ _ _ (by omega), memGet_memSet_ne _ _ (by omega)]

/-- A byte within the bytes written reads as it was written. -/
theorem memGet_memWrite_in (l : List Byte) : ∀ (m : List Host.Cell) (a i : Nat), i < l.length → memGet (memWrite m a l) (a + i) = l.getD i 0 := by
  induction l with
  | nil => intro m a i h; simp at h
  | cons b l ih =>
    intro m a i h
    cases i with
    | zero => rw [memWrite, memGet_memWrite_out _ _ _ _ (by omega)]; simp
    | succ i =>
      have e : a + (i + 1) = (a + 1) + i := by omega
      rw [memWrite, e, ih _ _ _ (by simpa using h)]
      simp

theorem Memory.wf_memSet (m : List Host.Cell) (a : Nat) (b : Byte) (h : Memory.wf m = true) : Memory.wf (memSet m a b) = true :=
  Store.canon_set (fun _ => 0) m a b h

/-- Every write of bytes keeps the canonical form. -/
theorem Memory.wf_memWrite (l : List Byte) : ∀ (m : List Host.Cell) (a : Nat), Memory.wf m = true → Memory.wf (memWrite m a l) = true := by
  induction l with
  | nil => intro m a h; exact h
  | cons b l ih => intro m a h; exact ih _ _ (Memory.wf_memSet m a b h)

/-- A wipe keeps the canonical form. -/
theorem Memory.wf_memClear (m : List Host.Cell) (a n : Nat) (h : Memory.wf m = true) : Memory.wf (memClear m a n) = true :=
  Store.canon_filter (fun _ => 0) m _ h

/-- Keeping some bytes and losing the others keeps the canonical form. -/
theorem Memory.wf_filter (m : List Host.Cell) (q : Host.Cell → Bool) (h : Memory.wf m = true) : Memory.wf (m.filter q) = true :=
  Store.canon_filter (fun _ => 0) m q h

theorem Memory.wf_reset : Memory.wf State.reset.mem = true := rfl

end Sys2Proof.Machine
end

