-- ==== Sys2Proof/Laws/State.lean ====
section
/-! SUPPORT. What the named updates leave alone: one lemma for each field of the state and each update. -/

namespace Sys2Proof.Machine
open Sys2Proof

@[simp] theorem State.setReg_pending (s : State) (a : Nat) (w : Word) : (s.setReg a w).pending = s.pending := by cases s; rfl
@[simp] theorem State.setReg_now (s : State) (a : Nat) (w : Word) : (s.setReg a w).now = s.now := by cases s; rfl
@[simp] theorem State.setReg_shadow (s : State) (a : Nat) (w : Word) : (s.setReg a w).shadow = s.shadow := by cases s; rfl
@[simp] theorem State.setReg_armed (s : State) (a : Nat) (w : Word) : (s.setReg a w).armed = s.armed := by cases s; rfl
@[simp] theorem State.setReg_resp (s : State) (a : Nat) (w : Word) : (s.setReg a w).resp = s.resp := by cases s; rfl
@[simp] theorem State.setReg_freeCnt (s : State) (a : Nat) (w : Word) : (s.setReg a w).freeCnt = s.freeCnt := by cases s; rfl
@[simp] theorem State.setReg_doms (s : State) (a : Nat) (w : Word) : (s.setReg a w).doms = s.doms := by cases s; rfl
@[simp] theorem State.setReg_tim (s : State) (a : Nat) (w : Word) : (s.setReg a w).tim = s.tim := by cases s; rfl
@[simp] theorem State.setReg_outbox (s : State) (a : Nat) (w : Word) : (s.setReg a w).outbox = s.outbox := by cases s; rfl
@[simp] theorem State.setReg_hopOut (s : State) (a : Nat) (w : Word) : (s.setReg a w).hopOut = s.hopOut := by cases s; rfl
@[simp] theorem State.setReg_mem (s : State) (a : Nat) (w : Word) : (s.setReg a w).mem = s.mem := by cases s; rfl
@[simp] theorem State.setReg_staging (s : State) (a : Nat) (w : Word) : (s.setReg a w).staging = s.staging := by cases s; rfl
@[simp] theorem State.setReg_live (s : State) (a : Nat) (w : Word) : (s.setReg a w).live = s.live := by cases s; rfl
@[simp] theorem State.setReg_leaders (s : State) (a : Nat) (w : Word) : (s.setReg a w).leaders = s.leaders := by cases s; rfl
@[simp] theorem State.setReg_invalidOut (s : State) (a : Nat) (w : Word) : (s.setReg a w).invalidOut = s.invalidOut := by cases s; rfl
@[simp] theorem State.setReg_flt (s : State) (a : Nat) (w : Word) : (s.setReg a w).flt = s.flt := by cases s; rfl
@[simp] theorem State.setReg_ports (s : State) (a : Nat) (w : Word) : (s.setReg a w).ports = s.ports := by cases s; rfl
@[simp] theorem State.setReg_lineOut (s : State) (a : Nat) (w : Word) : (s.setReg a w).lineOut = s.lineOut := by cases s; rfl
@[simp] theorem State.setReg_localIn (s : State) (a : Nat) (w : Word) : (s.setReg a w).localIn = s.localIn := by cases s; rfl
@[simp] theorem State.setReg_txSeq (s : State) (a : Nat) (w : Word) : (s.setReg a w).txSeq = s.txSeq := by cases s; rfl
@[simp] theorem State.setReg_splitAt (s : State) (a : Nat) (w : Word) : (s.setReg a w).splitAt = s.splitAt := by cases s; rfl
@[simp] theorem State.setReg_splitUse (s : State) (a : Nat) (w : Word) : (s.setReg a w).splitUse = s.splitUse := by cases s; rfl
@[simp] theorem State.setReg_rx (s : State) (a : Nat) (w : Word) : (s.setReg a w).rx = s.rx := by cases s; rfl
@[simp] theorem State.setReg_tx (s : State) (a : Nat) (w : Word) : (s.setReg a w).tx = s.tx := by cases s; rfl
@[simp] theorem State.setReg_nvm (s : State) (a : Nat) (w : Word) : (s.setReg a w).nvm = s.nvm := by cases s; rfl
@[simp] theorem State.setReg_dpd (s : State) (a : Nat) (w : Word) : (s.setReg a w).dpd = s.dpd := by cases s; rfl
@[simp] theorem State.setReg_bfm (s : State) (a : Nat) (w : Word) : (s.setReg a w).bfm = s.bfm := by cases s; rfl
@[simp] theorem State.setReg_cal (s : State) (a : Nat) (w : Word) : (s.setReg a w).cal = s.cal := by cases s; rfl
@[simp] theorem State.setReg_thm (s : State) (a : Nat) (w : Word) : (s.setReg a w).thm = s.thm := by cases s; rfl
@[simp] theorem State.setReg_rad (s : State) (a : Nat) (w : Word) : (s.setReg a w).rad = s.rad := by cases s; rfl
@[simp] theorem State.setReg_cores (s : State) (a : Nat) (w : Word) : (s.setReg a w).cores = s.cores := by cases s; rfl
@[simp] theorem State.setReg_mbx (s : State) (a : Nat) (w : Word) : (s.setReg a w).mbx = s.mbx := by cases s; rfl
@[simp] theorem State.setReg_arb (s : State) (a : Nat) (w : Word) : (s.setReg a w).arb = s.arb := by cases s; rfl
@[simp] theorem State.setReg_clk (s : State) (a : Nat) (w : Word) : (s.setReg a w).clk = s.clk := by cases s; rfl
@[simp] theorem State.setReg_aux (s : State) (a : Nat) (w : Word) : (s.setReg a w).aux = s.aux := by cases s; rfl
@[simp] theorem State.setReg_hk (s : State) (a : Nat) (w : Word) : (s.setReg a w).hk = s.hk := by cases s; rfl
@[simp] theorem State.setReg_pwr (s : State) (a : Nat) (w : Word) : (s.setReg a w).pwr = s.pwr := by cases s; rfl
@[simp] theorem State.setReg_io (s : State) (a : Nat) (w : Word) : (s.setReg a w).io = s.io := by cases s; rfl
@[simp] theorem State.setReg_crossed (s : State) (a : Nat) (w : Word) : (s.setReg a w).crossed = s.crossed := by cases s; rfl
@[simp] theorem State.setReg_crossLost (s : State) (a : Nat) (w : Word) : (s.setReg a w).crossLost = s.crossLost := by cases s; rfl
@[simp] theorem State.setReg_irqB (s : State) (a : Nat) (w : Word) : (s.setReg a w).irqB = s.irqB := by cases s; rfl

@[simp] theorem State.setF_pending (s : State) (x : Fld) (v : Nat) : (s.setF x v).pending = s.pending := State.setReg_pending _ _ _
@[simp] theorem State.setF_now (s : State) (x : Fld) (v : Nat) : (s.setF x v).now = s.now := State.setReg_now _ _ _
@[simp] theorem State.setF_shadow (s : State) (x : Fld) (v : Nat) : (s.setF x v).shadow = s.shadow := State.setReg_shadow _ _ _
@[simp] theorem State.setF_armed (s : State) (x : Fld) (v : Nat) : (s.setF x v).armed = s.armed := State.setReg_armed _ _ _
@[simp] theorem State.setF_resp (s : State) (x : Fld) (v : Nat) : (s.setF x v).resp = s.resp := State.setReg_resp _ _ _
@[simp] theorem State.setF_freeCnt (s : State) (x : Fld) (v : Nat) : (s.setF x v).freeCnt = s.freeCnt := State.setReg_freeCnt _ _ _
@[simp] theorem State.setF_doms (s : State) (x : Fld) (v : Nat) : (s.setF x v).doms = s.doms := State.setReg_doms _ _ _
@[simp] theorem State.setF_tim (s : State) (x : Fld) (v : Nat) : (s.setF x v).tim = s.tim := State.setReg_tim _ _ _
@[simp] theorem State.setF_outbox (s : State) (x : Fld) (v : Nat) : (s.setF x v).outbox = s.outbox := State.setReg_outbox _ _ _
@[simp] theorem State.setF_hopOut (s : State) (x : Fld) (v : Nat) : (s.setF x v).hopOut = s.hopOut := State.setReg_hopOut _ _ _
@[simp] theorem State.setF_mem (s : State) (x : Fld) (v : Nat) : (s.setF x v).mem = s.mem := State.setReg_mem _ _ _
@[simp] theorem State.setF_staging (s : State) (x : Fld) (v : Nat) : (s.setF x v).staging = s.staging := State.setReg_staging _ _ _
@[simp] theorem State.setF_live (s : State) (x : Fld) (v : Nat) : (s.setF x v).live = s.live := State.setReg_live _ _ _
@[simp] theorem State.setF_leaders (s : State) (x : Fld) (v : Nat) : (s.setF x v).leaders = s.leaders := State.setReg_leaders _ _ _
@[simp] theorem State.setF_invalidOut (s : State) (x : Fld) (v : Nat) : (s.setF x v).invalidOut = s.invalidOut := State.setReg_invalidOut _ _ _
@[simp] theorem State.setF_flt (s : State) (x : Fld) (v : Nat) : (s.setF x v).flt = s.flt := State.setReg_flt _ _ _
@[simp] theorem State.setF_ports (s : State) (x : Fld) (v : Nat) : (s.setF x v).ports = s.ports := State.setReg_ports _ _ _
@[simp] theorem State.setF_lineOut (s : State) (x : Fld) (v : Nat) : (s.setF x v).lineOut = s.lineOut := State.setReg_lineOut _ _ _
@[simp] theorem State.setF_localIn (s : State) (x : Fld) (v : Nat) : (s.setF x v).localIn = s.localIn := State.setReg_localIn _ _ _
@[simp] theorem State.setF_txSeq (s : State) (x : Fld) (v : Nat) : (s.setF x v).txSeq = s.txSeq := State.setReg_txSeq _ _ _
@[simp] theorem State.setF_splitAt (s : State) (x : Fld) (v : Nat) : (s.setF x v).splitAt = s.splitAt := State.setReg_splitAt _ _ _
@[simp] theorem State.setF_splitUse (s : State) (x : Fld) (v : Nat) : (s.setF x v).splitUse = s.splitUse := State.setReg_splitUse _ _ _
@[simp] theorem State.setF_rx (s : State) (x : Fld) (v : Nat) : (s.setF x v).rx = s.rx := State.setReg_rx _ _ _
@[simp] theorem State.setF_tx (s : State) (x : Fld) (v : Nat) : (s.setF x v).tx = s.tx := State.setReg_tx _ _ _
@[simp] theorem State.setF_nvm (s : State) (x : Fld) (v : Nat) : (s.setF x v).nvm = s.nvm := State.setReg_nvm _ _ _
@[simp] theorem State.setF_dpd (s : State) (x : Fld) (v : Nat) : (s.setF x v).dpd = s.dpd := State.setReg_dpd _ _ _
@[simp] theorem State.setF_bfm (s : State) (x : Fld) (v : Nat) : (s.setF x v).bfm = s.bfm := State.setReg_bfm _ _ _
@[simp] theorem State.setF_cal (s : State) (x : Fld) (v : Nat) : (s.setF x v).cal = s.cal := State.setReg_cal _ _ _
@[simp] theorem State.setF_thm (s : State) (x : Fld) (v : Nat) : (s.setF x v).thm = s.thm := State.setReg_thm _ _ _
@[simp] theorem State.setF_rad (s : State) (x : Fld) (v : Nat) : (s.setF x v).rad = s.rad := State.setReg_rad _ _ _
@[simp] theorem State.setF_cores (s : State) (x : Fld) (v : Nat) : (s.setF x v).cores = s.cores := State.setReg_cores _ _ _
@[simp] theorem State.setF_mbx (s : State) (x : Fld) (v : Nat) : (s.setF x v).mbx = s.mbx := State.setReg_mbx _ _ _
@[simp] theorem State.setF_arb (s : State) (x : Fld) (v : Nat) : (s.setF x v).arb = s.arb := State.setReg_arb _ _ _
@[simp] theorem State.setF_clk (s : State) (x : Fld) (v : Nat) : (s.setF x v).clk = s.clk := State.setReg_clk _ _ _
@[simp] theorem State.setF_aux (s : State) (x : Fld) (v : Nat) : (s.setF x v).aux = s.aux := State.setReg_aux _ _ _
@[simp] theorem State.setF_hk (s : State) (x : Fld) (v : Nat) : (s.setF x v).hk = s.hk := State.setReg_hk _ _ _
@[simp] theorem State.setF_pwr (s : State) (x : Fld) (v : Nat) : (s.setF x v).pwr = s.pwr := State.setReg_pwr _ _ _
@[simp] theorem State.setF_io (s : State) (x : Fld) (v : Nat) : (s.setF x v).io = s.io := State.setReg_io _ _ _
@[simp] theorem State.setF_crossed (s : State) (x : Fld) (v : Nat) : (s.setF x v).crossed = s.crossed := State.setReg_crossed _ _ _
@[simp] theorem State.setF_crossLost (s : State) (x : Fld) (v : Nat) : (s.setF x v).crossLost = s.crossLost := State.setReg_crossLost _ _ _
@[simp] theorem State.setF_irqB (s : State) (x : Fld) (v : Nat) : (s.setF x v).irqB = s.irqB := State.setReg_irqB _ _ _

@[simp] theorem State.setFi_pending (s : State) (x : Fld) (i : Int) : (s.setFi x i).pending = s.pending := State.setF_pending _ _ _
@[simp] theorem State.setFi_now (s : State) (x : Fld) (i : Int) : (s.setFi x i).now = s.now := State.setF_now _ _ _
@[simp] theorem State.setFi_shadow (s : State) (x : Fld) (i : Int) : (s.setFi x i).shadow = s.shadow := State.setF_shadow _ _ _
@[simp] theorem State.setFi_armed (s : State) (x : Fld) (i : Int) : (s.setFi x i).armed = s.armed := State.setF_armed _ _ _
@[simp] theorem State.setFi_resp (s : State) (x : Fld) (i : Int) : (s.setFi x i).resp = s.resp := State.setF_resp _ _ _
@[simp] theorem State.setFi_freeCnt (s : State) (x : Fld) (i : Int) : (s.setFi x i).freeCnt = s.freeCnt := State.setF_freeCnt _ _ _
@[simp] theorem State.setFi_doms (s : State) (x : Fld) (i : Int) : (s.setFi x i).doms = s.doms := State.setF_doms _ _ _
@[simp] theorem State.setFi_tim (s : State) (x : Fld) (i : Int) : (s.setFi x i).tim = s.tim := State.setF_tim _ _ _
@[simp] theorem State.setFi_outbox (s : State) (x : Fld) (i : Int) : (s.setFi x i).outbox = s.outbox := State.setF_outbox _ _ _
@[simp] theorem State.setFi_hopOut (s : State) (x : Fld) (i : Int) : (s.setFi x i).hopOut = s.hopOut := State.setF_hopOut _ _ _
@[simp] theorem State.setFi_mem (s : State) (x : Fld) (i : Int) : (s.setFi x i).mem = s.mem := State.setF_mem _ _ _
@[simp] theorem State.setFi_staging (s : State) (x : Fld) (i : Int) : (s.setFi x i).staging = s.staging := State.setF_staging _ _ _
@[simp] theorem State.setFi_live (s : State) (x : Fld) (i : Int) : (s.setFi x i).live = s.live := State.setF_live _ _ _
@[simp] theorem State.setFi_leaders (s : State) (x : Fld) (i : Int) : (s.setFi x i).leaders = s.leaders := State.setF_leaders _ _ _
@[simp] theorem State.setFi_invalidOut (s : State) (x : Fld) (i : Int) : (s.setFi x i).invalidOut = s.invalidOut := State.setF_invalidOut _ _ _
@[simp] theorem State.setFi_flt (s : State) (x : Fld) (i : Int) : (s.setFi x i).flt = s.flt := State.setF_flt _ _ _
@[simp] theorem State.setFi_ports (s : State) (x : Fld) (i : Int) : (s.setFi x i).ports = s.ports := State.setF_ports _ _ _
@[simp] theorem State.setFi_lineOut (s : State) (x : Fld) (i : Int) : (s.setFi x i).lineOut = s.lineOut := State.setF_lineOut _ _ _
@[simp] theorem State.setFi_localIn (s : State) (x : Fld) (i : Int) : (s.setFi x i).localIn = s.localIn := State.setF_localIn _ _ _
@[simp] theorem State.setFi_txSeq (s : State) (x : Fld) (i : Int) : (s.setFi x i).txSeq = s.txSeq := State.setF_txSeq _ _ _
@[simp] theorem State.setFi_splitAt (s : State) (x : Fld) (i : Int) : (s.setFi x i).splitAt = s.splitAt := State.setF_splitAt _ _ _
@[simp] theorem State.setFi_splitUse (s : State) (x : Fld) (i : Int) : (s.setFi x i).splitUse = s.splitUse := State.setF_splitUse _ _ _
@[simp] theorem State.setFi_rx (s : State) (x : Fld) (i : Int) : (s.setFi x i).rx = s.rx := State.setF_rx _ _ _
@[simp] theorem State.setFi_tx (s : State) (x : Fld) (i : Int) : (s.setFi x i).tx = s.tx := State.setF_tx _ _ _
@[simp] theorem State.setFi_nvm (s : State) (x : Fld) (i : Int) : (s.setFi x i).nvm = s.nvm := State.setF_nvm _ _ _
@[simp] theorem State.setFi_dpd (s : State) (x : Fld) (i : Int) : (s.setFi x i).dpd = s.dpd := State.setF_dpd _ _ _
@[simp] theorem State.setFi_bfm (s : State) (x : Fld) (i : Int) : (s.setFi x i).bfm = s.bfm := State.setF_bfm _ _ _
@[simp] theorem State.setFi_cal (s : State) (x : Fld) (i : Int) : (s.setFi x i).cal = s.cal := State.setF_cal _ _ _
@[simp] theorem State.setFi_thm (s : State) (x : Fld) (i : Int) : (s.setFi x i).thm = s.thm := State.setF_thm _ _ _
@[simp] theorem State.setFi_rad (s : State) (x : Fld) (i : Int) : (s.setFi x i).rad = s.rad := State.setF_rad _ _ _
@[simp] theorem State.setFi_cores (s : State) (x : Fld) (i : Int) : (s.setFi x i).cores = s.cores := State.setF_cores _ _ _
@[simp] theorem State.setFi_mbx (s : State) (x : Fld) (i : Int) : (s.setFi x i).mbx = s.mbx := State.setF_mbx _ _ _
@[simp] theorem State.setFi_arb (s : State) (x : Fld) (i : Int) : (s.setFi x i).arb = s.arb := State.setF_arb _ _ _
@[simp] theorem State.setFi_clk (s : State) (x : Fld) (i : Int) : (s.setFi x i).clk = s.clk := State.setF_clk _ _ _
@[simp] theorem State.setFi_aux (s : State) (x : Fld) (i : Int) : (s.setFi x i).aux = s.aux := State.setF_aux _ _ _
@[simp] theorem State.setFi_hk (s : State) (x : Fld) (i : Int) : (s.setFi x i).hk = s.hk := State.setF_hk _ _ _
@[simp] theorem State.setFi_pwr (s : State) (x : Fld) (i : Int) : (s.setFi x i).pwr = s.pwr := State.setF_pwr _ _ _
@[simp] theorem State.setFi_io (s : State) (x : Fld) (i : Int) : (s.setFi x i).io = s.io := State.setF_io _ _ _
@[simp] theorem State.setFi_crossed (s : State) (x : Fld) (i : Int) : (s.setFi x i).crossed = s.crossed := State.setF_crossed _ _ _
@[simp] theorem State.setFi_crossLost (s : State) (x : Fld) (i : Int) : (s.setFi x i).crossLost = s.crossLost := State.setF_crossLost _ _ _
@[simp] theorem State.setFi_irqB (s : State) (x : Fld) (i : Int) : (s.setFi x i).irqB = s.irqB := State.setF_irqB _ _ _

@[simp] theorem State.incBy_pending (s : State) (x : Fld) (n : Nat) : (s.incBy x n).pending = s.pending := State.setF_pending _ _ _
@[simp] theorem State.incBy_now (s : State) (x : Fld) (n : Nat) : (s.incBy x n).now = s.now := State.setF_now _ _ _
@[simp] theorem State.incBy_shadow (s : State) (x : Fld) (n : Nat) : (s.incBy x n).shadow = s.shadow := State.setF_shadow _ _ _
@[simp] theorem State.incBy_armed (s : State) (x : Fld) (n : Nat) : (s.incBy x n).armed = s.armed := State.setF_armed _ _ _
@[simp] theorem State.incBy_resp (s : State) (x : Fld) (n : Nat) : (s.incBy x n).resp = s.resp := State.setF_resp _ _ _
@[simp] theorem State.incBy_freeCnt (s : State) (x : Fld) (n : Nat) : (s.incBy x n).freeCnt = s.freeCnt := State.setF_freeCnt _ _ _
@[simp] theorem State.incBy_doms (s : State) (x : Fld) (n : Nat) : (s.incBy x n).doms = s.doms := State.setF_doms _ _ _
@[simp] theorem State.incBy_tim (s : State) (x : Fld) (n : Nat) : (s.incBy x n).tim = s.tim := State.setF_tim _ _ _
@[simp] theorem State.incBy_outbox (s : State) (x : Fld) (n : Nat) : (s.incBy x n).outbox = s.outbox := State.setF_outbox _ _ _
@[simp] theorem State.incBy_hopOut (s : State) (x : Fld) (n : Nat) : (s.incBy x n).hopOut = s.hopOut := State.setF_hopOut _ _ _
@[simp] theorem State.incBy_mem (s : State) (x : Fld) (n : Nat) : (s.incBy x n).mem = s.mem := State.setF_mem _ _ _
@[simp] theorem State.incBy_staging (s : State) (x : Fld) (n : Nat) : (s.incBy x n).staging = s.staging := State.setF_staging _ _ _
@[simp] theorem State.incBy_live (s : State) (x : Fld) (n : Nat) : (s.incBy x n).live = s.live := State.setF_live _ _ _
@[simp] theorem State.incBy_leaders (s : State) (x : Fld) (n : Nat) : (s.incBy x n).leaders = s.leaders := State.setF_leaders _ _ _
@[simp] theorem State.incBy_invalidOut (s : State) (x : Fld) (n : Nat) : (s.incBy x n).invalidOut = s.invalidOut := State.setF_invalidOut _ _ _
@[simp] theorem State.incBy_flt (s : State) (x : Fld) (n : Nat) : (s.incBy x n).flt = s.flt := State.setF_flt _ _ _
@[simp] theorem State.incBy_ports (s : State) (x : Fld) (n : Nat) : (s.incBy x n).ports = s.ports := State.setF_ports _ _ _
@[simp] theorem State.incBy_lineOut (s : State) (x : Fld) (n : Nat) : (s.incBy x n).lineOut = s.lineOut := State.setF_lineOut _ _ _
@[simp] theorem State.incBy_localIn (s : State) (x : Fld) (n : Nat) : (s.incBy x n).localIn = s.localIn := State.setF_localIn _ _ _
@[simp] theorem State.incBy_txSeq (s : State) (x : Fld) (n : Nat) : (s.incBy x n).txSeq = s.txSeq := State.setF_txSeq _ _ _
@[simp] theorem State.incBy_splitAt (s : State) (x : Fld) (n : Nat) : (s.incBy x n).splitAt = s.splitAt := State.setF_splitAt _ _ _
@[simp] theorem State.incBy_splitUse (s : State) (x : Fld) (n : Nat) : (s.incBy x n).splitUse = s.splitUse := State.setF_splitUse _ _ _
@[simp] theorem State.incBy_rx (s : State) (x : Fld) (n : Nat) : (s.incBy x n).rx = s.rx := State.setF_rx _ _ _
@[simp] theorem State.incBy_tx (s : State) (x : Fld) (n : Nat) : (s.incBy x n).tx = s.tx := State.setF_tx _ _ _
@[simp] theorem State.incBy_nvm (s : State) (x : Fld) (n : Nat) : (s.incBy x n).nvm = s.nvm := State.setF_nvm _ _ _
@[simp] theorem State.incBy_dpd (s : State) (x : Fld) (n : Nat) : (s.incBy x n).dpd = s.dpd := State.setF_dpd _ _ _
@[simp] theorem State.incBy_bfm (s : State) (x : Fld) (n : Nat) : (s.incBy x n).bfm = s.bfm := State.setF_bfm _ _ _
@[simp] theorem State.incBy_cal (s : State) (x : Fld) (n : Nat) : (s.incBy x n).cal = s.cal := State.setF_cal _ _ _
@[simp] theorem State.incBy_thm (s : State) (x : Fld) (n : Nat) : (s.incBy x n).thm = s.thm := State.setF_thm _ _ _
@[simp] theorem State.incBy_rad (s : State) (x : Fld) (n : Nat) : (s.incBy x n).rad = s.rad := State.setF_rad _ _ _
@[simp] theorem State.incBy_cores (s : State) (x : Fld) (n : Nat) : (s.incBy x n).cores = s.cores := State.setF_cores _ _ _
@[simp] theorem State.incBy_mbx (s : State) (x : Fld) (n : Nat) : (s.incBy x n).mbx = s.mbx := State.setF_mbx _ _ _
@[simp] theorem State.incBy_arb (s : State) (x : Fld) (n : Nat) : (s.incBy x n).arb = s.arb := State.setF_arb _ _ _
@[simp] theorem State.incBy_clk (s : State) (x : Fld) (n : Nat) : (s.incBy x n).clk = s.clk := State.setF_clk _ _ _
@[simp] theorem State.incBy_aux (s : State) (x : Fld) (n : Nat) : (s.incBy x n).aux = s.aux := State.setF_aux _ _ _
@[simp] theorem State.incBy_hk (s : State) (x : Fld) (n : Nat) : (s.incBy x n).hk = s.hk := State.setF_hk _ _ _
@[simp] theorem State.incBy_pwr (s : State) (x : Fld) (n : Nat) : (s.incBy x n).pwr = s.pwr := State.setF_pwr _ _ _
@[simp] theorem State.incBy_io (s : State) (x : Fld) (n : Nat) : (s.incBy x n).io = s.io := State.setF_io _ _ _
@[simp] theorem State.incBy_crossed (s : State) (x : Fld) (n : Nat) : (s.incBy x n).crossed = s.crossed := State.setF_crossed _ _ _
@[simp] theorem State.incBy_crossLost (s : State) (x : Fld) (n : Nat) : (s.incBy x n).crossLost = s.crossLost := State.setF_crossLost _ _ _
@[simp] theorem State.incBy_irqB (s : State) (x : Fld) (n : Nat) : (s.incBy x n).irqB = s.irqB := State.setF_irqB _ _ _

@[simp] theorem State.inc_pending (s : State) (x : Fld) : (s.inc x).pending = s.pending := State.incBy_pending _ _ _
@[simp] theorem State.inc_now (s : State) (x : Fld) : (s.inc x).now = s.now := State.incBy_now _ _ _
@[simp] theorem State.inc_shadow (s : State) (x : Fld) : (s.inc x).shadow = s.shadow := State.incBy_shadow _ _ _
@[simp] theorem State.inc_armed (s : State) (x : Fld) : (s.inc x).armed = s.armed := State.incBy_armed _ _ _
@[simp] theorem State.inc_resp (s : State) (x : Fld) : (s.inc x).resp = s.resp := State.incBy_resp _ _ _
@[simp] theorem State.inc_freeCnt (s : State) (x : Fld) : (s.inc x).freeCnt = s.freeCnt := State.incBy_freeCnt _ _ _
@[simp] theorem State.inc_doms (s : State) (x : Fld) : (s.inc x).doms = s.doms := State.incBy_doms _ _ _
@[simp] theorem State.inc_tim (s : State) (x : Fld) : (s.inc x).tim = s.tim := State.incBy_tim _ _ _
@[simp] theorem State.inc_outbox (s : State) (x : Fld) : (s.inc x).outbox = s.outbox := State.incBy_outbox _ _ _
@[simp] theorem State.inc_hopOut (s : State) (x : Fld) : (s.inc x).hopOut = s.hopOut := State.incBy_hopOut _ _ _
@[simp] theorem State.inc_mem (s : State) (x : Fld) : (s.inc x).mem = s.mem := State.incBy_mem _ _ _
@[simp] theorem State.inc_staging (s : State) (x : Fld) : (s.inc x).staging = s.staging := State.incBy_staging _ _ _
@[simp] theorem State.inc_live (s : State) (x : Fld) : (s.inc x).live = s.live := State.incBy_live _ _ _
@[simp] theorem State.inc_leaders (s : State) (x : Fld) : (s.inc x).leaders = s.leaders := State.incBy_leaders _ _ _
@[simp] theorem State.inc_invalidOut (s : State) (x : Fld) : (s.inc x).invalidOut = s.invalidOut := State.incBy_invalidOut _ _ _
@[simp] theorem State.inc_flt (s : State) (x : Fld) : (s.inc x).flt = s.flt := State.incBy_flt _ _ _
@[simp] theorem State.inc_ports (s : State) (x : Fld) : (s.inc x).ports = s.ports := State.incBy_ports _ _ _
@[simp] theorem State.inc_lineOut (s : State) (x : Fld) : (s.inc x).lineOut = s.lineOut := State.incBy_lineOut _ _ _
@[simp] theorem State.inc_localIn (s : State) (x : Fld) : (s.inc x).localIn = s.localIn := State.incBy_localIn _ _ _
@[simp] theorem State.inc_txSeq (s : State) (x : Fld) : (s.inc x).txSeq = s.txSeq := State.incBy_txSeq _ _ _
@[simp] theorem State.inc_splitAt (s : State) (x : Fld) : (s.inc x).splitAt = s.splitAt := State.incBy_splitAt _ _ _
@[simp] theorem State.inc_splitUse (s : State) (x : Fld) : (s.inc x).splitUse = s.splitUse := State.incBy_splitUse _ _ _
@[simp] theorem State.inc_rx (s : State) (x : Fld) : (s.inc x).rx = s.rx := State.incBy_rx _ _ _
@[simp] theorem State.inc_tx (s : State) (x : Fld) : (s.inc x).tx = s.tx := State.incBy_tx _ _ _
@[simp] theorem State.inc_nvm (s : State) (x : Fld) : (s.inc x).nvm = s.nvm := State.incBy_nvm _ _ _
@[simp] theorem State.inc_dpd (s : State) (x : Fld) : (s.inc x).dpd = s.dpd := State.incBy_dpd _ _ _
@[simp] theorem State.inc_bfm (s : State) (x : Fld) : (s.inc x).bfm = s.bfm := State.incBy_bfm _ _ _
@[simp] theorem State.inc_cal (s : State) (x : Fld) : (s.inc x).cal = s.cal := State.incBy_cal _ _ _
@[simp] theorem State.inc_thm (s : State) (x : Fld) : (s.inc x).thm = s.thm := State.incBy_thm _ _ _
@[simp] theorem State.inc_rad (s : State) (x : Fld) : (s.inc x).rad = s.rad := State.incBy_rad _ _ _
@[simp] theorem State.inc_cores (s : State) (x : Fld) : (s.inc x).cores = s.cores := State.incBy_cores _ _ _
@[simp] theorem State.inc_mbx (s : State) (x : Fld) : (s.inc x).mbx = s.mbx := State.incBy_mbx _ _ _
@[simp] theorem State.inc_arb (s : State) (x : Fld) : (s.inc x).arb = s.arb := State.incBy_arb _ _ _
@[simp] theorem State.inc_clk (s : State) (x : Fld) : (s.inc x).clk = s.clk := State.incBy_clk _ _ _
@[simp] theorem State.inc_aux (s : State) (x : Fld) : (s.inc x).aux = s.aux := State.incBy_aux _ _ _
@[simp] theorem State.inc_hk (s : State) (x : Fld) : (s.inc x).hk = s.hk := State.incBy_hk _ _ _
@[simp] theorem State.inc_pwr (s : State) (x : Fld) : (s.inc x).pwr = s.pwr := State.incBy_pwr _ _ _
@[simp] theorem State.inc_io (s : State) (x : Fld) : (s.inc x).io = s.io := State.incBy_io _ _ _
@[simp] theorem State.inc_crossed (s : State) (x : Fld) : (s.inc x).crossed = s.crossed := State.incBy_crossed _ _ _
@[simp] theorem State.inc_crossLost (s : State) (x : Fld) : (s.inc x).crossLost = s.crossLost := State.incBy_crossLost _ _ _
@[simp] theorem State.inc_irqB (s : State) (x : Fld) : (s.inc x).irqB = s.irqB := State.incBy_irqB _ _ _

@[simp] theorem State.incMod_pending (s : State) (x : Fld) : (s.incMod x).pending = s.pending := State.setF_pending _ _ _
@[simp] theorem State.incMod_now (s : State) (x : Fld) : (s.incMod x).now = s.now := State.setF_now _ _ _
@[simp] theorem State.incMod_shadow (s : State) (x : Fld) : (s.incMod x).shadow = s.shadow := State.setF_shadow _ _ _
@[simp] theorem State.incMod_armed (s : State) (x : Fld) : (s.incMod x).armed = s.armed := State.setF_armed _ _ _
@[simp] theorem State.incMod_resp (s : State) (x : Fld) : (s.incMod x).resp = s.resp := State.setF_resp _ _ _
@[simp] theorem State.incMod_freeCnt (s : State) (x : Fld) : (s.incMod x).freeCnt = s.freeCnt := State.setF_freeCnt _ _ _
@[simp] theorem State.incMod_doms (s : State) (x : Fld) : (s.incMod x).doms = s.doms := State.setF_doms _ _ _
@[simp] theorem State.incMod_tim (s : State) (x : Fld) : (s.incMod x).tim = s.tim := State.setF_tim _ _ _
@[simp] theorem State.incMod_outbox (s : State) (x : Fld) : (s.incMod x).outbox = s.outbox := State.setF_outbox _ _ _
@[simp] theorem State.incMod_hopOut (s : State) (x : Fld) : (s.incMod x).hopOut = s.hopOut := State.setF_hopOut _ _ _
@[simp] theorem State.incMod_mem (s : State) (x : Fld) : (s.incMod x).mem = s.mem := State.setF_mem _ _ _
@[simp] theorem State.incMod_staging (s : State) (x : Fld) : (s.incMod x).staging = s.staging := State.setF_staging _ _ _
@[simp] theorem State.incMod_live (s : State) (x : Fld) : (s.incMod x).live = s.live := State.setF_live _ _ _
@[simp] theorem State.incMod_leaders (s : State) (x : Fld) : (s.incMod x).leaders = s.leaders := State.setF_leaders _ _ _
@[simp] theorem State.incMod_invalidOut (s : State) (x : Fld) : (s.incMod x).invalidOut = s.invalidOut := State.setF_invalidOut _ _ _
@[simp] theorem State.incMod_flt (s : State) (x : Fld) : (s.incMod x).flt = s.flt := State.setF_flt _ _ _
@[simp] theorem State.incMod_ports (s : State) (x : Fld) : (s.incMod x).ports = s.ports := State.setF_ports _ _ _
@[simp] theorem State.incMod_lineOut (s : State) (x : Fld) : (s.incMod x).lineOut = s.lineOut := State.setF_lineOut _ _ _
@[simp] theorem State.incMod_localIn (s : State) (x : Fld) : (s.incMod x).localIn = s.localIn := State.setF_localIn _ _ _
@[simp] theorem State.incMod_txSeq (s : State) (x : Fld) : (s.incMod x).txSeq = s.txSeq := State.setF_txSeq _ _ _
@[simp] theorem State.incMod_splitAt (s : State) (x : Fld) : (s.incMod x).splitAt = s.splitAt := State.setF_splitAt _ _ _
@[simp] theorem State.incMod_splitUse (s : State) (x : Fld) : (s.incMod x).splitUse = s.splitUse := State.setF_splitUse _ _ _
@[simp] theorem State.incMod_rx (s : State) (x : Fld) : (s.incMod x).rx = s.rx := State.setF_rx _ _ _
@[simp] theorem State.incMod_tx (s : State) (x : Fld) : (s.incMod x).tx = s.tx := State.setF_tx _ _ _
@[simp] theorem State.incMod_nvm (s : State) (x : Fld) : (s.incMod x).nvm = s.nvm := State.setF_nvm _ _ _
@[simp] theorem State.incMod_dpd (s : State) (x : Fld) : (s.incMod x).dpd = s.dpd := State.setF_dpd _ _ _
@[simp] theorem State.incMod_bfm (s : State) (x : Fld) : (s.incMod x).bfm = s.bfm := State.setF_bfm _ _ _
@[simp] theorem State.incMod_cal (s : State) (x : Fld) : (s.incMod x).cal = s.cal := State.setF_cal _ _ _
@[simp] theorem State.incMod_thm (s : State) (x : Fld) : (s.incMod x).thm = s.thm := State.setF_thm _ _ _
@[simp] theorem State.incMod_rad (s : State) (x : Fld) : (s.incMod x).rad = s.rad := State.setF_rad _ _ _
@[simp] theorem State.incMod_cores (s : State) (x : Fld) : (s.incMod x).cores = s.cores := State.setF_cores _ _ _
@[simp] theorem State.incMod_mbx (s : State) (x : Fld) : (s.incMod x).mbx = s.mbx := State.setF_mbx _ _ _
@[simp] theorem State.incMod_arb (s : State) (x : Fld) : (s.incMod x).arb = s.arb := State.setF_arb _ _ _
@[simp] theorem State.incMod_clk (s : State) (x : Fld) : (s.incMod x).clk = s.clk := State.setF_clk _ _ _
@[simp] theorem State.incMod_aux (s : State) (x : Fld) : (s.incMod x).aux = s.aux := State.setF_aux _ _ _
@[simp] theorem State.incMod_hk (s : State) (x : Fld) : (s.incMod x).hk = s.hk := State.setF_hk _ _ _
@[simp] theorem State.incMod_pwr (s : State) (x : Fld) : (s.incMod x).pwr = s.pwr := State.setF_pwr _ _ _
@[simp] theorem State.incMod_io (s : State) (x : Fld) : (s.incMod x).io = s.io := State.setF_io _ _ _
@[simp] theorem State.incMod_crossed (s : State) (x : Fld) : (s.incMod x).crossed = s.crossed := State.setF_crossed _ _ _
@[simp] theorem State.incMod_crossLost (s : State) (x : Fld) : (s.incMod x).crossLost = s.crossLost := State.setF_crossLost _ _ _
@[simp] theorem State.incMod_irqB (s : State) (x : Fld) : (s.incMod x).irqB = s.irqB := State.setF_irqB _ _ _

@[simp] theorem State.setMask64_pending (s : State) (lo hi : Fld) (m : Nat) : (s.setMask64 lo hi m).pending = s.pending := (State.setF_pending _ _ _).trans (State.setF_pending _ _ _)
@[simp] theorem State.setMask64_now (s : State) (lo hi : Fld) (m : Nat) : (s.setMask64 lo hi m).now = s.now := (State.setF_now _ _ _).trans (State.setF_now _ _ _)
@[simp] theorem State.setMask64_shadow (s : State) (lo hi : Fld) (m : Nat) : (s.setMask64 lo hi m).shadow = s.shadow := (State.setF_shadow _ _ _).trans (State.setF_shadow _ _ _)
@[simp] theorem State.setMask64_armed (s : State) (lo hi : Fld) (m : Nat) : (s.setMask64 lo hi m).armed = s.armed := (State.setF_armed _ _ _).trans (State.setF_armed _ _ _)
@[simp] theorem State.setMask64_resp (s : State) (lo hi : Fld) (m : Nat) : (s.setMask64 lo hi m).resp = s.resp := (State.setF_resp _ _ _).trans (State.setF_resp _ _ _)
@[simp] theorem State.setMask64_freeCnt (s : State) (lo hi : Fld) (m : Nat) : (s.setMask64 lo hi m).freeCnt = s.freeCnt := (State.setF_freeCnt _ _ _).trans (State.setF_freeCnt _ _ _)
@[simp] theorem State.setMask64_doms (s : State) (lo hi : Fld) (m : Nat) : (s.setMask64 lo hi m).doms = s.doms := (State.setF_doms _ _ _).trans (State.setF_doms _ _ _)
@[simp] theorem State.setMask64_tim (s : State) (lo hi : Fld) (m : Nat) : (s.setMask64 lo hi m).tim = s.tim := (State.setF_tim _ _ _).trans (State.setF_tim _ _ _)
@[simp] theorem State.setMask64_outbox (s : State) (lo hi : Fld) (m : Nat) : (s.setMask64 lo hi m).outbox = s.outbox := (State.setF_outbox _ _ _).trans (State.setF_outbox _ _ _)
@[simp] theorem State.setMask64_hopOut (s : State) (lo hi : Fld) (m : Nat) : (s.setMask64 lo hi m).hopOut = s.hopOut := (State.setF_hopOut _ _ _).trans (State.setF_hopOut _ _ _)
@[simp] theorem State.setMask64_mem (s : State) (lo hi : Fld) (m : Nat) : (s.setMask64 lo hi m).mem = s.mem := (State.setF_mem _ _ _).trans (State.setF_mem _ _ _)
@[simp] theorem State.setMask64_staging (s : State) (lo hi : Fld) (m : Nat) : (s.setMask64 lo hi m).staging = s.staging := (State.setF_staging _ _ _).trans (State.setF_staging _ _ _)
@[simp] theorem State.setMask64_live (s : State) (lo hi : Fld) (m : Nat) : (s.setMask64 lo hi m).live = s.live := (State.setF_live _ _ _).trans (State.setF_live _ _ _)
@[simp] theorem State.setMask64_leaders (s : State) (lo hi : Fld) (m : Nat) : (s.setMask64 lo hi m).leaders = s.leaders := (State.setF_leaders _ _ _).trans (State.setF_leaders _ _ _)
@[simp] theorem State.setMask64_invalidOut (s : State) (lo hi : Fld) (m : Nat) : (s.setMask64 lo hi m).invalidOut = s.invalidOut := (State.setF_invalidOut _ _ _).trans (State.setF_invalidOut _ _ _)
@[simp] theorem State.setMask64_flt (s : State) (lo hi : Fld) (m : Nat) : (s.setMask64 lo hi m).flt = s.flt := (State.setF_flt _ _ _).trans (State.setF_flt _ _ _)
@[simp] theorem State.setMask64_ports (s : State) (lo hi : Fld) (m : Nat) : (s.setMask64 lo hi m).ports = s.ports := (State.setF_ports _ _ _).trans (State.setF_ports _ _ _)
@[simp] theorem State.setMask64_lineOut (s : State) (lo hi : Fld) (m : Nat) : (s.setMask64 lo hi m).lineOut = s.lineOut := (State.setF_lineOut _ _ _).trans (State.setF_lineOut _ _ _)
@[simp] theorem State.setMask64_localIn (s : State) (lo hi : Fld) (m : Nat) : (s.setMask64 lo hi m).localIn = s.localIn := (State.setF_localIn _ _ _).trans (State.setF_localIn _ _ _)
@[simp] theorem State.setMask64_txSeq (s : State) (lo hi : Fld) (m : Nat) : (s.setMask64 lo hi m).txSeq = s.txSeq := (State.setF_txSeq _ _ _).trans (State.setF_txSeq _ _ _)
@[simp] theorem State.setMask64_splitAt (s : State) (lo hi : Fld) (m : Nat) : (s.setMask64 lo hi m).splitAt = s.splitAt := (State.setF_splitAt _ _ _).trans (State.setF_splitAt _ _ _)
@[simp] theorem State.setMask64_splitUse (s : State) (lo hi : Fld) (m : Nat) : (s.setMask64 lo hi m).splitUse = s.splitUse := (State.setF_splitUse _ _ _).trans (State.setF_splitUse _ _ _)
@[simp] theorem State.setMask64_rx (s : State) (lo hi : Fld) (m : Nat) : (s.setMask64 lo hi m).rx = s.rx := (State.setF_rx _ _ _).trans (State.setF_rx _ _ _)
@[simp] theorem State.setMask64_tx (s : State) (lo hi : Fld) (m : Nat) : (s.setMask64 lo hi m).tx = s.tx := (State.setF_tx _ _ _).trans (State.setF_tx _ _ _)
@[simp] theorem State.setMask64_nvm (s : State) (lo hi : Fld) (m : Nat) : (s.setMask64 lo hi m).nvm = s.nvm := (State.setF_nvm _ _ _).trans (State.setF_nvm _ _ _)
@[simp] theorem State.setMask64_dpd (s : State) (lo hi : Fld) (m : Nat) : (s.setMask64 lo hi m).dpd = s.dpd := (State.setF_dpd _ _ _).trans (State.setF_dpd _ _ _)
@[simp] theorem State.setMask64_bfm (s : State) (lo hi : Fld) (m : Nat) : (s.setMask64 lo hi m).bfm = s.bfm := (State.setF_bfm _ _ _).trans (State.setF_bfm _ _ _)
@[simp] theorem State.setMask64_cal (s : State) (lo hi : Fld) (m : Nat) : (s.setMask64 lo hi m).cal = s.cal := (State.setF_cal _ _ _).trans (State.setF_cal _ _ _)
@[simp] theorem State.setMask64_thm (s : State) (lo hi : Fld) (m : Nat) : (s.setMask64 lo hi m).thm = s.thm := (State.setF_thm _ _ _).trans (State.setF_thm _ _ _)
@[simp] theorem State.setMask64_rad (s : State) (lo hi : Fld) (m : Nat) : (s.setMask64 lo hi m).rad = s.rad := (State.setF_rad _ _ _).trans (State.setF_rad _ _ _)
@[simp] theorem State.setMask64_cores (s : State) (lo hi : Fld) (m : Nat) : (s.setMask64 lo hi m).cores = s.cores := (State.setF_cores _ _ _).trans (State.setF_cores _ _ _)
@[simp] theorem State.setMask64_mbx (s : State) (lo hi : Fld) (m : Nat) : (s.setMask64 lo hi m).mbx = s.mbx := (State.setF_mbx _ _ _).trans (State.setF_mbx _ _ _)
@[simp] theorem State.setMask64_arb (s : State) (lo hi : Fld) (m : Nat) : (s.setMask64 lo hi m).arb = s.arb := (State.setF_arb _ _ _).trans (State.setF_arb _ _ _)
@[simp] theorem State.setMask64_clk (s : State) (lo hi : Fld) (m : Nat) : (s.setMask64 lo hi m).clk = s.clk := (State.setF_clk _ _ _).trans (State.setF_clk _ _ _)
@[simp] theorem State.setMask64_aux (s : State) (lo hi : Fld) (m : Nat) : (s.setMask64 lo hi m).aux = s.aux := (State.setF_aux _ _ _).trans (State.setF_aux _ _ _)
@[simp] theorem State.setMask64_hk (s : State) (lo hi : Fld) (m : Nat) : (s.setMask64 lo hi m).hk = s.hk := (State.setF_hk _ _ _).trans (State.setF_hk _ _ _)
@[simp] theorem State.setMask64_pwr (s : State) (lo hi : Fld) (m : Nat) : (s.setMask64 lo hi m).pwr = s.pwr := (State.setF_pwr _ _ _).trans (State.setF_pwr _ _ _)
@[simp] theorem State.setMask64_io (s : State) (lo hi : Fld) (m : Nat) : (s.setMask64 lo hi m).io = s.io := (State.setF_io _ _ _).trans (State.setF_io _ _ _)
@[simp] theorem State.setMask64_crossed (s : State) (lo hi : Fld) (m : Nat) : (s.setMask64 lo hi m).crossed = s.crossed := (State.setF_crossed _ _ _).trans (State.setF_crossed _ _ _)
@[simp] theorem State.setMask64_crossLost (s : State) (lo hi : Fld) (m : Nat) : (s.setMask64 lo hi m).crossLost = s.crossLost := (State.setF_crossLost _ _ _).trans (State.setF_crossLost _ _ _)
@[simp] theorem State.setMask64_irqB (s : State) (lo hi : Fld) (m : Nat) : (s.setMask64 lo hi m).irqB = s.irqB := (State.setF_irqB _ _ _).trans (State.setF_irqB _ _ _)

@[simp] theorem State.send_pending (s : State) (fr : Frame) : (s.send fr).pending = s.pending := by cases s; rfl
@[simp] theorem State.send_now (s : State) (fr : Frame) : (s.send fr).now = s.now := by cases s; rfl
@[simp] theorem State.send_regs (s : State) (fr : Frame) : (s.send fr).regs = s.regs := by cases s; rfl
@[simp] theorem State.send_shadow (s : State) (fr : Frame) : (s.send fr).shadow = s.shadow := by cases s; rfl
@[simp] theorem State.send_armed (s : State) (fr : Frame) : (s.send fr).armed = s.armed := by cases s; rfl
@[simp] theorem State.send_resp (s : State) (fr : Frame) : (s.send fr).resp = s.resp := by cases s; rfl
@[simp] theorem State.send_freeCnt (s : State) (fr : Frame) : (s.send fr).freeCnt = s.freeCnt := by cases s; rfl
@[simp] theorem State.send_doms (s : State) (fr : Frame) : (s.send fr).doms = s.doms := by cases s; rfl
@[simp] theorem State.send_tim (s : State) (fr : Frame) : (s.send fr).tim = s.tim := by cases s; rfl
@[simp] theorem State.send_hopOut (s : State) (fr : Frame) : (s.send fr).hopOut = s.hopOut := by cases s; rfl
@[simp] theorem State.send_mem (s : State) (fr : Frame) : (s.send fr).mem = s.mem := by cases s; rfl
@[simp] theorem State.send_staging (s : State) (fr : Frame) : (s.send fr).staging = s.staging := by cases s; rfl
@[simp] theorem State.send_live (s : State) (fr : Frame) : (s.send fr).live = s.live := by cases s; rfl
@[simp] theorem State.send_leaders (s : State) (fr : Frame) : (s.send fr).leaders = s.leaders := by cases s; rfl
@[simp] theorem State.send_invalidOut (s : State) (fr : Frame) : (s.send fr).invalidOut = s.invalidOut := by cases s; rfl
@[simp] theorem State.send_flt (s : State) (fr : Frame) : (s.send fr).flt = s.flt := by cases s; rfl
@[simp] theorem State.send_ports (s : State) (fr : Frame) : (s.send fr).ports = s.ports := by cases s; rfl
@[simp] theorem State.send_lineOut (s : State) (fr : Frame) : (s.send fr).lineOut = s.lineOut := by cases s; rfl
@[simp] theorem State.send_localIn (s : State) (fr : Frame) : (s.send fr).localIn = s.localIn := by cases s; rfl
@[simp] theorem State.send_txSeq (s : State) (fr : Frame) : (s.send fr).txSeq = s.txSeq := by cases s; rfl
@[simp] theorem State.send_splitAt (s : State) (fr : Frame) : (s.send fr).splitAt = s.splitAt := by cases s; rfl
@[simp] theorem State.send_splitUse (s : State) (fr : Frame) : (s.send fr).splitUse = s.splitUse := by cases s; rfl
@[simp] theorem State.send_rx (s : State) (fr : Frame) : (s.send fr).rx = s.rx := by cases s; rfl
@[simp] theorem State.send_tx (s : State) (fr : Frame) : (s.send fr).tx = s.tx := by cases s; rfl
@[simp] theorem State.send_nvm (s : State) (fr : Frame) : (s.send fr).nvm = s.nvm := by cases s; rfl
@[simp] theorem State.send_dpd (s : State) (fr : Frame) : (s.send fr).dpd = s.dpd := by cases s; rfl
@[simp] theorem State.send_bfm (s : State) (fr : Frame) : (s.send fr).bfm = s.bfm := by cases s; rfl
@[simp] theorem State.send_cal (s : State) (fr : Frame) : (s.send fr).cal = s.cal := by cases s; rfl
@[simp] theorem State.send_thm (s : State) (fr : Frame) : (s.send fr).thm = s.thm := by cases s; rfl
@[simp] theorem State.send_rad (s : State) (fr : Frame) : (s.send fr).rad = s.rad := by cases s; rfl
@[simp] theorem State.send_cores (s : State) (fr : Frame) : (s.send fr).cores = s.cores := by cases s; rfl
@[simp] theorem State.send_mbx (s : State) (fr : Frame) : (s.send fr).mbx = s.mbx := by cases s; rfl
@[simp] theorem State.send_arb (s : State) (fr : Frame) : (s.send fr).arb = s.arb := by cases s; rfl
@[simp] theorem State.send_clk (s : State) (fr : Frame) : (s.send fr).clk = s.clk := by cases s; rfl
@[simp] theorem State.send_aux (s : State) (fr : Frame) : (s.send fr).aux = s.aux := by cases s; rfl
@[simp] theorem State.send_hk (s : State) (fr : Frame) : (s.send fr).hk = s.hk := by cases s; rfl
@[simp] theorem State.send_pwr (s : State) (fr : Frame) : (s.send fr).pwr = s.pwr := by cases s; rfl
@[simp] theorem State.send_io (s : State) (fr : Frame) : (s.send fr).io = s.io := by cases s; rfl
@[simp] theorem State.send_crossed (s : State) (fr : Frame) : (s.send fr).crossed = s.crossed := by cases s; rfl
@[simp] theorem State.send_crossLost (s : State) (fr : Frame) : (s.send fr).crossLost = s.crossLost := by cases s; rfl
@[simp] theorem State.send_irqB (s : State) (fr : Frame) : (s.send fr).irqB = s.irqB := by cases s; rfl

@[simp] theorem State.ok_pending (s : State) (d : Nat) : (s.ok d).pending = s.pending := by cases s; rfl
@[simp] theorem State.ok_now (s : State) (d : Nat) : (s.ok d).now = s.now := by cases s; rfl
@[simp] theorem State.ok_regs (s : State) (d : Nat) : (s.ok d).regs = s.regs := by cases s; rfl
@[simp] theorem State.ok_shadow (s : State) (d : Nat) : (s.ok d).shadow = s.shadow := by cases s; rfl
@[simp] theorem State.ok_armed (s : State) (d : Nat) : (s.ok d).armed = s.armed := by cases s; rfl
@[simp] theorem State.ok_freeCnt (s : State) (d : Nat) : (s.ok d).freeCnt = s.freeCnt := by cases s; rfl
@[simp] theorem State.ok_doms (s : State) (d : Nat) : (s.ok d).doms = s.doms := by cases s; rfl
@[simp] theorem State.ok_tim (s : State) (d : Nat) : (s.ok d).tim = s.tim := by cases s; rfl
@[simp] theorem State.ok_outbox (s : State) (d : Nat) : (s.ok d).outbox = s.outbox := by cases s; rfl
@[simp] theorem State.ok_hopOut (s : State) (d : Nat) : (s.ok d).hopOut = s.hopOut := by cases s; rfl
@[simp] theorem State.ok_mem (s : State) (d : Nat) : (s.ok d).mem = s.mem := by cases s; rfl
@[simp] theorem State.ok_staging (s : State) (d : Nat) : (s.ok d).staging = s.staging := by cases s; rfl
@[simp] theorem State.ok_live (s : State) (d : Nat) : (s.ok d).live = s.live := by cases s; rfl
@[simp] theorem State.ok_leaders (s : State) (d : Nat) : (s.ok d).leaders = s.leaders := by cases s; rfl
@[simp] theorem State.ok_invalidOut (s : State) (d : Nat) : (s.ok d).invalidOut = s.invalidOut := by cases s; rfl
@[simp] theorem State.ok_flt (s : State) (d : Nat) : (s.ok d).flt = s.flt := by cases s; rfl
@[simp] theorem State.ok_ports (s : State) (d : Nat) : (s.ok d).ports = s.ports := by cases s; rfl
@[simp] theorem State.ok_lineOut (s : State) (d : Nat) : (s.ok d).lineOut = s.lineOut := by cases s; rfl
@[simp] theorem State.ok_localIn (s : State) (d : Nat) : (s.ok d).localIn = s.localIn := by cases s; rfl
@[simp] theorem State.ok_txSeq (s : State) (d : Nat) : (s.ok d).txSeq = s.txSeq := by cases s; rfl
@[simp] theorem State.ok_splitAt (s : State) (d : Nat) : (s.ok d).splitAt = s.splitAt := by cases s; rfl
@[simp] theorem State.ok_splitUse (s : State) (d : Nat) : (s.ok d).splitUse = s.splitUse := by cases s; rfl
@[simp] theorem State.ok_rx (s : State) (d : Nat) : (s.ok d).rx = s.rx := by cases s; rfl
@[simp] theorem State.ok_tx (s : State) (d : Nat) : (s.ok d).tx = s.tx := by cases s; rfl
@[simp] theorem State.ok_nvm (s : State) (d : Nat) : (s.ok d).nvm = s.nvm := by cases s; rfl
@[simp] theorem State.ok_dpd (s : State) (d : Nat) : (s.ok d).dpd = s.dpd := by cases s; rfl
@[simp] theorem State.ok_bfm (s : State) (d : Nat) : (s.ok d).bfm = s.bfm := by cases s; rfl
@[simp] theorem State.ok_cal (s : State) (d : Nat) : (s.ok d).cal = s.cal := by cases s; rfl
@[simp] theorem State.ok_thm (s : State) (d : Nat) : (s.ok d).thm = s.thm := by cases s; rfl
@[simp] theorem State.ok_rad (s : State) (d : Nat) : (s.ok d).rad = s.rad := by cases s; rfl
@[simp] theorem State.ok_cores (s : State) (d : Nat) : (s.ok d).cores = s.cores := by cases s; rfl
@[simp] theorem State.ok_mbx (s : State) (d : Nat) : (s.ok d).mbx = s.mbx := by cases s; rfl
@[simp] theorem State.ok_arb (s : State) (d : Nat) : (s.ok d).arb = s.arb := by cases s; rfl
@[simp] theorem State.ok_clk (s : State) (d : Nat) : (s.ok d).clk = s.clk := by cases s; rfl
@[simp] theorem State.ok_aux (s : State) (d : Nat) : (s.ok d).aux = s.aux := by cases s; rfl
@[simp] theorem State.ok_hk (s : State) (d : Nat) : (s.ok d).hk = s.hk := by cases s; rfl
@[simp] theorem State.ok_pwr (s : State) (d : Nat) : (s.ok d).pwr = s.pwr := by cases s; rfl
@[simp] theorem State.ok_io (s : State) (d : Nat) : (s.ok d).io = s.io := by cases s; rfl
@[simp] theorem State.ok_crossed (s : State) (d : Nat) : (s.ok d).crossed = s.crossed := by cases s; rfl
@[simp] theorem State.ok_crossLost (s : State) (d : Nat) : (s.ok d).crossLost = s.crossLost := by cases s; rfl
@[simp] theorem State.ok_irqB (s : State) (d : Nat) : (s.ok d).irqB = s.irqB := by cases s; rfl

@[simp] theorem State.tickFree_pending (s : State) : (s.tickFree).pending = s.pending := by cases s; rfl
@[simp] theorem State.tickFree_now (s : State) : (s.tickFree).now = s.now := by cases s; rfl
@[simp] theorem State.tickFree_regs (s : State) : (s.tickFree).regs = s.regs := by cases s; rfl
@[simp] theorem State.tickFree_shadow (s : State) : (s.tickFree).shadow = s.shadow := by cases s; rfl
@[simp] theorem State.tickFree_armed (s : State) : (s.tickFree).armed = s.armed := by cases s; rfl
@[simp] theorem State.tickFree_resp (s : State) : (s.tickFree).resp = s.resp := by cases s; rfl
@[simp] theorem State.tickFree_doms (s : State) : (s.tickFree).doms = s.doms := by cases s; rfl
@[simp] theorem State.tickFree_tim (s : State) : (s.tickFree).tim = s.tim := by cases s; rfl
@[simp] theorem State.tickFree_outbox (s : State) : (s.tickFree).outbox = s.outbox := by cases s; rfl
@[simp] theorem State.tickFree_hopOut (s : State) : (s.tickFree).hopOut = s.hopOut := by cases s; rfl
@[simp] theorem State.tickFree_mem (s : State) : (s.tickFree).mem = s.mem := by cases s; rfl
@[simp] theorem State.tickFree_staging (s : State) : (s.tickFree).staging = s.staging := by cases s; rfl
@[simp] theorem State.tickFree_live (s : State) : (s.tickFree).live = s.live := by cases s; rfl
@[simp] theorem State.tickFree_leaders (s : State) : (s.tickFree).leaders = s.leaders := by cases s; rfl
@[simp] theorem State.tickFree_invalidOut (s : State) : (s.tickFree).invalidOut = s.invalidOut := by cases s; rfl
@[simp] theorem State.tickFree_flt (s : State) : (s.tickFree).flt = s.flt := by cases s; rfl
@[simp] theorem State.tickFree_ports (s : State) : (s.tickFree).ports = s.ports := by cases s; rfl
@[simp] theorem State.tickFree_lineOut (s : State) : (s.tickFree).lineOut = s.lineOut := by cases s; rfl
@[simp] theorem State.tickFree_localIn (s : State) : (s.tickFree).localIn = s.localIn := by cases s; rfl
@[simp] theorem State.tickFree_txSeq (s : State) : (s.tickFree).txSeq = s.txSeq := by cases s; rfl
@[simp] theorem State.tickFree_splitAt (s : State) : (s.tickFree).splitAt = s.splitAt := by cases s; rfl
@[simp] theorem State.tickFree_splitUse (s : State) : (s.tickFree).splitUse = s.splitUse := by cases s; rfl
@[simp] theorem State.tickFree_rx (s : State) : (s.tickFree).rx = s.rx := by cases s; rfl
@[simp] theorem State.tickFree_tx (s : State) : (s.tickFree).tx = s.tx := by cases s; rfl
@[simp] theorem State.tickFree_nvm (s : State) : (s.tickFree).nvm = s.nvm := by cases s; rfl
@[simp] theorem State.tickFree_dpd (s : State) : (s.tickFree).dpd = s.dpd := by cases s; rfl
@[simp] theorem State.tickFree_bfm (s : State) : (s.tickFree).bfm = s.bfm := by cases s; rfl
@[simp] theorem State.tickFree_cal (s : State) : (s.tickFree).cal = s.cal := by cases s; rfl
@[simp] theorem State.tickFree_thm (s : State) : (s.tickFree).thm = s.thm := by cases s; rfl
@[simp] theorem State.tickFree_rad (s : State) : (s.tickFree).rad = s.rad := by cases s; rfl
@[simp] theorem State.tickFree_cores (s : State) : (s.tickFree).cores = s.cores := by cases s; rfl
@[simp] theorem State.tickFree_mbx (s : State) : (s.tickFree).mbx = s.mbx := by cases s; rfl
@[simp] theorem State.tickFree_arb (s : State) : (s.tickFree).arb = s.arb := by cases s; rfl
@[simp] theorem State.tickFree_clk (s : State) : (s.tickFree).clk = s.clk := by cases s; rfl
@[simp] theorem State.tickFree_aux (s : State) : (s.tickFree).aux = s.aux := by cases s; rfl
@[simp] theorem State.tickFree_hk (s : State) : (s.tickFree).hk = s.hk := by cases s; rfl
@[simp] theorem State.tickFree_pwr (s : State) : (s.tickFree).pwr = s.pwr := by cases s; rfl
@[simp] theorem State.tickFree_io (s : State) : (s.tickFree).io = s.io := by cases s; rfl
@[simp] theorem State.tickFree_crossed (s : State) : (s.tickFree).crossed = s.crossed := by cases s; rfl
@[simp] theorem State.tickFree_crossLost (s : State) : (s.tickFree).crossLost = s.crossLost := by cases s; rfl
@[simp] theorem State.tickFree_irqB (s : State) : (s.tickFree).irqB = s.irqB := by cases s; rfl

@[simp] theorem State.setCore_pending (s : State) (n : Nat) (c : Core) : (s.setCore n c).pending = s.pending := by cases s; rfl
@[simp] theorem State.setCore_now (s : State) (n : Nat) (c : Core) : (s.setCore n c).now = s.now := by cases s; rfl
@[simp] theorem State.setCore_regs (s : State) (n : Nat) (c : Core) : (s.setCore n c).regs = s.regs := by cases s; rfl
@[simp] theorem State.setCore_shadow (s : State) (n : Nat) (c : Core) : (s.setCore n c).shadow = s.shadow := by cases s; rfl
@[simp] theorem State.setCore_armed (s : State) (n : Nat) (c : Core) : (s.setCore n c).armed = s.armed := by cases s; rfl
@[simp] theorem State.setCore_resp (s : State) (n : Nat) (c : Core) : (s.setCore n c).resp = s.resp := by cases s; rfl
@[simp] theorem State.setCore_freeCnt (s : State) (n : Nat) (c : Core) : (s.setCore n c).freeCnt = s.freeCnt := by cases s; rfl
@[simp] theorem State.setCore_doms (s : State) (n : Nat) (c : Core) : (s.setCore n c).doms = s.doms := by cases s; rfl
@[simp] theorem State.setCore_tim (s : State) (n : Nat) (c : Core) : (s.setCore n c).tim = s.tim := by cases s; rfl
@[simp] theorem State.setCore_outbox (s : State) (n : Nat) (c : Core) : (s.setCore n c).outbox = s.outbox := by cases s; rfl
@[simp] theorem State.setCore_hopOut (s : State) (n : Nat) (c : Core) : (s.setCore n c).hopOut = s.hopOut := by cases s; rfl
@[simp] theorem State.setCore_mem (s : State) (n : Nat) (c : Core) : (s.setCore n c).mem = s.mem := by cases s; rfl
@[simp] theorem State.setCore_staging (s : State) (n : Nat) (c : Core) : (s.setCore n c).staging = s.staging := by cases s; rfl
@[simp] theorem State.setCore_live (s : State) (n : Nat) (c : Core) : (s.setCore n c).live = s.live := by cases s; rfl
@[simp] theorem State.setCore_leaders (s : State) (n : Nat) (c : Core) : (s.setCore n c).leaders = s.leaders := by cases s; rfl
@[simp] theorem State.setCore_invalidOut (s : State) (n : Nat) (c : Core) : (s.setCore n c).invalidOut = s.invalidOut := by cases s; rfl
@[simp] theorem State.setCore_flt (s : State) (n : Nat) (c : Core) : (s.setCore n c).flt = s.flt := by cases s; rfl
@[simp] theorem State.setCore_ports (s : State) (n : Nat) (c : Core) : (s.setCore n c).ports = s.ports := by cases s; rfl
@[simp] theorem State.setCore_lineOut (s : State) (n : Nat) (c : Core) : (s.setCore n c).lineOut = s.lineOut := by cases s; rfl
@[simp] theorem State.setCore_localIn (s : State) (n : Nat) (c : Core) : (s.setCore n c).localIn = s.localIn := by cases s; rfl
@[simp] theorem State.setCore_txSeq (s : State) (n : Nat) (c : Core) : (s.setCore n c).txSeq = s.txSeq := by cases s; rfl
@[simp] theorem State.setCore_splitAt (s : State) (n : Nat) (c : Core) : (s.setCore n c).splitAt = s.splitAt := by cases s; rfl
@[simp] theorem State.setCore_splitUse (s : State) (n : Nat) (c : Core) : (s.setCore n c).splitUse = s.splitUse := by cases s; rfl
@[simp] theorem State.setCore_rx (s : State) (n : Nat) (c : Core) : (s.setCore n c).rx = s.rx := by cases s; rfl
@[simp] theorem State.setCore_tx (s : State) (n : Nat) (c : Core) : (s.setCore n c).tx = s.tx := by cases s; rfl
@[simp] theorem State.setCore_nvm (s : State) (n : Nat) (c : Core) : (s.setCore n c).nvm = s.nvm := by cases s; rfl
@[simp] theorem State.setCore_dpd (s : State) (n : Nat) (c : Core) : (s.setCore n c).dpd = s.dpd := by cases s; rfl
@[simp] theorem State.setCore_bfm (s : State) (n : Nat) (c : Core) : (s.setCore n c).bfm = s.bfm := by cases s; rfl
@[simp] theorem State.setCore_cal (s : State) (n : Nat) (c : Core) : (s.setCore n c).cal = s.cal := by cases s; rfl
@[simp] theorem State.setCore_thm (s : State) (n : Nat) (c : Core) : (s.setCore n c).thm = s.thm := by cases s; rfl
@[simp] theorem State.setCore_rad (s : State) (n : Nat) (c : Core) : (s.setCore n c).rad = s.rad := by cases s; rfl
@[simp] theorem State.setCore_mbx (s : State) (n : Nat) (c : Core) : (s.setCore n c).mbx = s.mbx := by cases s; rfl
@[simp] theorem State.setCore_arb (s : State) (n : Nat) (c : Core) : (s.setCore n c).arb = s.arb := by cases s; rfl
@[simp] theorem State.setCore_clk (s : State) (n : Nat) (c : Core) : (s.setCore n c).clk = s.clk := by cases s; rfl
@[simp] theorem State.setCore_aux (s : State) (n : Nat) (c : Core) : (s.setCore n c).aux = s.aux := by cases s; rfl
@[simp] theorem State.setCore_hk (s : State) (n : Nat) (c : Core) : (s.setCore n c).hk = s.hk := by cases s; rfl
@[simp] theorem State.setCore_pwr (s : State) (n : Nat) (c : Core) : (s.setCore n c).pwr = s.pwr := by cases s; rfl
@[simp] theorem State.setCore_io (s : State) (n : Nat) (c : Core) : (s.setCore n c).io = s.io := by cases s; rfl
@[simp] theorem State.setCore_crossed (s : State) (n : Nat) (c : Core) : (s.setCore n c).crossed = s.crossed := by cases s; rfl
@[simp] theorem State.setCore_crossLost (s : State) (n : Nat) (c : Core) : (s.setCore n c).crossLost = s.crossLost := by cases s; rfl
@[simp] theorem State.setCore_irqB (s : State) (n : Nat) (c : Core) : (s.setCore n c).irqB = s.irqB := by cases s; rfl

@[simp] theorem State.modCore_pending (s : State) (n : Nat) (g : Core → Core) : (s.modCore n g).pending = s.pending := State.setCore_pending _ _ _
@[simp] theorem State.modCore_now (s : State) (n : Nat) (g : Core → Core) : (s.modCore n g).now = s.now := State.setCore_now _ _ _
@[simp] theorem State.modCore_regs (s : State) (n : Nat) (g : Core → Core) : (s.modCore n g).regs = s.regs := State.setCore_regs _ _ _
@[simp] theorem State.modCore_shadow (s : State) (n : Nat) (g : Core → Core) : (s.modCore n g).shadow = s.shadow := State.setCore_shadow _ _ _
@[simp] theorem State.modCore_armed (s : State) (n : Nat) (g : Core → Core) : (s.modCore n g).armed = s.armed := State.setCore_armed _ _ _
@[simp] theorem State.modCore_resp (s : State) (n : Nat) (g : Core → Core) : (s.modCore n g).resp = s.resp := State.setCore_resp _ _ _
@[simp] theorem State.modCore_freeCnt (s : State) (n : Nat) (g : Core → Core) : (s.modCore n g).freeCnt = s.freeCnt := State.setCore_freeCnt _ _ _
@[simp] theorem State.modCore_doms (s : State) (n : Nat) (g : Core → Core) : (s.modCore n g).doms = s.doms := State.setCore_doms _ _ _
@[simp] theorem State.modCore_tim (s : State) (n : Nat) (g : Core → Core) : (s.modCore n g).tim = s.tim := State.setCore_tim _ _ _
@[simp] theorem State.modCore_outbox (s : State) (n : Nat) (g : Core → Core) : (s.modCore n g).outbox = s.outbox := State.setCore_outbox _ _ _
@[simp] theorem State.modCore_hopOut (s : State) (n : Nat) (g : Core → Core) : (s.modCore n g).hopOut = s.hopOut := State.setCore_hopOut _ _ _
@[simp] theorem State.modCore_mem (s : State) (n : Nat) (g : Core → Core) : (s.modCore n g).mem = s.mem := State.setCore_mem _ _ _
@[simp] theorem State.modCore_staging (s : State) (n : Nat) (g : Core → Core) : (s.modCore n g).staging = s.staging := State.setCore_staging _ _ _
@[simp] theorem State.modCore_live (s : State) (n : Nat) (g : Core → Core) : (s.modCore n g).live = s.live := State.setCore_live _ _ _
@[simp] theorem State.modCore_leaders (s : State) (n : Nat) (g : Core → Core) : (s.modCore n g).leaders = s.leaders := State.setCore_leaders _ _ _
@[simp] theorem State.modCore_invalidOut (s : State) (n : Nat) (g : Core → Core) : (s.modCore n g).invalidOut = s.invalidOut := State.setCore_invalidOut _ _ _
@[simp] theorem State.modCore_flt (s : State) (n : Nat) (g : Core → Core) : (s.modCore n g).flt = s.flt := State.setCore_flt _ _ _
@[simp] theorem State.modCore_ports (s : State) (n : Nat) (g : Core → Core) : (s.modCore n g).ports = s.ports := State.setCore_ports _ _ _
@[simp] theorem State.modCore_lineOut (s : State) (n : Nat) (g : Core → Core) : (s.modCore n g).lineOut = s.lineOut := State.setCore_lineOut _ _ _
@[simp] theorem State.modCore_localIn (s : State) (n : Nat) (g : Core → Core) : (s.modCore n g).localIn = s.localIn := State.setCore_localIn _ _ _
@[simp] theorem State.modCore_txSeq (s : State) (n : Nat) (g : Core → Core) : (s.modCore n g).txSeq = s.txSeq := State.setCore_txSeq _ _ _
@[simp] theorem State.modCore_splitAt (s : State) (n : Nat) (g : Core → Core) : (s.modCore n g).splitAt = s.splitAt := State.setCore_splitAt _ _ _
@[simp] theorem State.modCore_splitUse (s : State) (n : Nat) (g : Core → Core) : (s.modCore n g).splitUse = s.splitUse := State.setCore_splitUse _ _ _
@[simp] theorem State.modCore_rx (s : State) (n : Nat) (g : Core → Core) : (s.modCore n g).rx = s.rx := State.setCore_rx _ _ _
@[simp] theorem State.modCore_tx (s : State) (n : Nat) (g : Core → Core) : (s.modCore n g).tx = s.tx := State.setCore_tx _ _ _
@[simp] theorem State.modCore_nvm (s : State) (n : Nat) (g : Core → Core) : (s.modCore n g).nvm = s.nvm := State.setCore_nvm _ _ _
@[simp] theorem State.modCore_dpd (s : State) (n : Nat) (g : Core → Core) : (s.modCore n g).dpd = s.dpd := State.setCore_dpd _ _ _
@[simp] theorem State.modCore_bfm (s : State) (n : Nat) (g : Core → Core) : (s.modCore n g).bfm = s.bfm := State.setCore_bfm _ _ _
@[simp] theorem State.modCore_cal (s : State) (n : Nat) (g : Core → Core) : (s.modCore n g).cal = s.cal := State.setCore_cal _ _ _
@[simp] theorem State.modCore_thm (s : State) (n : Nat) (g : Core → Core) : (s.modCore n g).thm = s.thm := State.setCore_thm _ _ _
@[simp] theorem State.modCore_rad (s : State) (n : Nat) (g : Core → Core) : (s.modCore n g).rad = s.rad := State.setCore_rad _ _ _
@[simp] theorem State.modCore_mbx (s : State) (n : Nat) (g : Core → Core) : (s.modCore n g).mbx = s.mbx := State.setCore_mbx _ _ _
@[simp] theorem State.modCore_arb (s : State) (n : Nat) (g : Core → Core) : (s.modCore n g).arb = s.arb := State.setCore_arb _ _ _
@[simp] theorem State.modCore_clk (s : State) (n : Nat) (g : Core → Core) : (s.modCore n g).clk = s.clk := State.setCore_clk _ _ _
@[simp] theorem State.modCore_aux (s : State) (n : Nat) (g : Core → Core) : (s.modCore n g).aux = s.aux := State.setCore_aux _ _ _
@[simp] theorem State.modCore_hk (s : State) (n : Nat) (g : Core → Core) : (s.modCore n g).hk = s.hk := State.setCore_hk _ _ _
@[simp] theorem State.modCore_pwr (s : State) (n : Nat) (g : Core → Core) : (s.modCore n g).pwr = s.pwr := State.setCore_pwr _ _ _
@[simp] theorem State.modCore_io (s : State) (n : Nat) (g : Core → Core) : (s.modCore n g).io = s.io := State.setCore_io _ _ _
@[simp] theorem State.modCore_crossed (s : State) (n : Nat) (g : Core → Core) : (s.modCore n g).crossed = s.crossed := State.setCore_crossed _ _ _
@[simp] theorem State.modCore_crossLost (s : State) (n : Nat) (g : Core → Core) : (s.modCore n g).crossLost = s.crossLost := State.setCore_crossLost _ _ _
@[simp] theorem State.modCore_irqB (s : State) (n : Nat) (g : Core → Core) : (s.modCore n g).irqB = s.irqB := State.setCore_irqB _ _ _

@[simp] theorem State.setPort_pending (s : State) (p : Nat) (x : PortSt) : (s.setPort p x).pending = s.pending := by cases s; rfl
@[simp] theorem State.setPort_now (s : State) (p : Nat) (x : PortSt) : (s.setPort p x).now = s.now := by cases s; rfl
@[simp] theorem State.setPort_regs (s : State) (p : Nat) (x : PortSt) : (s.setPort p x).regs = s.regs := by cases s; rfl
@[simp] theorem State.setPort_shadow (s : State) (p : Nat) (x : PortSt) : (s.setPort p x).shadow = s.shadow := by cases s; rfl
@[simp] theorem State.setPort_armed (s : State) (p : Nat) (x : PortSt) : (s.setPort p x).armed = s.armed := by cases s; rfl
@[simp] theorem State.setPort_resp (s : State) (p : Nat) (x : PortSt) : (s.setPort p x).resp = s.resp := by cases s; rfl
@[simp] theorem State.setPort_freeCnt (s : State) (p : Nat) (x : PortSt) : (s.setPort p x).freeCnt = s.freeCnt := by cases s; rfl
@[simp] theorem State.setPort_doms (s : State) (p : Nat) (x : PortSt) : (s.setPort p x).doms = s.doms := by cases s; rfl
@[simp] theorem State.setPort_tim (s : State) (p : Nat) (x : PortSt) : (s.setPort p x).tim = s.tim := by cases s; rfl
@[simp] theorem State.setPort_outbox (s : State) (p : Nat) (x : PortSt) : (s.setPort p x).outbox = s.outbox := by cases s; rfl
@[simp] theorem State.setPort_hopOut (s : State) (p : Nat) (x : PortSt) : (s.setPort p x).hopOut = s.hopOut := by cases s; rfl
@[simp] theorem State.setPort_mem (s : State) (p : Nat) (x : PortSt) : (s.setPort p x).mem = s.mem := by cases s; rfl
@[simp] theorem State.setPort_staging (s : State) (p : Nat) (x : PortSt) : (s.setPort p x).staging = s.staging := by cases s; rfl
@[simp] theorem State.setPort_live (s : State) (p : Nat) (x : PortSt) : (s.setPort p x).live = s.live := by cases s; rfl
@[simp] theorem State.setPort_leaders (s : State) (p : Nat) (x : PortSt) : (s.setPort p x).leaders = s.leaders := by cases s; rfl
@[simp] theorem State.setPort_invalidOut (s : State) (p : Nat) (x : PortSt) : (s.setPort p x).invalidOut = s.invalidOut := by cases s; rfl
@[simp] theorem State.setPort_flt (s : State) (p : Nat) (x : PortSt) : (s.setPort p x).flt = s.flt := by cases s; rfl
@[simp] theorem State.setPort_lineOut (s : State) (p : Nat) (x : PortSt) : (s.setPort p x).lineOut = s.lineOut := by cases s; rfl
@[simp] theorem State.setPort_localIn (s : State) (p : Nat) (x : PortSt) : (s.setPort p x).localIn = s.localIn := by cases s; rfl
@[simp] theorem State.setPort_txSeq (s : State) (p : Nat) (x : PortSt) : (s.setPort p x).txSeq = s.txSeq := by cases s; rfl
@[simp] theorem State.setPort_splitAt (s : State) (p : Nat) (x : PortSt) : (s.setPort p x).splitAt = s.splitAt := by cases s; rfl
@[simp] theorem State.setPort_splitUse (s : State) (p : Nat) (x : PortSt) : (s.setPort p x).splitUse = s.splitUse := by cases s; rfl
@[simp] theorem State.setPort_rx (s : State) (p : Nat) (x : PortSt) : (s.setPort p x).rx = s.rx := by cases s; rfl
@[simp] theorem State.setPort_tx (s : State) (p : Nat) (x : PortSt) : (s.setPort p x).tx = s.tx := by cases s; rfl
@[simp] theorem State.setPort_nvm (s : State) (p : Nat) (x : PortSt) : (s.setPort p x).nvm = s.nvm := by cases s; rfl
@[simp] theorem State.setPort_dpd (s : State) (p : Nat) (x : PortSt) : (s.setPort p x).dpd = s.dpd := by cases s; rfl
@[simp] theorem State.setPort_bfm (s : State) (p : Nat) (x : PortSt) : (s.setPort p x).bfm = s.bfm := by cases s; rfl
@[simp] theorem State.setPort_cal (s : State) (p : Nat) (x : PortSt) : (s.setPort p x).cal = s.cal := by cases s; rfl
@[simp] theorem State.setPort_thm (s : State) (p : Nat) (x : PortSt) : (s.setPort p x).thm = s.thm := by cases s; rfl
@[simp] theorem State.setPort_rad (s : State) (p : Nat) (x : PortSt) : (s.setPort p x).rad = s.rad := by cases s; rfl
@[simp] theorem State.setPort_cores (s : State) (p : Nat) (x : PortSt) : (s.setPort p x).cores = s.cores := by cases s; rfl
@[simp] theorem State.setPort_mbx (s : State) (p : Nat) (x : PortSt) : (s.setPort p x).mbx = s.mbx := by cases s; rfl
@[simp] theorem State.setPort_arb (s : State) (p : Nat) (x : PortSt) : (s.setPort p x).arb = s.arb := by cases s; rfl
@[simp] theorem State.setPort_clk (s : State) (p : Nat) (x : PortSt) : (s.setPort p x).clk = s.clk := by cases s; rfl
@[simp] theorem State.setPort_aux (s : State) (p : Nat) (x : PortSt) : (s.setPort p x).aux = s.aux := by cases s; rfl
@[simp] theorem State.setPort_hk (s : State) (p : Nat) (x : PortSt) : (s.setPort p x).hk = s.hk := by cases s; rfl
@[simp] theorem State.setPort_pwr (s : State) (p : Nat) (x : PortSt) : (s.setPort p x).pwr = s.pwr := by cases s; rfl
@[simp] theorem State.setPort_io (s : State) (p : Nat) (x : PortSt) : (s.setPort p x).io = s.io := by cases s; rfl
@[simp] theorem State.setPort_crossed (s : State) (p : Nat) (x : PortSt) : (s.setPort p x).crossed = s.crossed := by cases s; rfl
@[simp] theorem State.setPort_crossLost (s : State) (p : Nat) (x : PortSt) : (s.setPort p x).crossLost = s.crossLost := by cases s; rfl
@[simp] theorem State.setPort_irqB (s : State) (p : Nat) (x : PortSt) : (s.setPort p x).irqB = s.irqB := by cases s; rfl

@[simp] theorem State.setTb_pending (s : State) (n : Nat) (b : TimeBase) : (s.setTb n b).pending = s.pending := by cases s; rfl
@[simp] theorem State.setTb_now (s : State) (n : Nat) (b : TimeBase) : (s.setTb n b).now = s.now := by cases s; rfl
@[simp] theorem State.setTb_regs (s : State) (n : Nat) (b : TimeBase) : (s.setTb n b).regs = s.regs := by cases s; rfl
@[simp] theorem State.setTb_shadow (s : State) (n : Nat) (b : TimeBase) : (s.setTb n b).shadow = s.shadow := by cases s; rfl
@[simp] theorem State.setTb_armed (s : State) (n : Nat) (b : TimeBase) : (s.setTb n b).armed = s.armed := by cases s; rfl
@[simp] theorem State.setTb_resp (s : State) (n : Nat) (b : TimeBase) : (s.setTb n b).resp = s.resp := by cases s; rfl
@[simp] theorem State.setTb_freeCnt (s : State) (n : Nat) (b : TimeBase) : (s.setTb n b).freeCnt = s.freeCnt := by cases s; rfl
@[simp] theorem State.setTb_doms (s : State) (n : Nat) (b : TimeBase) : (s.setTb n b).doms = s.doms := by cases s; rfl
@[simp] theorem State.setTb_outbox (s : State) (n : Nat) (b : TimeBase) : (s.setTb n b).outbox = s.outbox := by cases s; rfl
@[simp] theorem State.setTb_hopOut (s : State) (n : Nat) (b : TimeBase) : (s.setTb n b).hopOut = s.hopOut := by cases s; rfl
@[simp] theorem State.setTb_mem (s : State) (n : Nat) (b : TimeBase) : (s.setTb n b).mem = s.mem := by cases s; rfl
@[simp] theorem State.setTb_staging (s : State) (n : Nat) (b : TimeBase) : (s.setTb n b).staging = s.staging := by cases s; rfl
@[simp] theorem State.setTb_live (s : State) (n : Nat) (b : TimeBase) : (s.setTb n b).live = s.live := by cases s; rfl
@[simp] theorem State.setTb_leaders (s : State) (n : Nat) (b : TimeBase) : (s.setTb n b).leaders = s.leaders := by cases s; rfl
@[simp] theorem State.setTb_invalidOut (s : State) (n : Nat) (b : TimeBase) : (s.setTb n b).invalidOut = s.invalidOut := by cases s; rfl
@[simp] theorem State.setTb_flt (s : State) (n : Nat) (b : TimeBase) : (s.setTb n b).flt = s.flt := by cases s; rfl
@[simp] theorem State.setTb_ports (s : State) (n : Nat) (b : TimeBase) : (s.setTb n b).ports = s.ports := by cases s; rfl
@[simp] theorem State.setTb_lineOut (s : State) (n : Nat) (b : TimeBase) : (s.setTb n b).lineOut = s.lineOut := by cases s; rfl
@[simp] theorem State.setTb_localIn (s : State) (n : Nat) (b : TimeBase) : (s.setTb n b).localIn = s.localIn := by cases s; rfl
@[simp] theorem State.setTb_txSeq (s : State) (n : Nat) (b : TimeBase) : (s.setTb n b).txSeq = s.txSeq := by cases s; rfl
@[simp] theorem State.setTb_splitAt (s : State) (n : Nat) (b : TimeBase) : (s.setTb n b).splitAt = s.splitAt := by cases s; rfl
@[simp] theorem State.setTb_splitUse (s : State) (n : Nat) (b : TimeBase) : (s.setTb n b).splitUse = s.splitUse := by cases s; rfl
@[simp] theorem State.setTb_rx (s : State) (n : Nat) (b : TimeBase) : (s.setTb n b).rx = s.rx := by cases s; rfl
@[simp] theorem State.setTb_tx (s : State) (n : Nat) (b : TimeBase) : (s.setTb n b).tx = s.tx := by cases s; rfl
@[simp] theorem State.setTb_nvm (s : State) (n : Nat) (b : TimeBase) : (s.setTb n b).nvm = s.nvm := by cases s; rfl
@[simp] theorem State.setTb_dpd (s : State) (n : Nat) (b : TimeBase) : (s.setTb n b).dpd = s.dpd := by cases s; rfl
@[simp] theorem State.setTb_bfm (s : State) (n : Nat) (b : TimeBase) : (s.setTb n b).bfm = s.bfm := by cases s; rfl
@[simp] theorem State.setTb_cal (s : State) (n : Nat) (b : TimeBase) : (s.setTb n b).cal = s.cal := by cases s; rfl
@[simp] theorem State.setTb_thm (s : State) (n : Nat) (b : TimeBase) : (s.setTb n b).thm = s.thm := by cases s; rfl
@[simp] theorem State.setTb_rad (s : State) (n : Nat) (b : TimeBase) : (s.setTb n b).rad = s.rad := by cases s; rfl
@[simp] theorem State.setTb_cores (s : State) (n : Nat) (b : TimeBase) : (s.setTb n b).cores = s.cores := by cases s; rfl
@[simp] theorem State.setTb_mbx (s : State) (n : Nat) (b : TimeBase) : (s.setTb n b).mbx = s.mbx := by cases s; rfl
@[simp] theorem State.setTb_arb (s : State) (n : Nat) (b : TimeBase) : (s.setTb n b).arb = s.arb := by cases s; rfl
@[simp] theorem State.setTb_clk (s : State) (n : Nat) (b : TimeBase) : (s.setTb n b).clk = s.clk := by cases s; rfl
@[simp] theorem State.setTb_aux (s : State) (n : Nat) (b : TimeBase) : (s.setTb n b).aux = s.aux := by cases s; rfl
@[simp] theorem State.setTb_hk (s : State) (n : Nat) (b : TimeBase) : (s.setTb n b).hk = s.hk := by cases s; rfl
@[simp] theorem State.setTb_pwr (s : State) (n : Nat) (b : TimeBase) : (s.setTb n b).pwr = s.pwr := by cases s; rfl
@[simp] theorem State.setTb_io (s : State) (n : Nat) (b : TimeBase) : (s.setTb n b).io = s.io := by cases s; rfl
@[simp] theorem State.setTb_crossed (s : State) (n : Nat) (b : TimeBase) : (s.setTb n b).crossed = s.crossed := by cases s; rfl
@[simp] theorem State.setTb_crossLost (s : State) (n : Nat) (b : TimeBase) : (s.setTb n b).crossLost = s.crossLost := by cases s; rfl
@[simp] theorem State.setTb_irqB (s : State) (n : Nat) (b : TimeBase) : (s.setTb n b).irqB = s.irqB := by cases s; rfl

@[simp] theorem State.setLdr_pending (s : State) (L : Nat) (x : LeaderSt) : (s.setLdr L x).pending = s.pending := by cases s; rfl
@[simp] theorem State.setLdr_now (s : State) (L : Nat) (x : LeaderSt) : (s.setLdr L x).now = s.now := by cases s; rfl
@[simp] theorem State.setLdr_regs (s : State) (L : Nat) (x : LeaderSt) : (s.setLdr L x).regs = s.regs := by cases s; rfl
@[simp] theorem State.setLdr_shadow (s : State) (L : Nat) (x : LeaderSt) : (s.setLdr L x).shadow = s.shadow := by cases s; rfl
@[simp] theorem State.setLdr_armed (s : State) (L : Nat) (x : LeaderSt) : (s.setLdr L x).armed = s.armed := by cases s; rfl
@[simp] theorem State.setLdr_resp (s : State) (L : Nat) (x : LeaderSt) : (s.setLdr L x).resp = s.resp := by cases s; rfl
@[simp] theorem State.setLdr_freeCnt (s : State) (L : Nat) (x : LeaderSt) : (s.setLdr L x).freeCnt = s.freeCnt := by cases s; rfl
@[simp] theorem State.setLdr_doms (s : State) (L : Nat) (x : LeaderSt) : (s.setLdr L x).doms = s.doms := by cases s; rfl
@[simp] theorem State.setLdr_tim (s : State) (L : Nat) (x : LeaderSt) : (s.setLdr L x).tim = s.tim := by cases s; rfl
@[simp] theorem State.setLdr_outbox (s : State) (L : Nat) (x : LeaderSt) : (s.setLdr L x).outbox = s.outbox := by cases s; rfl
@[simp] theorem State.setLdr_hopOut (s : State) (L : Nat) (x : LeaderSt) : (s.setLdr L x).hopOut = s.hopOut := by cases s; rfl
@[simp] theorem State.setLdr_mem (s : State) (L : Nat) (x : LeaderSt) : (s.setLdr L x).mem = s.mem := by cases s; rfl
@[simp] theorem State.setLdr_staging (s : State) (L : Nat) (x : LeaderSt) : (s.setLdr L x).staging = s.staging := by cases s; rfl
@[simp] theorem State.setLdr_live (s : State) (L : Nat) (x : LeaderSt) : (s.setLdr L x).live = s.live := by cases s; rfl
@[simp] theorem State.setLdr_invalidOut (s : State) (L : Nat) (x : LeaderSt) : (s.setLdr L x).invalidOut = s.invalidOut := by cases s; rfl
@[simp] theorem State.setLdr_flt (s : State) (L : Nat) (x : LeaderSt) : (s.setLdr L x).flt = s.flt := by cases s; rfl
@[simp] theorem State.setLdr_ports (s : State) (L : Nat) (x : LeaderSt) : (s.setLdr L x).ports = s.ports := by cases s; rfl
@[simp] theorem State.setLdr_lineOut (s : State) (L : Nat) (x : LeaderSt) : (s.setLdr L x).lineOut = s.lineOut := by cases s; rfl
@[simp] theorem State.setLdr_localIn (s : State) (L : Nat) (x : LeaderSt) : (s.setLdr L x).localIn = s.localIn := by cases s; rfl
@[simp] theorem State.setLdr_txSeq (s : State) (L : Nat) (x : LeaderSt) : (s.setLdr L x).txSeq = s.txSeq := by cases s; rfl
@[simp] theorem State.setLdr_splitAt (s : State) (L : Nat) (x : LeaderSt) : (s.setLdr L x).splitAt = s.splitAt := by cases s; rfl
@[simp] theorem State.setLdr_splitUse (s : State) (L : Nat) (x : LeaderSt) : (s.setLdr L x).splitUse = s.splitUse := by cases s; rfl
@[simp] theorem State.setLdr_rx (s : State) (L : Nat) (x : LeaderSt) : (s.setLdr L x).rx = s.rx := by cases s; rfl
@[simp] theorem State.setLdr_tx (s : State) (L : Nat) (x : LeaderSt) : (s.setLdr L x).tx = s.tx := by cases s; rfl
@[simp] theorem State.setLdr_nvm (s : State) (L : Nat) (x : LeaderSt) : (s.setLdr L x).nvm = s.nvm := by cases s; rfl
@[simp] theorem State.setLdr_dpd (s : State) (L : Nat) (x : LeaderSt) : (s.setLdr L x).dpd = s.dpd := by cases s; rfl
@[simp] theorem State.setLdr_bfm (s : State) (L : Nat) (x : LeaderSt) : (s.setLdr L x).bfm = s.bfm := by cases s; rfl
@[simp] theorem State.setLdr_cal (s : State) (L : Nat) (x : LeaderSt) : (s.setLdr L x).cal = s.cal := by cases s; rfl
@[simp] theorem State.setLdr_thm (s : State) (L : Nat) (x : LeaderSt) : (s.setLdr L x).thm = s.thm := by cases s; rfl
@[simp] theorem State.setLdr_rad (s : State) (L : Nat) (x : LeaderSt) : (s.setLdr L x).rad = s.rad := by cases s; rfl
@[simp] theorem State.setLdr_cores (s : State) (L : Nat) (x : LeaderSt) : (s.setLdr L x).cores = s.cores := by cases s; rfl
@[simp] theorem State.setLdr_mbx (s : State) (L : Nat) (x : LeaderSt) : (s.setLdr L x).mbx = s.mbx := by cases s; rfl
@[simp] theorem State.setLdr_arb (s : State) (L : Nat) (x : LeaderSt) : (s.setLdr L x).arb = s.arb := by cases s; rfl
@[simp] theorem State.setLdr_clk (s : State) (L : Nat) (x : LeaderSt) : (s.setLdr L x).clk = s.clk := by cases s; rfl
@[simp] theorem State.setLdr_aux (s : State) (L : Nat) (x : LeaderSt) : (s.setLdr L x).aux = s.aux := by cases s; rfl
@[simp] theorem State.setLdr_hk (s : State) (L : Nat) (x : LeaderSt) : (s.setLdr L x).hk = s.hk := by cases s; rfl
@[simp] theorem State.setLdr_pwr (s : State) (L : Nat) (x : LeaderSt) : (s.setLdr L x).pwr = s.pwr := by cases s; rfl
@[simp] theorem State.setLdr_io (s : State) (L : Nat) (x : LeaderSt) : (s.setLdr L x).io = s.io := by cases s; rfl
@[simp] theorem State.setLdr_crossed (s : State) (L : Nat) (x : LeaderSt) : (s.setLdr L x).crossed = s.crossed := by cases s; rfl
@[simp] theorem State.setLdr_crossLost (s : State) (L : Nat) (x : LeaderSt) : (s.setLdr L x).crossLost = s.crossLost := by cases s; rfl
@[simp] theorem State.setLdr_irqB (s : State) (L : Nat) (x : LeaderSt) : (s.setLdr L x).irqB = s.irqB := by cases s; rfl

@[simp] theorem State.raise_pending (s : State) (e : Fld) : (s.raise e).pending = s.pending := by simp only [State.raise, State.cross, State.when]; repeat (first | split | simp [State.eventFrame])
@[simp] theorem State.raise_now (s : State) (e : Fld) : (s.raise e).now = s.now := by simp only [State.raise, State.cross, State.when]; repeat (first | split | simp [State.eventFrame])
@[simp] theorem State.raise_shadow (s : State) (e : Fld) : (s.raise e).shadow = s.shadow := by simp only [State.raise, State.cross, State.when]; repeat (first | split | simp [State.eventFrame])
@[simp] theorem State.raise_armed (s : State) (e : Fld) : (s.raise e).armed = s.armed := by simp only [State.raise, State.cross, State.when]; repeat (first | split | simp [State.eventFrame])
@[simp] theorem State.raise_resp (s : State) (e : Fld) : (s.raise e).resp = s.resp := by simp only [State.raise, State.cross, State.when]; repeat (first | split | simp [State.eventFrame])
@[simp] theorem State.raise_freeCnt (s : State) (e : Fld) : (s.raise e).freeCnt = s.freeCnt := by simp only [State.raise, State.cross, State.when]; repeat (first | split | simp [State.eventFrame])
@[simp] theorem State.raise_doms (s : State) (e : Fld) : (s.raise e).doms = s.doms := by simp only [State.raise, State.cross, State.when]; repeat (first | split | simp [State.eventFrame])
@[simp] theorem State.raise_tim (s : State) (e : Fld) : (s.raise e).tim = s.tim := by simp only [State.raise, State.cross, State.when]; repeat (first | split | simp [State.eventFrame])
@[simp] theorem State.raise_hopOut (s : State) (e : Fld) : (s.raise e).hopOut = s.hopOut := by simp only [State.raise, State.cross, State.when]; repeat (first | split | simp [State.eventFrame])
@[simp] theorem State.raise_mem (s : State) (e : Fld) : (s.raise e).mem = s.mem := by simp only [State.raise, State.cross, State.when]; repeat (first | split | simp [State.eventFrame])
@[simp] theorem State.raise_staging (s : State) (e : Fld) : (s.raise e).staging = s.staging := by simp only [State.raise, State.cross, State.when]; repeat (first | split | simp [State.eventFrame])
@[simp] theorem State.raise_live (s : State) (e : Fld) : (s.raise e).live = s.live := by simp only [State.raise, State.cross, State.when]; repeat (first | split | simp [State.eventFrame])
@[simp] theorem State.raise_leaders (s : State) (e : Fld) : (s.raise e).leaders = s.leaders := by simp only [State.raise, State.cross, State.when]; repeat (first | split | simp [State.eventFrame])
@[simp] theorem State.raise_invalidOut (s : State) (e : Fld) : (s.raise e).invalidOut = s.invalidOut := by simp only [State.raise, State.cross, State.when]; repeat (first | split | simp [State.eventFrame])
@[simp] theorem State.raise_flt (s : State) (e : Fld) : (s.raise e).flt = s.flt := by simp only [State.raise, State.cross, State.when]; repeat (first | split | simp [State.eventFrame])
@[simp] theorem State.raise_ports (s : State) (e : Fld) : (s.raise e).ports = s.ports := by simp only [State.raise, State.cross, State.when]; repeat (first | split | simp [State.eventFrame])
@[simp] theorem State.raise_lineOut (s : State) (e : Fld) : (s.raise e).lineOut = s.lineOut := by simp only [State.raise, State.cross, State.when]; repeat (first | split | simp [State.eventFrame])
@[simp] theorem State.raise_localIn (s : State) (e : Fld) : (s.raise e).localIn = s.localIn := by simp only [State.raise, State.cross, State.when]; repeat (first | split | simp [State.eventFrame])
@[simp] theorem State.raise_txSeq (s : State) (e : Fld) : (s.raise e).txSeq = s.txSeq := by simp only [State.raise, State.cross, State.when]; repeat (first | split | simp [State.eventFrame])
@[simp] theorem State.raise_splitAt (s : State) (e : Fld) : (s.raise e).splitAt = s.splitAt := by simp only [State.raise, State.cross, State.when]; repeat (first | split | simp [State.eventFrame])
@[simp] theorem State.raise_splitUse (s : State) (e : Fld) : (s.raise e).splitUse = s.splitUse := by simp only [State.raise, State.cross, State.when]; repeat (first | split | simp [State.eventFrame])
@[simp] theorem State.raise_rx (s : State) (e : Fld) : (s.raise e).rx = s.rx := by simp only [State.raise, State.cross, State.when]; repeat (first | split | simp [State.eventFrame])
@[simp] theorem State.raise_tx (s : State) (e : Fld) : (s.raise e).tx = s.tx := by simp only [State.raise, State.cross, State.when]; repeat (first | split | simp [State.eventFrame])
@[simp] theorem State.raise_nvm (s : State) (e : Fld) : (s.raise e).nvm = s.nvm := by simp only [State.raise, State.cross, State.when]; repeat (first | split | simp [State.eventFrame])
@[simp] theorem State.raise_dpd (s : State) (e : Fld) : (s.raise e).dpd = s.dpd := by simp only [State.raise, State.cross, State.when]; repeat (first | split | simp [State.eventFrame])
@[simp] theorem State.raise_bfm (s : State) (e : Fld) : (s.raise e).bfm = s.bfm := by simp only [State.raise, State.cross, State.when]; repeat (first | split | simp [State.eventFrame])
@[simp] theorem State.raise_cal (s : State) (e : Fld) : (s.raise e).cal = s.cal := by simp only [State.raise, State.cross, State.when]; repeat (first | split | simp [State.eventFrame])
@[simp] theorem State.raise_thm (s : State) (e : Fld) : (s.raise e).thm = s.thm := by simp only [State.raise, State.cross, State.when]; repeat (first | split | simp [State.eventFrame])
@[simp] theorem State.raise_rad (s : State) (e : Fld) : (s.raise e).rad = s.rad := by simp only [State.raise, State.cross, State.when]; repeat (first | split | simp [State.eventFrame])
@[simp] theorem State.raise_cores (s : State) (e : Fld) : (s.raise e).cores = s.cores := by simp only [State.raise, State.cross, State.when]; repeat (first | split | simp [State.eventFrame])
@[simp] theorem State.raise_mbx (s : State) (e : Fld) : (s.raise e).mbx = s.mbx := by simp only [State.raise, State.cross, State.when]; repeat (first | split | simp [State.eventFrame])
@[simp] theorem State.raise_arb (s : State) (e : Fld) : (s.raise e).arb = s.arb := by simp only [State.raise, State.cross, State.when]; repeat (first | split | simp [State.eventFrame])
@[simp] theorem State.raise_clk (s : State) (e : Fld) : (s.raise e).clk = s.clk := by simp only [State.raise, State.cross, State.when]; repeat (first | split | simp [State.eventFrame])
@[simp] theorem State.raise_aux (s : State) (e : Fld) : (s.raise e).aux = s.aux := by simp only [State.raise, State.cross, State.when]; repeat (first | split | simp [State.eventFrame])
@[simp] theorem State.raise_hk (s : State) (e : Fld) : (s.raise e).hk = s.hk := by simp only [State.raise, State.cross, State.when]; repeat (first | split | simp [State.eventFrame])
@[simp] theorem State.raise_pwr (s : State) (e : Fld) : (s.raise e).pwr = s.pwr := by simp only [State.raise, State.cross, State.when]; repeat (first | split | simp [State.eventFrame])
@[simp] theorem State.raise_io (s : State) (e : Fld) : (s.raise e).io = s.io := by simp only [State.raise, State.cross, State.when]; repeat (first | split | simp [State.eventFrame])
@[simp] theorem State.raise_irqB (s : State) (e : Fld) : (s.raise e).irqB = s.irqB := by simp only [State.raise, State.cross, State.when]; repeat (first | split | simp [State.eventFrame])

@[simp] theorem State.detBit_pending (s : State) (x : Fld) : (s.detBit x).pending = s.pending := by simp only [State.detBit]; split <;> simp
@[simp] theorem State.detBit_now (s : State) (x : Fld) : (s.detBit x).now = s.now := by simp only [State.detBit]; split <;> simp
@[simp] theorem State.detBit_shadow (s : State) (x : Fld) : (s.detBit x).shadow = s.shadow := by simp only [State.detBit]; split <;> simp
@[simp] theorem State.detBit_armed (s : State) (x : Fld) : (s.detBit x).armed = s.armed := by simp only [State.detBit]; split <;> simp
@[simp] theorem State.detBit_resp (s : State) (x : Fld) : (s.detBit x).resp = s.resp := by simp only [State.detBit]; split <;> simp
@[simp] theorem State.detBit_freeCnt (s : State) (x : Fld) : (s.detBit x).freeCnt = s.freeCnt := by simp only [State.detBit]; split <;> simp
@[simp] theorem State.detBit_doms (s : State) (x : Fld) : (s.detBit x).doms = s.doms := by simp only [State.detBit]; split <;> simp
@[simp] theorem State.detBit_tim (s : State) (x : Fld) : (s.detBit x).tim = s.tim := by simp only [State.detBit]; split <;> simp
@[simp] theorem State.detBit_hopOut (s : State) (x : Fld) : (s.detBit x).hopOut = s.hopOut := by simp only [State.detBit]; split <;> simp
@[simp] theorem State.detBit_mem (s : State) (x : Fld) : (s.detBit x).mem = s.mem := by simp only [State.detBit]; split <;> simp
@[simp] theorem State.detBit_staging (s : State) (x : Fld) : (s.detBit x).staging = s.staging := by simp only [State.detBit]; split <;> simp
@[simp] theorem State.detBit_live (s : State) (x : Fld) : (s.detBit x).live = s.live := by simp only [State.detBit]; split <;> simp
@[simp] theorem State.detBit_leaders (s : State) (x : Fld) : (s.detBit x).leaders = s.leaders := by simp only [State.detBit]; split <;> simp
@[simp] theorem State.detBit_invalidOut (s : State) (x : Fld) : (s.detBit x).invalidOut = s.invalidOut := by simp only [State.detBit]; split <;> simp
@[simp] theorem State.detBit_flt (s : State) (x : Fld) : (s.detBit x).flt = s.flt := by simp only [State.detBit]; split <;> simp
@[simp] theorem State.detBit_ports (s : State) (x : Fld) : (s.detBit x).ports = s.ports := by simp only [State.detBit]; split <;> simp
@[simp] theorem State.detBit_lineOut (s : State) (x : Fld) : (s.detBit x).lineOut = s.lineOut := by simp only [State.detBit]; split <;> simp
@[simp] theorem State.detBit_localIn (s : State) (x : Fld) : (s.detBit x).localIn = s.localIn := by simp only [State.detBit]; split <;> simp
@[simp] theorem State.detBit_txSeq (s : State) (x : Fld) : (s.detBit x).txSeq = s.txSeq := by simp only [State.detBit]; split <;> simp
@[simp] theorem State.detBit_splitAt (s : State) (x : Fld) : (s.detBit x).splitAt = s.splitAt := by simp only [State.detBit]; split <;> simp
@[simp] theorem State.detBit_splitUse (s : State) (x : Fld) : (s.detBit x).splitUse = s.splitUse := by simp only [State.detBit]; split <;> simp
@[simp] theorem State.detBit_rx (s : State) (x : Fld) : (s.detBit x).rx = s.rx := by simp only [State.detBit]; split <;> simp
@[simp] theorem State.detBit_tx (s : State) (x : Fld) : (s.detBit x).tx = s.tx := by simp only [State.detBit]; split <;> simp
@[simp] theorem State.detBit_nvm (s : State) (x : Fld) : (s.detBit x).nvm = s.nvm := by simp only [State.detBit]; split <;> simp
@[simp] theorem State.detBit_dpd (s : State) (x : Fld) : (s.detBit x).dpd = s.dpd := by simp only [State.detBit]; split <;> simp
@[simp] theorem State.detBit_bfm (s : State) (x : Fld) : (s.detBit x).bfm = s.bfm := by simp only [State.detBit]; split <;> simp
@[simp] theorem State.detBit_cal (s : State) (x : Fld) : (s.detBit x).cal = s.cal := by simp only [State.detBit]; split <;> simp
@[simp] theorem State.detBit_thm (s : State) (x : Fld) : (s.detBit x).thm = s.thm := by simp only [State.detBit]; split <;> simp
@[simp] theorem State.detBit_rad (s : State) (x : Fld) : (s.detBit x).rad = s.rad := by simp only [State.detBit]; split <;> simp
@[simp] theorem State.detBit_cores (s : State) (x : Fld) : (s.detBit x).cores = s.cores := by simp only [State.detBit]; split <;> simp
@[simp] theorem State.detBit_mbx (s : State) (x : Fld) : (s.detBit x).mbx = s.mbx := by simp only [State.detBit]; split <;> simp
@[simp] theorem State.detBit_arb (s : State) (x : Fld) : (s.detBit x).arb = s.arb := by simp only [State.detBit]; split <;> simp
@[simp] theorem State.detBit_clk (s : State) (x : Fld) : (s.detBit x).clk = s.clk := by simp only [State.detBit]; split <;> simp
@[simp] theorem State.detBit_aux (s : State) (x : Fld) : (s.detBit x).aux = s.aux := by simp only [State.detBit]; split <;> simp
@[simp] theorem State.detBit_hk (s : State) (x : Fld) : (s.detBit x).hk = s.hk := by simp only [State.detBit]; split <;> simp
@[simp] theorem State.detBit_pwr (s : State) (x : Fld) : (s.detBit x).pwr = s.pwr := by simp only [State.detBit]; split <;> simp
@[simp] theorem State.detBit_io (s : State) (x : Fld) : (s.detBit x).io = s.io := by simp only [State.detBit]; split <;> simp
@[simp] theorem State.detBit_irqB (s : State) (x : Fld) : (s.detBit x).irqB = s.irqB := by simp only [State.detBit]; split <;> simp

@[simp] theorem State.logAccess_pending (s : State) (g a : Nat) (w : Bool) (c : Nat) : (s.logAccess g a w c).pending = s.pending := by simp only [State.logAccess]; split <;> simp
@[simp] theorem State.logAccess_now (s : State) (g a : Nat) (w : Bool) (c : Nat) : (s.logAccess g a w c).now = s.now := by simp only [State.logAccess]; split <;> simp
@[simp] theorem State.logAccess_shadow (s : State) (g a : Nat) (w : Bool) (c : Nat) : (s.logAccess g a w c).shadow = s.shadow := by simp only [State.logAccess]; split <;> simp
@[simp] theorem State.logAccess_armed (s : State) (g a : Nat) (w : Bool) (c : Nat) : (s.logAccess g a w c).armed = s.armed := by simp only [State.logAccess]; split <;> simp
@[simp] theorem State.logAccess_resp (s : State) (g a : Nat) (w : Bool) (c : Nat) : (s.logAccess g a w c).resp = s.resp := by simp only [State.logAccess]; split <;> simp
@[simp] theorem State.logAccess_freeCnt (s : State) (g a : Nat) (w : Bool) (c : Nat) : (s.logAccess g a w c).freeCnt = s.freeCnt := by simp only [State.logAccess]; split <;> simp
@[simp] theorem State.logAccess_doms (s : State) (g a : Nat) (w : Bool) (c : Nat) : (s.logAccess g a w c).doms = s.doms := by simp only [State.logAccess]; split <;> simp
@[simp] theorem State.logAccess_tim (s : State) (g a : Nat) (w : Bool) (c : Nat) : (s.logAccess g a w c).tim = s.tim := by simp only [State.logAccess]; split <;> simp
@[simp] theorem State.logAccess_hopOut (s : State) (g a : Nat) (w : Bool) (c : Nat) : (s.logAccess g a w c).hopOut = s.hopOut := by simp only [State.logAccess]; split <;> simp
@[simp] theorem State.logAccess_mem (s : State) (g a : Nat) (w : Bool) (c : Nat) : (s.logAccess g a w c).mem = s.mem := by simp only [State.logAccess]; split <;> simp
@[simp] theorem State.logAccess_staging (s : State) (g a : Nat) (w : Bool) (c : Nat) : (s.logAccess g a w c).staging = s.staging := by simp only [State.logAccess]; split <;> simp
@[simp] theorem State.logAccess_live (s : State) (g a : Nat) (w : Bool) (c : Nat) : (s.logAccess g a w c).live = s.live := by simp only [State.logAccess]; split <;> simp
@[simp] theorem State.logAccess_leaders (s : State) (g a : Nat) (w : Bool) (c : Nat) : (s.logAccess g a w c).leaders = s.leaders := by simp only [State.logAccess]; split <;> simp
@[simp] theorem State.logAccess_invalidOut (s : State) (g a : Nat) (w : Bool) (c : Nat) : (s.logAccess g a w c).invalidOut = s.invalidOut := by simp only [State.logAccess]; split <;> simp
@[simp] theorem State.logAccess_flt (s : State) (g a : Nat) (w : Bool) (c : Nat) : (s.logAccess g a w c).flt = s.flt := by simp only [State.logAccess]; split <;> simp
@[simp] theorem State.logAccess_ports (s : State) (g a : Nat) (w : Bool) (c : Nat) : (s.logAccess g a w c).ports = s.ports := by simp only [State.logAccess]; split <;> simp
@[simp] theorem State.logAccess_lineOut (s : State) (g a : Nat) (w : Bool) (c : Nat) : (s.logAccess g a w c).lineOut = s.lineOut := by simp only [State.logAccess]; split <;> simp
@[simp] theorem State.logAccess_localIn (s : State) (g a : Nat) (w : Bool) (c : Nat) : (s.logAccess g a w c).localIn = s.localIn := by simp only [State.logAccess]; split <;> simp
@[simp] theorem State.logAccess_txSeq (s : State) (g a : Nat) (w : Bool) (c : Nat) : (s.logAccess g a w c).txSeq = s.txSeq := by simp only [State.logAccess]; split <;> simp
@[simp] theorem State.logAccess_splitAt (s : State) (g a : Nat) (w : Bool) (c : Nat) : (s.logAccess g a w c).splitAt = s.splitAt := by simp only [State.logAccess]; split <;> simp
@[simp] theorem State.logAccess_splitUse (s : State) (g a : Nat) (w : Bool) (c : Nat) : (s.logAccess g a w c).splitUse = s.splitUse := by simp only [State.logAccess]; split <;> simp
@[simp] theorem State.logAccess_rx (s : State) (g a : Nat) (w : Bool) (c : Nat) : (s.logAccess g a w c).rx = s.rx := by simp only [State.logAccess]; split <;> simp
@[simp] theorem State.logAccess_tx (s : State) (g a : Nat) (w : Bool) (c : Nat) : (s.logAccess g a w c).tx = s.tx := by simp only [State.logAccess]; split <;> simp
@[simp] theorem State.logAccess_nvm (s : State) (g a : Nat) (w : Bool) (c : Nat) : (s.logAccess g a w c).nvm = s.nvm := by simp only [State.logAccess]; split <;> simp
@[simp] theorem State.logAccess_dpd (s : State) (g a : Nat) (w : Bool) (c : Nat) : (s.logAccess g a w c).dpd = s.dpd := by simp only [State.logAccess]; split <;> simp
@[simp] theorem State.logAccess_bfm (s : State) (g a : Nat) (w : Bool) (c : Nat) : (s.logAccess g a w c).bfm = s.bfm := by simp only [State.logAccess]; split <;> simp
@[simp] theorem State.logAccess_cal (s : State) (g a : Nat) (w : Bool) (c : Nat) : (s.logAccess g a w c).cal = s.cal := by simp only [State.logAccess]; split <;> simp
@[simp] theorem State.logAccess_thm (s : State) (g a : Nat) (w : Bool) (c : Nat) : (s.logAccess g a w c).thm = s.thm := by simp only [State.logAccess]; split <;> simp
@[simp] theorem State.logAccess_rad (s : State) (g a : Nat) (w : Bool) (c : Nat) : (s.logAccess g a w c).rad = s.rad := by simp only [State.logAccess]; split <;> simp
@[simp] theorem State.logAccess_cores (s : State) (g a : Nat) (w : Bool) (c : Nat) : (s.logAccess g a w c).cores = s.cores := by simp only [State.logAccess]; split <;> simp
@[simp] theorem State.logAccess_mbx (s : State) (g a : Nat) (w : Bool) (c : Nat) : (s.logAccess g a w c).mbx = s.mbx := by simp only [State.logAccess]; split <;> simp
@[simp] theorem State.logAccess_arb (s : State) (g a : Nat) (w : Bool) (c : Nat) : (s.logAccess g a w c).arb = s.arb := by simp only [State.logAccess]; split <;> simp
@[simp] theorem State.logAccess_clk (s : State) (g a : Nat) (w : Bool) (c : Nat) : (s.logAccess g a w c).clk = s.clk := by simp only [State.logAccess]; split <;> simp
@[simp] theorem State.logAccess_aux (s : State) (g a : Nat) (w : Bool) (c : Nat) : (s.logAccess g a w c).aux = s.aux := by simp only [State.logAccess]; split <;> simp
@[simp] theorem State.logAccess_hk (s : State) (g a : Nat) (w : Bool) (c : Nat) : (s.logAccess g a w c).hk = s.hk := by simp only [State.logAccess]; split <;> simp
@[simp] theorem State.logAccess_pwr (s : State) (g a : Nat) (w : Bool) (c : Nat) : (s.logAccess g a w c).pwr = s.pwr := by simp only [State.logAccess]; split <;> simp
@[simp] theorem State.logAccess_io (s : State) (g a : Nat) (w : Bool) (c : Nat) : (s.logAccess g a w c).io = s.io := by simp only [State.logAccess]; split <;> simp
@[simp] theorem State.logAccess_irqB (s : State) (g a : Nat) (w : Bool) (c : Nat) : (s.logAccess g a w c).irqB = s.irqB := by simp only [State.logAccess]; split <;> simp

@[simp] theorem State.errResp_pending (s : State) (g a : Nat) (w : Bool) (c : Nat) : (s.errResp g a w c).pending = s.pending := by simp [State.errResp]
@[simp] theorem State.errResp_now (s : State) (g a : Nat) (w : Bool) (c : Nat) : (s.errResp g a w c).now = s.now := by simp [State.errResp]
@[simp] theorem State.errResp_shadow (s : State) (g a : Nat) (w : Bool) (c : Nat) : (s.errResp g a w c).shadow = s.shadow := by simp [State.errResp]
@[simp] theorem State.errResp_armed (s : State) (g a : Nat) (w : Bool) (c : Nat) : (s.errResp g a w c).armed = s.armed := by simp [State.errResp]
@[simp] theorem State.errResp_freeCnt (s : State) (g a : Nat) (w : Bool) (c : Nat) : (s.errResp g a w c).freeCnt = s.freeCnt := by simp [State.errResp]
@[simp] theorem State.errResp_doms (s : State) (g a : Nat) (w : Bool) (c : Nat) : (s.errResp g a w c).doms = s.doms := by simp [State.errResp]
@[simp] theorem State.errResp_tim (s : State) (g a : Nat) (w : Bool) (c : Nat) : (s.errResp g a w c).tim = s.tim := by simp [State.errResp]
@[simp] theorem State.errResp_hopOut (s : State) (g a : Nat) (w : Bool) (c : Nat) : (s.errResp g a w c).hopOut = s.hopOut := by simp [State.errResp]
@[simp] theorem State.errResp_mem (s : State) (g a : Nat) (w : Bool) (c : Nat) : (s.errResp g a w c).mem = s.mem := by simp [State.errResp]
@[simp] theorem State.errResp_staging (s : State) (g a : Nat) (w : Bool) (c : Nat) : (s.errResp g a w c).staging = s.staging := by simp [State.errResp]
@[simp] theorem State.errResp_live (s : State) (g a : Nat) (w : Bool) (c : Nat) : (s.errResp g a w c).live = s.live := by simp [State.errResp]
@[simp] theorem State.errResp_leaders (s : State) (g a : Nat) (w : Bool) (c : Nat) : (s.errResp g a w c).leaders = s.leaders := by simp [State.errResp]
@[simp] theorem State.errResp_invalidOut (s : State) (g a : Nat) (w : Bool) (c : Nat) : (s.errResp g a w c).invalidOut = s.invalidOut := by simp [State.errResp]
@[simp] theorem State.errResp_flt (s : State) (g a : Nat) (w : Bool) (c : Nat) : (s.errResp g a w c).flt = s.flt := by simp [State.errResp]
@[simp] theorem State.errResp_ports (s : State) (g a : Nat) (w : Bool) (c : Nat) : (s.errResp g a w c).ports = s.ports := by simp [State.errResp]
@[simp] theorem State.errResp_lineOut (s : State) (g a : Nat) (w : Bool) (c : Nat) : (s.errResp g a w c).lineOut = s.lineOut := by simp [State.errResp]
@[simp] theorem State.errResp_localIn (s : State) (g a : Nat) (w : Bool) (c : Nat) : (s.errResp g a w c).localIn = s.localIn := by simp [State.errResp]
@[simp] theorem State.errResp_txSeq (s : State) (g a : Nat) (w : Bool) (c : Nat) : (s.errResp g a w c).txSeq = s.txSeq := by simp [State.errResp]
@[simp] theorem State.errResp_splitAt (s : State) (g a : Nat) (w : Bool) (c : Nat) : (s.errResp g a w c).splitAt = s.splitAt := by simp [State.errResp]
@[simp] theorem State.errResp_splitUse (s : State) (g a : Nat) (w : Bool) (c : Nat) : (s.errResp g a w c).splitUse = s.splitUse := by simp [State.errResp]
@[simp] theorem State.errResp_rx (s : State) (g a : Nat) (w : Bool) (c : Nat) : (s.errResp g a w c).rx = s.rx := by simp [State.errResp]
@[simp] theorem State.errResp_tx (s : State) (g a : Nat) (w : Bool) (c : Nat) : (s.errResp g a w c).tx = s.tx := by simp [State.errResp]
@[simp] theorem State.errResp_nvm (s : State) (g a : Nat) (w : Bool) (c : Nat) : (s.errResp g a w c).nvm = s.nvm := by simp [State.errResp]
@[simp] theorem State.errResp_dpd (s : State) (g a : Nat) (w : Bool) (c : Nat) : (s.errResp g a w c).dpd = s.dpd := by simp [State.errResp]
@[simp] theorem State.errResp_bfm (s : State) (g a : Nat) (w : Bool) (c : Nat) : (s.errResp g a w c).bfm = s.bfm := by simp [State.errResp]
@[simp] theorem State.errResp_cal (s : State) (g a : Nat) (w : Bool) (c : Nat) : (s.errResp g a w c).cal = s.cal := by simp [State.errResp]
@[simp] theorem State.errResp_thm (s : State) (g a : Nat) (w : Bool) (c : Nat) : (s.errResp g a w c).thm = s.thm := by simp [State.errResp]
@[simp] theorem State.errResp_rad (s : State) (g a : Nat) (w : Bool) (c : Nat) : (s.errResp g a w c).rad = s.rad := by simp [State.errResp]
@[simp] theorem State.errResp_cores (s : State) (g a : Nat) (w : Bool) (c : Nat) : (s.errResp g a w c).cores = s.cores := by simp [State.errResp]
@[simp] theorem State.errResp_mbx (s : State) (g a : Nat) (w : Bool) (c : Nat) : (s.errResp g a w c).mbx = s.mbx := by simp [State.errResp]
@[simp] theorem State.errResp_arb (s : State) (g a : Nat) (w : Bool) (c : Nat) : (s.errResp g a w c).arb = s.arb := by simp [State.errResp]
@[simp] theorem State.errResp_clk (s : State) (g a : Nat) (w : Bool) (c : Nat) : (s.errResp g a w c).clk = s.clk := by simp [State.errResp]
@[simp] theorem State.errResp_aux (s : State) (g a : Nat) (w : Bool) (c : Nat) : (s.errResp g a w c).aux = s.aux := by simp [State.errResp]
@[simp] theorem State.errResp_hk (s : State) (g a : Nat) (w : Bool) (c : Nat) : (s.errResp g a w c).hk = s.hk := by simp [State.errResp]
@[simp] theorem State.errResp_pwr (s : State) (g a : Nat) (w : Bool) (c : Nat) : (s.errResp g a w c).pwr = s.pwr := by simp [State.errResp]
@[simp] theorem State.errResp_io (s : State) (g a : Nat) (w : Bool) (c : Nat) : (s.errResp g a w c).io = s.io := by simp [State.errResp]
@[simp] theorem State.errResp_irqB (s : State) (g a : Nat) (w : Bool) (c : Nat) : (s.errResp g a w c).irqB = s.irqB := by simp [State.errResp]

@[simp] theorem State.refuse_pending (s : State) (g a : Nat) : (s.refuse g a).pending = s.pending := by simp [State.refuse]
@[simp] theorem State.refuse_now (s : State) (g a : Nat) : (s.refuse g a).now = s.now := by simp [State.refuse]
@[simp] theorem State.refuse_shadow (s : State) (g a : Nat) : (s.refuse g a).shadow = s.shadow := by simp [State.refuse]
@[simp] theorem State.refuse_armed (s : State) (g a : Nat) : (s.refuse g a).armed = s.armed := by simp [State.refuse]
@[simp] theorem State.refuse_freeCnt (s : State) (g a : Nat) : (s.refuse g a).freeCnt = s.freeCnt := by simp [State.refuse]
@[simp] theorem State.refuse_doms (s : State) (g a : Nat) : (s.refuse g a).doms = s.doms := by simp [State.refuse]
@[simp] theorem State.refuse_tim (s : State) (g a : Nat) : (s.refuse g a).tim = s.tim := by simp [State.refuse]
@[simp] theorem State.refuse_hopOut (s : State) (g a : Nat) : (s.refuse g a).hopOut = s.hopOut := by simp [State.refuse]
@[simp] theorem State.refuse_mem (s : State) (g a : Nat) : (s.refuse g a).mem = s.mem := by simp [State.refuse]
@[simp] theorem State.refuse_staging (s : State) (g a : Nat) : (s.refuse g a).staging = s.staging := by simp [State.refuse]
@[simp] theorem State.refuse_live (s : State) (g a : Nat) : (s.refuse g a).live = s.live := by simp [State.refuse]
@[simp] theorem State.refuse_leaders (s : State) (g a : Nat) : (s.refuse g a).leaders = s.leaders := by simp [State.refuse]
@[simp] theorem State.refuse_invalidOut (s : State) (g a : Nat) : (s.refuse g a).invalidOut = s.invalidOut := by simp [State.refuse]
@[simp] theorem State.refuse_flt (s : State) (g a : Nat) : (s.refuse g a).flt = s.flt := by simp [State.refuse]
@[simp] theorem State.refuse_ports (s : State) (g a : Nat) : (s.refuse g a).ports = s.ports := by simp [State.refuse]
@[simp] theorem State.refuse_lineOut (s : State) (g a : Nat) : (s.refuse g a).lineOut = s.lineOut := by simp [State.refuse]
@[simp] theorem State.refuse_localIn (s : State) (g a : Nat) : (s.refuse g a).localIn = s.localIn := by simp [State.refuse]
@[simp] theorem State.refuse_txSeq (s : State) (g a : Nat) : (s.refuse g a).txSeq = s.txSeq := by simp [State.refuse]
@[simp] theorem State.refuse_splitAt (s : State) (g a : Nat) : (s.refuse g a).splitAt = s.splitAt := by simp [State.refuse]
@[simp] theorem State.refuse_splitUse (s : State) (g a : Nat) : (s.refuse g a).splitUse = s.splitUse := by simp [State.refuse]
@[simp] theorem State.refuse_rx (s : State) (g a : Nat) : (s.refuse g a).rx = s.rx := by simp [State.refuse]
@[simp] theorem State.refuse_tx (s : State) (g a : Nat) : (s.refuse g a).tx = s.tx := by simp [State.refuse]
@[simp] theorem State.refuse_nvm (s : State) (g a : Nat) : (s.refuse g a).nvm = s.nvm := by simp [State.refuse]
@[simp] theorem State.refuse_dpd (s : State) (g a : Nat) : (s.refuse g a).dpd = s.dpd := by simp [State.refuse]
@[simp] theorem State.refuse_bfm (s : State) (g a : Nat) : (s.refuse g a).bfm = s.bfm := by simp [State.refuse]
@[simp] theorem State.refuse_cal (s : State) (g a : Nat) : (s.refuse g a).cal = s.cal := by simp [State.refuse]
@[simp] theorem State.refuse_thm (s : State) (g a : Nat) : (s.refuse g a).thm = s.thm := by simp [State.refuse]
@[simp] theorem State.refuse_rad (s : State) (g a : Nat) : (s.refuse g a).rad = s.rad := by simp [State.refuse]
@[simp] theorem State.refuse_cores (s : State) (g a : Nat) : (s.refuse g a).cores = s.cores := by simp [State.refuse]
@[simp] theorem State.refuse_mbx (s : State) (g a : Nat) : (s.refuse g a).mbx = s.mbx := by simp [State.refuse]
@[simp] theorem State.refuse_arb (s : State) (g a : Nat) : (s.refuse g a).arb = s.arb := by simp [State.refuse]
@[simp] theorem State.refuse_clk (s : State) (g a : Nat) : (s.refuse g a).clk = s.clk := by simp [State.refuse]
@[simp] theorem State.refuse_aux (s : State) (g a : Nat) : (s.refuse g a).aux = s.aux := by simp [State.refuse]
@[simp] theorem State.refuse_hk (s : State) (g a : Nat) : (s.refuse g a).hk = s.hk := by simp [State.refuse]
@[simp] theorem State.refuse_pwr (s : State) (g a : Nat) : (s.refuse g a).pwr = s.pwr := by simp [State.refuse]
@[simp] theorem State.refuse_io (s : State) (g a : Nat) : (s.refuse g a).io = s.io := by simp [State.refuse]
@[simp] theorem State.refuse_irqB (s : State) (g a : Nat) : (s.refuse g a).irqB = s.irqB := by simp [State.refuse]

end Sys2Proof.Machine
end

