-- ==== Sys2Proof/Laws/Settle.lean ====
section
/-! SUPPORT. What follows every command leaves alone: after `settle` every field outside `trailing` and every part of `inner` is as before, while no
core stands in a single step. -/

namespace Sys2Proof.Machine
open Sys2Proof

theorem Fld.ok_of (x : Fld) (h : (Nat.ble x.lo x.hi && Nat.blt x.hi 32) = true) : x.ok := by
  simp only [Bool.and_eq_true, Nat.ble_eq, Nat.blt_eq] at h
  exact h

theorem State.f_congr {s t : State} (h : t.regs = s.regs) (x : Fld) : t.f x = s.f x := by
  simp only [State.f, State.reg, h]

/-- `t` differs from `s` at most in what follows every command. -/
def State.trails (s t : State) : Prop := t.inner = s.inner ∧ s.fieldsBut t []

theorem State.trails_refl (s : State) : s.trails s := ⟨rfl, fun _ _ => rfl⟩

theorem State.trails_trans {s t u : State} (h : s.trails t) (k : t.trails u) : s.trails u :=
  ⟨k.1.trans h.1, fun x hx => (k.2 x hx).trans (h.2 x hx)⟩

/-- An update that keeps the register file and `inner`. -/
theorem State.trails_of {s t : State} (h : t.regs = s.regs) (k : t.inner = s.inner) : s.trails t :=
  ⟨k, fun x _ => State.f_congr h x⟩

@[simp] theorem State.inner_setReg (s : State) (a : Nat) (w : Word) : (s.setReg a w).inner = s.inner := by cases s; rfl
@[simp] theorem State.inner_setF (s : State) (x : Fld) (v : Nat) : (s.setF x v).inner = s.inner := State.inner_setReg _ _ _
@[simp] theorem State.inner_setFi (s : State) (x : Fld) (i : Int) : (s.setFi x i).inner = s.inner := State.inner_setReg _ _ _
@[simp] theorem State.inner_incBy (s : State) (x : Fld) (n : Nat) : (s.incBy x n).inner = s.inner := State.inner_setReg _ _ _
@[simp] theorem State.inner_inc (s : State) (x : Fld) : (s.inc x).inner = s.inner := State.inner_setReg _ _ _
@[simp] theorem State.inner_incMod (s : State) (x : Fld) : (s.incMod x).inner = s.inner := State.inner_setReg _ _ _
@[simp] theorem State.inner_setMask64 (s : State) (x y : Fld) (n : Nat) : (s.setMask64 x y n).inner = s.inner :=
  (State.inner_setF _ _ _).trans (State.inner_setF _ _ _)
@[simp] theorem State.inner_send (s : State) (f : Frame) : (s.send f).inner = s.inner := by cases s; rfl
theorem State.inner_cross (s : State) (b : Nat) (g : State → State) (h : ∀ u : State, (g u).inner = u.inner) : (s.cross b g).inner = s.inner := by
  unfold State.cross
  split
  · exact h s
  · split
    · rw [h]; rfl
    · rfl
@[simp] theorem State.inner_raise (s : State) (e : Fld) : (s.raise e).inner = s.inner := by
  rw [State.raise, State.inner_cross, State.inner_setF]
  intro u
  unfold State.when
  split
  · exact State.inner_send _ _
  · rfl
@[simp] theorem State.inner_detBit (s : State) (x : Fld) : (s.detBit x).inner = s.inner := by
  unfold State.detBit
  split
  · rfl
  · rw [State.inner_raise, State.inner_setF]

/-! ## Steps -/

theorem trailing_ok (y : Fld) (h : y ∈ trailing) : y.ok := by
  simp only [trailing, List.mem_append, List.mem_flatten, List.mem_map] at h
  rcases h with (h | ⟨_, ⟨p, _, rfl⟩, h⟩) | ⟨_, ⟨p, _, rfl⟩, h⟩
  · simp only [List.mem_cons, List.not_mem_nil, or_false] at h
    rcases h with rfl | rfl | rfl | rfl | rfl | rfl <;> exact Fld.ok_of _ rfl
  · simp only [trailingPort, List.mem_cons, List.not_mem_nil, or_false] at h
    rcases h with rfl | rfl | rfl | rfl | rfl | rfl | rfl | rfl | rfl <;> exact Fld.ok_of _ rfl
  · simp only [List.mem_cons, List.not_mem_nil, or_false] at h
    rcases h with rfl | rfl <;> exact Fld.ok_of _ rfl

theorem State.trails_setF (s : State) (y : Fld) (v : Nat) (h : y ∈ trailing) : s.trails (s.setF y v) :=
  ⟨State.inner_setF _ _ _, fun _ hx => State.f_setF_ne _ _ _ _ (trailing_ok y h) (hx y h)⟩

theorem State.trails_raise (s : State) (y : Fld) (h : y ∈ trailing) : s.trails (s.raise y) :=
  ⟨State.inner_raise _ _, fun _ hx => State.f_raise_ne _ _ _ (trailing_ok y h) (hx y h)⟩

theorem trailingPort_mem {p : Nat} (hp : p < 6) {y : Fld} (h : y ∈ trailingPort p) : y ∈ trailing := by
  simp only [trailing, List.mem_append, List.mem_flatten, List.mem_map]
  exact Or.inl (Or.inr ⟨_, ⟨p, List.mem_range.2 hp, rfl⟩, h⟩)

theorem bias_mem {n : Nat} (hn : n < 128) {y : Fld} (h : y = F.AUX.BIAS_BUSY n ∨ y = F.AUX.BIAS_HELD n) : y ∈ trailing := by
  simp only [trailing, List.mem_append, List.mem_flatten, List.mem_map]
  exact Or.inr ⟨_, ⟨n, List.mem_range.2 hn, rfl⟩, by simpa using h⟩

theorem map_setNth_eq {α β : Type} (g : α → β) (d : α) (l : List α) (p : Nat) (x : α) (h : g x = g (l.getD p d)) : (setNth l p x).map g = l.map g := by
  apply List.ext_getElem
  · simp [setNth]
  · intro i h1 h2
    simp only [setNth, List.map_set, List.getElem_set, List.getElem_map]
    split
    · subst_vars
      simp only [List.length_map] at h2
      rw [h]
      simp [List.getD_eq_getElem?_getD, h2]
    · rfl

theorem State.trails_setPort (s : State) (p : Nat) (x : PortSt) (h : x.inner = (s.port p).inner) : s.trails (s.setPort p x) := by
  refine State.trails_of rfl ?_
  have := map_setNth_eq PortSt.inner {} s.ports p x h
  simp only [State.inner, State.setPort, this]

@[simp] theorem State.port_setF (s : State) (x : Fld) (v p : Nat) : (s.setF x v).port p = s.port p := by simp only [State.port, State.setF_ports]

theorem State.trails_andPort {s u : State} (h : s.trails u) {p : Nat} {x : PortSt} (hx : x.inner = (u.port p).inner) : s.trails (u.setPort p x) :=
  State.trails_trans h (State.trails_setPort _ _ _ hx)

theorem State.trails_andF {s u : State} (h : s.trails u) {p : Nat} {y : Fld} {v : Nat} (hp : p < 6) (hy : y ∈ trailingPort p) : s.trails (u.setF y v) :=
  State.trails_trans h (State.trails_setF _ _ _ (trailingPort_mem hp hy))

theorem State.trails_andRaise {s u : State} (h : s.trails u) {p : Nat} {y : Fld} (hp : p < 6) (hy : y ∈ trailingPort p) : s.trails (u.raise y) :=
  State.trails_trans h (State.trails_raise _ _ (trailingPort_mem hp hy))

theorem State.trails_ite {s t u : State} {c : Prop} [Decidable c] (h : c → s.trails t) (k : ¬c → s.trails u) : s.trails (if c then t else u) := by
  split
  · exact h ‹_›
  · exact k ‹_›

theorem State.trails_each {α : Type} (g : State → α → State) (l : List α) (h : ∀ (s : State) a, a ∈ l → s.trails (g s a)) : ∀ s : State, s.trails (s.each l g) := by
  induction l with
  | nil => intro s; exact s.trails_refl
  | cons a l ih =>
    intro s
    exact State.trails_trans (h s a (by simp)) (ih (fun (s : State) b hb => h s b (by simp [hb])) _)

theorem State.trails_when (s : State) (c : Bool) (g : State → State) (h : s.trails (g s)) : s.trails (s.when c g) := by
  unfold State.when; split
  · exact h
  · exact s.trails_refl

/-! ## The pins and the bias DACs -/

theorem State.trails_pinsFollow (s : State) : s.trails s.pinsFollow := by
  unfold State.pinsFollow
  refine State.trails_trans (t := if s.aux.pa = 0 then s else { s with tim := { s.tim with nlTxAt := max s.tim.nlTxAt s.now } }) ?_ ?_
  · split <;> exact State.trails_of rfl rfl
  · generalize (if s.aux.pa = 0 then s else { s with tim := { s.tim with nlTxAt := max s.tim.nlTxAt s.now } }) = u
    simp only
    repeat (first | exact State.trails_of rfl rfl | split)

theorem State.trails_coexFollow (s : State) : s.trails s.coexFollow := by
  refine State.trails_each _ _ (fun (s : State) n _ => ?_) s
  split
  · exact s.trails_refl
  · exact State.trails_of rfl rfl

theorem State.trails_setDac (s : State) (n : Nat) (x : BiasDac) : s.trails (s.setDac n x) := State.trails_of rfl rfl

theorem State.trails_biasApply (s : State) {n : Nat} (v : Nat) (hn : n < 128) : s.trails (s.biasApply n v) := by
  unfold State.biasApply
  simp only
  split
  · exact State.trails_setDac _ _ _
  · exact State.trails_trans (State.trails_setDac _ _ _) (State.trails_setF _ _ _ (bias_mem hn (Or.inl rfl)))

theorem State.trails_biasFollow (s : State) : s.trails s.biasFollow := by
  refine State.trails_each _ _ (fun (s : State) n hn => ?_) s
  have hn := List.mem_range.1 hn
  split
  · split
    · exact s.trails_refl
    · exact State.trails_trans (State.trails_trans (State.trails_setDac _ _ _) (State.trails_setF _ _ _ (bias_mem hn (Or.inl rfl))))
        (State.trails_setF _ _ _ (bias_mem hn (Or.inr rfl)))
  · split
    · exact State.trails_trans (State.trails_setF _ _ _ (bias_mem hn (Or.inr rfl))) (State.trails_biasApply _ _ hn)
    · exact s.trails_refl

theorem State.trails_throttleHolds (s : State) : s.trails s.throttleHolds := by
  unfold State.throttleHolds
  split
  · unfold State.detBit
    split
    · exact s.trails_refl
    · exact State.trails_trans (State.trails_setF _ _ _ (by simp [trailing])) (State.trails_raise _ _ (by simp [trailing]))
  · exact s.trails_refl

/-! ## Frames on their way out and the transmitters -/

theorem State.trails_setTb_exch (s : State) (n : Nat) (x : Option Exchange)
    (h : x.map (fun e => { e with t3 := 0 }) = (s.tb n).exch.map (fun e => { e with t3 := 0 })) : s.trails (s.setTb n { s.tb n with exch := x }) := by
  refine State.trails_of rfl ?_
  have := map_setNth_eq TimeBase.inner {} s.tim.bases n { s.tb n with exch := x } (by simp only [TimeBase.inner, h]; rfl)
  simp only [State.inner, State.setTb, this]

theorem State.trails_reqDeparts (s : State) (pl : List Byte) (t : Nat) : s.trails (s.reqDeparts pl t) := by
  unfold State.reqDeparts
  simp only
  split
  · refine State.trails_setTb_exch _ _ _ ?_
    cases (s.tb (timeBase pl)).exch <;> rfl
  · exact s.trails_refl

theorem State.trails_tickFree (s : State) : s.trails s.tickFree := State.trails_of rfl rfl
theorem State.trails_injTake (s : State) (d p : Nat) : s.trails (s.injTake d p) := by
  unfold State.injTake
  repeat (first | exact State.trails_of rfl rfl | split)

theorem State.trails_depart (s : State) (p : Nat) (l : LineFrame) : s.trails (s.depart p l).1 := by
  unfold State.depart
  split
  · extract_lets timed s1 _ l1 t pl s2 _ l2
    have h : s.trails s2 := by
      refine State.trails_trans (t := s1) ?_ ?_
      · exact State.trails_ite (fun _ => State.trails_tickFree _) (fun _ => s.trails_refl)
      · exact State.trails_ite (fun _ => State.trails_reqDeparts _ _ _) (fun _ => State.trails_refl _)
    split
    · exact State.trails_trans h (State.trails_injTake _ _ _)
    · split
      · exact State.trails_trans h (State.trails_injTake _ _ _)
      · exact h
  · exact s.trails_refl

theorem State.reqDeparts_ports (s : State) (pl : List Byte) (t : Nat) : (s.reqDeparts pl t).ports = s.ports := by
  unfold State.reqDeparts
  simp only
  split <;> rfl

theorem ite_ports {c : Prop} [Decidable c] {s t u : State} (h : t.ports = s.ports) (k : u.ports = s.ports) : (if c then t else u).ports = s.ports := by
  split
  · exact h
  · exact k

theorem State.depart_ports (s : State) (p : Nat) (l : LineFrame) : (s.depart p l).1.ports = s.ports := by
  unfold State.depart
  split
  · extract_lets timed s1 _ l1 t pl s2 _ l2
    have h1 : s1.ports = s.ports := ite_ports rfl rfl
    have h : s2.ports = s.ports := (ite_ports (State.reqDeparts_ports _ _ _) rfl).trans h1
    split
    · exact h
    · split
      · exact h
      · exact h
  · rfl

theorem State.trails_startNext (s : State) (o : Nat) : s.trails (s.startNext o) := by
  unfold State.startNext
  simp only
  split
  · split
    · exact s.trails_refl
    · rename_i l _
      refine State.trails_trans (State.trails_depart s o l) (State.trails_setPort _ _ _ ?_)
      have : (s.depart o l).1.port o = s.port o := by simp only [State.port, State.depart_ports]
      rw [this]
      rfl
  · exact s.trails_refl

theorem State.trails_sleepCode (s : State) {p : Nat} (c : Nat) (hp : p < 6) : s.trails (s.sleepCode p c) :=
  State.trails_andRaise (State.trails_andF s.trails_refl hp (by simp [trailingPort])) hp (by simp [trailingPort])

theorem State.trails_refuseTx (s : State) {p : Nat} (c : Nat) (hp : p < 6) : s.trails (s.refuseTx p c) := by
  unfold State.refuseTx
  have h : s.trails ((s.setF (F.LNK.SLEEP_CTRL_TX_SLEEP p) 0).setPort p { s.port p with reqTx := none, ackGot := false, wakeAfter := false }) :=
    State.trails_andPort (State.trails_andF s.trails_refl hp (by simp [trailingPort])) (by rw [State.port_setF]; rfl)
  exact State.trails_trans (State.trails_trans h (State.trails_sleepCode _ _ hp)) (State.trails_startNext _ _)

theorem State.trails_setTxDir (s : State) {p : Nat} (d : Nat) (hp : p < 6) : s.trails (s.setTxDir p d) :=
  State.trails_ite (fun _ => s.trails_refl)
    (fun _ => State.trails_andRaise (State.trails_andF s.trails_refl hp (by simp [trailingPort])) hp (by simp [trailingPort]))

theorem State.trails_setRxDir (s : State) {p : Nat} (d : Nat) (hp : p < 6) : s.trails (s.setRxDir p d) :=
  State.trails_ite (fun _ => s.trails_refl)
    (fun _ => State.trails_andRaise (State.trails_andF s.trails_refl hp (by simp [trailingPort])) hp (by simp [trailingPort]))

theorem State.trails_txWake (s : State) {p : Nat} (hp : p < 6) : s.trails (s.txWake p) := by
  unfold State.txWake
  extract_lets x
  refine State.trails_ite (fun _ => ?_) (fun _ => State.trails_ite (fun _ => s.trails_refl) (fun _ => State.trails_ite (fun _ => ?_) (fun _ => ?_)))
  · have h : s.trails (s.setPort p { x with txWakeAt := s.now }) := State.trails_setPort s p { x with txWakeAt := s.now } rfl
    exact State.trails_trans h (State.trails_setTxDir (s.setPort p { x with txWakeAt := s.now }) 2 hp)
  · exact State.trails_setPort s p { x with wakeAfter := true } rfl
  · exact State.trails_andF s.trails_refl hp (by simp [trailingPort])

theorem State.trails_enterTxIdle (s : State) {p : Nat} (hp : p < 6) : s.trails (s.enterTxIdle p) := by
  unfold State.enterTxIdle
  extract_lets x s1 s2
  have h : s.trails s1 := State.trails_andPort (State.trails_andF s.trails_refl hp (by simp [trailingPort])) (by rw [State.port_setF]; rfl)
  have h := State.trails_trans h (State.trails_setTxDir s1 1 hp)
  exact State.trails_ite (fun _ => State.trails_trans h (State.trails_txWake _ hp)) (fun _ => h)

theorem State.trails_trySleep (s : State) {p : Nat} (hp : p < 6) : s.trails (s.trySleep p) :=
  State.trails_ite (fun _ => State.trails_enterTxIdle _ hp) (fun _ => s.trails_refl)

theorem State.trails_enterRxIdle (s : State) {p : Nat} (hp : p < 6) : s.trails (s.enterRxIdle p) := by
  unfold State.enterRxIdle
  extract_lets _ s1
  have h : s.trails s1 := State.trails_setPort _ _ _ rfl
  exact State.trails_trans (State.trails_andF (State.trails_andF h hp (by simp [trailingPort])) hp (by simp [trailingPort])) (State.trails_setRxDir _ _ hp)

theorem State.trails_queueWakes (s : State) {p : Nat} (hp : p < 6) : s.trails (s.queueWakes p) := by
  unfold State.queueWakes
  extract_lets u
  have h : s.trails u := State.trails_ite (fun _ => State.trails_refuseTx _ _ hp) (fun _ => s.trails_refl)
  exact State.trails_ite (fun _ => State.trails_trans h (State.trails_txWake _ hp)) (fun _ => h)

theorem members_lt (s : State) {o p : Nat} (ho : o < 6) (h : p ∈ s.members o) : p < 6 := by
  unfold State.members at h
  split at h
  · simp only [List.mem_cons, List.not_mem_nil, or_false] at h
    rcases h with rfl | rfl <;> omega
  · simp only [List.mem_cons, List.not_mem_nil, or_false] at h
    omega

theorem State.trails_enqueue (s : State) (o : Nat) (l : LineFrame) : s.trails (s.enqueue o l) := by
  unfold State.enqueue
  split
  · exact s.trails_refl
  · rename_i h
    refine State.trails_trans (State.trails_setPort s o { s.port o with queue := (s.port o).queue ++ [l] } rfl) ?_
    refine State.trails_trans (State.trails_each _ _ (fun (u : State) p hp => ?_) _) (State.trails_startNext _ _)
    exact State.trails_queueWakes _ (members_lt _ (Nat.lt_of_not_le h) (List.mem_filter.1 hp).1)

theorem State.trails_noRoute (s : State) : s.trails s.noRoute :=
  State.trails_trans (State.trails_setF _ _ _ (by simp [trailing])) (State.trails_raise _ _ (by simp [trailing]))

theorem State.trails_seqNext (s : State) (f : Frame) : s.trails (s.seqNext f) := State.trails_of rfl rfl

theorem State.trails_flushOut (s : State) : s.trails s.flushOut := by
  unfold State.flushOut
  simp only
  refine State.trails_trans (t := { s with hopOut := [], outbox := [] }) (State.trails_of rfl rfl) ?_
  refine State.trails_trans (State.trails_each _ _ (fun (s : State) a _ => ?_) _) (State.trails_each _ _ (fun (s : State) f _ => ?_) _)
  · exact State.trails_trans (State.trails_seqNext _ _) (State.trails_enqueue _ _ _)
  · split
    · exact State.trails_trans (State.trails_seqNext _ _) (State.trails_noRoute _)
    · exact State.trails_trans (State.trails_seqNext _ _) (State.trails_each _ _ (fun s o _ => State.trails_enqueue _ _ _) _)

theorem State.trails_setActive (s : State) (m : Nat) (b : Bool) : s.trails (s.setActive m b) := by
  unfold State.setActive
  split
  · exact s.trails_refl
  · exact State.trails_trans (State.trails_setF _ _ _ (by simp [trailing])) (State.trails_when _ _ _ (State.trails_raise _ _ (by simp [trailing])))

theorem State.trails_bondSent (s : State) (p : Nat) : s.trails (s.bondSent p) := by
  unfold State.bondSent
  extract_lets x u
  have h : s.trails u := State.trails_setPort _ _ _ rfl
  exact State.trails_ite (fun _ => s.trails_refl)
    (fun _ => State.trails_ite (fun _ => State.trails_trans h (State.trails_setActive _ _ _)) (fun _ => h))

theorem State.trails_sigSent (s : State) {p : Nat} (hp : p < 6) : s.trails (s.sigSent p) := by
  unfold State.sigSent
  extract_lets x u _ v
  have h : s.trails u := State.trails_ite (fun _ => State.trails_enterRxIdle _ hp) (fun _ => s.trails_refl)
  have h : s.trails v := State.trails_ite (fun _ => State.trails_andPort h rfl) (fun _ => h)
  exact State.trails_trans h (State.trails_trySleep _ hp)

theorem State.trails_txPeriod (s : State) {p : Nat} (hp : p < 6) : s.trails (s.txPeriod p) := by
  unfold State.txPeriod
  extract_lets x train per u o _ v
  have h : s.trails u := State.trails_setPort _ _ _ rfl
  have h : s.trails v := State.trails_ite (fun _ => State.trails_andPort h rfl) (fun _ => h)
  exact State.trails_trans (State.trails_trans h (State.trails_bondSent _ _)) (State.trails_sigSent _ hp)

theorem State.trails_txPeriods (n : Nat) {p : Nat} (hp : p < 6) : ∀ s : State, s.trails (s.txPeriods p n) := by
  induction n with
  | zero => intro s; exact s.trails_refl
  | succ n ih =>
    intro s
    unfold State.txPeriods
    simp only
    split
    · exact State.trails_trans (State.trails_txPeriod _ hp) (ih _)
    · exact s.trails_refl

theorem State.trails_txIdles (s : State) {p : Nat} (hp : p < 6) : s.trails (s.txIdles p) := by
  unfold State.txIdles
  extract_lets x n u
  have h : s.trails u := State.trails_setPort _ _ _ rfl
  exact State.trails_ite (fun _ => State.trails_trans h (State.trails_txPeriod _ hp)) (fun _ => s.trails_refl)

theorem State.trails_txAwake (s : State) {p : Nat} (hp : p < 6) : s.trails (s.txAwake p) := by
  unfold State.txAwake
  extract_lets x per u
  have h : s.trails u := State.trails_setPort _ _ _ rfl
  have h := State.trails_trans (State.trails_andF (v := 0) h hp (y := F.LNK.SLEEP_CTRL_TX_WAKE p) (by simp [trailingPort])) (State.trails_setTxDir _ 0 hp)
  exact State.trails_trans (State.trails_trans h (State.trails_sigSent _ hp)) (State.trails_startNext _ _)

theorem State.trails_ropeRun (s : State) : s.trails s.ropeRun := by
  refine State.trails_each _ _ (fun (s : State) p hp => ?_) s
  have hp := List.mem_range.1 hp
  extract_lets u
  have h : s.trails u := State.trails_ite (fun _ => State.trails_txAwake _ hp) (fun _ => s.trails_refl)
  exact State.trails_ite (fun _ => State.trails_trans h (State.trails_trans (State.trails_txPeriods _ hp _) (State.trails_txIdles _ hp))) (fun _ => h)

theorem State.trails_refresh (s : State) : s.trails s.refresh := State.trails_of rfl rfl

theorem State.stepRun_calm (s : State) (h : s.calm) : s.stepRun = s := by
  have : (List.range 34).filter (fun n => (s.core n).stepping) = [] := by
    apply List.filter_eq_nil_iff.2
    intro n _
    have : (s.core n).stepping = false := by
      simp only [State.core, List.getD_eq_getElem?_getD]
      cases e : s.cores[n]? with
      | none => rfl
      | some c => exact h c (List.mem_of_getElem? e)
    simp [this]
  rw [State.stepRun, this]
  rfl

/-- What follows every command changes nothing but trailing fields and what `inner` leaves out. -/
theorem State.trails_settle (s : State) (h : s.calm) : s.trails s.settle := by
  rw [State.settle, State.stepRun_calm s h]
  refine State.trails_trans ?_ (State.trails_refresh _)
  refine State.trails_trans ?_ (State.trails_flushOut _)
  refine State.trails_trans ?_ (State.trails_ropeRun _)
  refine State.trails_trans ?_ (State.trails_throttleHolds _)
  refine State.trails_trans ?_ (State.trails_coexFollow _)
  exact State.trails_trans (State.trails_pinsFollow s) (State.trails_biasFollow _)

/-- A field apart from the trailing ones. -/
theorem State.f_settle (s : State) (h : s.calm) (x : Fld) (hx : ∀ y ∈ trailing, y.apart x) : s.settle.f x = s.f x := (s.trails_settle h).2 x hx

theorem State.inner_settle (s : State) (h : s.calm) : s.settle.inner = s.inner := (s.trails_settle h).1

end Sys2Proof.Machine
end

