-- ==== Sys2Proof/Laws/Issue.lean ====
section
/-! SUPPORT. The issue of an instruction by a core that is ready for it, and how a command of an agent that is served ends. -/

namespace Sys2Proof.Machine
open Sys2Proof

/-! ## Accesses -/

theorem State.does_true (s : State) (g : State → State) : s.does true g = .next (g s).settle := rfl

/-- A register write of an agent that is served acts. -/
theorem State.wr_serves (s : State) (agent a : Nat) (g : State → State) (r : Bool) (hr : r = true) (h : s.serves agent a true) :
    s.wr r agent a g = .next (g s).settle := by
  have hd : decide (agent < 36) = true := decide_eq_true h.1
  simp [State.wr, State.does, State.gate, State.done, hr, hd, h.2.1, h.2.2]

/-- A register read of an agent that is served acts. -/
theorem State.rd_serves (s : State) (agent a : Nat) (g : State → State) (r : Bool) (hr : r = true) (h : s.serves agent a false) :
    s.rd r agent a g = .next (g s).settle := by
  have hd : decide (agent < 36) = true := decide_eq_true h.1
  simp [State.rd, State.does, State.gate, State.done, hr, hd, h.2.1, h.2.2]

/-! ## Cores -/

theorem State.fetchCheck_good (s : State) (n : Nat) (h : s.runs n) : s.fetchCheck n = (s, true) := by
  obtain ⟨_, _, _, ha, hb, hi, _⟩ := h
  simp [State.fetchCheck, State.coreEcc, hi, ha, hb]

/-- A core that is ready issues: one issue passes, is counted, and the instruction has its effect. -/
theorem State.coreIssueWith_ready (s : State) (n : Nat) (o : Op) (full : Bool) (h : s.readyFor n o) :
    s.coreIssueWith n o full = (((s.modCore n (·.passIssues 1)).countIssues n 1).execOp n o full).afterIssue n := by
  obtain ⟨hr, ho, hs, hz⟩ := h
  have hf := State.fetchCheck_good s n hr
  obtain ⟨hn, hst, hres, _, _, _, hrep, _⟩ := hr
  have hg : s.coreGoes n = true := by simp [State.coreGoes, hn, hst, hres]
  have hsl : ((s.core n).slots != 0 && !o.slotOk) = false := by
    cases e : o.slotOk
    · simp only [Bool.not_false, Bool.and_true, bne_eq_false_iff_eq]
      cases Nat.decEq (s.core n).slots 0 with
      | isTrue h => exact h
      | isFalse h => exact absurd (hs h) (by simp [e])
    · simp
  simp [State.coreIssueWith, hg, hf, hrep, ho, hsl, hz]

/-- Core n holds what was put there, if there is such a core. -/
theorem State.core_setCore_self (s : State) (n : Nat) (c : Core) (h : n < s.cores.length) : (s.setCore n c).core n = c := by
  simp [State.core, State.setCore, setNth, List.getD_eq_getElem?_getD, h]

theorem State.core_setCore_ne (s : State) {n k : Nat} (c : Core) (h : k ≠ n) : (s.setCore n c).core k = s.core k := by
  simp only [State.core, State.setCore, setNth, List.getD_eq_getElem?_getD]
  rw [List.getElem?_set_ne (Ne.symm h)]

@[simp] theorem State.core_setF (s : State) (x : Fld) (v n : Nat) : (s.setF x v).core n = s.core n := by
  simp only [State.core, State.setF_cores]

@[simp] theorem State.core_countIssues (s : State) (m k n : Nat) : (s.countIssues m k).core n = s.core n := State.core_setF _ _ _ _

theorem setNth_setNth {α : Type} (l : List α) (n : Nat) (x y : α) : setNth (setNth l n x) n y = setNth l n y := by simp [setNth]

/-- Both flags of a core that may have been put there. -/
theorem State.core_setCore_flag (s : State) (n : Nat) (c : Core) (g : Core → Bool) (h : g c = false) (h0 : g {} = false) : g ((s.setCore n c).core n) = false := by
  by_cases hl : n < s.cores.length
  · rw [State.core_setCore_self s n c hl, h]
  · have : (s.setCore n c).core n = {} := by
      simp only [State.core, State.setCore, setNth, List.getD_eq_getElem?_getD]
      rw [List.getElem?_eq_none (by simp; omega)]; rfl
    rw [this, h0]

/-- A core without a word of its own reads as a core at reset. -/
theorem State.core_modCore_pass (s : State) (n k : Nat) : (s.modCore n (·.passIssues k)).core n = (s.core n).passIssues k := by
  by_cases hl : n < s.cores.length
  · rw [State.modCore, State.core_setCore_self s n _ hl]
  · have h1 : s.core n = {} := by
      simp only [State.core, List.getD_eq_getElem?_getD]
      rw [List.getElem?_eq_none (by omega)]; rfl
    have h2 : (s.modCore n (·.passIssues k)).core n = {} := by
      simp only [State.modCore, State.core, State.setCore, setNth, List.getD_eq_getElem?_getD]
      rw [List.getElem?_eq_none (by simp; omega)]; rfl
    rw [h1, h2]; rfl

theorem TKC_cnt_apart_status (n m : Nat) : (F.TKC.C_CNT0_ISSUE_CNT n).apart (F.TKC.C_STATUS_STATE m) := by
  left
  show 0x101B1004 + 0x40 * m ≠ _ + 0x40 * n
  omega

@[simp] theorem State.coreState_countIssues (s : State) (n k m : Nat) : (s.countIssues n k).coreState m = s.coreState m :=
  State.f_setF_ne _ _ _ _ (Fld.ok_of _ rfl) (TKC_cnt_apart_status n m)

@[simp] theorem State.coreState_setCore (s : State) (n m : Nat) (c : Core) : (s.setCore n c).coreState m = s.coreState m := State.f_congr rfl _

@[simp] theorem State.core_issuing (s : State) (n : Nat) : (s.issuing n).core n = (s.core n).passIssues 1 := by
  rw [State.issuing, State.core_countIssues, State.core_modCore_pass]

theorem State.setF_setCore_twice (s : State) (n : Nat) (a c : Core) (x : Fld) (v : Nat) :
    ((s.setCore n a).setF x v).setCore n c = ({ s with cores := setNth s.cores n c } : State).setF x v := by
  cases s
  simp only [State.setCore, State.setF, State.setReg, setNth_setNth]
  rfl

/-- An issue that changes its core alone. -/
theorem State.issue_core (s : State) (n : Nat) (o : Op) (c : Core) (h : s.readyFor n o)
    (he : (s.issuing n).execOp n o false = (s.issuing n).setCore n c) (hs : c.stopReq = false) (ht : c.stepping = false) :
    s.issues n o = .next (s.issued n 1 c) := by
  have h1 := State.coreIssueWith_ready s n o false h
  rw [← State.issuing, he] at h1
  have h2 := State.core_setCore_flag (s.issuing n) n c Core.stopReq hs rfl
  have h3 := State.core_setCore_flag (s.issuing n) n c Core.stepping ht rfl
  have h4 : ((s.issuing n).setCore n c).coreState n = CoreState.running := by
    rw [State.coreState_setCore, State.issuing, State.coreState_countIssues, State.modCore, State.coreState_setCore]
    exact h.1.2.1
  have h5 : ((s.issuing n).setCore n c).afterIssue n = (s.issuing n).setCore n c := by
    simp [State.afterIssue, h2, h3]
  have h6 : (s.issuing n).setCore n c =
      (({ s with cores := setNth s.cores n c } : State).setF (F.TKC.C_CNT0_ISSUE_CNT n) ((s.f (F.TKC.C_CNT0_ISSUE_CNT n) + 1) % 2 ^ 32)) := by
    rw [State.issuing, State.modCore, State.countIssues, State.setF_setCore_twice]
    have : (s.setCore n ((s.core n).passIssues 1)).f (F.TKC.C_CNT0_ISSUE_CNT n) = s.f (F.TKC.C_CNT0_ISSUE_CNT n) := State.f_congr rfl _
    rw [this]
  simp only [State.issues, State.coreIssue, h1, h5, h4, beq_self_eq_true, if_true]
  rw [h6, State.issued]

end Sys2Proof.Machine
end

