-- ==== Sys2Proof/Laws/Becomes.lean ====
section
/-! SUPPORT. How a state that a command has reached, once it has settled, differs from the state before: the parts of `becomes` one by one. -/

namespace Sys2Proof.Machine
open Sys2Proof

/-! ## Fields that lie apart from what follows every command -/

/-- Addresses of the trailing fields. -/
theorem trailing_addr (y : Fld) (h : y ∈ trailing) :
    y.addr = 0x10000000 ∨ y.addr = 0x10000260 ∨ (0x10040000 ≤ y.addr ∧ y.addr ≤ 0x100A0154) ∨ (0x10160400 ≤ y.addr ∧ y.addr < 0x10160600) := by
  simp only [trailing, List.mem_append, List.mem_flatten, List.mem_map, List.mem_range] at h
  rcases h with (h | ⟨_, ⟨p, hp, rfl⟩, h⟩) | ⟨_, ⟨p, hp, rfl⟩, h⟩
  · simp only [List.mem_cons, List.not_mem_nil, or_false] at h
    rcases h with rfl | rfl | h
    · exact Or.inr (Or.inl rfl)
    · exact Or.inl rfl
    · refine Or.inr (Or.inr (Or.inl ?_))
      rcases h with rfl | rfl | rfl | rfl <;> decide
  · simp only [trailingPort, List.mem_cons, List.not_mem_nil, or_false] at h
    refine Or.inr (Or.inr (Or.inl ?_))
    rcases h with rfl | rfl | rfl | rfl | rfl | rfl | rfl | rfl | rfl <;> simp only [F.LNK.SLEEP_CTRL_TX_SLEEP, F.LNK.SLEEP_CTRL_RX_SLEEP, F.LNK.SLEEP_CTRL_TX_WAKE,
      F.LNK.SLEEP_STATUS_CODE, F.LNK.EVT_SLEEP_REFUSED, F.LNK.PORT_STATUS_TX_DIR, F.LNK.PORT_STATUS_RX_DIR, F.LNK.PORT_STATUS_CAIRN_LOCK,
      F.LNK.EVT_DIR_CHANGE] <;> omega
  · simp only [List.mem_cons, List.not_mem_nil, or_false] at h
    refine Or.inr (Or.inr (Or.inr ?_))
    rcases h with rfl | rfl <;> simp only [F.AUX.BIAS_BUSY, F.AUX.BIAS_HELD] <;> omega

/-- A field outside those addresses is apart from every trailing one. -/
theorem apart_trailing (x : Fld)
    (h : x.addr ≠ 0x10000000 ∧ x.addr ≠ 0x10000260 ∧ (x.addr < 0x10040000 ∨ 0x100A0154 < x.addr) ∧ (x.addr < 0x10160400 ∨ 0x10160600 ≤ x.addr)) :
    ∀ y ∈ trailing, y.apart x := by
  intro y hy
  left
  have := trailing_addr y hy
  omega

/-! ## Fields left alone -/

theorem State.fieldsBut_of {s t : State} (h : t.regs = s.regs) (l : List Fld) : s.fieldsBut t l := fun x _ => State.f_congr h x

theorem State.fieldsBut_setF {s t : State} {l : List Fld} (h : s.fieldsBut t l) (y : Fld) (v : Nat) (hy : y ∈ l) (ho : y.ok) : s.fieldsBut (t.setF y v) l :=
  fun x hx => (State.f_setF_ne _ _ _ _ ho (hx y (List.mem_append_left _ hy))).trans (h x hx)

theorem State.fieldsBut_raise {s t : State} {l : List Fld} (h : s.fieldsBut t l) (y : Fld) (hy : y ∈ l) (ho : y.ok) : s.fieldsBut (t.raise y) l :=
  fun x hx => (State.f_raise_ne _ _ _ ho (hx y (List.mem_append_left _ hy))).trans (h x hx)

theorem State.fieldsBut_regs {s t u : State} {l : List Fld} (h : s.fieldsBut t l) (k : u.regs = t.regs) : s.fieldsBut u l :=
  fun x hx => (State.f_congr k x).trans (h x hx)

/-! ## Becoming -/

/-- A state that settles into what a statement describes. -/
theorem State.becomes_settle {s u v : State} {l : List (Fld × Nat)} (hc : v.calm) (hi : v.inner = u.inner) (hl : ∀ p ∈ l, v.f p.1 = p.2)
    (ha : ∀ p ∈ l, ∀ y ∈ trailing, y.apart p.1) (hf : s.fieldsBut v (l.map (·.1))) : s.becomes v.settle u l :=
  ⟨(State.inner_settle v hc).trans hi, fun p hp => (State.f_settle v hc _ (ha p hp)).trans (hl p hp),
   fun x hx => (State.f_settle v hc x (fun y hy => hx y (List.mem_append_right _ hy))).trans (hf x hx)⟩

theorem State.calm_of {s t : State} (h : t.cores = s.cores) (k : s.calm) : t.calm := by
  unfold State.calm
  rw [h]
  exact k

theorem State.calm_setCore {s : State} {n : Nat} {c : Core} (k : s.calm) (h : c.stepping = false) : (s.setCore n c).calm := by
  intro d hd
  simp only [State.setCore, setNth] at hd
  rcases List.mem_or_eq_of_mem_set hd with hd | rfl
  · exact k d hd
  · exact h

end Sys2Proof.Machine
end

