-- ==== Sys2Proof/WellFormed.lean ====
section
/-! DEFINITION. Well-formed commands: each operand lies in the range of what it names. -/

namespace Sys2Proof

open Sys2Proof.Machine in
/-- A command is well formed: its operands name agents, cores, ports and the like that exist, and its words and fields fit their widths. -/
def Instr.wf (i : Instr) : Bool :=
  match i with
  | .slotBoundary leader => leader < 2
  | .symbolBoundary carrier => carrier < 4
  | .stagingCutoff leader => leader < 2
  | .shdCommit agent blk => agent < 36 && blk < 28
  | .shdDiscard agent blk => agent < 36 && blk < 28
  | .registerWrite agent addr value => agent < 36 && 0x10000000 ≤ addr && addr < 0x101C0000 && value < 2 ^ 32
  | .resultDeadline blk frame slot => blk < 28 && frame < 1024 && slot < 40
  | .cmdNop blk issuer carrier trig _ => [10, 14, 15, 16, 17, 18, 19, 26].contains blk && issuer < 34 && carrier < 4 && trig ≤ 13
  | .commit blk issuer carrier trig _ => [10, 14, 15, 16, 17, 18, 19, 26].contains blk && issuer < 34 && carrier < 4 && trig ≤ 13
  | .pushComplete core => core < 34
  | .modeReq agent target => agent < 36 && target < 8
  | .modeTransitionApply => true
  | .basecampExitDone => true
  | .restReq agent budget => agent < 36 && budget < 2 ^ 24
  | .prepareStart => true
  | .participantAnswer => true
  | .prepTimeout => true
  | .restEntryComplete => true
  | .restWake agent => agent < 36
  | .microRestExit conv => conv < 136
  | .ledgeDecision => true
  | .ledgeExit => true
  | .mgmtAddrMatch => true
  | .wakeStart _ _ _ => true
  | .wakeRefclkTimeout => true
  | .padRelease agent mask => agent < 36 && mask < 64
  | .porRelease => true
  | .supplyDip _ => true
  | .resetPin => true
  | .swReset agent key => agent < 36 && key < 256
  | .resetApply => true
  | .resetSequence _ => true
  | .refclkPresent _ _ => true
  | .bootGo agent => agent < 36
  | .bootVerifyDone => true
  | .portEnable agent port => agent < 36 && port < 6
  | .portDisable agent port => agent < 36 && port < 6
  | .retrain agent port => agent < 36 && port < 6
  | .cairnReceived port _ _ _ _ => port < 6
  | .ready port => port < 6
  | .cairnMissing port lane => port < 6 && lane < 8
  | .losTimeout port => port < 6
  | .trainTimeout port => port < 6
  | .signalReturn port => port < 6
  | .txSleep agent port => agent < 36 && port < 6
  | .rxSleep agent port => agent < 36 && port < 6
  | .txWake agent port => agent < 36 && port < 6
  | .rxWake agent port => agent < 36 && port < 6
  | .sleepReq port => port < 6
  | .sleepAck port => port < 6
  | .sleepAsk port => port < 6
  | .wakeReq port => port < 6
  | .deepReq port => port < 6
  | .deepAck port => port < 6
  | .sleepAckTimeout port => port < 6
  | .wakePatternDetected port => port < 6
  | .dirWakeFail port => port < 6
  | .deepExitTimeout port => port < 6
  | .injBit agent port lane => agent < 36 && port < 6 && lane < 8
  | .injStuff agent port lane => agent < 36 && port < 6 && lane < 8
  | .injCairnMiss agent port lane => agent < 36 && port < 6 && lane < 8
  | .frameHeaderReceived port header => port < 6 && header < 2 ^ 128
  | .frameTailReceived port _ tail => port < 6 && tail < 2 ^ 64
  | .outputFrameEnd output => output < 6
  | .credit port cum => port < 6 && cum.length == 8 && cum.all (· < 2 ^ 16)
  | .creditSend port => port < 6
  | .mreq port src seq _ => port < 6 && src < 4096 && seq < 2 ^ 16
  | .bulkWrite port src seq addr xid _ => port < 6 && src < 4096 && seq < 2 ^ 16 && addr < 2 ^ 32 && xid < 2 ^ 16
  | .bulkWriteAck port src seq addr xid _ => port < 6 && src < 4096 && seq < 2 ^ 16 && addr < 2 ^ 32 && xid < 2 ^ 16
  | .bulkAck => true
  | .bondState port mask dist => port < 6 && mask < 256 && dist < 2 ^ 16
  | .ringBreak port addr => port < 6 && addr < 4096
  | .psum port _ _ => port < 6
  | .localBlockReady carrier sym _ _ => carrier < 4 && sym < 14
  | .psumHoldInstant => true
  | .capture agent host => agent < 36 && host < 2
  | .tbWrap base => base < 4
  | .tbHalf base => base < 4
  | .tbStep agent base step => agent < 36 && base < 4 && step < 2 ^ 32
  | .tbTallySet agent base tally => agent < 36 && base < 4 && tally < 256
  | .tbDiscMode agent base mode => agent < 36 && base < 4 && mode < 4
  | .syncSend base port => base < 2 && port < 6
  | .sync base port exch t1 state stratum => base < 2 && port < 6 && exch < 2 ^ 16 && t1 < 2 ^ 44 && state < 8 && stratum < 16
  | .delayReq base port exch => base < 2 && port < 6 && exch < 2 ^ 16
  | .delayResp base port exch t4 => base < 2 && port < 6 && exch < 2 ^ 16 && t4 < 2 ^ 44
  | .exchangeTimeout => true
  | .syncMiss => true
  | .tlArm agent => agent < 36
  | .tlClear agent => agent < 36
  | .tlStarted => true
  | .timelineResume => true
  | .altMeasure => true
  | .gridMsBoundary => true
  | .syncInEdge _ _ => true
  | .syncLoss => true
  | .nlDetect _ _ _ _ _ => true
  | .nlWindowEnd _ _ => true
  | .rxSym issuer carrier trig _ => issuer < 34 && carrier < 4 && trig ≤ 13
  | .gainSet issuer carrier trig _ => issuer < 34 && carrier < 4 && trig ≤ 13
  | .rxSymbolEnd path carrier _ _ _ _ => path < 64 && carrier < 4
  | .layerBlockReceived _ => true
  | .layerFetch carrier => carrier < 4
  | .layerMap issuer carrier trig _ => issuer < 34 && carrier < 4 && trig ≤ 13
  | .txSym issuer carrier trig _ => issuer < 34 && carrier < 4 && trig ≤ 13
  | .pwrLoopUpdate => true
  | .faultClr agent path => agent < 36 && path < 64
  | .mlogPop agent => agent < 36
  | .dpdSwap issuer carrier trig _ => issuer < 34 && carrier < 4 && trig ≤ 13
  | .swap agent path => agent < 36 && path < 64
  | .orxCaptureEnd orx _ _ _ _ => orx < 8
  | .statReady => true
  | .ctxOpen agent user carrier nports => agent < 36 && user < 2 ^ 16 && carrier < 4 && nports < 4
  | .ctxClose agent index => agent < 36 && index < 512
  | .engineBoundary _ => true
  | .snd issuer carrier trig _ => issuer < 34 && carrier < 4 && trig ≤ 13
  | .dlSched issuer carrier trig _ => issuer < 34 && carrier < 4 && trig ≤ 13
  | .ulSched issuer carrier trig _ => issuer < 34 && carrier < 4 && trig ≤ 13
  | .weightInstant _ => true
  | .weightDeadline _ _ => true
  | .coreFrame _ _ => true
  | .trimLogPop agent => agent < 36
  | .raOcc issuer carrier trig _ => issuer < 34 && carrier < 4 && trig ≤ 13
  | .occasionQueued _ => true
  | .raDone => true
  | .coreReset agent core => agent < 36 && core < 34
  | .coreResetDone core => core < 34
  | .coreStop agent core => agent < 36 && core < 34
  | .coreStart agent core => agent < 36 && core < 34
  | .coreStep agent core => agent < 36 && core < 34
  | .coreKick agent core => agent < 36 && core < 34
  | .coreSoft agent core => agent < 36 && core < 34
  | .accessComplete core => core < 34
  | .interruptEntry core => core < 34
  | .wdtWarn => true
  | .wdtExpire => true
  | .iAdd core rd ra rb => core < 34 && rd < 16 && ra < 16 && rb < 16
  | .iSub core rd ra rb => core < 34 && rd < 16 && ra < 16 && rb < 16
  | .iAnd core rd ra rb => core < 34 && rd < 16 && ra < 16 && rb < 16
  | .iOr core rd ra rb => core < 34 && rd < 16 && ra < 16 && rb < 16
  | .iXor core rd ra rb => core < 34 && rd < 16 && ra < 16 && rb < 16
  | .iShl core rd ra rb => core < 34 && rd < 16 && ra < 16 && rb < 16
  | .iShr core rd ra rb => core < 34 && rd < 16 && ra < 16 && rb < 16
  | .iAsr core rd ra rb => core < 34 && rd < 16 && ra < 16 && rb < 16
  | .iMin core rd ra rb => core < 34 && rd < 16 && ra < 16 && rb < 16
  | .iMax core rd ra rb => core < 34 && rd < 16 && ra < 16 && rb < 16
  | .iAbs core rd ra rb => core < 34 && rd < 16 && ra < 16 && rb < 16
  | .iCmp core rd ra rb => core < 34 && rd < 16 && ra < 16 && rb < 16
  | .iTst core rd ra rb => core < 34 && rd < 16 && ra < 16 && rb < 16
  | .iMul16 core rd ra rb => core < 34 && rd < 16 && ra < 16 && rb < 16
  | .iNorm core rd ra rb => core < 34 && rd < 16 && ra < 16 && rb < 16
  | .iCadd core rd ra rb => core < 34 && rd < 16 && ra < 16 && rb < 16
  | .iCsub core rd ra rb => core < 34 && rd < 16 && ra < 16 && rb < 16
  | .iConj core rd ra rb => core < 34 && rd < 16 && ra < 16 && rb < 16
  | .iAset core rd ra rb => core < 34 && rd < 16 && ra < 16 && rb < 16
  | .iAadd core rd ra rb => core < 34 && rd < 16 && ra < 16 && rb < 16
  | .iAsub core rd ra rb => core < 34 && rd < 16 && ra < 16 && rb < 16
  | .iAshr core rd ra rb => core < 34 && rd < 16 && ra < 16 && rb < 16
  | .iAneg core rd ra rb => core < 34 && rd < 16 && ra < 16 && rb < 16
  | .iMovr core dst src => core < 34 && dst < 64 && src < 64
  | .iAddi core rd ra imm => core < 34 && rd < 16 && ra < 16 && imm < 2 ^ 14
  | .iAndi core rd ra imm => core < 34 && rd < 16 && ra < 16 && imm < 2 ^ 14
  | .iOri core rd ra imm => core < 34 && rd < 16 && ra < 16 && imm < 2 ^ 14
  | .iXori core rd ra imm => core < 34 && rd < 16 && ra < 16 && imm < 2 ^ 14
  | .iShli core rd ra imm => core < 34 && rd < 16 && ra < 16 && imm < 2 ^ 14
  | .iShri core rd ra imm => core < 34 && rd < 16 && ra < 16 && imm < 2 ^ 14
  | .iAsri core rd ra imm => core < 34 && rd < 16 && ra < 16 && imm < 2 ^ 14
  | .iCmpi core rd ra imm => core < 34 && rd < 16 && ra < 16 && imm < 2 ^ 14
  | .iLui core dst imm => core < 34 && dst < 64 && imm < 2 ^ 16
  | .iLli core dst imm => core < 34 && dst < 64 && imm < 2 ^ 16
  | .iPaddi core p imm => core < 34 && p < 8 && imm < 2 ^ 14
  | .iMovi core dst imm => core < 34 && dst < 64 && imm < 2 ^ 16
  | .iCmac core k _ _ x y => core < 34 && k < 4 && x < 2 ^ 10 && y < 2 ^ 10
  | .iRmac2 core k _ _ x y => core < 34 && k < 4 && x < 2 ^ 10 && y < 2 ^ 10
  | .iCmul core k _ _ x y => core < 34 && k < 4 && x < 2 ^ 10 && y < 2 ^ 10
  | .iRmul2 core k _ _ x y => core < 34 && k < 4 && x < 2 ^ 10 && y < 2 ^ 10
  | .iLoad core w _ g p mode arg => core < 34 && w < 4 && g < 16 && p < 8 && mode < 8 && arg < 2 ^ 13
  | .iStore core w g p mode arg => core < 34 && w < 4 && g < 16 && p < 8 && mode < 8 && arg < 2 ^ 13
  | .iDualAccess core _ _ gx px ux gy py uy => core < 34 && gx < 16 && px < 8 && ux < 8 && gy < 16 && py < 8 && uy < 8
  | .iMvw core rd a => core < 34 && rd < 16 && a < 8
  | .iMvp core rd a => core < 34 && rd < 16 && a < 8
  | .iBlkend core => core < 34
  | .iBranch core cond off => core < 34 && cond < 16 && off < 2 ^ 22
  | .iCall core cond off => core < 34 && cond < 16 && off < 2 ^ 22
  | .iReturn core cond => core < 34 && cond < 16
  | .iJumpRegister core cond g => core < 34 && cond < 16 && g < 16
  | .iRpt core count => core < 34 && 1 ≤ count && count ≤ 4096
  | .iRptr core g => core < 34 && g < 16
  | .iLoop core lvl endw count => core < 34 && lvl < 2 && endw < 2 ^ 13 && 1 ≤ count && count ≤ 4096
  | .iLoopr core lvl endw g => core < 34 && lvl < 2 && endw < 2 ^ 13 && g < 16
  | .iSend core gs ga gb => core < 34 && gs < 16 && ga < 16 && gb < 16
  | .iRecv core gs ga => core < 34 && gs < 16 && ga < 16
  | .iRecvw core gs ga => core < 34 && gs < 16 && ga < 16
  | .iRing core gs gb => core < 34 && gs < 16 && gb < 16
  | .iAcq core gs n => core < 34 && gs < 16 && n < 64
  | .iTryacq core gs n => core < 34 && gs < 16 && n < 64
  | .iRel core gs n => core < 34 && gs < 16 && n < 64
  | .iBar core gs n => core < 34 && gs < 16 && n < 64
  | .iPush core blk lsel gs gh p _ => core < 34 && blk < 32 && lsel < 2 && gs < 16 && gh < 16 && p < 8
  | .iSeal core lsel gs => core < 34 && lsel < 2 && gs < 16
  | .iWslot core lsel => core < 34 && lsel < 2
  | .iWsym core gs sym lsel => core < 34 && gs < 16 && sym < 16 && lsel < 2
  | .iTtgt core g lsel => core < 34 && g < 16 && lsel < 2
  | .iTnow core g lsel => core < 34 && g < 16 && lsel < 2
  | .iNop core => core < 34
  | .iReti core => core < 34
  | .iKick core => core < 34
  | .iStop core => core < 34
  | .iEi core => core < 34
  | .iDi core => core < 34
  | .iVeto core _ => core < 34
  | .iBrk core => core < 34
  | .waitTimeout agent => agent < 36
  | .arbRequest id addr _ _ beats _ => id < 19 && addr < 0x03000000 && 1 ≤ beats && beats ≤ 16
  | .burstBoundary bank _ => bank < 96
  | .starve bank _ => bank < 96
  | .postCmd agent owner word => agent < 36 && owner < 36 && word < 2 ^ 32
  | .postComplete agent _ => agent < 36
  | .compPop agent owner => agent < 36 && owner < 36
  | .lfsrSeed agent seed => agent < 36 && seed < 2 ^ 16
  | .hostSend agent host word => agent < 36 && host < 2 && word < 2 ^ 32
  | .hostRecv agent host => agent < 36 && host < 2
  | .dbRing agent host target => agent < 36 && host < 2 && target < 64
  | .ringWakeDone => true
  | .hostRestart agent host => agent < 36 && host < 2
  | .poolRegister agent owner pool size => agent < 36 && owner < 36 && pool < 2 && size < 2 ^ 16
  | .poolRelease agent owner pool => agent < 36 && owner < 36 && pool < 2
  | .hostAcq agent host sem => agent < 36 && host < 2 && sem < 64
  | .hostTryacq agent host sem => agent < 36 && host < 2 && sem < 64
  | .hostRel agent host sem => agent < 36 && host < 2 && sem < 64
  | .breakSem agent sem => agent < 36 && sem < 64
  | .calFull agent => agent < 36
  | .calRun issuer carrier trig _ => issuer < 34 && carrier < 4 && trig ≤ 13
  | .calResult kind path fail _ => kind < 6 && path < 64 && fail < 8
  | .reload agent => agent < 36
  | .planSwitch agent word => agent < 36 && word < 2 ^ 32
  | .settlingWindowEnd => true
  | .unlock => true
  | .synthLock => true
  | .synthCalDone band trim residual => band < 256 && trim < 2 ^ 16 && residual < 2 ^ 16
  | .cancel agent => agent < 36
  | .clkSave agent => agent < 36
  | .clkCal agent => agent < 36
  | .txRxTurnround => true
  | .rxTxTurnround => true
  | .biasWrite agent dac word => agent < 36 && dac < 136 && word < 2 ^ 32
  | .biasHoldRelease dac => dac < 136
  | .coexReqEdge port _ => port < 2
  | .coexGntSample port carrier _ => port < 2 && carrier < 4
  | .regSave agent => agent < 36
  | .sensorReading sensor _ => sensor < 48
  | .escalateDwell => true
  | .relaxDwell => true
  | .failClr agent sensor => agent < 36 && sensor < 48
  | .shutdownPowerOff => true
  | .aonSensorReading _ => true
  | .thmInjShdn agent sensor => agent < 36 && sensor < 48
  | .thmInjFail agent sensor => agent < 36 && sensor < 48
  | .thmInjOfs agent sensor ofs => agent < 36 && sensor < 48 && ofs < 256
  | .hkConversionDone conv _ _ => conv < 2
  | .plausStart => true
  | .harvest agent acc => agent < 36 && acc < 64
  | .harvestPeriodEnd => true
  | .urgentRequest source => source < 16
  | .hkInj agent ofs => agent < 36 && ofs < 256
  | .nvmCmd agent record length => agent < 36 && record < 16 && length < 2 ^ 21
  | .nvmWordWriteDone => true
  | .lcReq agent key target => agent < 36 && key < 256 && target < 4
  | .lcAuthDone => true
  | .nvmInjTorn agent => agent < 36
  | .injArm agent key time => agent < 36 && key < 256 && time < 256
  | .disarm agent => agent < 36
  | .injWindowEnd => true
  | .injCmd agent word => agent < 36 && word < 2 ^ 32
  | .ocMonitorTick monitor => monitor < 8
  | .spiWrite addr _ => addr < 2 ^ 32
  | .spiRead addr _ => addr < 2 ^ 32
  | .spiStatus => true
  | .spiWordApply => true
  | .mgmtWrite device addr _ => device < 128 && addr < 2 ^ 32
  | .mgmtRead device addr _ => device < 128 && addr < 2 ^ 32
  | .extest _ => true
  | .idcode => true
  | .samplePreload _ _ => true
  | .dbgacc _ addr bytes data => addr < 2 ^ 32 && (bytes == 1 || bytes == 2 || bytes == 4 || bytes == 8) && data < 2 ^ 64
  | .bypass => true
  | .signalChange port present => port < 6 && present < 256
  | .checkerLock port lane => port < 6 && lane.lane < 8
  | .patErr port lane _ => port < 6 && lane < 8
  | .reservedEncoding core word => core < 34 && word < 2 ^ 32 && (decodeOp word).isNone
  | .coresComplete => true
  | .wipeComplete => true

end Sys2Proof
end

