-- ==== Sys2Proof/Laws/PerInstr.lean ====
section
/-! SUPPORT. One lemma per command about its form: the agent that a well-formed command names is one of the 36 of R443. -/

namespace Sys2Proof.Laws.Wf
open Sys2Proof Sys2Proof.Machine

/-- The agent, issuing core or core that a command names as the one that acts, if it names one. -/
def maker (i : Instr) : Option Nat :=
  match i with
  | .slotBoundary _ => none
  | .symbolBoundary _ => none
  | .stagingCutoff _ => none
  | .shdCommit agent _ => some agent
  | .shdDiscard agent _ => some agent
  | .registerWrite agent _ _ => some agent
  | .resultDeadline _ _ _ => none
  | .cmdNop _ issuer _ _ _ => some issuer
  | .commit _ issuer _ _ _ => some issuer
  | .pushComplete core => some core
  | .modeReq agent _ => some agent
  | .modeTransitionApply => none
  | .basecampExitDone => none
  | .restReq agent _ => some agent
  | .prepareStart => none
  | .participantAnswer => none
  | .prepTimeout => none
  | .restEntryComplete => none
  | .restWake agent => some agent
  | .microRestExit _ => none
  | .ledgeDecision => none
  | .ledgeExit => none
  | .mgmtAddrMatch => none
  | .wakeStart _ _ _ => none
  | .wakeRefclkTimeout => none
  | .padRelease agent _ => some agent
  | .porRelease => none
  | .supplyDip _ => none
  | .resetPin => none
  | .swReset agent _ => some agent
  | .resetApply => none
  | .resetSequence _ => none
  | .refclkPresent _ _ => none
  | .bootGo agent => some agent
  | .bootVerifyDone => none
  | .portEnable agent _ => some agent
  | .portDisable agent _ => some agent
  | .retrain agent _ => some agent
  | .cairnReceived _ _ _ _ _ => none
  | .ready _ => none
  | .cairnMissing _ _ => none
  | .losTimeout _ => none
  | .trainTimeout _ => none
  | .signalReturn _ => none
  | .txSleep agent _ => some agent
  | .rxSleep agent _ => some agent
  | .txWake agent _ => some agent
  | .rxWake agent _ => some agent
  | .sleepReq _ => none
  | .sleepAck _ => none
  | .sleepAsk _ => none
  | .wakeReq _ => none
  | .deepReq _ => none
  | .deepAck _ => none
  | .sleepAckTimeout _ => none
  | .wakePatternDetected _ => none
  | .dirWakeFail _ => none
  | .deepExitTimeout _ => none
  | .injBit agent _ _ => some agent
  | .injStuff agent _ _ => some agent
  | .injCairnMiss agent _ _ => some agent
  | .frameHeaderReceived _ _ => none
  | .frameTailReceived _ _ _ => none
  | .outputFrameEnd _ => none
  | .credit _ _ => none
  | .creditSend _ => none
  | .mreq _ _ _ _ => none
  | .bulkWrite _ _ _ _ _ _ => none
  | .bulkWriteAck _ _ _ _ _ _ => none
  | .bulkAck => none
  | .bondState _ _ _ => none
  | .ringBreak _ _ => none
  | .psum _ _ _ => none
  | .localBlockReady _ _ _ _ => none
  | .psumHoldInstant => none
  | .capture agent _ => some agent
  | .tbWrap _ => none
  | .tbHalf _ => none
  | .tbStep agent _ _ => some agent
  | .tbTallySet agent _ _ => some agent
  | .tbDiscMode agent _ _ => some agent
  | .syncSend _ _ => none
  | .sync _ _ _ _ _ _ => none
  | .delayReq _ _ _ => none
  | .delayResp _ _ _ _ => none
  | .exchangeTimeout => none
  | .syncMiss => none
  | .tlArm agent => some agent
  | .tlClear agent => some agent
  | .tlStarted => none
  | .timelineResume => none
  | .altMeasure => none
  | .gridMsBoundary => none
  | .syncInEdge _ _ => none
  | .syncLoss => none
  | .nlDetect _ _ _ _ _ => none
  | .nlWindowEnd _ _ => none
  | .rxSym issuer _ _ _ => some issuer
  | .gainSet issuer _ _ _ => some issuer
  | .rxSymbolEnd _ _ _ _ _ _ => none
  | .layerBlockReceived _ => none
  | .layerFetch _ => none
  | .layerMap issuer _ _ _ => some issuer
  | .txSym issuer _ _ _ => some issuer
  | .pwrLoopUpdate => none
  | .faultClr agent _ => some agent
  | .mlogPop agent => some agent
  | .dpdSwap issuer _ _ _ => some issuer
  | .swap agent _ => some agent
  | .orxCaptureEnd _ _ _ _ _ => none
  | .statReady => none
  | .ctxOpen agent _ _ _ => some agent
  | .ctxClose agent _ => some agent
  | .engineBoundary _ => none
  | .snd issuer _ _ _ => some issuer
  | .dlSched issuer _ _ _ => some issuer
  | .ulSched issuer _ _ _ => some issuer
  | .weightInstant _ => none
  | .weightDeadline _ _ => none
  | .coreFrame _ _ => none
  | .trimLogPop agent => some agent
  | .raOcc issuer _ _ _ => some issuer
  | .occasionQueued _ => none
  | .raDone => none
  | .coreReset agent _ => some agent
  | .coreResetDone core => some core
  | .coreStop agent _ => some agent
  | .coreStart agent _ => some agent
  | .coreStep agent _ => some agent
  | .coreKick agent _ => some agent
  | .coreSoft agent _ => some agent
  | .accessComplete core => some core
  | .interruptEntry core => some core
  | .wdtWarn => none
  | .wdtExpire => none
  | .iAdd core _ _ _ => some core
  | .iSub core _ _ _ => some core
  | .iAnd core _ _ _ => some core
  | .iOr core _ _ _ => some core
  | .iXor core _ _ _ => some core
  | .iShl core _ _ _ => some core
  | .iShr core _ _ _ => some core
  | .iAsr core _ _ _ => some core
  | .iMin core _ _ _ => some core
  | .iMax core _ _ _ => some core
  | .iAbs core _ _ _ => some core
  | .iCmp core _ _ _ => some core
  | .iTst core _ _ _ => some core
  | .iMul16 core _ _ _ => some core
  | .iNorm core _ _ _ => some core
  | .iCadd core _ _ _ => some core
  | .iCsub core _ _ _ => some core
  | .iConj core _ _ _ => some core
  | .iAset core _ _ _ => some core
  | .iAadd core _ _ _ => some core
  | .iAsub core _ _ _ => some core
  | .iAshr core _ _ _ => some core
  | .iAneg core _ _ _ => some core
  | .iMovr core _ _ => some core
  | .iAddi core _ _ _ => some core
  | .iAndi core _ _ _ => some core
  | .iOri core _ _ _ => some core
  | .iXori core _ _ _ => some core
  | .iShli core _ _ _ => some core
  | .iShri core _ _ _ => some core
  | .iAsri core _ _ _ => some core
  | .iCmpi core _ _ _ => some core
  | .iLui core _ _ => some core
  | .iLli core _ _ => some core
  | .iPaddi core _ _ => some core
  | .iMovi core _ _ => some core
  | .iCmac core _ _ _ _ _ => some core
  | .iRmac2 core _ _ _ _ _ => some core
  | .iCmul core _ _ _ _ _ => some core
  | .iRmul2 core _ _ _ _ _ => some core
  | .iLoad core _ _ _ _ _ _ => some core
  | .iStore core _ _ _ _ _ => some core
  | .iDualAccess core _ _ _ _ _ _ _ _ => some core
  | .iMvw core _ _ => some core
  | .iMvp core _ _ => some core
  | .iBlkend core => some core
  | .iBranch core _ _ => some core
  | .iCall core _ _ => some core
  | .iReturn core _ => some core
  | .iJumpRegister core _ _ => some core
  | .iRpt core _ => some core
  | .iRptr core _ => some core
  | .iLoop core _ _ _ => some core
  | .iLoopr core _ _ _ => some core
  | .iSend core _ _ _ => some core
  | .iRecv core _ _ => some core
  | .iRecvw core _ _ => some core
  | .iRing core _ _ => some core
  | .iAcq core _ _ => some core
  | .iTryacq core _ _ => some core
  | .iRel core _ _ => some core
  | .iBar core _ _ => some core
  | .iPush core _ _ _ _ _ _ => some core
  | .iSeal core _ _ => some core
  | .iWslot core _ => some core
  | .iWsym core _ _ _ => some core
  | .iTtgt core _ _ => some core
  | .iTnow core _ _ => some core
  | .iNop core => some core
  | .iReti core => some core
  | .iKick core => some core
  | .iStop core => some core
  | .iEi core => some core
  | .iDi core => some core
  | .iVeto core _ => some core
  | .iBrk core => some core
  | .waitTimeout agent => some agent
  | .arbRequest _ _ _ _ _ _ => none
  | .burstBoundary _ _ => none
  | .starve _ _ => none
  | .postCmd agent _ _ => some agent
  | .postComplete agent _ => some agent
  | .compPop agent _ => some agent
  | .lfsrSeed agent _ => some agent
  | .hostSend agent _ _ => some agent
  | .hostRecv agent _ => some agent
  | .dbRing agent _ _ => some agent
  | .ringWakeDone => none
  | .hostRestart agent _ => some agent
  | .poolRegister agent _ _ _ => some agent
  | .poolRelease agent _ _ => some agent
  | .hostAcq agent _ _ => some agent
  | .hostTryacq agent _ _ => some agent
  | .hostRel agent _ _ => some agent
  | .breakSem agent _ => some agent
  | .calFull agent => some agent
  | .calRun issuer _ _ _ => some issuer
  | .calResult _ _ _ _ => none
  | .reload agent => some agent
  | .planSwitch agent _ => some agent
  | .settlingWindowEnd => none
  | .unlock => none
  | .synthLock => none
  | .synthCalDone _ _ _ => none
  | .cancel agent => some agent
  | .clkSave agent => some agent
  | .clkCal agent => some agent
  | .txRxTurnround => none
  | .rxTxTurnround => none
  | .biasWrite agent _ _ => some agent
  | .biasHoldRelease _ => none
  | .coexReqEdge _ _ => none
  | .coexGntSample _ _ _ => none
  | .regSave agent => some agent
  | .sensorReading _ _ => none
  | .escalateDwell => none
  | .relaxDwell => none
  | .failClr agent _ => some agent
  | .shutdownPowerOff => none
  | .aonSensorReading _ => none
  | .thmInjShdn agent _ => some agent
  | .thmInjFail agent _ => some agent
  | .thmInjOfs agent _ _ => some agent
  | .hkConversionDone _ _ _ => none
  | .plausStart => none
  | .harvest agent _ => some agent
  | .harvestPeriodEnd => none
  | .urgentRequest _ => none
  | .hkInj agent _ => some agent
  | .nvmCmd agent _ _ => some agent
  | .nvmWordWriteDone => none
  | .lcReq agent _ _ => some agent
  | .lcAuthDone => none
  | .nvmInjTorn agent => some agent
  | .injArm agent _ _ => some agent
  | .disarm agent => some agent
  | .injWindowEnd => none
  | .injCmd agent _ => some agent
  | .ocMonitorTick _ => none
  | .spiWrite _ _ => none
  | .spiRead _ _ => none
  | .spiStatus => none
  | .spiWordApply => none
  | .mgmtWrite _ _ _ => none
  | .mgmtRead _ _ _ => none
  | .extest _ => none
  | .idcode => none
  | .samplePreload _ _ => none
  | .dbgacc _ _ _ _ => none
  | .bypass => none
  | .signalChange _ _ => none
  | .checkerLock _ _ => none
  | .patErr _ _ _ => none
  | .reservedEncoding core _ => some core
  | .coresComplete => none
  | .wipeComplete => none

/-- A well-formed command that names an agent as the one that acts names an agent below 36 (R443). -/
def Statement (i : Instr) : Prop := i.wf = true → ∀ a ∈ maker i, a < 36

theorem of_maker {c : Bool} {m x : Nat} (k : c = true → m < 36) (h : c = true) (hx : x ∈ some m) : x < 36 := by
  cases hx
  exact k h

theorem slotBoundary (leader : Nat) : Statement (.slotBoundary leader) := fun _ _ hx => nomatch (hx : none = some _)
theorem symbolBoundary (carrier : Nat) : Statement (.symbolBoundary carrier) := fun _ _ hx => nomatch (hx : none = some _)
theorem stagingCutoff (leader : Nat) : Statement (.stagingCutoff leader) := fun _ _ hx => nomatch (hx : none = some _)
theorem shdCommit (agent : Nat) (blk : Nat) : Statement (.shdCommit agent blk) := fun h _ hx =>
  of_maker (c := agent < 36 && blk < 28) (by grind) h hx
theorem shdDiscard (agent : Nat) (blk : Nat) : Statement (.shdDiscard agent blk) := fun h _ hx =>
  of_maker (c := agent < 36 && blk < 28) (by grind) h hx
theorem registerWrite (agent : Nat) (addr : Nat) (value : Nat) : Statement (.registerWrite agent addr value) := fun h _ hx =>
  of_maker (c := agent < 36 && 0x10000000 ≤ addr && addr < 0x101C0000 && value < 2 ^ 32) (by grind) h hx
theorem resultDeadline (blk : Nat) (frame : Nat) (slot : Nat) : Statement (.resultDeadline blk frame slot) := fun _ _ hx => nomatch (hx : none = some _)
theorem cmdNop (blk : Nat) (issuer : Nat) (carrier : Nat) (trig : Nat) (payload : List Word) : Statement (.cmdNop blk issuer carrier trig payload) := fun h _ hx =>
  of_maker (c := [10, 14, 15, 16, 17, 18, 19, 26].contains blk && issuer < 34 && carrier < 4 && trig ≤ 13) (by grind) h hx
theorem commit (blk : Nat) (issuer : Nat) (carrier : Nat) (trig : Nat) (payload : List Word) : Statement (.commit blk issuer carrier trig payload) := fun h _ hx =>
  of_maker (c := [10, 14, 15, 16, 17, 18, 19, 26].contains blk && issuer < 34 && carrier < 4 && trig ≤ 13) (by grind) h hx
theorem pushComplete (core : Nat) : Statement (.pushComplete core) := fun h _ hx =>
  of_maker (c := core < 34) (by grind) h hx
theorem modeReq (agent : Nat) (target : Nat) : Statement (.modeReq agent target) := fun h _ hx =>
  of_maker (c := agent < 36 && target < 8) (by grind) h hx
theorem modeTransitionApply : Statement .modeTransitionApply := fun _ _ hx => nomatch (hx : none = some _)
theorem basecampExitDone : Statement .basecampExitDone := fun _ _ hx => nomatch (hx : none = some _)
theorem restReq (agent : Nat) (budget : Nat) : Statement (.restReq agent budget) := fun h _ hx =>
  of_maker (c := agent < 36 && budget < 2 ^ 24) (by grind) h hx
theorem prepareStart : Statement .prepareStart := fun _ _ hx => nomatch (hx : none = some _)
theorem participantAnswer : Statement .participantAnswer := fun _ _ hx => nomatch (hx : none = some _)
theorem prepTimeout : Statement .prepTimeout := fun _ _ hx => nomatch (hx : none = some _)
theorem restEntryComplete : Statement .restEntryComplete := fun _ _ hx => nomatch (hx : none = some _)
theorem restWake (agent : Nat) : Statement (.restWake agent) := fun h _ hx =>
  of_maker (c := agent < 36) (by grind) h hx
theorem microRestExit (conv : Nat) : Statement (.microRestExit conv) := fun _ _ hx => nomatch (hx : none = some _)
theorem ledgeDecision : Statement .ledgeDecision := fun _ _ hx => nomatch (hx : none = some _)
theorem ledgeExit : Statement .ledgeExit := fun _ _ hx => nomatch (hx : none = some _)
theorem mgmtAddrMatch : Statement .mgmtAddrMatch := fun _ _ hx => nomatch (hx : none = some _)
theorem wakeStart (refclk : Bool) (upsets : List (Nat × Byte)) (ue : List Nat) : Statement (.wakeStart refclk upsets ue) := fun _ _ hx => nomatch (hx : none = some _)
theorem wakeRefclkTimeout : Statement .wakeRefclkTimeout := fun _ _ hx => nomatch (hx : none = some _)
theorem padRelease (agent : Nat) (mask : Nat) : Statement (.padRelease agent mask) := fun h _ hx =>
  of_maker (c := agent < 36 && mask < 64) (by grind) h hx
theorem porRelease : Statement .porRelease := fun _ _ hx => nomatch (hx : none = some _)
theorem supplyDip (aon : Bool) : Statement (.supplyDip aon) := fun _ _ hx => nomatch (hx : none = some _)
theorem resetPin : Statement .resetPin := fun _ _ hx => nomatch (hx : none = some _)
theorem swReset (agent : Nat) (key : Nat) : Statement (.swReset agent key) := fun h _ hx =>
  of_maker (c := agent < 36 && key < 256) (by grind) h hx
theorem resetApply : Statement .resetApply := fun _ _ hx => nomatch (hx : none = some _)
theorem resetSequence (refclk : Bool) : Statement (.resetSequence refclk) := fun _ _ hx => nomatch (hx : none = some _)
theorem refclkPresent (upsets : List (Nat × Byte)) (ue : List Nat) : Statement (.refclkPresent upsets ue) := fun _ _ hx => nomatch (hx : none = some _)
theorem bootGo (agent : Nat) : Statement (.bootGo agent) := fun h _ hx =>
  of_maker (c := agent < 36) (by grind) h hx
theorem bootVerifyDone : Statement .bootVerifyDone := fun _ _ hx => nomatch (hx : none = some _)
theorem portEnable (agent : Nat) (port : Nat) : Statement (.portEnable agent port) := fun h _ hx =>
  of_maker (c := agent < 36 && port < 6) (by grind) h hx
theorem portDisable (agent : Nat) (port : Nat) : Statement (.portDisable agent port) := fun h _ hx =>
  of_maker (c := agent < 36 && port < 6) (by grind) h hx
theorem retrain (agent : Nat) (port : Nat) : Statement (.retrain agent port) := fun h _ hx =>
  of_maker (c := agent < 36 && port < 6) (by grind) h hx
theorem cairnReceived (port : Nat) (lines : List (List Bool)) (skew : Nat) (fill : Int) (full : Bool) : Statement (.cairnReceived port lines skew fill full) := fun _ _ hx => nomatch (hx : none = some _)
theorem ready (port : Nat) : Statement (.ready port) := fun _ _ hx => nomatch (hx : none = some _)
theorem cairnMissing (port : Nat) (lane : Nat) : Statement (.cairnMissing port lane) := fun _ _ hx => nomatch (hx : none = some _)
theorem losTimeout (port : Nat) : Statement (.losTimeout port) := fun _ _ hx => nomatch (hx : none = some _)
theorem trainTimeout (port : Nat) : Statement (.trainTimeout port) := fun _ _ hx => nomatch (hx : none = some _)
theorem signalReturn (port : Nat) : Statement (.signalReturn port) := fun _ _ hx => nomatch (hx : none = some _)
theorem txSleep (agent : Nat) (port : Nat) : Statement (.txSleep agent port) := fun h _ hx =>
  of_maker (c := agent < 36 && port < 6) (by grind) h hx
theorem rxSleep (agent : Nat) (port : Nat) : Statement (.rxSleep agent port) := fun h _ hx =>
  of_maker (c := agent < 36 && port < 6) (by grind) h hx
theorem txWake (agent : Nat) (port : Nat) : Statement (.txWake agent port) := fun h _ hx =>
  of_maker (c := agent < 36 && port < 6) (by grind) h hx
theorem rxWake (agent : Nat) (port : Nat) : Statement (.rxWake agent port) := fun h _ hx =>
  of_maker (c := agent < 36 && port < 6) (by grind) h hx
theorem sleepReq (port : Nat) : Statement (.sleepReq port) := fun _ _ hx => nomatch (hx : none = some _)
theorem sleepAck (port : Nat) : Statement (.sleepAck port) := fun _ _ hx => nomatch (hx : none = some _)
theorem sleepAsk (port : Nat) : Statement (.sleepAsk port) := fun _ _ hx => nomatch (hx : none = some _)
theorem wakeReq (port : Nat) : Statement (.wakeReq port) := fun _ _ hx => nomatch (hx : none = some _)
theorem deepReq (port : Nat) : Statement (.deepReq port) := fun _ _ hx => nomatch (hx : none = some _)
theorem deepAck (port : Nat) : Statement (.deepAck port) := fun _ _ hx => nomatch (hx : none = some _)
theorem sleepAckTimeout (port : Nat) : Statement (.sleepAckTimeout port) := fun _ _ hx => nomatch (hx : none = some _)
theorem wakePatternDetected (port : Nat) : Statement (.wakePatternDetected port) := fun _ _ hx => nomatch (hx : none = some _)
theorem dirWakeFail (port : Nat) : Statement (.dirWakeFail port) := fun _ _ hx => nomatch (hx : none = some _)
theorem deepExitTimeout (port : Nat) : Statement (.deepExitTimeout port) := fun _ _ hx => nomatch (hx : none = some _)
theorem injBit (agent : Nat) (port : Nat) (lane : Nat) : Statement (.injBit agent port lane) := fun h _ hx =>
  of_maker (c := agent < 36 && port < 6 && lane < 8) (by grind) h hx
theorem injStuff (agent : Nat) (port : Nat) (lane : Nat) : Statement (.injStuff agent port lane) := fun h _ hx =>
  of_maker (c := agent < 36 && port < 6 && lane < 8) (by grind) h hx
theorem injCairnMiss (agent : Nat) (port : Nat) (lane : Nat) : Statement (.injCairnMiss agent port lane) := fun h _ hx =>
  of_maker (c := agent < 36 && port < 6 && lane < 8) (by grind) h hx
theorem frameHeaderReceived (port : Nat) (header : Nat) : Statement (.frameHeaderReceived port header) := fun _ _ hx => nomatch (hx : none = some _)
theorem frameTailReceived (port : Nat) (payload : List Byte) (tail : Nat) : Statement (.frameTailReceived port payload tail) := fun _ _ hx => nomatch (hx : none = some _)
theorem outputFrameEnd (output : Nat) : Statement (.outputFrameEnd output) := fun _ _ hx => nomatch (hx : none = some _)
theorem credit (port : Nat) (cum : List Nat) : Statement (.credit port cum) := fun _ _ hx => nomatch (hx : none = some _)
theorem creditSend (port : Nat) : Statement (.creditSend port) := fun _ _ hx => nomatch (hx : none = some _)
theorem mreq (port : Nat) (src : Nat) (seq : Nat) (payload : List Byte) : Statement (.mreq port src seq payload) := fun _ _ hx => nomatch (hx : none = some _)
theorem bulkWrite (port : Nat) (src : Nat) (seq : Nat) (addr : Nat) (xid : Nat) (data : List Byte) : Statement (.bulkWrite port src seq addr xid data) := fun _ _ hx => nomatch (hx : none = some _)
theorem bulkWriteAck (port : Nat) (src : Nat) (seq : Nat) (addr : Nat) (xid : Nat) (data : List Byte) : Statement (.bulkWriteAck port src seq addr xid data) := fun _ _ hx => nomatch (hx : none = some _)
theorem bulkAck : Statement .bulkAck := fun _ _ hx => nomatch (hx : none = some _)
theorem bondState (port : Nat) (mask : Nat) (dist : Nat) : Statement (.bondState port mask dist) := fun _ _ hx => nomatch (hx : none = some _)
theorem ringBreak (port : Nat) (addr : Nat) : Statement (.ringBreak port addr) := fun _ _ hx => nomatch (hx : none = some _)
theorem psum (port : Nat) (frame : Frame) (poison : Bool) : Statement (.psum port frame poison) := fun _ _ hx => nomatch (hx : none = some _)
theorem localBlockReady (carrier : Nat) (sym : Nat) (part : Nat) (gram : Bool) : Statement (.localBlockReady carrier sym part gram) := fun _ _ hx => nomatch (hx : none = some _)
theorem psumHoldInstant : Statement .psumHoldInstant := fun _ _ hx => nomatch (hx : none = some _)
theorem capture (agent : Nat) (host : Nat) : Statement (.capture agent host) := fun h _ hx =>
  of_maker (c := agent < 36 && host < 2) (by grind) h hx
theorem tbWrap (base : Nat) : Statement (.tbWrap base) := fun _ _ hx => nomatch (hx : none = some _)
theorem tbHalf (base : Nat) : Statement (.tbHalf base) := fun _ _ hx => nomatch (hx : none = some _)
theorem tbStep (agent : Nat) (base : Nat) (step : Nat) : Statement (.tbStep agent base step) := fun h _ hx =>
  of_maker (c := agent < 36 && base < 4 && step < 2 ^ 32) (by grind) h hx
theorem tbTallySet (agent : Nat) (base : Nat) (tally : Nat) : Statement (.tbTallySet agent base tally) := fun h _ hx =>
  of_maker (c := agent < 36 && base < 4 && tally < 256) (by grind) h hx
theorem tbDiscMode (agent : Nat) (base : Nat) (mode : Nat) : Statement (.tbDiscMode agent base mode) := fun h _ hx =>
  of_maker (c := agent < 36 && base < 4 && mode < 4) (by grind) h hx
theorem syncSend (base : Nat) (port : Nat) : Statement (.syncSend base port) := fun _ _ hx => nomatch (hx : none = some _)
theorem sync (base : Nat) (port : Nat) (exch : Nat) (t1 : Nat) (state : Nat) (stratum : Nat) : Statement (.sync base port exch t1 state stratum) := fun _ _ hx => nomatch (hx : none = some _)
theorem delayReq (base : Nat) (port : Nat) (exch : Nat) : Statement (.delayReq base port exch) := fun _ _ hx => nomatch (hx : none = some _)
theorem delayResp (base : Nat) (port : Nat) (exch : Nat) (t4 : Nat) : Statement (.delayResp base port exch t4) := fun _ _ hx => nomatch (hx : none = some _)
theorem exchangeTimeout : Statement .exchangeTimeout := fun _ _ hx => nomatch (hx : none = some _)
theorem syncMiss : Statement .syncMiss := fun _ _ hx => nomatch (hx : none = some _)
theorem tlArm (agent : Nat) : Statement (.tlArm agent) := fun h _ hx =>
  of_maker (c := agent < 36) (by grind) h hx
theorem tlClear (agent : Nat) : Statement (.tlClear agent) := fun h _ hx =>
  of_maker (c := agent < 36) (by grind) h hx
theorem tlStarted : Statement .tlStarted := fun _ _ hx => nomatch (hx : none = some _)
theorem timelineResume : Statement .timelineResume := fun _ _ hx => nomatch (hx : none = some _)
theorem altMeasure : Statement .altMeasure := fun _ _ hx => nomatch (hx : none = some _)
theorem gridMsBoundary : Statement .gridMsBoundary := fun _ _ hx => nomatch (hx : none = some _)
theorem syncInEdge (raw : Int) (mark : Bool) : Statement (.syncInEdge raw mark) := fun _ _ hx => nomatch (hx : none = some _)
theorem syncLoss : Statement .syncLoss := fun _ _ hx => nomatch (hx : none = some _)
theorem nlDetect (beforeA : List Nat) (beforeB : List Nat) (samplesA : List Nat) (samplesB : List Nat) (instant : Nat) :
    Statement (.nlDetect beforeA beforeB samplesA samplesB instant) := fun _ _ hx => nomatch (hx : none = some _)
theorem nlWindowEnd (samplesA : List Nat) (samplesB : List Nat) : Statement (.nlWindowEnd samplesA samplesB) := fun _ _ hx => nomatch (hx : none = some _)
theorem rxSym (issuer : Nat) (carrier : Nat) (trig : Nat) (payload : List Word) : Statement (.rxSym issuer carrier trig payload) := fun h _ hx =>
  of_maker (c := issuer < 34 && carrier < 4 && trig ≤ 13) (by grind) h hx
theorem gainSet (issuer : Nat) (carrier : Nat) (trig : Nat) (payload : List Word) : Statement (.gainSet issuer carrier trig payload) := fun h _ hx =>
  of_maker (c := issuer < 34 && carrier < 4 && trig ≤ 13) (by grind) h hx
theorem rxSymbolEnd (path : Nat) (carrier : Nat) (before : List Int) (codes : List Int) (behind : List Int) (fault : Bool) : Statement (.rxSymbolEnd path carrier before codes behind fault) := fun _ _ hx => nomatch (hx : none = some _)
theorem layerBlockReceived (data : List Byte) : Statement (.layerBlockReceived data) := fun _ _ hx => nomatch (hx : none = some _)
theorem layerFetch (carrier : Nat) : Statement (.layerFetch carrier) := fun _ _ hx => nomatch (hx : none = some _)
theorem layerMap (issuer : Nat) (carrier : Nat) (trig : Nat) (payload : List Word) : Statement (.layerMap issuer carrier trig payload) := fun h _ hx =>
  of_maker (c := issuer < 34 && carrier < 4 && trig ≤ 13) (by grind) h hx
theorem txSym (issuer : Nat) (carrier : Nat) (trig : Nat) (payload : List Word) : Statement (.txSym issuer carrier trig payload) := fun h _ hx =>
  of_maker (c := issuer < 34 && carrier < 4 && trig ≤ 13) (by grind) h hx
theorem pwrLoopUpdate : Statement .pwrLoopUpdate := fun _ _ hx => nomatch (hx : none = some _)
theorem faultClr (agent : Nat) (path : Nat) : Statement (.faultClr agent path) := fun h _ hx =>
  of_maker (c := agent < 36 && path < 64) (by grind) h hx
theorem mlogPop (agent : Nat) : Statement (.mlogPop agent) := fun h _ hx =>
  of_maker (c := agent < 36) (by grind) h hx
theorem dpdSwap (issuer : Nat) (carrier : Nat) (trig : Nat) (payload : List Word) : Statement (.dpdSwap issuer carrier trig payload) := fun h _ hx =>
  of_maker (c := issuer < 34 && carrier < 4 && trig ≤ 13) (by grind) h hx
theorem swap (agent : Nat) (path : Nat) : Statement (.swap agent path) := fun h _ hx =>
  of_maker (c := agent < 36 && path < 64) (by grind) h hx
theorem orxCaptureEnd (orx : Nat) (peak : Nat) (observed : List Cplx) (drive : List Cplx) (neighbours : List (List Cplx)) : Statement (.orxCaptureEnd orx peak observed drive neighbours) := fun _ _ hx => nomatch (hx : none = some _)
theorem statReady : Statement .statReady := fun _ _ hx => nomatch (hx : none = some _)
theorem ctxOpen (agent : Nat) (user : Nat) (carrier : Nat) (nports : Nat) : Statement (.ctxOpen agent user carrier nports) := fun h _ hx =>
  of_maker (c := agent < 36 && user < 2 ^ 16 && carrier < 4 && nports < 4) (by grind) h hx
theorem ctxClose (agent : Nat) (index : Nat) : Statement (.ctxClose agent index) := fun h _ hx =>
  of_maker (c := agent < 36 && index < 512) (by grind) h hx
theorem engineBoundary (late : List Nat) : Statement (.engineBoundary late) := fun _ _ hx => nomatch (hx : none = some _)
theorem snd (issuer : Nat) (carrier : Nat) (trig : Nat) (payload : List Word) : Statement (.snd issuer carrier trig payload) := fun h _ hx =>
  of_maker (c := issuer < 34 && carrier < 4 && trig ≤ 13) (by grind) h hx
theorem dlSched (issuer : Nat) (carrier : Nat) (trig : Nat) (payload : List Word) : Statement (.dlSched issuer carrier trig payload) := fun h _ hx =>
  of_maker (c := issuer < 34 && carrier < 4 && trig ≤ 13) (by grind) h hx
theorem ulSched (issuer : Nat) (carrier : Nat) (trig : Nat) (payload : List Word) : Statement (.ulSched issuer carrier trig payload) := fun h _ hx =>
  of_maker (c := issuer < 34 && carrier < 4 && trig ≤ 13) (by grind) h hx
theorem weightInstant (late : List Nat) : Statement (.weightInstant late) := fun _ _ hx => nomatch (hx : none = some _)
theorem weightDeadline (uplink : Bool) (late : List (Nat × Nat)) : Statement (.weightDeadline uplink late) := fun _ _ hx => nomatch (hx : none = some _)
theorem coreFrame (payload : List Byte) (poison : Bool) : Statement (.coreFrame payload poison) := fun _ _ hx => nomatch (hx : none = some _)
theorem trimLogPop (agent : Nat) : Statement (.trimLogPop agent) := fun h _ hx =>
  of_maker (c := agent < 36) (by grind) h hx
theorem raOcc (issuer : Nat) (carrier : Nat) (trig : Nat) (payload : List Word) : Statement (.raOcc issuer carrier trig payload) := fun h _ hx =>
  of_maker (c := issuer < 34 && carrier < 4 && trig ≤ 13) (by grind) h hx
theorem occasionQueued (data : List (List (List Cplx))) : Statement (.occasionQueued data) := fun _ _ hx => nomatch (hx : none = some _)
theorem raDone : Statement .raDone := fun _ _ hx => nomatch (hx : none = some _)
theorem coreReset (agent : Nat) (core : Nat) : Statement (.coreReset agent core) := fun h _ hx =>
  of_maker (c := agent < 36 && core < 34) (by grind) h hx
theorem coreResetDone (core : Nat) : Statement (.coreResetDone core) := fun h _ hx =>
  of_maker (c := core < 34) (by grind) h hx
theorem coreStop (agent : Nat) (core : Nat) : Statement (.coreStop agent core) := fun h _ hx =>
  of_maker (c := agent < 36 && core < 34) (by grind) h hx
theorem coreStart (agent : Nat) (core : Nat) : Statement (.coreStart agent core) := fun h _ hx =>
  of_maker (c := agent < 36 && core < 34) (by grind) h hx
theorem coreStep (agent : Nat) (core : Nat) : Statement (.coreStep agent core) := fun h _ hx =>
  of_maker (c := agent < 36 && core < 34) (by grind) h hx
theorem coreKick (agent : Nat) (core : Nat) : Statement (.coreKick agent core) := fun h _ hx =>
  of_maker (c := agent < 36 && core < 34) (by grind) h hx
theorem coreSoft (agent : Nat) (core : Nat) : Statement (.coreSoft agent core) := fun h _ hx =>
  of_maker (c := agent < 36 && core < 34) (by grind) h hx
theorem accessComplete (core : Nat) : Statement (.accessComplete core) := fun h _ hx =>
  of_maker (c := core < 34) (by grind) h hx
theorem interruptEntry (core : Nat) : Statement (.interruptEntry core) := fun h _ hx =>
  of_maker (c := core < 34) (by grind) h hx
theorem wdtWarn : Statement .wdtWarn := fun _ _ hx => nomatch (hx : none = some _)
theorem wdtExpire : Statement .wdtExpire := fun _ _ hx => nomatch (hx : none = some _)
theorem iAdd (core : Nat) (rd : Nat) (ra : Nat) (rb : Nat) : Statement (.iAdd core rd ra rb) := fun h _ hx =>
  of_maker (c := core < 34 && rd < 16 && ra < 16 && rb < 16) (by grind) h hx
theorem iSub (core : Nat) (rd : Nat) (ra : Nat) (rb : Nat) : Statement (.iSub core rd ra rb) := fun h _ hx =>
  of_maker (c := core < 34 && rd < 16 && ra < 16 && rb < 16) (by grind) h hx
theorem iAnd (core : Nat) (rd : Nat) (ra : Nat) (rb : Nat) : Statement (.iAnd core rd ra rb) := fun h _ hx =>
  of_maker (c := core < 34 && rd < 16 && ra < 16 && rb < 16) (by grind) h hx
theorem iOr (core : Nat) (rd : Nat) (ra : Nat) (rb : Nat) : Statement (.iOr core rd ra rb) := fun h _ hx =>
  of_maker (c := core < 34 && rd < 16 && ra < 16 && rb < 16) (by grind) h hx
theorem iXor (core : Nat) (rd : Nat) (ra : Nat) (rb : Nat) : Statement (.iXor core rd ra rb) := fun h _ hx =>
  of_maker (c := core < 34 && rd < 16 && ra < 16 && rb < 16) (by grind) h hx
theorem iShl (core : Nat) (rd : Nat) (ra : Nat) (rb : Nat) : Statement (.iShl core rd ra rb) := fun h _ hx =>
  of_maker (c := core < 34 && rd < 16 && ra < 16 && rb < 16) (by grind) h hx
theorem iShr (core : Nat) (rd : Nat) (ra : Nat) (rb : Nat) : Statement (.iShr core rd ra rb) := fun h _ hx =>
  of_maker (c := core < 34 && rd < 16 && ra < 16 && rb < 16) (by grind) h hx
theorem iAsr (core : Nat) (rd : Nat) (ra : Nat) (rb : Nat) : Statement (.iAsr core rd ra rb) := fun h _ hx =>
  of_maker (c := core < 34 && rd < 16 && ra < 16 && rb < 16) (by grind) h hx
theorem iMin (core : Nat) (rd : Nat) (ra : Nat) (rb : Nat) : Statement (.iMin core rd ra rb) := fun h _ hx =>
  of_maker (c := core < 34 && rd < 16 && ra < 16 && rb < 16) (by grind) h hx
theorem iMax (core : Nat) (rd : Nat) (ra : Nat) (rb : Nat) : Statement (.iMax core rd ra rb) := fun h _ hx =>
  of_maker (c := core < 34 && rd < 16 && ra < 16 && rb < 16) (by grind) h hx
theorem iAbs (core : Nat) (rd : Nat) (ra : Nat) (rb : Nat) : Statement (.iAbs core rd ra rb) := fun h _ hx =>
  of_maker (c := core < 34 && rd < 16 && ra < 16 && rb < 16) (by grind) h hx
theorem iCmp (core : Nat) (rd : Nat) (ra : Nat) (rb : Nat) : Statement (.iCmp core rd ra rb) := fun h _ hx =>
  of_maker (c := core < 34 && rd < 16 && ra < 16 && rb < 16) (by grind) h hx
theorem iTst (core : Nat) (rd : Nat) (ra : Nat) (rb : Nat) : Statement (.iTst core rd ra rb) := fun h _ hx =>
  of_maker (c := core < 34 && rd < 16 && ra < 16 && rb < 16) (by grind) h hx
theorem iMul16 (core : Nat) (rd : Nat) (ra : Nat) (rb : Nat) : Statement (.iMul16 core rd ra rb) := fun h _ hx =>
  of_maker (c := core < 34 && rd < 16 && ra < 16 && rb < 16) (by grind) h hx
theorem iNorm (core : Nat) (rd : Nat) (ra : Nat) (rb : Nat) : Statement (.iNorm core rd ra rb) := fun h _ hx =>
  of_maker (c := core < 34 && rd < 16 && ra < 16 && rb < 16) (by grind) h hx
theorem iCadd (core : Nat) (rd : Nat) (ra : Nat) (rb : Nat) : Statement (.iCadd core rd ra rb) := fun h _ hx =>
  of_maker (c := core < 34 && rd < 16 && ra < 16 && rb < 16) (by grind) h hx
theorem iCsub (core : Nat) (rd : Nat) (ra : Nat) (rb : Nat) : Statement (.iCsub core rd ra rb) := fun h _ hx =>
  of_maker (c := core < 34 && rd < 16 && ra < 16 && rb < 16) (by grind) h hx
theorem iConj (core : Nat) (rd : Nat) (ra : Nat) (rb : Nat) : Statement (.iConj core rd ra rb) := fun h _ hx =>
  of_maker (c := core < 34 && rd < 16 && ra < 16 && rb < 16) (by grind) h hx
theorem iAset (core : Nat) (rd : Nat) (ra : Nat) (rb : Nat) : Statement (.iAset core rd ra rb) := fun h _ hx =>
  of_maker (c := core < 34 && rd < 16 && ra < 16 && rb < 16) (by grind) h hx
theorem iAadd (core : Nat) (rd : Nat) (ra : Nat) (rb : Nat) : Statement (.iAadd core rd ra rb) := fun h _ hx =>
  of_maker (c := core < 34 && rd < 16 && ra < 16 && rb < 16) (by grind) h hx
theorem iAsub (core : Nat) (rd : Nat) (ra : Nat) (rb : Nat) : Statement (.iAsub core rd ra rb) := fun h _ hx =>
  of_maker (c := core < 34 && rd < 16 && ra < 16 && rb < 16) (by grind) h hx
theorem iAshr (core : Nat) (rd : Nat) (ra : Nat) (rb : Nat) : Statement (.iAshr core rd ra rb) := fun h _ hx =>
  of_maker (c := core < 34 && rd < 16 && ra < 16 && rb < 16) (by grind) h hx
theorem iAneg (core : Nat) (rd : Nat) (ra : Nat) (rb : Nat) : Statement (.iAneg core rd ra rb) := fun h _ hx =>
  of_maker (c := core < 34 && rd < 16 && ra < 16 && rb < 16) (by grind) h hx
theorem iMovr (core : Nat) (dst : Nat) (src : Nat) : Statement (.iMovr core dst src) := fun h _ hx =>
  of_maker (c := core < 34 && dst < 64 && src < 64) (by grind) h hx
theorem iAddi (core : Nat) (rd : Nat) (ra : Nat) (imm : Nat) : Statement (.iAddi core rd ra imm) := fun h _ hx =>
  of_maker (c := core < 34 && rd < 16 && ra < 16 && imm < 2 ^ 14) (by grind) h hx
theorem iAndi (core : Nat) (rd : Nat) (ra : Nat) (imm : Nat) : Statement (.iAndi core rd ra imm) := fun h _ hx =>
  of_maker (c := core < 34 && rd < 16 && ra < 16 && imm < 2 ^ 14) (by grind) h hx
theorem iOri (core : Nat) (rd : Nat) (ra : Nat) (imm : Nat) : Statement (.iOri core rd ra imm) := fun h _ hx =>
  of_maker (c := core < 34 && rd < 16 && ra < 16 && imm < 2 ^ 14) (by grind) h hx
theorem iXori (core : Nat) (rd : Nat) (ra : Nat) (imm : Nat) : Statement (.iXori core rd ra imm) := fun h _ hx =>
  of_maker (c := core < 34 && rd < 16 && ra < 16 && imm < 2 ^ 14) (by grind) h hx
theorem iShli (core : Nat) (rd : Nat) (ra : Nat) (imm : Nat) : Statement (.iShli core rd ra imm) := fun h _ hx =>
  of_maker (c := core < 34 && rd < 16 && ra < 16 && imm < 2 ^ 14) (by grind) h hx
theorem iShri (core : Nat) (rd : Nat) (ra : Nat) (imm : Nat) : Statement (.iShri core rd ra imm) := fun h _ hx =>
  of_maker (c := core < 34 && rd < 16 && ra < 16 && imm < 2 ^ 14) (by grind) h hx
theorem iAsri (core : Nat) (rd : Nat) (ra : Nat) (imm : Nat) : Statement (.iAsri core rd ra imm) := fun h _ hx =>
  of_maker (c := core < 34 && rd < 16 && ra < 16 && imm < 2 ^ 14) (by grind) h hx
theorem iCmpi (core : Nat) (rd : Nat) (ra : Nat) (imm : Nat) : Statement (.iCmpi core rd ra imm) := fun h _ hx =>
  of_maker (c := core < 34 && rd < 16 && ra < 16 && imm < 2 ^ 14) (by grind) h hx
theorem iLui (core : Nat) (dst : Nat) (imm : Nat) : Statement (.iLui core dst imm) := fun h _ hx =>
  of_maker (c := core < 34 && dst < 64 && imm < 2 ^ 16) (by grind) h hx
theorem iLli (core : Nat) (dst : Nat) (imm : Nat) : Statement (.iLli core dst imm) := fun h _ hx =>
  of_maker (c := core < 34 && dst < 64 && imm < 2 ^ 16) (by grind) h hx
theorem iPaddi (core : Nat) (p : Nat) (imm : Nat) : Statement (.iPaddi core p imm) := fun h _ hx =>
  of_maker (c := core < 34 && p < 8 && imm < 2 ^ 14) (by grind) h hx
theorem iMovi (core : Nat) (dst : Nat) (imm : Nat) : Statement (.iMovi core dst imm) := fun h _ hx =>
  of_maker (c := core < 34 && dst < 64 && imm < 2 ^ 16) (by grind) h hx
theorem iCmac (core : Nat) (k : Nat) (cj : Bool) (ng : Bool) (x : Nat) (y : Nat) : Statement (.iCmac core k cj ng x y) := fun h _ hx =>
  of_maker (c := core < 34 && k < 4 && x < 2 ^ 10 && y < 2 ^ 10) (by grind) h hx
theorem iRmac2 (core : Nat) (k : Nat) (cj : Bool) (ng : Bool) (x : Nat) (y : Nat) : Statement (.iRmac2 core k cj ng x y) := fun h _ hx =>
  of_maker (c := core < 34 && k < 4 && x < 2 ^ 10 && y < 2 ^ 10) (by grind) h hx
theorem iCmul (core : Nat) (k : Nat) (cj : Bool) (ng : Bool) (x : Nat) (y : Nat) : Statement (.iCmul core k cj ng x y) := fun h _ hx =>
  of_maker (c := core < 34 && k < 4 && x < 2 ^ 10 && y < 2 ^ 10) (by grind) h hx
theorem iRmul2 (core : Nat) (k : Nat) (cj : Bool) (ng : Bool) (x : Nat) (y : Nat) : Statement (.iRmul2 core k cj ng x y) := fun h _ hx =>
  of_maker (c := core < 34 && k < 4 && x < 2 ^ 10 && y < 2 ^ 10) (by grind) h hx
theorem iLoad (core : Nat) (w : Nat) (sx : Bool) (g : Nat) (p : Nat) (mode : Nat) (arg : Nat) : Statement (.iLoad core w sx g p mode arg) := fun h _ hx =>
  of_maker (c := core < 34 && w < 4 && g < 16 && p < 8 && mode < 8 && arg < 2 ^ 13) (by grind) h hx
theorem iStore (core : Nat) (w : Nat) (g : Nat) (p : Nat) (mode : Nat) (arg : Nat) : Statement (.iStore core w g p mode arg) := fun h _ hx =>
  of_maker (c := core < 34 && w < 4 && g < 16 && p < 8 && mode < 8 && arg < 2 ^ 13) (by grind) h hx
theorem iDualAccess (core : Nat) (xst : Bool) (yst : Bool) (gx : Nat) (px : Nat) (ux : Nat) (gy : Nat) (py : Nat) (uy : Nat) : Statement (.iDualAccess core xst yst gx px ux gy py uy) := fun h _ hx =>
  of_maker (c := core < 34 && gx < 16 && px < 8 && ux < 8 && gy < 16 && py < 8 && uy < 8) (by grind) h hx
theorem iMvw (core : Nat) (rd : Nat) (a : Nat) : Statement (.iMvw core rd a) := fun h _ hx =>
  of_maker (c := core < 34 && rd < 16 && a < 8) (by grind) h hx
theorem iMvp (core : Nat) (rd : Nat) (a : Nat) : Statement (.iMvp core rd a) := fun h _ hx =>
  of_maker (c := core < 34 && rd < 16 && a < 8) (by grind) h hx
theorem iBlkend (core : Nat) : Statement (.iBlkend core) := fun h _ hx =>
  of_maker (c := core < 34) (by grind) h hx
theorem iBranch (core : Nat) (cond : Nat) (off : Nat) : Statement (.iBranch core cond off) := fun h _ hx =>
  of_maker (c := core < 34 && cond < 16 && off < 2 ^ 22) (by grind) h hx
theorem iCall (core : Nat) (cond : Nat) (off : Nat) : Statement (.iCall core cond off) := fun h _ hx =>
  of_maker (c := core < 34 && cond < 16 && off < 2 ^ 22) (by grind) h hx
theorem iReturn (core : Nat) (cond : Nat) : Statement (.iReturn core cond) := fun h _ hx =>
  of_maker (c := core < 34 && cond < 16) (by grind) h hx
theorem iJumpRegister (core : Nat) (cond : Nat) (g : Nat) : Statement (.iJumpRegister core cond g) := fun h _ hx =>
  of_maker (c := core < 34 && cond < 16 && g < 16) (by grind) h hx
theorem iRpt (core : Nat) (count : Nat) : Statement (.iRpt core count) := fun h _ hx =>
  of_maker (c := core < 34 && 1 ≤ count && count ≤ 4096) (by grind) h hx
theorem iRptr (core : Nat) (g : Nat) : Statement (.iRptr core g) := fun h _ hx =>
  of_maker (c := core < 34 && g < 16) (by grind) h hx
theorem iLoop (core : Nat) (lvl : Nat) (endw : Nat) (count : Nat) : Statement (.iLoop core lvl endw count) := fun h _ hx =>
  of_maker (c := core < 34 && lvl < 2 && endw < 2 ^ 13 && 1 ≤ count && count ≤ 4096) (by grind) h hx
theorem iLoopr (core : Nat) (lvl : Nat) (endw : Nat) (g : Nat) : Statement (.iLoopr core lvl endw g) := fun h _ hx =>
  of_maker (c := core < 34 && lvl < 2 && endw < 2 ^ 13 && g < 16) (by grind) h hx
theorem iSend (core : Nat) (gs : Nat) (ga : Nat) (gb : Nat) : Statement (.iSend core gs ga gb) := fun h _ hx =>
  of_maker (c := core < 34 && gs < 16 && ga < 16 && gb < 16) (by grind) h hx
theorem iRecv (core : Nat) (gs : Nat) (ga : Nat) : Statement (.iRecv core gs ga) := fun h _ hx =>
  of_maker (c := core < 34 && gs < 16 && ga < 16) (by grind) h hx
theorem iRecvw (core : Nat) (gs : Nat) (ga : Nat) : Statement (.iRecvw core gs ga) := fun h _ hx =>
  of_maker (c := core < 34 && gs < 16 && ga < 16) (by grind) h hx
theorem iRing (core : Nat) (gs : Nat) (gb : Nat) : Statement (.iRing core gs gb) := fun h _ hx =>
  of_maker (c := core < 34 && gs < 16 && gb < 16) (by grind) h hx
theorem iAcq (core : Nat) (gs : Nat) (n : Nat) : Statement (.iAcq core gs n) := fun h _ hx =>
  of_maker (c := core < 34 && gs < 16 && n < 64) (by grind) h hx
theorem iTryacq (core : Nat) (gs : Nat) (n : Nat) : Statement (.iTryacq core gs n) := fun h _ hx =>
  of_maker (c := core < 34 && gs < 16 && n < 64) (by grind) h hx
theorem iRel (core : Nat) (gs : Nat) (n : Nat) : Statement (.iRel core gs n) := fun h _ hx =>
  of_maker (c := core < 34 && gs < 16 && n < 64) (by grind) h hx
theorem iBar (core : Nat) (gs : Nat) (n : Nat) : Statement (.iBar core gs n) := fun h _ hx =>
  of_maker (c := core < 34 && gs < 16 && n < 64) (by grind) h hx
theorem iPush (core : Nat) (blk : Nat) (lsel : Nat) (gs : Nat) (gh : Nat) (p : Nat) (full : Bool) : Statement (.iPush core blk lsel gs gh p full) := fun h _ hx =>
  of_maker (c := core < 34 && blk < 32 && lsel < 2 && gs < 16 && gh < 16 && p < 8) (by grind) h hx
theorem iSeal (core : Nat) (lsel : Nat) (gs : Nat) : Statement (.iSeal core lsel gs) := fun h _ hx =>
  of_maker (c := core < 34 && lsel < 2 && gs < 16) (by grind) h hx
theorem iWslot (core : Nat) (lsel : Nat) : Statement (.iWslot core lsel) := fun h _ hx =>
  of_maker (c := core < 34 && lsel < 2) (by grind) h hx
theorem iWsym (core : Nat) (gs : Nat) (sym : Nat) (lsel : Nat) : Statement (.iWsym core gs sym lsel) := fun h _ hx =>
  of_maker (c := core < 34 && gs < 16 && sym < 16 && lsel < 2) (by grind) h hx
theorem iTtgt (core : Nat) (g : Nat) (lsel : Nat) : Statement (.iTtgt core g lsel) := fun h _ hx =>
  of_maker (c := core < 34 && g < 16 && lsel < 2) (by grind) h hx
theorem iTnow (core : Nat) (g : Nat) (lsel : Nat) : Statement (.iTnow core g lsel) := fun h _ hx =>
  of_maker (c := core < 34 && g < 16 && lsel < 2) (by grind) h hx
theorem iNop (core : Nat) : Statement (.iNop core) := fun h _ hx =>
  of_maker (c := core < 34) (by grind) h hx
theorem iReti (core : Nat) : Statement (.iReti core) := fun h _ hx =>
  of_maker (c := core < 34) (by grind) h hx
theorem iKick (core : Nat) : Statement (.iKick core) := fun h _ hx =>
  of_maker (c := core < 34) (by grind) h hx
theorem iStop (core : Nat) : Statement (.iStop core) := fun h _ hx =>
  of_maker (c := core < 34) (by grind) h hx
theorem iEi (core : Nat) : Statement (.iEi core) := fun h _ hx =>
  of_maker (c := core < 34) (by grind) h hx
theorem iDi (core : Nat) : Statement (.iDi core) := fun h _ hx =>
  of_maker (c := core < 34) (by grind) h hx
theorem iVeto (core : Nat) (v : Bool) : Statement (.iVeto core v) := fun h _ hx =>
  of_maker (c := core < 34) (by grind) h hx
theorem iBrk (core : Nat) : Statement (.iBrk core) := fun h _ hx =>
  of_maker (c := core < 34) (by grind) h hx
theorem waitTimeout (agent : Nat) : Statement (.waitTimeout agent) := fun h _ hx =>
  of_maker (c := agent < 36) (by grind) h hx
theorem arbRequest (id : Nat) (addr : Nat) (write : Bool) (realTime : Bool) (beats : Nat) (cycle : Nat) : Statement (.arbRequest id addr write realTime beats cycle) := fun _ _ hx => nomatch (hx : none = some _)
theorem burstBoundary (bank : Nat) (cycle : Nat) : Statement (.burstBoundary bank cycle) := fun _ _ hx => nomatch (hx : none = some _)
theorem starve (bank : Nat) (cycle : Nat) : Statement (.starve bank cycle) := fun _ _ hx => nomatch (hx : none = some _)
theorem postCmd (agent : Nat) (owner : Nat) (word : Nat) : Statement (.postCmd agent owner word) := fun h _ hx =>
  of_maker (c := agent < 36 && owner < 36 && word < 2 ^ 32) (by grind) h hx
theorem postComplete (agent : Nat) (index : Nat) : Statement (.postComplete agent index) := fun h _ hx =>
  of_maker (c := agent < 36) (by grind) h hx
theorem compPop (agent : Nat) (owner : Nat) : Statement (.compPop agent owner) := fun h _ hx =>
  of_maker (c := agent < 36 && owner < 36) (by grind) h hx
theorem lfsrSeed (agent : Nat) (seed : Nat) : Statement (.lfsrSeed agent seed) := fun h _ hx =>
  of_maker (c := agent < 36 && seed < 2 ^ 16) (by grind) h hx
theorem hostSend (agent : Nat) (host : Nat) (word : Nat) : Statement (.hostSend agent host word) := fun h _ hx =>
  of_maker (c := agent < 36 && host < 2 && word < 2 ^ 32) (by grind) h hx
theorem hostRecv (agent : Nat) (host : Nat) : Statement (.hostRecv agent host) := fun h _ hx =>
  of_maker (c := agent < 36 && host < 2) (by grind) h hx
theorem dbRing (agent : Nat) (host : Nat) (target : Nat) : Statement (.dbRing agent host target) := fun h _ hx =>
  of_maker (c := agent < 36 && host < 2 && target < 64) (by grind) h hx
theorem ringWakeDone : Statement .ringWakeDone := fun _ _ hx => nomatch (hx : none = some _)
theorem hostRestart (agent : Nat) (host : Nat) : Statement (.hostRestart agent host) := fun h _ hx =>
  of_maker (c := agent < 36 && host < 2) (by grind) h hx
theorem poolRegister (agent : Nat) (owner : Nat) (pool : Nat) (size : Nat) : Statement (.poolRegister agent owner pool size) := fun h _ hx =>
  of_maker (c := agent < 36 && owner < 36 && pool < 2 && size < 2 ^ 16) (by grind) h hx
theorem poolRelease (agent : Nat) (owner : Nat) (pool : Nat) : Statement (.poolRelease agent owner pool) := fun h _ hx =>
  of_maker (c := agent < 36 && owner < 36 && pool < 2) (by grind) h hx
theorem hostAcq (agent : Nat) (host : Nat) (sem : Nat) : Statement (.hostAcq agent host sem) := fun h _ hx =>
  of_maker (c := agent < 36 && host < 2 && sem < 64) (by grind) h hx
theorem hostTryacq (agent : Nat) (host : Nat) (sem : Nat) : Statement (.hostTryacq agent host sem) := fun h _ hx =>
  of_maker (c := agent < 36 && host < 2 && sem < 64) (by grind) h hx
theorem hostRel (agent : Nat) (host : Nat) (sem : Nat) : Statement (.hostRel agent host sem) := fun h _ hx =>
  of_maker (c := agent < 36 && host < 2 && sem < 64) (by grind) h hx
theorem breakSem (agent : Nat) (sem : Nat) : Statement (.breakSem agent sem) := fun h _ hx =>
  of_maker (c := agent < 36 && sem < 64) (by grind) h hx
theorem calFull (agent : Nat) : Statement (.calFull agent) := fun h _ hx =>
  of_maker (c := agent < 36) (by grind) h hx
theorem calRun (issuer : Nat) (carrier : Nat) (trig : Nat) (payload : List Word) : Statement (.calRun issuer carrier trig payload) := fun h _ hx =>
  of_maker (c := issuer < 34 && carrier < 4 && trig ≤ 13) (by grind) h hx
theorem calResult (kind : Nat) (path : Nat) (fail : Nat) (value : List Int) : Statement (.calResult kind path fail value) := fun _ _ hx => nomatch (hx : none = some _)
theorem reload (agent : Nat) : Statement (.reload agent) := fun h _ hx =>
  of_maker (c := agent < 36) (by grind) h hx
theorem planSwitch (agent : Nat) (word : Nat) : Statement (.planSwitch agent word) := fun h _ hx =>
  of_maker (c := agent < 36 && word < 2 ^ 32) (by grind) h hx
theorem settlingWindowEnd : Statement .settlingWindowEnd := fun _ _ hx => nomatch (hx : none = some _)
theorem unlock : Statement .unlock := fun _ _ hx => nomatch (hx : none = some _)
theorem synthLock : Statement .synthLock := fun _ _ hx => nomatch (hx : none = some _)
theorem synthCalDone (band : Nat) (trim : Nat) (residual : Nat) : Statement (.synthCalDone band trim residual) := fun _ _ hx => nomatch (hx : none = some _)
theorem cancel (agent : Nat) : Statement (.cancel agent) := fun h _ hx =>
  of_maker (c := agent < 36) (by grind) h hx
theorem clkSave (agent : Nat) : Statement (.clkSave agent) := fun h _ hx =>
  of_maker (c := agent < 36) (by grind) h hx
theorem clkCal (agent : Nat) : Statement (.clkCal agent) := fun h _ hx =>
  of_maker (c := agent < 36) (by grind) h hx
theorem txRxTurnround : Statement .txRxTurnround := fun _ _ hx => nomatch (hx : none = some _)
theorem rxTxTurnround : Statement .rxTxTurnround := fun _ _ hx => nomatch (hx : none = some _)
theorem biasWrite (agent : Nat) (dac : Nat) (word : Nat) : Statement (.biasWrite agent dac word) := fun h _ hx =>
  of_maker (c := agent < 36 && dac < 136 && word < 2 ^ 32) (by grind) h hx
theorem biasHoldRelease (dac : Nat) : Statement (.biasHoldRelease dac) := fun _ _ hx => nomatch (hx : none = some _)
theorem coexReqEdge (port : Nat) (rise : Bool) : Statement (.coexReqEdge port rise) := fun _ _ hx => nomatch (hx : none = some _)
theorem coexGntSample (port : Nat) (carrier : Nat) (level : Bool) : Statement (.coexGntSample port carrier level) := fun _ _ hx => nomatch (hx : none = some _)
theorem regSave (agent : Nat) : Statement (.regSave agent) := fun h _ hx =>
  of_maker (c := agent < 36) (by grind) h hx
theorem sensorReading (sensor : Nat) (value : Int) : Statement (.sensorReading sensor value) := fun _ _ hx => nomatch (hx : none = some _)
theorem escalateDwell : Statement .escalateDwell := fun _ _ hx => nomatch (hx : none = some _)
theorem relaxDwell : Statement .relaxDwell := fun _ _ hx => nomatch (hx : none = some _)
theorem failClr (agent : Nat) (sensor : Nat) : Statement (.failClr agent sensor) := fun h _ hx =>
  of_maker (c := agent < 36 && sensor < 48) (by grind) h hx
theorem shutdownPowerOff : Statement .shutdownPowerOff := fun _ _ hx => nomatch (hx : none = some _)
theorem aonSensorReading (value : Int) : Statement (.aonSensorReading value) := fun _ _ hx => nomatch (hx : none = some _)
theorem thmInjShdn (agent : Nat) (sensor : Nat) : Statement (.thmInjShdn agent sensor) := fun h _ hx =>
  of_maker (c := agent < 36 && sensor < 48) (by grind) h hx
theorem thmInjFail (agent : Nat) (sensor : Nat) : Statement (.thmInjFail agent sensor) := fun h _ hx =>
  of_maker (c := agent < 36 && sensor < 48) (by grind) h hx
theorem thmInjOfs (agent : Nat) (sensor : Nat) (ofs : Nat) : Statement (.thmInjOfs agent sensor ofs) := fun h _ hx =>
  of_maker (c := agent < 36 && sensor < 48 && ofs < 256) (by grind) h hx
theorem hkConversionDone (conv : Nat) (codeA : Int) (codeB : Int) : Statement (.hkConversionDone conv codeA codeB) := fun _ _ hx => nomatch (hx : none = some _)
theorem plausStart : Statement .plausStart := fun _ _ hx => nomatch (hx : none = some _)
theorem harvest (agent : Nat) (acc : Nat) : Statement (.harvest agent acc) := fun h _ hx =>
  of_maker (c := agent < 36 && acc < 64) (by grind) h hx
theorem harvestPeriodEnd : Statement .harvestPeriodEnd := fun _ _ hx => nomatch (hx : none = some _)
theorem urgentRequest (source : Nat) : Statement (.urgentRequest source) := fun _ _ hx => nomatch (hx : none = some _)
theorem hkInj (agent : Nat) (ofs : Nat) : Statement (.hkInj agent ofs) := fun h _ hx =>
  of_maker (c := agent < 36 && ofs < 256) (by grind) h hx
theorem nvmCmd (agent : Nat) (record : Nat) (length : Nat) : Statement (.nvmCmd agent record length) := fun h _ hx =>
  of_maker (c := agent < 36 && record < 16 && length < 2 ^ 21) (by grind) h hx
theorem nvmWordWriteDone : Statement .nvmWordWriteDone := fun _ _ hx => nomatch (hx : none = some _)
theorem lcReq (agent : Nat) (key : Nat) (target : Nat) : Statement (.lcReq agent key target) := fun h _ hx =>
  of_maker (c := agent < 36 && key < 256 && target < 4) (by grind) h hx
theorem lcAuthDone : Statement .lcAuthDone := fun _ _ hx => nomatch (hx : none = some _)
theorem nvmInjTorn (agent : Nat) : Statement (.nvmInjTorn agent) := fun h _ hx =>
  of_maker (c := agent < 36) (by grind) h hx
theorem injArm (agent : Nat) (key : Nat) (time : Nat) : Statement (.injArm agent key time) := fun h _ hx =>
  of_maker (c := agent < 36 && key < 256 && time < 256) (by grind) h hx
theorem disarm (agent : Nat) : Statement (.disarm agent) := fun h _ hx =>
  of_maker (c := agent < 36) (by grind) h hx
theorem injWindowEnd : Statement .injWindowEnd := fun _ _ hx => nomatch (hx : none = some _)
theorem injCmd (agent : Nat) (word : Nat) : Statement (.injCmd agent word) := fun h _ hx =>
  of_maker (c := agent < 36 && word < 2 ^ 32) (by grind) h hx
theorem ocMonitorTick (monitor : Nat) : Statement (.ocMonitorTick monitor) := fun _ _ hx => nomatch (hx : none = some _)
theorem spiWrite (addr : Nat) (data : List Byte) : Statement (.spiWrite addr data) := fun _ _ hx => nomatch (hx : none = some _)
theorem spiRead (addr : Nat) (count : Nat) : Statement (.spiRead addr count) := fun _ _ hx => nomatch (hx : none = some _)
theorem spiStatus : Statement .spiStatus := fun _ _ hx => nomatch (hx : none = some _)
theorem spiWordApply : Statement .spiWordApply := fun _ _ hx => nomatch (hx : none = some _)
theorem mgmtWrite (device : Nat) (addr : Nat) (data : List Byte) : Statement (.mgmtWrite device addr data) := fun _ _ hx => nomatch (hx : none = some _)
theorem mgmtRead (device : Nat) (addr : Nat) (count : Nat) : Statement (.mgmtRead device addr count) := fun _ _ hx => nomatch (hx : none = some _)
theorem extest (pads : Nat) : Statement (.extest pads) := fun _ _ hx => nomatch (hx : none = some _)
theorem idcode : Statement .idcode := fun _ _ hx => nomatch (hx : none = some _)
theorem samplePreload (pads : Nat) (shift : Nat) : Statement (.samplePreload pads shift) := fun _ _ hx => nomatch (hx : none = some _)
theorem dbgacc (write : Bool) (addr : Nat) (bytes : Nat) (data : Nat) : Statement (.dbgacc write addr bytes data) := fun _ _ hx => nomatch (hx : none = some _)
theorem bypass : Statement .bypass := fun _ _ hx => nomatch (hx : none = some _)
theorem signalChange (port : Nat) (present : Nat) : Statement (.signalChange port present) := fun _ _ hx => nomatch (hx : none = some _)
theorem checkerLock (port : Nat) (lane : LaneBits) : Statement (.checkerLock port lane) := fun _ _ hx => nomatch (hx : none = some _)
theorem patErr (port : Nat) (lane : Nat) (gap : Nat) : Statement (.patErr port lane gap) := fun _ _ hx => nomatch (hx : none = some _)
theorem reservedEncoding (core : Nat) (word : Nat) : Statement (.reservedEncoding core word) := fun h _ hx =>
  of_maker (c := core < 34 && word < 2 ^ 32 && (decodeOp word).isNone) (by grind) h hx
theorem coresComplete : Statement .coresComplete := fun _ _ hx => nomatch (hx : none = some _)
theorem wipeComplete : Statement .wipeComplete := fun _ _ hx => nomatch (hx : none = some _)

end Sys2Proof.Laws.Wf
end

