-- ==== Sys2Proof/Tests/Slice0.lean ====
section
/-! SUPPORT. Tests: ill-formed commands, instruction words written out from their encodings, single steps, and for each statement a state and operands that meet
its hypotheses. -/

namespace Sys2Proof.Tests
open Sys2Proof Sys2Proof.Machine

set_option Elab.async false

/-! ## Small states -/

/-- Base camp, served, nothing under way. -/
def camp : State :=
  (({ doms := domsOfMode 1, pwr := { seq := 0, shdnLow := false, railLow := false } } : State).setF F.PWR.MODE_STATUS_MODE 1).setF F.SYS.BOOT_STATUS_WIPE 0

/-- Serve with every domain on and the cores of `l` STOPPED, 5,000,000 units after power came up. -/
def serve (l : List Nat) : State :=
  l.foldl (fun s n => s.setF (F.TKC.C_STATUS_STATE n) 1)
    ((({ doms := domsOfMode 3, now := 5000000, pwr := { seq := 0, shdnLow := false, railLow := false } } : State).setF F.PWR.MODE_STATUS_MODE 3).setF
      F.SYS.BOOT_STATUS_WIPE 0)

/-- A state in which core n stands in a state of R390 with these registers. -/
def withCore (s : State) (n st : Nat) (c : Core) : State := { s with cores := setNth s.cores n c }.setF (F.TKC.C_STATUS_STATE n) st

/-- Core 3 runs; its pointers p2 and p4 name its own data memory, p5 context memory. -/
def running : State :=
  withCore (serve [0, 1, 3, 5]) 3 2
    { pc := 8, g := [0, 5, 7, 0x80000000, 3, 35, 2, 8, 9, 10, 11, 12, 13, 14, 15, 16],
      p := [0x0F000000, 0x0F000000, 0x0F000010, 0x0F000020, 0x0F000020, 0x100, 0x0F000011, 0], l := [0, 0, 0, 0], wdtSince := some 0 }

/-- The timeline runs with carrier 0 of 30 kHz enabled and paced by LC0. -/
def onAir : State := { ((serve [0, 1]).setF F.TIM.TL_STATUS_STATE 2).setF (F.SYS.GRID_CFG_EN 0) 1 with now := 1000000 }

/-! ## Ill-formed commands and words -/

theorem test_illformed_agent : Instr.wf (.modeReq 36 1) = false := by decide
theorem test_illformed_core : Instr.wf (.coreStop 34 34) = false := by decide
theorem test_illformed_carrier : Instr.wf (.symbolBoundary 4) = false := by decide
theorem test_illformed_leader : Instr.wf (.slotBoundary 2) = false := by decide
theorem test_illformed_block : Instr.wf (.shdCommit 34 28) = false := by decide
theorem test_illformed_word : Instr.wf (.registerWrite 34 0x10000100 (2 ^ 32)) = false := by decide
theorem test_illformed_address : Instr.wf (.registerWrite 34 0x0FFFFFFC 0) = false := by decide
theorem test_illformed_path : Instr.wf (.faultClr 34 64) = false := by decide
theorem test_illformed_port : Instr.wf (.retrain 34 6) = false := by decide
theorem test_wellformed : Instr.wf (.registerWrite 35 0x10000100 0xFFFFFFFF) = true := by decide

/-- LUI of p0 with 0x0F00: class 1, the destination code 0x18 and the immediate. -/
theorem test_word_lui : decodeOp 0x1C580F00 = some (.lui 0x18 0x0F00) := by decide +kernel
/-- MOVI of l1 with 256. -/
theorem test_word_movi : decodeOp 0x1D250100 = some (.movi 0x25 0x100) := by decide +kernel
/-- The words of the specification's complex-MAC kernel: loop0 to 5 words ahead 16 times, cmul, rpt 63, cmac, mvp of the pair a0 into g4, st.w of g4 through p2. -/
theorem test_words_kernel : [0x6800500F, 0x24504498, 0x6000003E, 0x20504498, 0x45000000, 0x36224001].map decodeOp =
    [some (.loop 0 5 16), some (.mac 2 0 true false 0x208 0x24C), some (.rpt 63), some (.mac 0 0 true false 0x208 0x24C), some (.mvp 4 0),
      some (.store 2 4 2 2 1)] := by decide +kernel
theorem test_word_nop : decodeOp 0xA0000000 = some .nop := by decide +kernel
theorem test_word_table : decodeTableWord 32 0xA0000000 = none := rfl

/-! ## Single steps -/

/-- A step with an empty queue lets 2 ns pass. -/
theorem test_idle : (match step camp with | .next t => t.now | _ => 0) = 768 := by decide +kernel
/-- ADD sets Z where the sum is 0. -/
theorem test_add_self_carry : (match exec (.iAdd 3 4 3 3) running with | .next t => ((t.core 3).gReg 4, (t.core 3).sr, (t.core 3).pc) | _ => (0, 0, 0)) =
    (0x00000000#32, 0x7#32, 12) := by decide +kernel

/-! ## Witnesses: core instructions -/

theorem witness_core_ready : ∀ o ∈ ([
    .alu .add 4 1 2, .imm .addi 4 1 0x3FFF, .alu .sub 4 1 2, .alu .cmp 0 1 2, .imm .cmpi 0 1 0x2000, .alu .and_ 4 1 2, .imm .andi 4 1 0x3FFF,
    .alu .or_ 4 1 2, .imm .ori 4 1 0, .alu .xor_ 4 1 2, .imm .xori 4 1 1, .alu .min_ 4 1 3, .alu .max_ 4 1 3, .alu .mul16 4 1 2, .alu .tst 0 1 2,
    .alu .shl 4 1 5, .alu .shr 4 3 5, .alu .asr 4 3 5, .imm .shli 4 1 0, .imm .shri 4 1 31, .imm .asri 4 3 31, .alu .abs_ 4 3 0, .alu .norm 4 3 0,
    .alu .cadd 4 1 2, .alu .csub 4 1 2, .alu .conj 4 1 0, .alu .aset 0 1 0, .alu .aadd 0 7 0, .alu .asub 0 7 0, .alu .ashr 7 1 0, .alu .aneg 7 0 0,
    .movr 0x0F 1, .lui 0x18 0x0F00, .lli 0x1F 0xFFFF, .movi 0x25 0x100, .movr 0x10 1, .movr 0x20 1, .movr 0x31 1, .movr 0x33 1, .movr 0x34 1, .movr 0x35 1,
    .movr 0x3D 1, .movr 0x32 3, .paddi 7 0x3FFF, .mvw 4 7, .mvp 4 6, .blkend, .branch 0 0x3FFFFF, .branch 14 2, .call 0 2, .ret 0, .jump 0 15,
    .rpt 4096, .rptr 1, .loop 1 8191 1, .loopr 0 1 1, .nop, .kick, .ei, .di, .veto true, .stop, .brk, .ttgt 4 0, .tnow 4 1] : List Op),
    running.readyFor 3 o := by
  unfold State.readyFor State.runs
  decide +kernel

/-- Core 3 of `running` with other registers. -/
def runningWith (f : Core → Core) : State := running.modCore 3 f

theorem witness_mvp_block : (runningWith fun c => { c with scl := 0x81010005 }).readyFor 3 (.mvp 4 6) ∧
    ((runningWith fun c => { c with scl := 0x81010005 }).core 3).scl.msb = true ∧ (running.core 3).scl.msb = false := by
  unfold State.readyFor State.runs
  decide +kernel

/-- A MAC of two registers, and one of a register and a local element of 2 bytes whose pointer moves on. -/
theorem witness_macs : running.calm ∧ running.readyFor 3 (.mac 0 3 false true 0x30 0x20) ∧ running.operand 3 0x30 4 0x80000000#32 [] ∧
    running.operand 3 0x20 4 7#32 [] ∧ running.readyFor 3 (.mac 1 0 false false 0x10 0x208) ∧ running.operand 3 0x10 4 5#32 [] ∧
    running.operand 3 0x208 2 0#32 [(0, 0x0F000002#32)] := by
  refine ⟨by unfold State.calm; decide +kernel, by unfold State.readyFor State.runs; decide +kernel, (by decide +kernel : _ ∧ _),
    (by decide +kernel : _ ∧ _), by unfold State.readyFor State.runs; decide +kernel, (by decide +kernel : _ ∧ _), ?_⟩
  exact ⟨by unfold localOk; decide +kernel, by decide +kernel, by decide +kernel, 0x0F000002#32, by decide +kernel, by decide +kernel⟩

theorem witness_local_accesses : ∀ w ∈ [0, 1, 2, 3],
    (running.core 3).afterMode 4 (2 ^ w) 0 0 = some 0x0F000020#32 ∧ localOk ((running.core 3).addrMode 4 (2 ^ w) 0 0) (2 ^ w) ∧
    running.readyFor 3 (.load w false 14 4 0 0) ∧ running.readyFor 3 (.store w 14 4 0 0) ∧
    running.injEcc (localCell 3 ((running.core 3).addrMode 4 (2 ^ w) 0 0)) (2 ^ w) = none := by
  unfold State.readyFor State.runs localOk
  decide +kernel

theorem witness_dual_access : running.readyFor 3 (.dual true false 1 2 1 2 2 2) ∧ running.readyFor 3 (.dual false true 1 2 5 2 3 0) ∧
    (running.core 3).afterDual 2 1 = some 0x0F000014#32 ∧ (running.core 3).afterDual 2 2 = some 0x0F00000C#32 ∧
    (running.core 3).afterDual 2 5 = some 0x0F000014#32 ∧ (running.core 3).afterDual 3 0 = some 0x0F000020#32 ∧
    localOk ((running.core 3).pReg 2).toNat 4 ∧ localOk ((running.core 3).pReg 3).toNat 4 ∧
    running.injEcc (localCell 3 ((running.core 3).pReg 2).toNat) 4 = none := by
  unfold State.readyFor State.runs localOk
  decide +kernel

/-- One far access, two of them, and a misaligned one. -/
theorem witness_far_accesses : coreInstr (.iLoad 3 2 false 4 5 0 0) = some (3, .load 2 false 4 5 0 0) ∧
    running.readyFor 3 (.load 2 false 4 5 0 0) ∧ running.readyFor 3 (.dual false false 4 5 0 1 5 0) ∧ running.readyFor 3 (.load 2 false 4 6 0 0) ∧
    ((running.core 3).plan (.load 2 false 4 5 0 0)).any (fun pl => (pl.accs.filter Acc.far).length == 1 && pl.misaligned == none) = true ∧
    ((running.core 3).plan (.dual false false 4 5 0 1 5 0)).any (fun pl => decide (1 < (pl.accs.filter Acc.far).length)) = true ∧
    ((running.core 3).plan (.load 2 false 4 6 0 0)).any (fun pl => (pl.accs.filter Acc.far).length == 0 && pl.misaligned == some 0x0F000011) = true := by
  unfold State.readyFor State.runs
  decide +kernel

/-- The registers of RPTR and LOOPR at both ends of their range; the end of a loop lies outside the memory or holds no jump. -/
theorem witness_repeats :
    (running.readyFor 3 (.rptr 1) ∧ ((running.core 3).gReg 1).toNat = 5) ∧
    ((runningWith fun c => { c with g := [4096, 1] }).readyFor 3 (.rptr 0) ∧ (runningWith fun c => { c with g := [4096, 1] }).readyFor 3 (.loopr 1 1 1)) ∧
    (running.core 3).lp.getD 2 0 = 0 ∧ (8 + 4 * 8191) % 2 ^ 32 < 0x10000 ∧ 
    (decodeOp (running.imemWord 3 (8 + 4 * 8191))).all (fun o => !o.isJump) = true := by
  unfold State.readyFor State.runs
  decide +kernel

theorem witness_repeated_add :
    let s := runningWith fun c => { c with rep := 4096 }
    3 < s.cores.length ∧ 4 < (s.core 3).g.length ∧ s.coreState 3 = 2 ∧ (s.core 3).pc % 4 = 0 ∧ (s.core 3).pc < 0x10000 ∧
    s.injEcc (imemBase 3 + (s.core 3).pc) 4 = none ∧ (s.core 3).rep ≠ 0 ∧ (s.core 3).win = [] ∧ (s.core 3).stepping = false ∧ (s.core 3).stopReq = false := by
  decide +kernel

theorem witness_reti :
    let s := runningWith fun c => { c with sr := 0x4000, save := setNth c.save 4 (0x20, 0#32), open_ := [4] }
    s.readyFor 3 .reti ∧ (s.core 3).ipl ≠ 0 := by
  unfold State.readyFor State.runs
  decide +kernel

/-- A field that breaks a rule, a branch in a delay slot, a read inside an open window, and a word that is no instruction. -/
theorem witness_issue_checks :
    running.runs 3 ∧ Op.ok (.bar 4 16) 3 running.deployed = false ∧
    (let s := runningWith fun c => { c with slots := 2 }; s.runs 3 ∧ (s.core 3).slots ≠ 0 ∧ Op.slotOk (.branch 0 2) = false) ∧
    (let s := runningWith fun c => { c with win := [{ reg := 1, kind := 0, left := 1 }] }
     s.runs 3 ∧ Op.ok (.alu .add 4 1 2) 3 s.deployed = true ∧ (s.core 3).slots = 0 ∧ (s.core 3).hazard (.alu .add 4 1 2) = true) ∧
    decodeOp 0xFFFFFFFF = none := by
  unfold State.runs
  decide +kernel

/-- On the air: the last symbol of a slot, and outside RUN. -/
theorem witness_timeline_reads :
    let s := { withCore onAir 3 2 { pc := 8 } with now := onAir.symInstant 1 3 13 }
    s.readyFor 3 (.tnow 4 0) ∧ s.tlRun = true ∧ s.leaderScs 0 = some 1 ∧ s.tim.t0 ≤ s.now ∧ s.slotInstant 1 3 ≤ s.now ∧ s.now < s.slotInstant 1 4 ∧
    s.symInstant 1 3 13 ≤ s.now ∧ running.tlRun = false := by
  unfold State.readyFor State.runs
  decide +kernel

/-! ## Witnesses: messages, semaphores, waits, pushes -/

theorem witness_sync_ready : ∀ o ∈ ([
    .send 15 6 5, .recv 0 2, .recvw 15 14, .ring 4 5, .acq 4 63, .tryacq 4 0, .rel 4 1, .bar 4 15, .wslot 0, .wsym 4 13 0, .push 14 0 4 8 1] : List Op),
    running.readyFor 3 o := by
  unfold State.readyFor State.runs
  decide +kernel

/-- To host MP-B, to a core that is off, and to one that is on. -/
theorem witness_messages_sent : running.calm ∧ ((running.core 3).gReg 5).toNat % 64 = 35 ∧ ((running.core 3).gReg 2).toNat % 64 = 7 ∧
    running.coreState 7 = 0 ∧ ((running.core 3).gReg 1).toNat % 64 = 5 ∧ running.domOn (agentDom 5) = true ∧ running.coreState 5 = 1 ∧
    running.domOn (agentDom 35) = true ∧ (running.inboxOf 35).length < 4 ∧ running.injHit 11 35 = false ∧ (running.core 5).wait = none := by
  unfold State.calm
  decide +kernel

/-- A message of core 5 in the inbox of core 3, in its epoch and in an older one. -/
theorem witness_messages_received :
    let s := fun (w : Nat) => { running with mbx := { running.mbx with inbox := setNth running.mbx.inbox 3 [(0x04000000, w)] } }
    (s 0x05000040).readyFor 3 (.recvw 15 14) ∧ (s 0x05000040).inboxOf 3 = [(0x04000000, 0x05000040)] ∧ running.inboxOf 3 = [] ∧
    running.epochOf (0x05000040 / 2 ^ 24 % 64) = 0x05000040 / 2 ^ 30 % 4 ∧ running.epochOf (0xC5000040 / 2 ^ 24 % 64) ≠ 0xC5000040 / 2 ^ 30 % 4 ∧
    (running.core 3).wait = none ∧ (running.core 3).got = none := by
  unfold State.readyFor State.runs
  decide +kernel

/-- A semaphore that is free, broken, owned by another, owned by core 3 with nobody waiting, and with a host or a core waiting. -/
theorem witness_semaphores :
    let s := fun (x : Sem) => { running with mbx := { running.mbx with sems := setNth running.mbx.sems 63 x } }
    let me := (3, running.epochOf 3)
    running.calm ∧ 63 < running.mbx.sems.length ∧ running.waitsFor 3 = none ∧ running.injHit 10 3 = false ∧ (running.sem 63).owner = none ∧
    ((s { broken := true }).sem 63).broken = true ∧ ((s { owner := some (5, 0) }).sem 63).owner ≠ some me ∧
    ((s { owner := some me }).sem 63) = { owner := some me } ∧ ((s { owner := some me, queue := [35] }).sem 63).queue = [35] ∧
    (s { owner := some me, queue := [35] }).readyFor 3 (.rel 4 63) ∧ (s { owner := some (5, 0) }).closesCycle 3 63 = false ∧
    ((s { owner := some (5, 0), queue := [6, 7, 8, 9, 10, 11, 12] }).sem 63).queue.length = 7 := by
  unfold State.readyFor State.runs State.calm
  decide +kernel

/-- A ring to a host, during a prepare and not; barriers of which core 3 is no member, the only member, and one of two. -/
theorem witness_rings_and_barriers :
    let s := fun (m : Nat) => running.setF (F.TKC.BAR_MEM_LO_MEM 15) m
    let r := running.setF F.PWR.REST_STATUS_STATE 1
    running.mode ≠ 5 ∧ running.f F.PWR.REST_STATUS_STATE ≠ 1 ∧ r.readyFor 3 (.ring 4 5) ∧ r.mode ≠ 5 ∧ r.f F.PWR.REST_STATUS_STATE = 1 ∧ r.pwr.stopped = [] ∧
    r.pwr.req = none ∧ (running.barMembers 15).testBit 3 = false ∧ (s 8).barMembers 15 = 2 ^ 3 ∧
    (s 8).readyFor 3 (.bar 4 15) ∧ ((s 8).mbx.arrived.map (fun l => l.filter (· != 3))).getD 15 [] = [] ∧ 15 < (s 8).mbx.arrived.length ∧
    ((s 40).barMembers 15).testBit 3 = true ∧ ((s 40).barMembers 15).testBit 5 = true ∧ 5 ∉ ((s 40).mbx.arrived.map (fun l => l.filter (· != 3))).getD 15 [] ++ [3] := by
  unfold State.readyFor State.runs
  decide +kernel

/-- No grid at all; and symbol 5 in progress, with symbol 13 ahead and symbol 0 passed. -/
theorem witness_symbol_waits :
    let s := { withCore onAir 3 2 { pc := 8 } with now := onAir.symInstant 1 2 5 }
    running.leaderScs 0 = none ∧ s.readyFor 3 (.wsym 4 13 0) ∧ s.gridPos 0 = some (1, 2, 5) ∧ s.now < s.symInstant 1 2 13 ∧ s.symInstant 1 2 0 < s.now ∧
    s.injHit 9 3 = false ∧ s.injHit 10 3 = false ∧ s.waitsFor 3 = none := by
  unfold State.readyFor State.runs
  decide +kernel

/-- LC0 on the air with a staging target; g8 holds the header of an RX_SYM for symbol 13 with one payload word. -/
def pushing (quota header : Nat) : State :=
  let s := withCore onAir 3 2 { pc := 8, g := [0, 0, 0, 0, 0, 0, 0, 0, BitVec.ofNat 32 header], p := [0, 0x0F03FFFC], wdtSince := some 0 }
  { s.setF F.SYS.CMDQ_QUOTA0_TC1 quota with leaders := [{ target := true }, {}], tim := { s.tim with slotIdx := [1, 0] }, now := 5000000 }

/-- A NOP of RXP for symbol 13: taken, over its quota, malformed; its single payload word is the last of the own data memory. -/
theorem witness_pushes :
    let s := pushing 4 0xD0010000
    s.calm ∧ s.readyFor 3 (.push 14 0 4 8 1) ∧ isLocal ((s.core 3).pReg 1).toNat = true ∧ ((s.core 3).pReg 1).toNat + 4 * 1 = 0x0F040000 ∧
    s.injEcc (localCell 3 0x0F03FFFC) 4 = none ∧
    (s.issuing 3).pushStatus 3 0 14 0xD0000000 [] = 0 ∧ ((pushing 0 0xD0000000).issuing 3).pushStatus 3 0 14 0xD0000000 [] = 2 ∧
    (s.issuing 3).pushStatus 3 0 14 0xE0000000 [] = 3 ∧ (pushing 4 0xD0000000).readyFor 3 (.push 14 0 4 8 1) ∧ (pushing 0 0xD0000000).readyFor 3 (.push 14 0 4 8 1) ∧
    (pushing 4 0xE0000000).readyFor 3 (.push 14 0 4 8 1) := by
  unfold State.readyFor State.runs State.calm
  decide +kernel

/-- LC0 seals its table; LC1 paces nothing. -/
theorem witness_seals :
    let s := { withCore onAir 0 2 { pc := 8 } with leaders := [{ target := true }, {}], tim := { onAir.tim with slotIdx := [1, 0] } }
    let t := withCore onAir 1 2 { pc := 8 }
    s.readyFor 0 (.seal 0 4) ∧ (s.issuing 0).paces 0 = true ∧ ((s.issuing 0).ldr 0).target = true ∧ (s.issuing 0).cutPassed 0 = false ∧
    ((s.issuing 0).ldr 0).sealed = false ∧ 0 < s.leaders.length ∧ t.readyFor 1 (.seal 1 4) ∧ (t.issuing 1).paces 1 = false := by
  unfold State.readyFor State.runs
  decide +kernel

/-! ## Witnesses: held accesses, interrupts, control, watchdogs -/

/-- Core 3 waits with an access to message memory, or a push, in progress. -/
def holding (o : Op) : State :=
  withCore (serve [0, 1, 3]) 3 3 { pc := 8, g := [0, 5, 0, 0, 7], p := [0, 0, 0x04000100], hold := some o, wdtSince := some 0 }

theorem witness_held_accesses :
    let s := holding (.load 3 false 4 2 0 0)
    let t := holding (.store 0 4 2 0 0)
    let p := holding (.push 14 0 1 4 2)
    let held := fun (u : State) => u.calm ∧ u.coreState 3 = 3 ∧ (u.core 3).stopReq = false
    s.coreState 3 = 3 ∧ (s.core 3).afterMode 2 8 0 0 = some 0x04000100#32 ∧ isLocal ((s.core 3).addrMode 2 8 0 0) = false ∧
    (s.core 3).addrMode 2 8 0 0 % 8 = 0 ∧ (s.busRead 3 0x04000100 8).resp.err = 0 ∧ held (s.busRead 3 0x04000100 8) ∧
    (t.busWrite 3 0x04000100 1 ((t.core 3).storeVal 4 1)).resp.err = 0 ∧ held (t.busWrite 3 0x04000100 1 ((t.core 3).storeVal 4 1)) ∧
    held (p.pushEffect 3 (.push 14 0 1 4 2)) := by
  unfold State.calm
  decide +kernel

/-- SOFT at level 3 and the watchdog warning at level 4 are pending; a waiting core takes them too. -/
theorem witness_interrupts :
    let s := fun (st : Nat) => (withCore (serve [0, 1]) 3 st { pc := 8, pend := 513, sr := 0x8000, vbar := 0x1000, wdtSince := some 0 }).setF ⟨A.TKC.C_INT 3, 19, 18⟩ 3
    let takes := fun (x : Nat) => x < 10 ∧ ((s 2).coreSources 3).testBit x = true ∧ (((s 2).core 3).sr.extractLsb' 12 3).toNat < (s 2).srcLevel 3 x ∧
      ((s 2).srcLevel 3 x = 4 ∨ ((s 2).core 3).sr.getLsbD 15 = true)
    (s 2).calm ∧ (s 2).coreState 3 = 2 ∧ (s 3).coreState 3 = 3 ∧ ((s 3).core 3).hold = none ∧ ((s 2).core 3).slots = 0 ∧ ((s 2).core 3).rep = 0 ∧ takes 0 ∧ takes 9 ∧
    (s 2).srcLevel 3 9 = 3 ∧ ∀ x < 10, takes x → (s 2).srcLevel 3 x < (s 2).srcLevel 3 0 ∨ ((s 2).srcLevel 3 x = (s 2).srcLevel 3 0 ∧ 0 ≤ x) := by
  unfold State.calm
  decide +kernel

/-- A core at a boundary, in a delay slot, held, stopped, in FAULT and OFF. -/
theorem witness_core_control :
    running.accepts 34 (A.TKC.C_CTRL 3) ∧ running.coreState 3 = 2 ∧ (running.core 3).slots = 0 ∧ (running.core 3).rep = 0 ∧
    (let s := runningWith fun c => { c with slots := 1 }; s.accepts 35 (A.TKC.C_CTRL 3) ∧ (s.core 3).slots ≠ 0) ∧
    (let s := holding (.load 2 false 4 2 0 0); s.accepts 0 (A.TKC.C_CTRL 3) ∧ s.coreState 3 = 3 ∧ (s.core 3).hold ≠ none) ∧
    (serve [3]).accepts 34 (A.TKC.C_CTRL 3) ∧ (serve [3]).coreState 3 = 1 ∧ (withCore (serve []) 33 4 {}).accepts 34 (A.TKC.C_CTRL 33) ∧
    (withCore (serve []) 33 4 {}).coreState 33 = 4 ∧ (serve []).accepts 34 (A.TKC.C_CTRL 33) ∧ (serve []).coreState 33 = 0 := by
  unfold State.accepts State.serves State.calm
  decide +kernel

/-- NOP waits at the pc of a stopped core; a core in RESETTING. -/
theorem witness_steps_and_resets :
    let s := { serve [3] with mem := memWrite [] (imemBase 3) (leBytes 4 0xA0000000) }
    s.accepts 34 (A.TKC.C_CTRL 3) ∧ s.coreState 3 = 1 ∧ s.deployed = false ∧ decodeOp (s.imemWord 3 (s.core 3).pc) = some .nop ∧
    (((s.stepBegin 3).ok 0).coreIssue 3 .nop).coreState 3 = 1 ∧ (s.core 3).hold = none ∧ (withCore (serve []) 3 5 {}).coreState 3 = 5 := by
  unfold State.accepts State.serves State.calm
  decide +kernel

/-- The watchdog of core 3 is the first that warns, and the first that expires; LC0's escalates. -/
theorem witness_watchdogs :
    let s := fun (n w e : Nat) => ((withCore (serve []) n 2 { wdtSince := some 77 }).setF (F.TKC.C_WDT_WARN n) w).setF (F.TKC.C_WDT_EXPIRE n) e
    let due := fun (s : State) (x : Nat → Fld) (m : Nat) => s.wdtInstant m (s.f (x m))
    let counts := fun (s : State) (m : Nat) => s.coreState m = 2 ∨ s.coreState m = 3
    (s 3 5 9).calm ∧ counts (s 3 5 9) 3 ∧ ((s 3 5 9).core 3).warned = false ∧ (s 3 5 9).f (F.TKC.C_WDT_WARN 3) = 5 ∧ (s 3 5 9).f (F.TKC.C_WDT_EXPIRE 3) = 9 ∧
    (∀ m < 34, counts (s 3 5 9) m → due (s 3 5 9) F.TKC.C_WDT_WARN 3 < due (s 3 5 9) F.TKC.C_WDT_WARN m ∨ (due (s 3 5 9) F.TKC.C_WDT_WARN 3 = due (s 3 5 9) F.TKC.C_WDT_WARN m ∧ 3 ≤ m)) ∧
    (s 3 5 9).wdtEscalates 3 = false ∧ counts (s 0 0 1) 0 ∧ (∀ m < 34, counts (s 0 0 1) m → m = 0) ∧
    ((s 0 0 1).setF F.TKC.WDT_CFG_ESC_LC0 1).wdtEscalates 0 = true := by
  unfold State.calm
  decide +kernel

/-- Waits of core 3 whose time-out is set, and a queued acquire of MP-B. -/
theorem witness_wait_timeouts :
    let s := fun (o : Op) => (withCore (serve []) 3 3 { wait := some o, waitAt := 1000, wdtSince := some 77, pc := 20 }).setF (F.MBX.WAIT_TMO_TMO 3) 50
    let waits := fun (o : Op) => ((s o).core 3).wait = some o ∧ ((s o).core 3).got = none ∧ (s o).coreState 3 = 3 ∧ ((s o).core 3).hold = none ∧ ((s o).core 3).stopReq = false
    waits (.recvw 2 4) ∧ waits (.acq 2 63) ∧ waits (.bar 2 15) ∧ (s (.recvw 2 4)).inboxOf 3 = [] ∧ (s (.recvw 2 4)).f (F.MBX.WAIT_TMO_TMO 3) ≠ 0 ∧
    (let h := ((serve []).setF (F.MBX.WAIT_TMO_TMO 35) 50).setF (F.BLY.HOST_STATUS_QUEUED 1) 1; h.f (F.MBX.WAIT_TMO_TMO 35) ≠ 0 ∧ h.f (F.BLY.HOST_STATUS_QUEUED (35 - 34)) = 1) := by
  decide +kernel

/-! ## Witnesses: register writes, boundaries, modes and rests -/

/-- `s` with port 2 changed. -/
def withPort (s : State) (f : PortSt → PortSt) : State := { s with ports := modNth s.ports 2 f }

/-- Serve with port 2 in state `st` and enabled; every port's cairn period has just begun. -/
def ported (st : Nat) : State :=
  { ((serve [0, 1]).setF (F.LNK.PORT_STATUS_STATE 2) st).setF (F.LNK.PORT_CTRL_EN 2) 1 with
    ports := List.replicate 6 { txAt := 5000000, txWakeAt := 5000000 } }

/-- A write of v by g to a register that access codes govern, and one that no refusal of R29 meets. -/
abbrev PlainWrite (s : State) (g a v : Nat) : Prop :=
  s.accepts g a ∧ plainAddr a = true ∧ (regSpec? a).isSome = true ∧ (s.tentative a v).gridWsymOk a = true
abbrev OkWrite (s : State) (g a v : Nat) : Prop :=
  PlainWrite s g a v ∧ (s.tentative a v).blkLegal a = true ∧ ¬ (s.blkRuns a = true ∧ s.changes a v .rwx = true)

/-- A W1C event and a register of the shadow. -/
theorem witness_register_writes :
    OkWrite onAir 5 (blockBase 0) 1 ∧ (fieldsOf (blockBase 0) .w1c).isEmpty = false ∧ OkWrite (serve []) 34 (A.AUX.COEX_MASK_LO 1) 5 ∧
    (shadowFields (A.AUX.COEX_MASK_LO 1)).isEmpty = false := by
  unfold OkWrite PlainWrite State.accepts State.serves State.calm
  decide +kernel

/-- A register that is locked in Deployed (in REG and in THM), and one for Test. -/
theorem witness_locked_writes :
    let late := (serve []).setF F.NVM.LC_STATUS_STATE 2
    let test := (camp.setF F.PWR.MODE_STATUS_MODE 5).setF F.NVM.LC_STATUS_STATE 1
    let user := A.LNK.LANE_PAT_USER_LO 2 3
    (∀ x ∈ [(A.REG.PWR_LIM, 1), (A.THM.THM_CFG, 0x401432)], OkWrite late 34 x.1 x.2 ∧ late.changes x.1 x.2 .rwl = true ∧ late.changes x.1 x.2 .rwt = false ∧
      OkWrite (serve []) 34 x.1 x.2) ∧
    late.afterDeployed = true ∧ (serve []).afterDeployed = false ∧ OkWrite (serve []) 34 user 1 ∧ (serve []).changes user 1 .rwt = true ∧ (serve []).mode ≠ 5 ∧
    (serve []).changes user 1 .rwl = false ∧ OkWrite test 34 user 1 ∧ test.mode = 5 := by
  unfold OkWrite PlainWrite State.accepts State.serves State.calm
  decide +kernel

/-- A register of what runs, a word out of range, and a grid that WSYM does not allow. -/
theorem witness_refused_writes :
    PlainWrite onAir 34 A.AUX.TDD_CFG 5 ∧ onAir.blkRuns A.AUX.TDD_CFG = true ∧ onAir.changes A.AUX.TDD_CFG 5 .rwx = true ∧
    PlainWrite (serve []) 34 (A.LNK.LANE_SEED 2 3) 0 ∧ ((serve []).tentative (A.LNK.LANE_SEED 2 3) 0).blkLegal (A.LNK.LANE_SEED 2 3) = false ∧
    camp.accepts 34 (A.SYS.GRID_CFG 0) ∧ plainAddr (A.SYS.GRID_CFG 0) = true ∧ camp.blkRuns (A.SYS.GRID_CFG 0) = false ∧
    (camp.tentative (A.SYS.GRID_CFG 0) 0x82).gridWsymOk (A.SYS.GRID_CFG 0) = false := by
  unfold PlainWrite State.accepts State.serves State.calm
  decide +kernel

/-- Shadows of RXP, AUX, RTE and TIM; PS_HOLD beyond its limits; a commit from a command table at symbol 5, and what it may not commit. -/
theorem witness_commits :
    let s := fun (a v : Nat) => { serve [] with shadow := [(a, v)] }
    let bad := { onAir with shadow := [(A.RTE.PS_HOLD, 0xFFFFFFFF)] }
    onAir.accepts 34 (blockBase 14 + 0xC) ∧ onAir.commitOk 14 = true ∧ (s (A.AUX.COEX_MASK_LO 1) 5).accepts 34 (blockBase 22 + 0xC) ∧ (s (A.AUX.COEX_MASK_LO 1) 5).tlRun = false ∧
    (s A.TIM.TL_CFG 0x100002).accepts 34 (blockBase 3 + 0xC) ∧ (s A.TIM.TL_CFG 0x100002).tlCounts = false ∧ bad.accepts 34 (blockBase 10 + 0xC) ∧ bad.commitOk 10 = false ∧
    onAir.calm ∧ onAir.tlRun = true ∧ onAir.carEn 0 = true ∧
    (let n := onAir.slotOfTrig 0 5
     (∀ op ∈ [0, 1], ∀ b ∈ [10, 14, 16], b ∈ cmdBlocks ∧ onAir.cmdShape b 0 5 op false [] = true ∧ onAir.cmdInSlot b 0 n 5 op [] = true) ∧
      (onAir.advanceTo (onAir.symInstant (onAir.carScs 0) n 5)).commitOk 16 = true ∧ bad.cmdShape 10 0 5 1 false [] = true ∧ bad.cmdInSlot 10 0 n 5 1 [] = true ∧
      (bad.advanceTo (bad.symInstant (bad.carScs 0) n 5)).commitOk 10 = false) := by
  unfold State.accepts State.serves State.calm
  decide +kernel

/-- The second leader paces carrier 1; its table is sealed or not. -/
def twoLeaders (sealed_ : Bool) : State :=
  { (onAir.setF (F.SYS.GRID_CFG_EN 1) 1).setF (F.SYS.GRID_CFG_LEADER 1) 1 with
    leaders := [{ target := true }, { target := true, sealed := sealed_ }], tim := { onAir.tim with slotIdx := [3, 2] },
    staging := [{ blk := 14, leader := 1, issuer := 3, trig := 2, carrier := 1, op := 0 }] }

/-- Slot boundaries and cut-offs of a sealed table and of an unsealed one. -/
theorem witness_boundaries :
    (∀ x ∈ [true, false], let s := twoLeaders x
     s.tlRun = true ∧ s.paces 1 = true ∧ s.calm ∧ s.hostLedge = false ∧ s.f F.PWR.REST_STATUS_STATE ≠ 1 ∧ s.f F.PWR.REST_STATUS_STATE ≠ 3 ∧ 1 < s.leaders.length ∧
      1 < s.tim.slotIdx.length ∧ (s.ldr 1).sealed = x) ∧
    (let s := twoLeaders true; s.lowCarrier = some 0 ∧ s.carLeader 0 ≠ 1 ∧ s.restEmpty = false ∧ s.coreState 1 = 1 ∧ (∀ m < 34, s.coreState m ≠ 3) ∧ s.armed = [] ∧
      ∀ e ∈ s.staging, CmdEntry.op e ≠ 1) ∧
    (∀ x ∈ [true, false], let s := twoLeaders x; s.calm ∧ s.tlRun = true ∧ s.paces 1 = true ∧ 1 < s.leaders.length ∧ (s.ldr 1).target = true ∧ (s.ldr 1).cutoff = false ∧
      (s.ldr 1).sealed = x) := by
  unfold State.calm
  decide +kernel

/-- Symbols of which nothing is to be done, symbols of a slot that runs and of the first one. -/
theorem witness_symbol_boundaries :
    (let s := { ((onAir.setF (F.SYS.GRID_CFG_EN 1) 1).setF F.PWR.MODE_STATUS_MODE 2) with
        tim := { onAir.tim with symIdx := [3, 3, 0, 0] }, tx := { onAir.tx with fetchIdx := [4, 4, 0, 0] } };
      s.calm ∧ s.tlRun = true ∧ s.carEn 1 = true ∧ 1 < s.tim.symIdx.length ∧ s.tim.symIdx.getD 1 0 % 14 ≠ 0 ∧ s.tim.symIdx.getD 1 0 < s.fetchNext 1 ∧ s.live = [] ∧
      s.staging = [] ∧ s.armed = [] ∧ s.mode ≠ 3 ∧ s.cal.runs = [] ∧ s.f F.CAL.CAL_STATUS_STATE ≠ 1 ∧ s.lowCarrier ≠ some 1 ∧ 0 < 1 ∧ s.carEn 0 = true ∧
      s.carLeader 0 = s.carLeader 1) ∧
    (∀ x ∈ [(2, 28, 2), (3, 28, 2), (3, 41, 2)], let s := { onAir with
        tim := { onAir.tim with slotIdx := [x.1, 0], symIdx := [x.2.1, 0, 0, 0] }
        live := [{ blk := 14, leader := 0, issuer := 3, trig := x.2.1 % 14, carrier := 0, op := 0 }] };
      s.calm ∧ s.tlRun = true ∧ s.carEn 0 = true ∧ 0 < s.tim.symIdx.length ∧ s.carLeader 0 < s.tim.slotIdx.length ∧ s.tim.symIdx.getD 0 0 / 14 = x.2.2 ∧
      (s.slotIdxOf (s.carLeader 0) = x.2.2 + 1 ∨ (s.slotIdxOf (s.carLeader 0) = x.2.2 ∧ s.tim.symIdx.getD 0 0 % 14 = 0))) := by
  unfold State.calm
  decide +kernel

/-- Serve with the synthesiser locked. -/
def locked : State := (serve []).setF F.CLK.CLK_STATUS_STATE 2

theorem witness_mode_requests_free : ∀ s ∈ [locked, locked.setF F.TIM.TL_STATUS_STATE 2, locked.setF F.PWR.PAD_CTRL_HOLD 1, camp.setF F.NVM.LC_STATUS_STATE 2,
    camp.setF F.THM.THM_STATUS_LEVEL 4, serve [], camp, camp.setF F.CLK.CLK_STATUS_STATE 2, camp.setF F.PWR.MODE_STATUS_MODE 5],
    s.accepts 34 A.PWR.MODE_REQ ∧ s.f F.PWR.MODE_STATUS_PENDING = 0 ∧ s.restRuns = false := by
  unfold State.accepts State.serves State.calm
  decide +kernel

theorem witness_mode_requests :
    let ran := locked.setF F.TIM.TL_STATUS_STATE 2
    (locked.setF F.PWR.MODE_STATUS_PENDING 1).accepts 34 A.PWR.MODE_REQ ∧ modeAllowed locked.mode 3 = false ∧
    modeAllowed locked.mode 4 = true ∧ (let s := locked.setF F.PWR.PAD_CTRL_HOLD 1; s.f F.PWR.PAD_CTRL_HOLD ≠ 0) ∧
    (let s := camp.setF F.NVM.LC_STATUS_STATE 2; modeAllowed s.mode 5 = true ∧ s.deployed = true) ∧
    (let s := (camp.setF F.THM.THM_STATUS_LEVEL 4); modeAllowed s.mode 3 = true ∧ s.level = 4) ∧
    (let s := serve []; s.f F.CLK.CLK_STATUS_STATE ≠ 2) ∧ (modeAllowed camp.mode 5 = true ∧ camp.modeHurdle 5 = 0) ∧
    (let s := camp.setF F.CLK.CLK_STATUS_STATE 2; modeAllowed s.mode 3 = true ∧ s.modeHurdle 3 = 0) ∧
    (ran.modeHurdle 4 = 0 ∧ ran.tlRun = true ∧ modeAllowed ran.mode 1 = true ∧ ran.modeHurdle 1 = 0) ∧ locked.modeHurdle 4 = 0 ∧ locked.tlRun = false ∧
    (let s := camp.setF F.PWR.MODE_STATUS_MODE 5; modeAllowed s.mode 1 = true ∧ s.modeHurdle 1 = 0) := by
  unfold State.accepts State.serves State.calm
  decide +kernel

theorem witness_mode_transitions :
    let req := fun (s : State) (m : Nat) => { s with pwr := { s.pwr with req := some (m, 0) } }
    (∀ s ∈ [req (serve []) 2, req camp 5, req camp 3, req (camp.setF F.PWR.MODE_STATUS_MODE 5) 1], s.calm) ∧ (req (serve []) 2).mode = 3 ∧ (req camp 5).mode = 1 ∧
    (req camp 5).f F.TIM.TL_STATUS_STATE = 0 ∧ (req (camp.setF F.PWR.MODE_STATUS_MODE 5) 1).mode = 5 := by
  unfold State.calm
  decide +kernel

/-- A rest to Base camp is allowed in Serve; participant `k` has been asked. -/
def resting (k : Option Nat) : State :=
  let s := ((((serve []).setF F.TIM.TL_STATUS_STATE 2).setF F.PWR.REST_CFG_ALLOW_BASECAMP 1).setF F.PWR.REST_STATUS_STATE 1).setF F.PWR.REST_STATUS_DEPTH 2
  { s with pwr := { s.pwr with asked := k } }

theorem witness_rest_protocol :
    let s := ((serve []).setF F.TIM.TL_STATUS_STATE 2)
    let a := s.setF F.PWR.REST_CFG_ALLOW_BASECAMP 1
    let vetoed := (resting (some 0)).setF (F.TKC.C_CTRL_VETO 4) 1
    s.calm ∧ s.accepts 34 A.PWR.REST_REQ ∧ (s.setF F.PWR.MODE_STATUS_PENDING 1).f F.PWR.MODE_STATUS_PENDING ≠ 0 ∧ (resting none).accepts 34 A.PWR.REST_REQ ∧
    (resting none).restRuns = true ∧ ¬ (s.mode = 5 ∨ s.f F.PWR.MODE_STATUS_PENDING ≠ 0 ∨ s.restRuns = true ∨ s.wakeRuns = true) ∧ s.chooseDepth 0 = 0 ∧
    a.chooseDepth 200 = 2 ∧ a.restRuns = false ∧ a.wakeRuns = false ∧ a.active = true ∧ a.tlRun = true ∧ (resting none).f F.PWR.REST_STATUS_STATE = 1 ∧
    (resting none).pwr.asked = none ∧ (resting (some 1)).partAnswer 1 = 0 ∧ (participants (resting (some 1)).depth).find? (1 < ·) = some 2 ∧
    (resting (some 19)).partAnswer 19 = 0 ∧ (participants (resting (some 19)).depth).find? (19 < ·) = none ∧ (resting (some 19)).depth ≠ 3 ∧
    vetoed.pwr.asked = some 0 ∧ vetoed.partAnswer 0 ≠ 0 ∧ vetoed.partAnswer 0 < 16 := by
  unfold State.accepts State.serves State.calm
  decide +kernel

theorem witness_rest_entries :
    let s := fun (st d src : Nat) =>
      let x := ((resting none).setF F.PWR.REST_STATUS_STATE st).setF F.PWR.REST_STATUS_DEPTH d
      { x with pwr := { x.pwr with wakeSrc := src, rest := if d = 1 ∧ st = 4 then 1 else 0 } }
    (∀ x ∈ [(1, 0), (1, 4), (2, 0), (3, 1)], (s 3 x.1 x.2).calm ∧ (s 3 x.1 x.2).depth = x.1 ∧ (s 3 x.1 x.2).f F.PWR.REST_STATUS_STATE = 3 ∧
      (s 3 x.1 x.2).pwr.wakeSrc = x.2) ∧
    (∀ n ∈ [1, 3, 4], (s n 1 0).accepts 34 A.PWR.REST_CTRL ∧ (s n 1 0).f F.PWR.REST_STATUS_STATE = n ∧ (s n 1 0).hostLedge = decide (n = 4)) ∧
    (s 1 1 0).pwr.stopped = [] := by
  unfold State.accepts State.serves State.calm
  decide +kernel

/-- In Base camp after a rest from Serve, with and without lock; in Bivouac, and addressed during a rest entry, a prepare and Base camp. -/
theorem witness_wake_requests :
    let rests := fun (st lock : Nat) => let x := ((camp.setF F.PWR.REST_STATUS_STATE st).setF F.PWR.REST_STATUS_DEPTH 2).setF F.CLK.CLK_STATUS_STATE lock
      { x with pwr := { x.pwr with prev := 3 } }
    let b : State := ({ doms := 3, pwr := { seq := 0 } } : State).setF F.PWR.MODE_STATUS_MODE 0
    (∀ l ∈ [1, 2], (rests 4 l).accepts 34 A.PWR.REST_CTRL ∧ (rests 4 l).f F.PWR.REST_STATUS_STATE = 4 ∧ (rests 4 l).hostLedge = false ∧ (rests 4 l).mode = 1 ∧
      (rests 4 l).f F.PWR.MODE_STATUS_PENDING = 0 ∧ (rests 4 l).pwr.prev = 3 ∧ ((rests 4 l).modeHurdle 3 = 0 ↔ l = 2)) ∧
    b.calm ∧ b.mode = 0 ∧ b.pwr.seq = 0 ∧ (∀ n ∈ [0, 1, 3], (rests n 2).calm ∧ (rests n 2).mode = 1 ∧ (rests n 2).f F.PWR.REST_STATUS_STATE = n ∧
      (rests n 2).pwr.stopped = [] ∧ (rests n 2).pwr.req = none) := by
  unfold State.accepts State.serves State.calm
  decide +kernel

theorem witness_ledge_and_pads :
    let s := { onAir with tim := { onAir.tim with slotIdx := [4, 4], symIdx := [30, 0, 0, 0] }, pwr := { onAir.pwr with micro := [3, 70] },
                          tx := { onAir.tx with paths := setNth onAir.tx.paths 3 { dac := 1 } } }.setF (F.TXP.P_STATUS_SWITCH 3) 1
    s.calm ∧ s.tlRun = true ∧ s.lowCarrier = some 0 ∧ s.mode = 3 ∧ s.hostLedge = false ∧ 3 ∈ s.pwr.micro ∧ 70 ∈ s.pwr.micro ∧ (s.txp 3).dac = 1 ∧
    s.f (F.TXP.P_STATUS_SWITCH 3) = 1 ∧ (s.setF F.PWR.PAD_CTRL_HOLD 0x2F).accepts 34 A.PWR.PAD_CTRL := by
  unfold State.accepts State.serves State.calm
  decide +kernel

/-! ## Witnesses: resets, wakes and boot -/

theorem witness_resets :
    let s := onAir.setF F.PWR.PAD_CTRL_HOLD 3
    s.calm ∧ s.pwr.seq = 0 ∧ s.accepts 34 A.SYS.SW_RESET ∧ s.accepts 0 A.SYS.SW_RESET ∧ (∀ q ∈ [1, 2], ({ s with pwr := { s.pwr with seq := q } } : State).pwr.seq = q) ∧
    State.reset.calm ∧ State.reset.pwr.railLow = true ∧ State.reset.pwr.cause.testBit 0 = true ∧
    (∀ n < 34, State.reset.coreState n = 0) ∧ (∀ q ∈ [2, 3, 4], ({ State.reset with pwr := { State.reset.pwr with seq := q, railLow := false } } : State).pwr.seq = q) := by
  unfold State.accepts State.serves State.calm
  decide +kernel

/-- In Bivouac with the management address matched, cool again after a thermal shutdown, and in the wait for REFCLK that follows. -/
theorem witness_wakes :
    let s := fun (seq doms src : Nat) (off : Bool) =>
      { (({ doms := doms, pwr := { seq := seq, wakeSrc := src } } : State).setF F.PWR.MODE_STATUS_MODE 0).setF F.PWR.WAKE_CFG_BOOT_EN 1 with thm := { off := off } }
    (∀ x ∈ [(1, false), (3, true)], (s 0 3 x.1 x.2).calm ∧ (s 0 3 x.1 x.2).mode = 0 ∧ (s 0 3 x.1 x.2).pwr.seq = 0 ∧ (s 0 3 x.1 x.2).thm.off = x.2 ∧
      (if (s 0 3 x.1 x.2).thm.off ∧ (s 0 3 x.1 x.2).pwr.wakeSrc.testBit 1 = false then 0 else (s 0 3 x.1 x.2).pwr.wakeSrc) ≠ 0) ∧
    (s 5 0xF 1 false).calm ∧ (s 5 0xF 1 false).pwr.seq = 5 ∧ (s 5 0xF 1 false).doms = 0xF := by
  unfold State.calm
  decide +kernel

/-- An unsigned image of one section for a part without keys, and a part whose record of keys is missing. -/
theorem witness_boots :
    let img := leBytes 4 0x4B524854 ++ leBytes 4 384 ++ leBytes 4 0 ++ leBytes 4 8 ++ leBytes 2 1 ++ leBytes 1 1 ++ List.replicate 237 (0 : Byte) ++
      leBytes 4 0 ++ leBytes 4 320 ++ leBytes 4 0 ++ leBytes 4 64 ++ List.replicate 48 (0 : Byte) ++ List.replicate 64 (0x5A : Byte)
    let rec_ := leBytes 4 0x4E565243 ++ leBytes 4 1 ++ List.replicate 48 (0 : Byte) ++ leBytes 8 0xC3A55AC3C3A55AC3
    let b : BootRun := { wake := false, base := 0x04000000, len := 384 }
    let s := { serve [] with mem := memWrite [] 0x04000000 img, nvm := { mem := memWrite [] 0x10000 rec_ }, pwr := { (serve []).pwr with boot := some b } }
    s.calm ∧ s.pwr.boot = some b ∧ s.imageCode b = 0 ∧ 0 < s.cores.length ∧ { s with nvm := {} }.imageCode b = 7 ∧
    (let g := (serve []).setF F.SYS.BOOT_STATUS_ROM_STATE 2; g.accepts 35 A.SYS.BOOT_CTRL ∧ g.f F.SYS.BOOT_STATUS_ROM_STATE ∈ [1, 2, 6]) ∧
    (serve []).accepts 35 A.SYS.BOOT_CTRL ∧ (serve []).f F.SYS.BOOT_STATUS_ROM_STATE ∉ [1, 2, 6] := by
  unfold State.accepts State.serves State.calm
  decide +kernel

/-! ## Witnesses: ports, lanes, sleep and frames -/

/-- Port 2 OFF with and without signal, searching, training and UP; its receive side complete or not. -/
theorem witness_port_training :
    let t := fun (st auto : Nat) (x : Bool) => (withPort (ported st) fun y => { y with sigSince := some 4000000, rxDone := x, seeking := x }).setF (F.LNK.PORT_CFG_AUTO_RETRAIN 2) auto
    let off := (serve []).setF (F.LNK.PORT_STATUS_LOS 2) 255
    (∀ s ∈ [serve [], off], s.accepts 34 (A.LNK.PORT_CTRL 2) ∧ s.f (F.LNK.PORT_CTRL_EN 2) = 0 ∧ s.portState 2 = 0 ∧ 2 < s.ports.length ∧ s.quiet) ∧
    (∀ n ∈ [1, 2, 3], ∀ m ∈ [0, 1], ∀ x ∈ [true, false], let s := t n m x
      s.quiet ∧ s.accepts 34 (A.LNK.PORT_CTRL 2) ∧ s.portState 2 = n ∧ s.f (F.LNK.PORT_CTRL_EN 2) = 1 ∧ s.bonded 2 = false ∧ s.f F.SYS.BOOT_STATUS_ROM_STATE ≠ 1 ∧
      s.f (F.LNK.PORT_CFG_AUTO_RETRAIN 2) = m ∧ (s.port 2).sigSince = some 4000000 ∧ (s.port 2).rxDone = x ∧ (s.port 2).seeking = x ∧
      (s.port 2).deepAgreed = false ∧ 2 < s.ports.length) := by
  unfold State.accepts State.serves State.quiet State.calm State.still
  decide +kernel

/-- The bits of the sequence whose bit k is the sum of those a and b before it. -/
def prbs (a b n : Nat) : List Bool :=
  (List.range n).foldl (fun l _ => l ++ [l.getD (l.length - a) false != l.getD (l.length - b) false]) (List.replicate b true)

/-- A good training cairn on every lane that adopts its state, each lane one cairn from its lock. -/
theorem witness_training_cairns :
    let lines := (List.range 8).map (fun l => let c := mkCairn l 2 0 (1000 * l + 77); stuff (0, 0) ((List.range 64).map (fun i => c.testBit (63 - i))))
    let s := withPort (ported 2) fun y => { y with rxScr := List.replicate 8 5, lockRun := List.replicate 8 0 }
    let lane := fun (k : Nat) => unstuff ((s.port 2).runBit.getD k (0, 0)) (lines.getD k [])
    s.quiet ∧ s.portState 2 = 2 ∧ s.rxDir 2 = 0 ∧ s.f (F.LNK.PORT_STATUS_CAIRN_LOCK 2) = 0 ∧ s.mode ≠ 5 ∧ s.bonded 2 = false ∧ s.f F.SYS.BOOT_STATUS_ROM_STATE ≠ 1 ∧
    (s.port 2).readyGot = false ∧ (s.port 2).bondRx = 0 ∧ (s.port 2).injMiss = List.replicate 8 0 ∧ (s.port 2).runBit.length = 8 ∧ (s.port 2).rxScr.length = 8 ∧
    (s.port 2).missRun.length = 8 ∧ (s.port 2).lockRun.length = 8 ∧
    (∀ k < 8, let c := bitsToNat ((lane k).out.drop ((lane k).out.length - 64))
      64 ≤ (lane k).out.length ∧ (lane k).viol = 0 ∧ (s.port 2).lockRun.getD k 0 = 0 ∧ cairnGood k c = true ∧ cairnKind c = 2 ∧ cairnSig c = 0) := by
  unfold State.quiet State.calm State.still
  decide +kernel

/-- The same with the payload of a period before the cairn, of lanes that have seen one or more cairns. -/
theorem witness_cairns_of_a_period :
    let line := fun (l : Nat) => let c := mkCairn l 2 0 (1000 * l + 77); stuff (0, 0) ((List.range 8192).map (fun i => i % 3 == 0) ++ (List.range 64).map (fun i => c.testBit (63 - i)))
    let s := withPort (ported 2) fun y => { y with lockRun := [0, 1, 2, 3, 3, 3, 3, 3] }
    s.quiet ∧ (s.port 2).lockRun = [0, 1, 2, 3, 3, 3, 3, 3] ∧ (let r := unstuff ((s.port 2).runBit.getD 3 (0, 0)) (line 3)
      let c := bitsToNat (r.out.drop (r.out.length - 64)); r.out.length - 64 = 8192 ∧ r.viol = 0 ∧ cairnGood 3 c = true ∧ cairnKind c = 2 ∧ cairnSig c = 0) := by
  unfold State.quiet State.calm State.still
  decide +kernel

/-- Lanes that miss a cairn, and the fourth; signal lost on lane 6. -/
theorem witness_losses :
    let m := (withPort (ported 3) fun y => { y with missRun := [0, 0, 0, 3, 0, 0, 0, 0], losSince := setNth y.losSince 6 (some 100000) }).setF (F.LNK.PORT_STATUS_CAIRN_LOCK 2) 0xFF
    m.quiet ∧ (m.port 2).missRun.getD 2 0 < 3 ∧ 3 ≤ (m.port 2).missRun.getD 3 0 ∧ (m.f (F.LNK.PORT_STATUS_CAIRN_LOCK 2)).testBit 3 = true ∧ m.portState 2 = 3 ∧
    m.rxDir 2 = 0 ∧ some 100000 ∈ (m.port 2).losSince ∧ (ported 2).quiet ∧ ((ported 2).f (F.LNK.PORT_STATUS_CAIRN_LOCK 2)).testBit 3 = false := by
  unfold State.quiet State.calm State.still
  decide +kernel

/-- A pattern checker in Test, locked and not, with each of the four sequences and with too few bits. -/
theorem witness_checkers :
    let test := { camp.setF F.PWR.MODE_STATUS_MODE 5 with doms := 0xFFFFFFFFF }
    (∀ lock ∈ [0, 1], ∀ x ∈ [(0, 6, 7), (1, 14, 15), (2, 18, 23), (3, 28, 31)],
      let s := ((test.setF (F.LNK.LANE_PAT_CFG_CHK_EN 2 3) 1).setF (F.LNK.LANE_PAT_ERR_LOCK 2 3) lock).setF (F.LNK.LANE_PAT_CFG_PAT 2 3) x.1
      s.quiet ∧ s.mode = 5 ∧ s.f (F.LNK.PORT_CTRL_EN 2) = 0 ∧ s.f (F.LNK.LANE_PAT_CFG_CHK_EN 2 3) = 1 ∧ s.f (F.LNK.LANE_PAT_CFG_LOOP 2 3) = 0 ∧
      s.f (F.LNK.LANE_PAT_ERR_LOCK 2 3) = lock ∧ (s.f (F.LNK.LANE_PAT_CFG_PAT 2 3), x.2.1, x.2.2) ∈ [(0, 6, 7), (1, 14, 15), (2, 18, 23), (3, 28, 31)]) ∧
    (∀ x ∈ [(6, 7), (28, 31)], let l := prbs x.1 x.2 70
      x.2 + 64 ≤ l.length ∧ ∀ k < l.length, l.length - 64 ≤ k → l.getD k false = (l.getD (k - x.1) false != l.getD (k - x.2) false)) := by
  unfold State.quiet State.calm State.still
  decide +kernel

theorem witness_lane_injections :
    ∀ x ∈ [0, 1], ∀ y ∈ [0, 1], let s := (({ camp.setF F.PWR.MODE_STATUS_MODE 5 with doms := 0xFFFFFFFFF }).setF F.FLT.INJ_STATUS_ARMED x).setF (F.LNK.LANE_PAT_CFG_GEN_EN 2 1) y
      s.accepts 34 (A.LNK.LANE_INJ 2 1) ∧ s.f F.FLT.INJ_STATUS_ARMED = x ∧ s.mode = 5 ∧ s.f (F.LNK.PORT_CTRL_EN 2) = 0 ∧ s.f (F.LNK.LANE_PAT_CFG_GEN_EN 2 1) = y := by
  unfold State.accepts State.serves State.calm
  decide +kernel

/-- Port 2 UP with its directions awake, asleep and waking, in M32 mode and not, with the partner's requests allowed and not; a port that is not UP, and one in deep exit. -/
theorem witness_port_sleep :
    let s := fun (tx rx m32 allow : Nat) => ((((ported 3).setF (F.LNK.PORT_STATUS_TX_DIR 2) tx).setF (F.LNK.PORT_STATUS_RX_DIR 2) rx).setF (F.LNK.SLEEP_CFG_ALLOW_PARTNER 2) allow).setF
      (F.LNK.PORT_CFG_M32 2) m32
    (∀ tx ∈ [0, 1, 2], ∀ rx ∈ [0, 1, 2], ∀ m ∈ [0, 1], ∀ a ∈ [0, 1], let u := s tx rx m a
      u.quiet ∧ u.accepts 34 (A.LNK.SLEEP_CTRL 2) ∧ u.portState 2 = 3 ∧ u.f (F.LNK.PORT_CFG_M32 2) = m ∧ u.txDir 2 = tx ∧ u.rxDir 2 = rx ∧
      u.f (F.LNK.SLEEP_CFG_ALLOW_PARTNER 2) = a ∧ u.rxEmpty 2 = true ∧ (u.port 2).reqTx = none ∧ (u.port 2).reqRx = none ∧ (u.port 2).reqWake = none) ∧
    (∀ n ∈ [2, 5], (ported n).quiet ∧ (ported n).portState 2 = n ∧ (ported n).accepts 34 (A.LNK.SLEEP_CTRL 2)) := by
  unfold State.accepts State.serves State.quiet State.calm State.still
  decide +kernel

/-- Requests that wait: of the outgoing direction, alone and with the partner's, with a frame on its way and with its answer; of the incoming one; a wake; the deep state. -/
theorem witness_sleep_requests :
    let f : LineFrame := { fr := {}, inp := 6 }
    let tx := withPort (ported 3) fun y => { y with reqTx := some 4900000 }
    let owes := withPort tx fun y => { y with oweAck := true }
    let sends := withPort tx fun y => { y with busy := some f }
    let rx := withPort (ported 3) fun y => { y with reqRx := some 4900000 }
    let wake := (withPort (ported 3) fun y => { y with reqWake := some 4900000 }).setF (F.LNK.PORT_STATUS_RX_DIR 2) 1
    let deep := withPort (ported 3) fun y => { y with reqDeep := some 4900000 }
    (∀ s ∈ [tx, owes, sends, rx, wake, deep], s.quiet ∧ s.portState 2 = 3) ∧ (tx.port 2).reqTx = some 4900000 ∧ tx.txDir 2 = 0 ∧ (tx.port 2).oweAck = false ∧
    (tx.port 2).reqRx = none ∧ (tx.port 2).reqDeep = none ∧ (tx.port (tx.logical 2)).busy = none ∧ (tx.port 2).wakeAfter = false ∧ (tx.port 2).ackGot = false ∧
    (tx.port (tx.logical 2)).queue = [] ∧ (owes.port 2).oweAck = true ∧ (owes.port 2).reqTx.isSome = true ∧ (sends.port (sends.logical 2)).busy.isSome = true ∧
    (rx.port 2).reqRx = some 4900000 ∧ (rx.port 2).reqTx = none ∧ (rx.port 2).reqDeep = none ∧ wake.rxDir 2 = 1 ∧ (wake.port 2).reqWake.isSome = true ∧
    (deep.port 2).reqDeep = some 4900000 ∧ (deep.port 2).reqTx = none ∧ (deep.port 2).reqRx = none := by
  unfold State.quiet State.calm State.still
  decide +kernel

/-- Device 5 with port 2 UP and a route for 7 through port 4. -/
def routed : State := (((ported 3).setF F.RTE.DEV_CFG_DEV_ADDR 5).setF (F.LNK.PORT_STATUS_STATE 4) 3).setReg (0x100A4000 + 4 * 7) 0x80000004

theorem witness_frame_headers :
    let h := fun (typ vc dst src : Nat) => encodeHeader { typ := typ, vc := vc, dst := dst, src := src, hops := 3 } 64
    let ok := fun (x : Nat) => hcrc x = bits x 7 0 ∧ headerMalformed x = false
    routed.quiet ∧ routed.localIn = [] ∧ 2 < routed.ports.length ∧ routed.portState 2 = 3 ∧ routed.logical 2 = 2 ∧ routed.rxDir 2 = 0 ∧ (routed.port 2).rx = none ∧
    hcrc (h 1 2 5 9 + 2 ^ 100) ≠ bits (h 1 2 5 9 + 2 ^ 100) 7 0 ∧ headerMalformed (h 9 2 5 9) = true ∧ hcrc (h 9 2 5 9) = bits (h 9 2 5 9) 7 0 ∧
    ok (h 8 0 5 9) ∧ hopLocal (decodeHeader (h 8 0 5 9)).typ = true ∧ (∀ q < 6, (routed.port q).bondWait = false) ∧ ok (h 1 2 5 5) ∧
    (decodeHeader (h 1 2 5 5)).src = 5 ∧ ok (h 1 2 5 9) ∧ (decodeHeader (h 1 2 5 9)).dst = 5 ∧ frameMc (decodeHeader (h 1 2 5 9)) = false ∧ hopLocal 1 = false ∧
    ok (h 1 2 7 9) ∧ (decodeHeader (h 1 2 7 9)).hops ≠ 0 ∧ routed.lookup (decodeHeader (h 1 2 7 9)) 2 = some [4] := by
  unfold State.quiet State.calm State.still
  decide +kernel

/-- A tail of a frame of 64 bytes, good and bad; a frame of this device on its way out of the port. -/
theorem witness_frame_ends :
    let r := { hdr := { typ := 1, vc := 2, dst := 5, src := 9, hops := 3 }, len := 64, outs := [6] }
    let s := withPort routed fun y => { y with rx := some r, busy := some { fr := r.hdr, inp := 6 } }
    let pl := List.replicate 64 (0x5A : Byte)
    let tail := pcrc pl * 2 ^ 32
    s.quiet ∧ s.localIn = [] ∧ (s.port 2).rx = some r ∧ pl.length = r.len ∧ pcrc pl = bits tail 63 32 ∧ tail.testBit 16 = false ∧ pcrc pl ≠ bits 0 63 32 ∧
    (∀ y ∈ s.ports, ∀ l ∈ y.queue ++ y.busy.toList, LineFrame.inp l ≠ 2) ∧ (s.port 2).busy = some { fr := r.hdr, inp := 6 } ∧ s.bonded 2 = false := by
  unfold State.quiet State.calm State.still
  decide +kernel

/-- Requests good and bad; writes within and outside memory; a bond, whose credits and frames its lower member holds; a ring. -/
theorem witness_frame_effects :
    let s := routed
    let data := leBytes 4 0x04000100 ++ leBytes 4 (2 ^ 31 + 2 ^ 30 + 2) ++ leBytes 4 77 ++ leBytes 4 99
    let u := (s.mreqWords data true true (payloadWord data 0) (bits (payloadWord data 1) 15 0) 0 []).1
    let bond := (withPort routed fun y => { y with alloc := List.replicate 8 240 }).setF F.RTE.BOND_CFG_BOND_EN 2
    let bond := { ((bond.setF F.RTE.BOND_STATUS_ACTIVE 12).setF (F.LNK.PORT_STATUS_STATE 3) 3) with localIn := [] }
    let ring := (((routed.setF F.RTE.TOPO_CFG_TOPO 1).setF F.RTE.TOPO_CFG_RING_AUTO 1).setF F.RTE.PS_CFG_EN 1).setF F.RTE.PS_CFG_HEAD 1
    (payloadWord data 1).testBit 31 = true ∧ (payloadWord data 1).testBit 30 = true ∧ mreqOk data = true ∧ u.calm ∧ u.logical 2 = 2 ∧ mreqOk [1] = false ∧
    s.f F.SYS.BOOT_STATUS_ROM_STATE ≠ 5 ∧ s.bulkCause 0x04000100 64 = 0 ∧ s.bulkCause 0x0F000100 64 ≠ 0 ∧ bond.quiet ∧ bond.portState 3 = 3 ∧ bond.bonded 3 = true ∧
    bond.logical 3 = 2 ∧ (bond.port 2).alloc ≠ [] ∧ (s.port 2).alloc = [] ∧ ring.quiet ∧ ring.f F.RTE.TOPO_CFG_TOPO = 1 ∧ ring.f F.RTE.TOPO_CFG_RING_AUTO = 1 ∧
    ring.f F.RTE.PS_STATUS_SPLIT = 0 ∧ ring.f F.RTE.PS_CFG_HEAD = 1 := by
  unfold State.quiet State.calm State.still
  decide +kernel

/-! ## Witnesses: the command tables and the paths -/

/-- Every slot of the TDD pattern transmits, or receives; carrier 0 has 100 resource blocks. -/
def patterned (w : Word) : State := ((List.range 64).foldl (fun s i => s.setReg (A.AUX.TDD_SLOT i) w) onAir).setF (F.RXP.CAR_CFG_NRB 0) 100

theorem witness_table_commands :
    let shape := fun (s : State) (b op : Nat) (pl : List Nat) (n : Nat) => s.cmdShape b 0 5 op false pl = true ∧ s.cmdInSlot b 0 n 5 op pl = true
    let d := patterned 0
    let n := d.slotOfTrig 0 5
    shape onAir 14 0x100 [2, 0xFF, 0] (onAir.slotOfTrig 0 5) ∧ shape onAir 14 0x101 [7, 0xF0, 0] (onAir.slotOfTrig 0 5) ∧ shape d 15 0x200 [2, 0xFF, 0] n ∧
    shape d 15 0x201 ([1, 1, 2] ++ List.replicate 13 0) n ∧ shape d 16 0x300 [4, 0] n ∧ shape d 17 0x400 [1, 0, 2 ^ 17 + 2 ^ 10] n ∧
    shape d 17 0x401 [1, 0x200] (d.slotIdxOf 0) := by
  decide +kernel

theorem witness_table_commands_receiving :
    let shape := fun (s : State) (b op : Nat) (pl : List Nat) (n : Nat) => s.cmdShape b 0 5 op false pl = true ∧ s.cmdInSlot b 0 n 5 op pl = true
    let r := patterned 0x05555555
    let n := r.slotOfTrig 0 5
    r.tlRun = true ∧ r.carEn 0 = true ∧ shape r 17 0x402 [1, 0x200, 0, 0] (r.slotIdxOf 0) ∧ shape r 18 0x500 [1, 100] n ∧ shape r 19 0x600 [0x20, 4, 0] n ∧
    r.fullRun = false ∧ r.cal.runs = [] ∧ r.calModeOk (bits 0x20 2 0) = true ∧ (r.setF F.PWR.MODE_STATUS_MODE 5).calModeOk (bits 0x20 2 0) = false ∧
    r.revertDue 2 = false ∧ r.f F.RXP.AGC_CFG_MODE = 0 ∧ (r.setF F.RXP.AGC_CFG_MODE 1).f F.RXP.AGC_CFG_MODE ≠ 0 ∧
    shape (r.setF F.RXP.AGC_CFG_MODE 1) 14 0x101 [7, 0xF0, 0] n ∧ shape (r.setF F.CAL.CAL_STATUS_STATE 1) 19 0x600 [0x20, 4, 0] n ∧
    (r.setF F.CAL.CAL_STATUS_STATE 1).fullRun = true ∧ shape (r.setF F.PWR.MODE_STATUS_MODE 5) 19 0x600 [0x20, 4, 0] n := by
  decide +kernel

/-- A symbol with receive work on path 4 and none on path 9, which is enabled, rests or is off, and what makes it invalid. -/
theorem witness_received_symbols :
    let s := { (onAir.setF (F.RXP.CAR_CFG_NRB 0) 2).setF F.RXP.PATH_EN_LO_EN 0x2FF with
      tim := { onAir.tim with symIdx := [4, 0, 0, 0] }
      rx := { onAir.rx with jobs := [{ carrier := 0, slot := 0, trig := 2, nsym := 2, dest := 0, mask := 0xFF, addr := 0 }] } }
    let rests := { s with pwr := { s.pwr with micro := [73] } }
    let named := fun (p : Nat) => s.rx.jobs.any (fun j => j.carrier == 0 && j.slot == 0 && j.mask.testBit p && decide (j.trig ≤ 3) && decide (3 < j.trig + j.nsym))
    let codes : List Int := [0, -8191, 3]
    s.calm ∧ named 9 = false ∧ named 4 = true ∧ s.tlRun = true ∧ s.carEn 0 = true ∧ s.rx.hold.testBit 4 = false ∧ s.rxEnabled 9 = true ∧ s.rxRests 9 = false ∧
    onAir.rxEnabled 9 = false ∧ rests.calm ∧ rests.rxRests 9 = true ∧ (camp.tlRun = false ∧ onAir.carEn 1 = false) ∧ s.lowCarrier = some 0 ∧
    (∀ v ∈ codes, v.natAbs ≤ 8191) ∧ (∃ v ∈ codes, v.natAbs = 8191) ∧
    (s.advanceTo (s.symSpan 0 0 3).2).invCause 4 0 (s.symSpan 0 0 3).1 (s.symSpan 0 0 3).2 true ≠ 0 := by
  unfold State.calm
  decide +kernel

/-- On the air, without a pool of contexts. -/
def poolless : State := onAir.setF F.BFM.CTX_POOL_SIZE 0

/-- A layer block of slot 1 that fits, one twice, one without room, one too late, one outside RUN and one too early. -/
theorem witness_layer_blocks :
    let block := fun (fs : Nat) => leBytes 2 fs ++ leBytes 1 0x31 ++ leBytes 1 2 ++ leBytes 4 0 ++ leBytes 2 4 ++ List.replicate 22 (0 : Byte)
    let s := poolless
    let fetch := fun (b : LBlock) => s.fetchInstant b.carrier b.slot b.sym
    let four := fun (b : LBlock) => s.slotInstant (s.carScs b.carrier) (b.slot + 4) - s.slotInstant (s.carScs b.carrier) b.slot
    let fits := fun (b : LBlock) => s.now ≤ fetch b ∧ fetch b ≤ s.now + four b ∧ b.sameKey b = true ∧ b.off < b.off + b.count ∧
      b.size ≤ s.f F.TXP.LSTORE_SIZE * 65536
    let late := { s with now := 3840000000 }
    s.domOn Dom.ctl = true ∧ s.calm ∧ s.tlRun = true ∧ s.tx.store = [] ∧ s.layerBlock? (block 1 ++ [0]) = none ∧
    (s.layerBlock? (block 1)).all (fun b => fits b) = true ∧ (s.layerBlock? (block 1)).isSome = true ∧ (s.layerBlock? (block 320)).any (fun b => s.now + four b < fetch b) = true ∧
    ((s.setF F.TXP.LSTORE_SIZE 0).layerBlock? (block 1)).any (fun b => decide (0 < b.size)) = true ∧
    (late.layerBlock? (block 1)).any (fun b => decide (late.fetchInstant b.carrier b.slot b.sym < late.now)) = true ∧
    ((onAir.setF F.TIM.TL_STATUS_STATE 0).layerBlock? (block 1)).isSome = true ∧ (onAir.setF F.TIM.TL_STATUS_STATE 0).tlRun = false := by
  unfold State.calm
  decide +kernel

/-- The engines may write anywhere while there is no pool of contexts and no image; while memory is wiped they may not. -/
theorem witness_engine_writes (a n : Nat) : poolless.engRefused a n = false ∧ (onAir.setF F.SYS.BOOT_STATUS_WIPE 1).engRefused a n = true := by
  have h : poolless.wiping = false ∧ poolless.f F.BFM.CTX_POOL_SIZE = 0 ∧ poolless.pwr.boot = none ∧ (onAir.setF F.SYS.BOOT_STATUS_WIPE 1).wiping = true := by decide +kernel
  simp [State.engRefused, State.inHeader, State.bootLocks, h]

/-- The power loop with a fresh and a stale path; the mute log. -/
theorem witness_power_loop :
    let log := { onAir with tx := { onAir.tx with mlog := [[1, 2, 3, 4]] } }
    let held := { onAir.setF F.FLT.DET_STATUS_OCC 4 with tx := { onAir.tx with paths := setNth onAir.tx.paths 3 { onAir.txp 3 with causes := 4 } } }
    let pw := { ((onAir.setF F.TXP.PWR_LOOP_EN 1).setF F.TXP.PATH_EN_LO_EN 6) with dpd := { onAir.dpd with fresh := [1] } }
    pw.calm ∧ pw.f F.TXP.PWR_LOOP_EN = 1 ∧ pw.txEnabled 1 = true ∧ pw.txEnabled 2 = true ∧ 1 ∈ pw.dpd.fresh ∧ 2 ∉ pw.dpd.fresh ∧ onAir.f F.TXP.PWR_LOOP_EN = 0 ∧
    onAir.accepts 34 (A.TXP.P_CTRL 3) ∧ onAir.f F.FLT.DET_STATUS_OCC &&& (onAir.txp 3).causes = 0 ∧
    held.accepts 34 (A.TXP.P_CTRL 3) ∧ held.f F.FLT.DET_STATUS_OCC &&& (held.txp 3).causes ≠ 0 ∧ log.calm ∧ log.serves 34 (A.TXP.MLOG_ENTRY 3) false ∧
    log.tx.mlog = [1, 2, 3, 4] :: [] ∧ onAir.accepts 34 (A.DPD.P_CTRL 3) ∧ (onAir.orx 2).entry = none := by
  unfold State.accepts State.serves State.calm
  decide +kernel

/-- A capture of path 19, which transmits or has no work. -/
def capturing (jobs : List TxJob) : State :=
  { (((patterned 0).setF (F.CLK.PLAN_FS_FS_KHZ 0) 5898240).setF (F.TXP.P_STATUS_SWITCH 19) 1) with
    dpd := { onAir.dpd with orx := [{}, {}, { entry := some { kind := 1, tap := 3, sym := 4, ofs := 0, lg := 0, slot := 0 } }, {}, {}, {}, {}, {}] },
    tx := { onAir.tx with jobs := jobs } }

theorem witness_captures :
    let job : TxJob := { carrier := 0, slot := 0, trig := 0, nsym := 14, mask := 2 ^ 19 }
    let e : OrxEntry := { kind := 1, tap := 3, sym := 4, ofs := 0, lg := 0, slot := 0 }
    let o := fun (k : Nat) => let s := capturing [job]
      { s with dpd := { s.dpd with orx := setNth s.dpd.orx 2 { entry := some { e with kind := k } } } }
    let w := (o 1).orxWindow e
    let u := (o 1).advanceTo w.2
    (∀ k ∈ [0, 1], (o k).calm ∧ ((o k).orx 2).entry = some { e with kind := k } ∧ 2 < (o k).dpd.orx.length ∧ (o k).flt.injs = [] ∧ ((o k).orx 2).stat = none) ∧
    u.orxNamed 19 w.1 w.2 = true ∧ w.2 ≤ u.slotInstant ((u.gridScs).getD 0) 1 ∧ u.f (F.TXP.P_STATUS_FAULT 19) = 0 ∧ u.f (F.TXP.P_STATUS_SWITCH 19) = 1 ∧
    (∀ m ∈ (u.txp 19).mutes, ¬ (m.1 < w.2 ∧ w.1 < m.2.1)) ∧ u.f (F.DPD.ORX_STATUS_HELD 2) = 0 ∧ u.f (F.DPD.P_CTRL_ADAPT_HOLD 19) = 0 ∧
    (capturing []).orxNamed 19 w.1 w.2 = false ∧ ((capturing []).orx 2).entry = some e := by
  unfold State.calm
  decide +kernel

/-- A record that is ready and fits its slot of 2 KiB; a slot without size. -/
theorem witness_records_ready :
    let r : OrxStat := { path := 19, frame := 0, slot := 0, bank := 0, nt := 1, scale := 0, energy := 5, vals := [], ready := 2000000 }
    let s := { (onAir.setF F.DPD.STAT_CFG_DEPTH 4).setF F.DPD.STAT_CFG_SLOT 2 with dpd := { onAir.dpd with orx := [{}, {}, { stat := some r }, {}, {}, {}, {}, {}] } }
    let u := s.advanceTo r.ready
    s.calm ∧ (s.orx 2).stat = some r ∧ (∀ j < 8, j ≠ 2 → (s.orx j).stat = none) ∧ (u.orx 2).full = false ∧
    64 + 8 * r.nt + 8 * (r.nt * (r.nt + 1) / 2) ≤ u.f F.DPD.STAT_CFG_SLOT * 1024 ∧ u.f F.DPD.STAT_CFG_DEPTH = 4 ∧
    (∀ n < 200, u.engRefused (u.f F.DPD.STAT_CFG_BASE * 65536 + 2 * 4 * 2048) n = false) ∧ (u.setF F.SYS.BOOT_STATUS_WIPE 1).wiping = true ∧
    ((onAir.setF F.DPD.STAT_CFG_SLOT 0).f F.DPD.STAT_CFG_SLOT) * 1024 < 80 := by
  unfold State.calm
  decide +kernel

/-! ## Witnesses: contexts, sums and time -/

/-- Beamforming state over `onAir`. -/
def withBfm (b : BfmState) : State := { onAir with bfm := b }

theorem witness_contexts :
    let cx : Ctx := { user := 7, carrier := 0, nports := 1 }
    let closing : Ctx := { cx with closing := some 100 }
    let full := withBfm { onAir.bfm with ctxs := (List.range 384).map (fun i => (i, { cx with user := i + 100, carrier := 1 })) }
    let one := withBfm { onAir.bfm with ctxs := [(0, cx)] }
    let shut := withBfm { onAir.bfm with ctxs := [(0, closing)] }
    onAir.calm ∧ onAir.accepts 34 A.BFM.CTX_OPEN ∧ onAir.carEn 1 = false ∧ onAir.carEn 0 = true ∧ (one.ctxOf 7 0).isSome = true ∧ onAir.ctxOf 7 0 = none ∧
    full.ctxOf 7 0 = none ∧ (∀ i < 384, Store.find? full.bfm.ctxs i ≠ none) ∧ Store.find? onAir.bfm.ctxs 0 = none ∧ onAir.wiping = false ∧
    onAir.accepts 34 A.BFM.CTX_CLOSE ∧ Store.find? one.bfm.ctxs 0 = some cx ∧ onAir.gridScs ≠ none ∧ onAir.tlCounts = true ∧
    onAir.wiping = false ∧ cx.closing = none ∧ Store.find? onAir.bfm.ctxs 0 = none ∧ shut.mode ≠ Mode.baseCamp ∧ onAir.bfm.ctxs = [] ∧
    (shut.setF F.PWR.MODE_STATUS_MODE 1).mode = Mode.baseCamp ∧ (shut.setF F.PWR.MODE_STATUS_MODE 1).tlCounts = true ∧
    Store.find? shut.bfm.ctxs 0 = some closing ∧ 100 + 2 * 384000 ≤ (shut.advanceTo (shut.slotInstant ((shut.gridScs).getD 0) shut.bfm.engIdx)).now := by
  unfold State.accepts State.serves State.calm
  decide +kernel

/-- A weight deadline with and without late weights; a weight instant; the head; the trim log. -/
theorem witness_weights :
    let wd := withBfm { onAir.bfm with wgtIdx := 2, dead := [1, 1] }
    let late := withBfm { wd.bfm with weights := [(1, { ul := true, carrier := 0, group := 0, layer := 2, vec := [], wexp := 0, fb := false })] }
    let count := fun (s : State) => (s.bfm.weights.filter (fun w => w.1 == 1 && w.2.ul == true && !w.2.fb && [(0, 0)].contains (w.2.carrier, w.2.group))).length
    let log := withBfm { onAir.bfm with trimLog := [77] }
    wd.calm ∧ wd.tlRun = true ∧ wd.gridScs ≠ none ∧ 1 < wd.bfm.wgtIdx ∧ wd.bfm.dead.getD (dirIdx true) 0 = 1 ∧ dirIdx true < wd.bfm.dead.length ∧ wd.bfm.pend = [] ∧
    count wd = 0 ∧ count late = 1 ∧ onAir.f F.RTE.PS_CFG_HEAD = 0 ∧ log.calm ∧ log.serves 34 A.BFM.TRIM_LOG false ∧ log.bfm.trimLog = 77 :: [] := by
  unfold State.serves State.calm
  decide +kernel

/-- A group of slot 1 with layer 2, alone or with one that waits too. -/
def awaiting (head : Nat) (more : Bool) : State :=
  let g : OpenGroup := { ul := true, carrier := 0, group := 0, layers := [2], all := [2], vecs := [], quals := [], gram := [] }
  { onAir.setF F.RTE.PS_CFG_HEAD head with
    bfm := { onAir.bfm with wgtIdx := 2, dead := [1, 1], pend := (1, g) :: (if more then [(1, { g with group := 1, layers := [3] })] else []) } }

/-- The head of a frame of n cores of slot 1, uplink; a frame of a core of group 0 with one layer, and of one that names the fallback; frames of no group and malformed ones. -/
def coreHead (n : Nat) : List Byte := leBytes 2 1 ++ leBytes 1 (0x10 + 2) ++ leBytes 1 n ++ List.replicate 12 0
def coreOf : List Byte := coreHead 1 ++ leBytes 4 0x03000000 ++ leBytes 4 0x00050006
def fallOf : List Byte := coreHead 1 ++ leBytes 4 0x2000

theorem witness_core_frames :
    (∀ d ∈ [coreHead 0, coreOf, fallOf], 16 ≤ d.length ∧ ofLe ((d.drop 2).take 1) = 0x10 + 2 * b2n true + 4 * 0 ∧ ∀ i < 12, d.getD (4 + i) 0 = 0) ∧
    onAir.calm ∧ onAir.domOn Dom.ctl = true ∧ onAir.bfm.pend = [] ∧ onAir.bfm.weights = [] := by
  unfold State.calm
  decide +kernel

theorem witness_cores :
    let cores := fun (d : List Byte) => parseCores (ofLe ((d.drop 3).take 1)) (d.drop 16)
    (cores (coreHead 0)).any (fun l => l.isEmpty) = true ∧ (cores coreOf).any (fun l => decide (l = [(0, 1, some ([cplxOf 0x00050006], 3))])) = true ∧
    (cores fallOf).any (fun l => decide (l = [(0, 1, none)])) = true ∧ (cores (coreOf ++ [1])).isNone = true := by
  decide +kernel

theorem witness_groups :
    let n := onAir.slotAbs ((onAir.gridScs).getD 0) (1 / 64) (1 % 64)
    n = 1 ∧ (∀ m ∈ [true, false], let s := awaiting 0 m
      let rest := s.bfm.pend.drop 1
      s.calm ∧ s.domOn Dom.ctl = true ∧ s.f F.RTE.PS_CFG_HEAD = 0 ∧
      s.bfm.pend.find? (fun y => y.1 == n && y.2.ul == true && y.2.carrier == 0 && y.2.group == 0) = s.bfm.pend.head? ∧ s.bfm.pend.head?.isSome = true ∧
      s.bfm.pend.head?.any (fun p => p.2.layers.length == 1) = true ∧ rest.any (fun y => y.1 == n && y.2.ul == true) = m) ∧
    (awaiting 1 false).f F.RTE.PS_CFG_HEAD = 1 ∧ (awaiting 1 false).bfm.pend.any (fun p => p.1 == (awaiting 1 false).bfm.wgtIdx - 1) = true := by
  unfold State.calm
  decide +kernel

/-- Port 2 is UP and takes terms. -/
def summing : State :=
  { ((onAir.setF (F.LNK.PORT_STATUS_STATE 2) 3).setF F.RTE.PS_CFG_EN 1).setF F.RTE.PS_CFG_IN_MASK 4 with
    ports := List.replicate 6 { txAt := 1000000, txWakeAt := 1000000 } }

/-- The payload of a term of one value for symbol 0 of slot 0, and the key it names. -/
def termOf : List Byte :=
  leBytes 2 0 ++ leBytes 1 0x30 ++ leBytes 1 0 ++ leBytes 4 0 ++ leBytes 2 1 ++ leBytes 2 1 ++ leBytes 4 0 ++ leBytes 4 0x00050006
def keyOf : PsKey := ((summing.psParse termOf).map (·.1)).getD { frame := 99, slot := 0, sym := 0, carrier := 0, kind := 0, offset := 0, fmt := 0, count := 0, abs := 0 }

def lone : PsTerm := { src := 0, ncon := 1, degr := false, sat := false, poison := false, vals := [] }

/-- The key with a term of this source and length. -/
def keyed (src n : Nat) : State :=
  { summing with bfm := { summing.bfm with keys := [{ keyOf with
      terms := [{ src := src, fmt := keyOf.fmt, ncon := 1, degr := false, sat := false, poison := false, vals := List.replicate n {} }] }] } }

/-- A term that is the first of its key, beside another, twice, of another length than the local block's, late and done; a port that takes none; a payload that is none. -/
theorem witness_partial_sums :
    let late := { summing with now := 10 ^ 10 }
    let two := fun (s : State) => (s.setF F.RTE.PS_CFG_IN_MASK 0x14).setF (F.LNK.PORT_STATUS_STATE 4) 3
    summing.calm ∧ summing.portState 2 = 3 ∧ summing.logical 2 = 2 ∧ summing.psTakes 2 = true ∧ summing.psParse [] = none ∧
    (summing.psParse termOf).any (fun r => r.1 == keyOf && r.2.2.length == 1) = true ∧ summing.bfm.keys = [] ∧ summing.now ≤ summing.holdInstant keyOf ∧
    summing.bfm.doneKeys.contains keyOf.id = false ∧ late.holdInstant keyOf < late.now ∧ (summing.setF F.RTE.PS_CFG_IN_MASK 0).psTakes 2 = false ∧
    (∀ x ∈ [(2, 1), (6, 2), (6, 1), (4, 1)], (keyed x.1 x.2).calm ∧ (∀ y ∈ (keyed x.1 x.2).bfm.keys, y.due = false ∧ y.same keyOf = true) ∧
      (keyed x.1 x.2).bfm.keys.all (fun y => y.terms.all (fun t => (t.src == x.1) && t.fmt == keyOf.fmt && t.vals.length == x.2)) = true) ∧
    (∀ y ∈ (two (keyed 6 1)).bfm.keys, (two (keyed 6 1)).psReady { y with terms := y.terms ++ [{ y.terms.headD lone with src := 2 }] } = false) ∧ (two summing).psTakes 2 = true ∧ (summing.setF F.RTE.PS_CFG_HEAD 1).f F.RTE.PS_CFG_HEAD = 1 ∧ summing.f F.RTE.PS_CFG_HEAD = 0 := by
  unfold State.calm
  decide +kernel

/-- A key at its hold instant that waits for a term on its way, and one that does not. -/
theorem witness_hold_instants :
    let s := keyed 4 1
    let comes := { s with ports := modNth s.ports 2 (fun y => { y with rx := some { hdr := { typ := 2, vc := 3 }, len := 20, outs := [6], at_ := 1000 } }) }
    (∀ u ∈ [s, comes], u.calm ∧ u.portState 2 = 3 ∧ u.bfm.keys.length = 1 ∧ u.f F.RTE.PS_CFG_HEAD = 0 ∧ ∀ y ∈ u.bfm.keys, y.due = false ∧
      (u.advanceTo (u.holdInstant y)).psArriving y = decide (u = comes)) := by
  unfold State.calm
  decide +kernel

/-- An uplink block of symbol 3 on a carrier of 24 resource blocks; occasions that end and wait, with the ring free and full, and memory that an engine may not write. -/
theorem witness_blocks_and_occasions :
    let job : SchedJob := { ul := true, carrier := 0, slot := 0, trig := 3, user := 1, port := 0, layer := 0, prio := 0, nsym := 2, fb := 0, gFirst := 0, gCount := 2,
                            out := 0, mod := 0, dmrs := 0, dport := 0, cinit := 0, leader := 0 }
    let up := (summing.setF F.RTE.PS_CFG_EN 0).setF F.BFM.CTX_POOL_SIZE 0
    let s := { (up.setF (F.RXP.CAR_CFG_NRB 0) 24) with bfm := { onAir.bfm with scheds := [job] }, tim := { onAir.tim with symIdx := [4, 0, 0, 0] } }
    let oc : RaOcc := { carrier := 0, slot := 0, trig := 5, smask := 1, start := 5000000, stop := 6000000, beams := [] }
    let ra := fun (n rd : Nat) => { (up.setF F.RAD.RA_RING_DEPTH 2).setF F.RAD.RA_RING_PTR_RD rd with rad := { onAir.rad with open_ := [oc], queue := List.replicate n oc } }
    s.calm ∧ s.portState 2 = 3 ∧ s.tlCounts = true ∧ 1020 * 0 < s.ulLength 0 0 3 ∧ s.f F.RTE.PS_CFG_EN = 0 ∧ s.bfm.sums = [] ∧ up.calm ∧ up.portState 2 = 3 ∧
    up.ulLength 0 0 3 ≤ 1020 * 0 ∧ up.bfm.keys = [] ∧ up.rad.open_ = [] ∧ up.rad.queue = [] ∧
    (∀ n ∈ [8, 9], ∀ rd ∈ [0, 1], (ra n rd).calm ∧ (ra n rd).rad.queue.length = n ∧ (ra n rd).rad.open_ = [oc] ∧ (ra n rd).rad.queue.head? = some oc ∧
      (ra n rd).rad.queue.tail.length < 9 ∧ (((ra n rd).f F.RAD.RA_RING_PTR_WR + 1) % 2 = (ra n rd).f F.RAD.RA_RING_PTR_RD ↔ rd = 1)) ∧
    (up.f F.BFM.CTX_POOL_SIZE = 0 ∧ up.pwr.boot = none ∧ up.wiping = false) ∧ (up.setF F.SYS.BOOT_STATUS_WIPE 1).wiping = true := by
  unfold State.calm
  decide +kernel

/-- Base 1 with a value, as a slave on port 2 in every servo state, and as a master. -/
def based (mode : Nat) (x : TimeBase) : State :=
  let s := ((ported 3).setF (F.TIM.TB_DISC_MODE 1) mode).setF (F.TIM.TB_DISC_PORT 1) 2
  { s with now := 5000000, tim := { s.tim with bases := [{ val := 5 * 2 ^ 32 + 7 }, x, { val := 2 ^ 63 }, { val := 7 }] } }

/-- A base that is free, in every servo state with an exchange open, and the base of a master. -/
def free : State := based 0 { val := 3 * 2 ^ 64 + 2 ^ 33 }
def serving (st : Nat) : State :=
  (based 1 { val := 3 * 2 ^ 64 + 2 ^ 33, exch := some { num := 9, t1 := 5, t2 := 6, t3 := 7, opened := 5000000 }, missRun := 1 }).setF (F.TIM.TB_STATUS_STATE 1) st
def master : State := free.setF (F.TIM.TB_DISC_MASTER_MASK 1) 4

theorem witness_time_bases :
    free.quiet ∧ 1 < free.tim.bases.length ∧ 2 < free.ports.length ∧ free.accepts 35 (A.TIM.CAP_CTRL 1) ∧ free.domOn Dom.ctl = true ∧ free.accepts 34 (A.TIM.TB_STEP 1) ∧
    free.frameStep 1 (signed 32 (2 ^ 32 - 100000)) = false ∧ free.tbHeld 1 = false ∧ free.servo 1 = 0 ∧ free.accepts 34 (A.TIM.TB_TALLY_SET 1) := by
  unfold State.accepts State.serves State.quiet State.calm State.still
  decide +kernel

theorem witness_held_bases :
    let held := (free.setF F.TIM.TL_STATUS_STATE 2).setF F.TIM.TL_STATUS_FOLLOWED 1
    held.quiet ∧ held.tbHeld 1 = true ∧ held.accepts 34 (A.TIM.TB_STEP 1) ∧ held.accepts 34 (A.TIM.TB_TALLY_SET 1) ∧ held.frameStep 1 (signed 32 (2 ^ 32 - 100000)) = false ∧
    (serving 2).accepts 34 (A.TIM.TB_DISC 1) ∧ (serving 2).f (F.TIM.TB_DISC_MODE 1) ≠ 0 ∧ (serving 2).servo 1 ≠ 0 := by
  unfold State.accepts State.serves State.quiet State.calm State.still
  decide +kernel

/-- A port of a master; a port of a slave, whose exchange has number 9; a port of neither; and the instant of a master's next SYNC. -/
theorem witness_exchanges :
    let v := master.advanceTo ((master.tb 1).syncDue.getD 2 0)
    master.quiet ∧ master.portState 2 = 3 ∧ (∃ q ∈ master.members 2, (master.f (F.TIM.TB_DISC_MASTER_MASK 1)).testBit q = true) ∧ master.logical 2 = 2 ∧ v.still ∧
    free.portState 2 = 3 ∧ free.f (F.TIM.TB_DISC_MODE 1) ≠ 1 ∧ (∀ q ∈ free.members 2, (free.f (F.TIM.TB_DISC_MASTER_MASK 1)).testBit q = false) := by
  unfold State.quiet State.calm State.still
  decide +kernel

theorem witness_slaves :
    (∀ n ∈ [0, 1, 2, 3], (serving n).quiet ∧ (serving n).portState 2 = 3 ∧ (serving n).f (F.TIM.TB_DISC_MODE 1) = 1 ∧
      (serving n).logical ((serving n).f (F.TIM.TB_DISC_PORT 1)) = (serving n).logical 2 ∧ (serving n).servo 1 = n ∧ (serving n).tbHeld 1 = false ∧
      ((serving n).tb 1).exch.any (fun x => x.num == 9) = true) ∧
    (∀ m < 2, m ≠ 1 → ((serving 2).tb m).exch = none ∧ (serving 2).f (F.TIM.TB_DISC_MODE m) ≠ 1) := by
  unfold State.quiet State.calm State.still
  decide +kernel

/-- Answers are missed before and at HOLD_MISS. -/
theorem witness_missed_answers :
    ∀ h ∈ [2, 5], let s := (((based 1 { val := 9, exch := some { num := 9, t1 := 5, t2 := 6, t3 := 7, opened := 5000000 }, missRun := 1 }).setF (F.TIM.TB_STATUS_STATE 1) 2).setF
        (F.TIM.TB_SERVO_HOLD_MISS 1) h)
      let u := s.advanceTo (5000000 + 384000000)
      let v := s.advanceTo ((s.tb 1).syncRef + ((s.tb 1).missK + 1) * (1000 * 384000000 / 2 ^ s.f (F.TIM.TB_DISC_SYNC_RATE 1)) + 384000000)
      s.quiet ∧ (u.tb 1).missRun = 1 ∧ u.f (F.TIM.TB_SERVO_HOLD_MISS 1) = h ∧ u.servo 1 = 2 ∧ (v.tb 1).missRun = 1 ∧ v.f (F.TIM.TB_SERVO_HOLD_MISS 1) = h := by
  unfold State.quiet State.calm State.still
  decide +kernel

theorem witness_timeline :
    let s := fun (st : Nat) => onAir.setF F.TIM.TL_STATUS_STATE st
    let armed := fun (ns : Nat) => ((s 1).setF F.TIM.TL_START_START_NS ns).setF F.TIM.TL_START_EXT_FRAME 1000
    let late := { armed 1 with tim := { (based 0 {}).tim with startK := 3 } }
    (∀ n ∈ [0, 1, 2, 3], (s n).calm ∧ (s n).accepts 34 A.TIM.TL_CTRL ∧ (s n).f F.TIM.TL_STATUS_STATE = n ∧ (s n).active = true) ∧ 0 < (armed 100000).startAhead ∧
    { armed 1 with tim := (based 0 {}).tim }.startAhead < 0 ∧ 0 ≤ (armed 100000).startGap ∧ late.calm ∧ late.tim.startK ≠ 0 ∧ (s 3).gridScs = some 1 ∧ (s 2).tlCounts = true ∧
    camp.accepts 34 A.TIM.TL_CTRL ∧ camp.active = false ∧ camp.f F.TIM.TL_STATUS_STATE = 0 := by
  unfold State.accepts State.serves State.calm
  decide +kernel

/-- SYNC given, held back by the window of a plan and not given; followed in WAIT and in RUN, one edge before the lock. -/
theorem witness_sync :
    let out_ := onAir.setF F.TIM.SYNC_CFG_OUT_EN 1
    let follow := fun (st : Nat) => { (onAir.setF F.TIM.TL_STATUS_STATE st).setF F.TIM.TL_CFG_FOLLOW 1 with tim := { onAir.tim with syncOn := true, syncRun := 3, syncNear := 3 } }
    let at_ := fun (s : State) => s.advanceTo (s.tim.t0 + (max s.now s.tim.syncAt - s.tim.t0 + 383999999) / 384000000 * 384000000)
    let window := out_.setF F.CLK.CLK_STATUS_STATE 3
    (∀ s ∈ [out_, window, onAir.setF F.TIM.SYNC_CFG_OUT_EN 0], s.calm ∧ s.active = true ∧ s.f F.TIM.TL_STATUS_STATE = 2) ∧ out_.f F.TIM.SYNC_CFG_OUT_EN = 1 ∧
    (at_ out_).clkWindow = false ∧ (at_ window).clkWindow = true ∧ (onAir.setF F.TIM.SYNC_CFG_OUT_EN 0).f F.TIM.SYNC_CFG_OUT_EN = 0 ∧ onAir.f F.TIM.TL_CFG_FOLLOW = 0 ∧
    (∀ n ∈ [1, 2], (follow n).calm ∧ (follow n).f F.TIM.TL_CFG_FOLLOW = 1 ∧ (follow n).f F.TIM.TL_STATUS_STATE = n ∧ (follow n).tim.syncOn = true ∧
      (follow n).tim.syncNear = 3) ∧ ((follow 2).syncError 0).natAbs ≤ 50 ∧ (follow 2).syncError 0 = 0 := by
  unfold State.calm
  decide +kernel

/-- The receiver in CAPTURE and TRACK: windows that saw a detection, that a transmission cut, and that missed, before and at the fourth. -/
theorem witness_listening :
    let s := fun (st miss : Nat) => ((onAir.setF F.NLR.NL_CFG_EN 1).setF F.NLR.NL_STATUS_STATE st).setF F.NLR.NL_STATUS_MISS_RUN miss
    let seen := { s 2 0 with tim := { onAir.tim with nlSeen := true } }
    let cut := { s 2 0 with aux := { onAir.aux with pa := 1 } }
    let cuts := fun (x : State) => let u := x.nlWindowRun; u.nlCutSince (u.now - 24 * (u.nlDist ((u.tb 2).ext16) + u.nlHalf).toNat)
    (∀ x ∈ [s 1 0, s 2 0, s 2 3, seen, cut], x.calm ∧ x.f F.NLR.NL_CFG_EN = 1 ∧ x.active = true) ∧ (s 1 0).nlState = 1 ∧ seen.nlState = 2 ∧ seen.tim.nlSeen = true ∧
    cut.nlState = 2 ∧ cut.tim.nlSeen = false ∧ cuts cut = true ∧ (∀ n ∈ [0, 3], (s 2 n).nlState = 2 ∧ (s 2 n).tim.nlSeen = false ∧ cuts (s 2 n) = false ∧
      (s 2 n).f F.NLR.NL_STATUS_MISS_RUN = n ∧ (s 2 n).f (F.TIM.TB_DISC_MODE 2) ≠ 2 ∧ ((s 2 n).nlListen [] []).2.1 ≤ (s 2 n).f F.NLR.NL_DET_THRESH) := by
  unfold State.calm
  decide +kernel

/-- What a detection in CAPTURE needs beside its peaks, which are free values, whatever they and their places are. -/
theorem witness_detections (a b t tp : Nat) :
    let s := (onAir.setF F.NLR.NL_CFG_EN 1).setF F.NLR.NL_STATUS_STATE 1
    s.nlState ≠ 0 ∧ s.resting 7 = false ∧ s.nlCutSince t = false ∧ s.nlInWindow tp = true ∧ (s.f F.NLR.NL_DET_THRESH < a → ¬ max a b ≤ s.f F.NLR.NL_DET_THRESH) := by
  intro s
  have h : s.nlState = 1 ∧ s.resting 7 = false ∧ s.aux.pa = 0 ∧ s.tim.nlTxAt = 0 := by decide +kernel
  refine ⟨by simp [h], h.2.1, by simp [State.nlCutSince, h], by simp [State.nlInWindow, h], by omega⟩

/-! ## Witnesses: arbiter and hosts -/

/-- `serve` with bank 1 of the arbiter. -/
def banked (x : ArbBank) : State := { serve [3] with now := 5000000, arb := { (serve [3]).arb with banks := Store.set (serve [3]).arb.banks {} 1 x } }

theorem witness_arbiter_banks :
    let rt : ArbReq := { id := 12, rt := true, stamp := 100, beats := 4 }
    let be : ArbReq := { id := 5, rt := false, stamp := 50, beats := 4 }
    let both := banked { owner := some 6, waiting := [rt, be] }
    let floor := banked { owner := some 6, waiting := [rt, be], rtRun := 15 }
    let hungry := (banked { owner := some 6, waiting := [be] }).setF F.ARB.ARB_CFG_THRESH_BE 3
    let stopped := { both with pwr := { both.pwr with stopped := [17] } }
    (∀ s ∈ [both, floor, hungry, stopped], s.calm) ∧ both.injHit 12 12 = false ∧ (both.bank 1).owner ≠ none ∧ stopped.resting 17 = true ∧ both.resting 17 = false ∧
    16 ≤ ((banked { waiting := List.replicate 16 be }).bank 1).waiting.length ∧ oldestReq 1000 ((both.bank 1).waiting.filter (fun q => q.rt)) = some rt ∧
    (both.bank 1).rtRun < 15 ∧ (floor.bank 1).waiting.filter (fun q => !q.rt) = [be] ∧ 15 ≤ (floor.bank 1).rtRun ∧ (∀ q ∈ (both.bank 1).waiting, both.isStarved 101 q = false) ∧
    (hungry.bank 1).waiting = [be] ∧ hungry.isStarved 1000 be = true := by
  unfold State.calm
  decide +kernel

/-- Requests of 1 to 16 bursts' beats: within a boundary of 1 KB, on it and across it; beyond the memory, of nothing, and while memory is wiped. -/
theorem witness_arbiter_requests :
    let s := banked {}
    s.calm ∧ s.domOn Dom.ctx = true ∧ s.wiping = false ∧ s.resting 17 = false ∧ (s.bank 1).owner = none ∧ (s.bank 1).waiting = [] ∧ s.injHit 12 6 = false ∧
    (∀ a ∈ [0x80000, 0x803C0], ∀ n ∈ [1, 16], (reqIsAgent 6 && s.ctxRefused a (64 * n) true) = false ∧ a / 64 * 64 + 64 * n ≤ 0x03000000 ∧
      (n ≤ 16 - a / 64 % 16 ↔ ¬ (a = 0x803C0 ∧ n = 16)) ∧ (a / 64 * 64 + 64 * (16 - a / 64 % 16)) / 0x80000 = a / 0x80000) ∧
    0x03000000 < 0x02FFFFC0 / 64 * 64 + 64 * 2 ∧ (s.setF F.SYS.BOOT_STATUS_WIPE 1).wiping = true := by
  unfold State.calm
  decide +kernel

theorem witness_arbiter_posts :
    let s := ((banked {}).setF (F.ARB.POST_CTX_ADDR 3) 0x2000000).setF (F.ARB.POST_LOC_ADDR 3) 0x04000100
    let p : ArbPost := { agent := 3, ctx := 0x2000000, loc := 0x04000100, write := true, beats := 2, tag := 9 }
    let t := { s with arb := { s.arb with posts := [p], rings := setNth s.arb.rings 3 [77, 78] } }
    s.accepts 3 (A.ARB.POST_CMD 3) ∧ s.postCode p = 0 ∧ s.postCode { p with ctx := 0x2000001 } ≠ 0 ∧ t.calm ∧ (t.arb.posts.filter (fun y => y.agent == 3))[0]? = some p ∧
    p.mute = false ∧ t.wiping = false ∧ t.ctxRefused p.ctx p.bytes p.write = false ∧ t.bootLocks p.ctx p.bytes = false ∧ t.coreState 3 = 1 ∧ t.flt.injs = [] ∧
    t.serves 3 (A.ARB.COMP_POP 3) false ∧ t.arb.rings.getD 3 [] = [77, 78] ∧ s.arb.rings.getD 3 [] = [] ∧ s.accepts 34 A.ARB.LFSR_SEED := by
  unfold State.accepts State.serves State.calm
  decide +kernel

/-- Messages of host MP-B: to nobody, to a core that resets, to MP-A, to a full inbox; what it receives. -/
theorem witness_host_messages :
    let word := fun (g : Nat) => g * 2 ^ 24 + 5
    let s := serve [3]
    let inbox := fun (g : Nat) (l : List (Nat × Nat)) => { s with mbx := { s.mbx with inbox := setNth s.mbx.inbox g l } }
    let stopped := { s with pwr := { s.pwr with stopped := [15] } }
    s.calm ∧ s.accepts 35 (A.MBX.SEND_CMD 1) ∧ s.resting 15 = false ∧ stopped.resting 15 = true ∧ stopped.accepts 35 (A.MBX.SEND_CMD 1) ∧ bits (word 36) 29 24 = 36 ∧ bits (word 34) 29 24 = 34 ∧ s.domOn (agentDom 34) = true ∧ s.injHit 11 34 = false ∧
    (s.core 34).wait = none ∧ (s.inboxOf 34).length < 4 ∧ (s.setF (F.TKC.C_STATUS_STATE 3) 5).coreState 3 = 5 ∧
    (s.setF (F.TKC.C_STATUS_STATE 3) 5).accepts 35 (A.MBX.SEND_CMD 1) ∧ 4 ≤ ((inbox 3 [(1, 1), (2, 2), (3, 3), (4, 4)]).inboxOf 3).length ∧ s.domOn (agentDom 3) = true ∧
    s.coreState 3 = 1 ∧ (s.core 3).wait = none ∧ 3 < s.mbx.inbox.length ∧ s.serves 35 (A.MBX.RECV_META 1) false ∧ s.inboxOf 35 = [] ∧
    (inbox 35 [(1, 2 ^ 24 * 3 + 1)]).inboxOf 35 = [(1, 2 ^ 24 * 3 + 1)] ∧ s.epochOf (bits (2 ^ 24 * 3 + 1) 29 24) = bits (2 ^ 24 * 3 + 1) 31 30 ∧
    s.epochOf (bits (2 ^ 30 + 2 ^ 24 * 3 + 1) 29 24) ≠ bits (2 ^ 30 + 2 ^ 24 * 3 + 1) 31 30 := by
  unfold State.accepts State.serves State.calm
  decide +kernel

theorem witness_host_controls :
    let s := serve [3]
    let pool := s.setF (F.MBX.POOL_BASE_BASE 3 1) 0x04001000
    let rung := { camp.setF F.PWR.MODE_STATUS_MODE 5 with doms := 0xFF, mbx := { camp.mbx with ringWake := [(3, 35)] } }
    let prep := s.setF F.PWR.REST_STATUS_STATE 1
    s.accepts 35 (A.MBX.DB_RING 1) ∧ s.mode ≠ 5 ∧ s.f F.PWR.REST_STATUS_STATE ≠ 1 ∧ prep.accepts 35 (A.MBX.DB_RING 1) ∧ prep.f F.PWR.REST_STATUS_STATE = 1 ∧
    prep.pwr.stopped = [] ∧ prep.pwr.req = none ∧ rung.calm ∧ rung.mode = 5 ∧ rung.mbx.ringWake = [(3, 35)] ∧ rung.coreState 3 = 0 ∧
    rung.domOn (coreDom 3) = false ∧ s.accepts 35 (A.MBX.HOST_CTRL 1) ∧ 35 < s.mbx.inbox.length ∧ pool.accepts 35 (A.MBX.POOL_CFG 3 1) ∧
    pool.f (F.MBX.POOL_CFG_ORPHANED 3 1) = 0 ∧ (pool.poolSet 3 1 (2 ^ 31 + 16)).poolFits 3 1 = true ∧ (s.poolSet 3 1 (2 ^ 31 + 16)).poolFits 3 1 = false := by
  unfold State.accepts State.serves State.calm
  decide +kernel

theorem witness_host_semaphores :
    let s := serve [3]
    let sems := fun (y : Sem) => { s with mbx := { s.mbx with sems := setNth s.mbx.sems 7 y } }
    let theirs := sems { owner := some (3, 0) }
    let mine := sems { owner := some (35, 0) }
    let stopped := { s with pwr := { s.pwr with stopped := [16] } }
    s.calm ∧ s.resting 16 = false ∧ stopped.accepts 35 (A.BLY.ACQ 1) ∧ stopped.resting 16 = true ∧ 7 < s.mbx.sems.length ∧ s.accepts 35 (A.BLY.ACQ 1) ∧ s.f (F.BLY.HOST_STATUS_QUEUED 1) = 0 ∧
    (s.setF (F.BLY.HOST_STATUS_QUEUED 1) 1).accepts 35 (A.BLY.ACQ 1) ∧ (s.sem 7).owner = none ∧ (theirs.sem 7).owner ≠ none ∧ s.waitsFor 35 = none ∧ s.flt.injs = [] ∧
    theirs.closesCycle 35 7 = false ∧ (theirs.sem 7).queue.length < 8 ∧ mine.waitsFor 35 = none ∧ mine.closesCycle 35 7 = true ∧ s.accepts 35 (A.BLY.REL 1) ∧
    (mine.sem 7).owner = some (35, mine.epochOf 35) ∧ (mine.sem 7).queue = [] ∧ (theirs.sem 7).owner ≠ some (35, theirs.epochOf 35) ∧ s.accepts 35 A.BLY.BREAK := by
  unfold State.accepts State.serves State.calm
  decide +kernel

/-! ## Witnesses: calibration, the synthesiser and the front end -/

/-- Full runs and a path-run of kind k on path 9, the synthesiser locked and not; no carrier is enabled, so that RECIP runs agree. -/
def calibrating (k fail lock : Nat) (full : Bool) : State :=
  { ((serve []).setF F.CAL.CAL_STATUS_STATE 2).setF F.CLK.CLK_STATUS_STATE lock with
    cal := { (serve []).cal with fullRuns := if full then [(k, 9, 3)] else []
                                 runs := if full then [] else [{ kind := k, path := 9, carrier := 0, slot := 3, trig := 0, nsym := 2, fail := fail }] } }

theorem witness_calibrations : ∀ k ∈ [0, 1, 2, 3, 5], ∀ lock ∈ [1, 2],
    (let s := calibrating k 0 lock true
     s.calm ∧ s.cal.fullRuns = [(k, 9, 3)] ∧ s.cal.ramps.all (fun y => !y.isOf k 9) = true ∧ s.f F.CLK.CLK_STATUS_STATE = lock ∧ s.f (F.TXP.P_STATUS_FAULT 9) = 0 ∧
     (s.f F.THM.THM_STATUS_MUTED).testBit (9 / 8) = false) ∧
    (∀ e ∈ [0, 3], let s := calibrating k e lock false
     let x : CalRun := { kind := k, path := 9, carrier := 0, slot := 3, trig := 0, nsym := 2, fail := e }
     s.calm ∧ s.cal.fullRuns = [] ∧ s.cal.runs = [x] ∧ s.f F.CAL.CAL_STATUS_STATE = 2 ∧ s.cal.ramps.all (fun y => !y.isOf k 9) = true ∧
     (let u := s.advanceTo (s.symSpan x.carrier x.slot (x.trig + x.nsym - 1)).2; u.legEnds x x.slot (x.trig + x.nsym - 1) = 0 ↔ lock = 2)) := by
  unfold State.calm
  decide +kernel

theorem witness_full_calibration :
    let c := { (camp.setF F.PWR.MODE_STATUS_MODE 4) with doms := domsOfMode 4 }
    let stopped := { c with pwr := { c.pwr with stopped := [3] } }
    c.accepts 34 A.CAL.CAL_CTRL ∧ c.mode = 4 ∧ c.f F.CAL.CAL_STATUS_STATE ≠ 1 ∧ c.resting 3 = false ∧ stopped.resting 3 = true ∧ stopped.accepts 34 A.CAL.CAL_CTRL ∧
    (serve []).accepts 34 A.CAL.CAL_CTRL ∧ (serve []).mode ≠ 4 ∧ (serve []).cal.runs = [] ∧ (serve []).cal.fullRuns = [] := by
  unfold State.accepts State.serves State.calm
  decide +kernel

theorem witness_recip_agrees (a b : List Int) : (calibrating 5 0 2 true).recipAgrees 9 a b = true := by
  have h : (List.range 4).filter (calibrating 5 0 2 true).carEn = [] := by decide +kernel
  simp [State.recipAgrees, h]

/-- Plans 0 and 3 are valid, plan 2 is not; the synthesiser is in state `st`. -/
def planned (st : Nat) : State :=
  ((((((serve []).setF (F.CLK.PLAN_FS_FS_KHZ 0) 9830400).setF (F.CLK.PLAN_FS_VALID 0) 1).setF (F.CLK.PLAN_FS_FS_KHZ 3) 7864320).setF (F.CLK.PLAN_FS_VALID 3) 1).setF
    F.CLK.CLK_STATUS_STATE st).setF F.PWR.REST_STATUS_STATE 0

theorem witness_plan_switches :
    let s := planned 2
    let w := 2 ^ 46
    let air := ((((((s.setF F.TIM.TL_STATUS_STATE 2).setF (F.SYS.GRID_CFG_EN 0) 1).setF (F.RXP.CAR_NCO_LO_W_LO 0) (w % 2 ^ 32)).setF (F.RXP.CAR_NCO_HI_W_HI 0) (w / 2 ^ 32)).setF
      F.TXP.TX_CENTRE_LO_W_LO (w / 2 % 2 ^ 32)).setF F.TXP.TX_CENTRE_HI_W_HI (w / 2 / 2 ^ 32)).setF (F.RXP.CAR_CFG_NRB 0) 24
    let at_ := fun (slot : Nat) => air.slotInstant ((air.gridScs).getD 0) (air.boundaryOf 0 slot)
    s.accepts 34 A.CLK.PLAN_SWITCH ∧ ¬ (s.clk.armed.isSome = true ∨ s.f F.CLK.CLK_STATUS_STATE = 3 ∨ s.f F.CLK.CLK_STATUS_STATE = 4 ∨ s.f F.PWR.REST_STATUS_STATE ≠ 0) ∧
    (planned 3).accepts 34 A.CLK.PLAN_SWITCH ∧ s.f (F.CLK.PLAN_FS_VALID 2) = 0 ∧ s.f (F.CLK.PLAN_FS_VALID 3) = 1 ∧ s.tlRun = false ∧ s.planBreaks 3 = false ∧
    0 < s.f (F.CLK.PLAN_FS_FS_KHZ 3) * 1000 ∧ s.f (F.CLK.PLAN_CAL0_CAL_VALID 3) = 0 ∧ (s.setF (F.CLK.PLAN_CAL0_CAL_VALID 3) 1).f (F.CLK.PLAN_CAL0_CAL_VALID 3) = 1 ∧
    (s.setF (F.SYS.GRID_CFG_EN 0) 1).planBreaks 3 = true ∧ air.accepts 34 A.CLK.PLAN_SWITCH ∧ air.tlRun = true ∧ air.planBreaks 0 = true ∧ air.planBreaks 3 = false ∧
    air.f (F.CLK.PLAN_FS_VALID 0) = 1 ∧ at_ 0 < air.now + 100 * usU ∧ air.now + 100 * usU ≤ at_ 5 := by
  unfold State.accepts State.serves State.calm
  decide +kernel

theorem witness_synthesiser :
    let s := planned 2
    let clk := fun (st stage : Nat) (l : Bool) => { planned st with clk := { (planned st).clk with stage := stage, locked := l, winEnd := 6000000 } }
    let nvm := fun (x : NvmState) => { s with nvm := x }
    s.accepts 34 A.CLK.CLK_CTRL ∧ (planned 3).accepts 34 A.CLK.CLK_CTRL ∧ (nvm { held := true }).accepts 34 A.CLK.CLK_CTRL ∧ s.nvm.held = false ∧ s.nvm.write = none ∧
    s.nvm.auth = none ∧ s.inForce 2 = none ∧ (nvm { write := some { id := 3, slotB := false, seq := 1, len := 8, src := .reg, torn := false } }).nvm.write.isSome = true ∧
    (∀ st ∈ [1, 2, 3, 4, 5], (clk st 0 false).calm ∧ (clk st 0 false).f F.CLK.CLK_STATUS_STATE = st ∧ (clk st 0 true).clk.locked = true ∧ (clk st 0 false).clk.locked = false) ∧
    s.resting 19 = false ∧ s.quieting = false ∧ (let r := { s with pwr := { s.pwr with stopped := [19] } }; r.resting 19 = true ∧ r.accepts 34 A.CLK.CLK_CTRL) ∧
    (let q := { s with thm := { s.thm with shdn := some 900000 } }; q.quieting = true ∧ q.accepts 34 A.CLK.CLK_CTRL ∧ q.nvm.held = false) ∧
    (∀ n ∈ [0, 1], ((clk 1 0 false).setF F.SYS.BOOT_STATUS_NVM_BAD n).f F.SYS.BOOT_STATUS_NVM_BAD = n) ∧
    (∀ g ∈ [0, 1, 2], (clk 3 g false).clk.stage = g) ∧ (∀ a ∈ [0, 1], ((clk 3 1 false).setF F.CLK.CLK_CFG_AUTO_CAL a).f F.CLK.CLK_CFG_AUTO_CAL = a) := by
  unfold State.accepts State.serves State.calm
  decide +kernel

/-- Slot 0 transmits and slot 1 receives after a gap; paths 0 to 3 are enabled and path 1 has a fault; COEX 1 is enabled. -/
def duplex (dir carrierSym : Nat) : State :=
  let s := (((onAir.setF F.AUX.TDD_CFG_PERIOD 2).setF (F.AUX.TDD_SLOT_TYPE 0) 0).setF (F.AUX.TDD_SLOT_TYPE 1) (2 + (List.range 13).foldl (fun a k => a + 4 ^ (k + 1)) 0)).setF
    F.TXP.PATH_EN_LO_EN 0xF
  let s := ((((s.setF (F.TXP.P_STATUS_FAULT 1) 1).setF (F.AUX.COEX_CFG_EN 1) 1).setF (F.AUX.COEX_CFG_LEAD 1) 3).setF (F.AUX.COEX_CFG_DIR 1) dir).setF (F.AUX.COEX_CFG_GNT_POL 1) 1
  { s with now := 50000000, tim := { s.tim with symIdx := [carrierSym, 0, 0, 0] } }

theorem witness_turnrounds :
    let s := duplex 0 28
    s.quiet ∧ s.tlRun = true ∧ s.mode ≠ 4 ∧ (s.nextSym (fun j => s.endsTx j && decide (s.now ≤ s.symStartAt (j + 1)))).isSome = true ∧
    (s.nextSym (fun j => s.beginsTx j && decide (s.now + 2 * usU ≤ s.symStartAt j))).any (fun i => s.now + 2 * usU ≤ s.symStartAt i) = true ∧
    (serve []).quiet ∧ (serve []).tlRun = false := by
  unfold State.quiet State.calm State.still
  decide +kernel

theorem witness_coexistence :
    ∀ dir ∈ [0, 1], ∀ k ∈ [28, 45], let s := duplex dir k
      let c := s.tim.symIdx.getD 0 0
      let g := s.advanceTo (s.symInstant (s.carScs 0) (c / 14) (c % 14) - usU)
      let span := g.symSpan 0 (c / 14) (c % 14)
      s.f (F.AUX.COEX_CFG_EN 1) = 1 ∧ s.f (F.AUX.COEX_CFG_DIR 1) = dir ∧ s.mode = 3 ∧ s.carEn 0 = true ∧ (s.coexEdge 1 true).isSome = true ∧
      (s.coexEdge 1 false).isSome = true ∧ (if dir = 1 then g.rxAllowed span.1 span.2 else g.txAllowed span.1 span.2) = decide (dir = 0 ↔ k = 28) ∧
      s.f (F.AUX.COEX_CFG_GNT_POL 1) = 1 ∧ s.f (F.AUX.COEX_CFG_EN 0) = 0 := by
  decide +kernel

/-- DAC 5 idle, waiting for a hold, waiting with a value queued, and held. -/
theorem witness_bias :
    let s := (serve []).setF (F.AUX.BIAS_LIM_LIMIT 5) 1000
    let x := fun (busy held : Nat) (d : BiasDac) => { (s.setF (F.AUX.BIAS_BUSY 5) busy).setF (F.AUX.BIAS_HELD 5) held with aux := { s.aux with dacs := setNth s.aux.dacs 5 d } }
    let h := (x 0 1 {}).setF (F.TXP.P_STATUS_FAULT 2) 1
    s.quiet ∧ s.accepts 34 (A.AUX.BIAS 5) ∧ 5 < s.aux.dacs.length ∧ s.f (F.AUX.BIAS_HELD 5) = b2n (s.biasHeld 5) ∧ s.f (F.AUX.BIAS_HELD 5) = 0 ∧ s.f (F.AUX.BIAS_BUSY 5) = 0 ∧
    100 / 256 = (s.dac 5).out / 256 ∧ 1638 / 256 ≠ (s.dac 5).out / 256 ∧ h.f (F.AUX.BIAS_HELD 5) = b2n (h.biasHeld 5) ∧ h.f (F.AUX.BIAS_HELD 5) = 1 ∧
    (x 1 0 { target := some 0x1400, queued := some 0x1412 }).f (F.AUX.BIAS_BUSY 5) = 1 ∧
    ((x 1 0 { target := some 0x1400, queued := some 0x1412 }).dac 5) = { target := some 0x1400, queued := some 0x1412 } ∧
    s.accepts 34 A.REG.REG_CTRL ∧ s.f F.NVM.LC_STATUS_STATE < 2 ∧ s.inForce 3 = none ∧ (s.setF F.NVM.LC_STATUS_STATE 2).accepts 34 A.REG.REG_CTRL := by
  unfold State.accepts State.serves State.quiet State.calm State.still
  decide +kernel

/-! ## Witnesses: temperatures and housekeeping -/

/-- Five sensors are enabled: WARN 90, THROT 100, SHDN 120. -/
def warm : State :=
  [7, 8, 9, 10, 40].foldl (fun s x => (((((s.setF (F.THM.S_CTRL_EN x) 1).setF (F.THM.S_THR_SHDN x) 120).setF (F.THM.S_THR_THROT x) 100).setF (F.THM.S_THR_WARN x) 90).setF
    (F.THM.S_THR_HYST_T x) 4).setF (F.THM.S_THR_HYST_W x) 3) onAir

/-- Sensor 7 with three neighbours that read 50 °C, in a state and a run of deviations. -/
def cross (st run failed : Nat) : State :=
  let s := (((warm.setF (F.THM.S_NBR_NBR 7) (128 + 8 + 256 * (128 + 9) + 65536 * (128 + 10))).setF (F.THM.S_STATUS_STATE 7) st).setF (F.THM.S_STATUS_DEV_RUN 7) run).setF
    (F.THM.S_STATUS_FAILED 7) failed
  let s := [8, 9, 10].foldl (fun s x => s.setFi (F.THM.S_TEMP_RAW x) 800) s
  { s with thm := { s.thm with seen := [8, 9, 10] } }

theorem witness_sensor_readings :
    (∀ st ∈ [0, 1, 2], ∀ fail ∈ [0, 1], let s := cross st 2 fail; s.quiet ∧ 7 < s.thm.overRun.length ∧ s.f (routeAction 14) = 0 ∧ s.f (routeAction 15) = 0 ∧
      (∀ j < 4, bits (s.f (F.THM.S_NBR_NBR 7)) (8 * j + 7) (8 * j) ≠ 128 + 7) ∧ s.neighbours 7 = [800, 800, 800] ∧ s.f (F.THM.S_STATUS_STATE 7) = st ∧
      s.f (F.THM.S_CTRL_EN 7) = 1 ∧ s.domOn Dom.hk = true ∧ s.thm.shdn = none ∧ s.thm.off = false ∧ s.thm.injShdn = [] ∧ s.f (F.THM.S_STATUS_DEV_RUN 7) = 2 ∧
      s.f (F.THM.S_STATUS_FAILED 7) = fail ∧ s.f (F.THM.S_THR_SHDN 7) = 120 ∧ s.f (F.THM.S_THR_THROT 7) = 100 ∧ s.f (F.THM.S_THR_WARN 7) = 90) ∧
    warm.neighbours 7 = [] ∧ (onAir.setF (F.THM.S_CTRL_EN 7) 0).f (F.THM.S_CTRL_EN 7) = 0 := by
  unfold State.quiet State.calm State.still
  decide +kernel

theorem witness_throttle_ladder :
    let s := fun (step cond : Nat) => { (warm.setF F.THM.THM_STATUS_STEP step).setF F.THM.THM_CFG_MUTE_MAX 4 with
      thm := { warm.thm with cond := cond, order := List.range (min (step - 7) 4) } }
    let failed := fun (x : Nat) => (warm.setF (F.THM.S_STATUS_FAILED x) 1)
    (∀ n ∈ [1, 6, 7, 9, 11], ∀ c ∈ [0, 2], (s n c).quiet ∧ (s n c).tlRun = true ∧ (s n c).domOn Dom.hk = true ∧ (s n c).thm.shdn = none ∧ (s n c).thm.off = false ∧
      (s n c).thm.cond = c ∧ (s n c).f F.THM.THM_STATUS_STEP = n ∧ (s n c).f F.THM.THM_CFG_MUTE_MAX = 4 ∧ (s n c).thm.order.length = min (n - 7) 4) ∧
    (∀ x ∈ [7, 40], (failed x).accepts 34 (A.THM.S_CTRL x) ∧ (failed x).f (F.THM.S_STATUS_FAILED x) = 1 ∧ (failed x).thm.lastDev.contains x = false) ∧
    warm.f (F.THM.S_STATUS_FAILED 7) = 0 ∧ warm.accepts 34 A.THM.THM_INJ ∧ warm.injArmed = false ∧ (warm.setF F.FLT.INJ_STATUS_ARMED 1).injArmed = true ∧
    (warm.setF F.FLT.INJ_STATUS_ARMED 1).accepts 34 A.THM.THM_INJ := by
  unfold State.accepts State.serves State.quiet State.calm State.still
  decide +kernel

/-- Sensor 7 was above SHDN once. -/
def hotSensor : State := { warm with thm := { warm.thm with overRun := setNth warm.thm.overRun 7 1 } }

theorem witness_second_reading_above_shdn :
    hotSensor.quiet ∧ 7 < hotSensor.thm.overRun.length ∧ hotSensor.f (F.THM.S_CTRL_EN 7) = 1 ∧ hotSensor.domOn Dom.hk = true ∧ hotSensor.thm.shdn = none ∧ hotSensor.thm.off = false ∧
    hotSensor.f (F.THM.S_STATUS_FAILED 7) = 0 ∧ hotSensor.neighbours 7 = [] := by
  unfold State.quiet State.calm State.still
  decide +kernel

theorem witness_second_reading_injects_nothing :
    hotSensor.thm.injFail = [] ∧ hotSensor.thm.injShdn = [] ∧ hotSensor.thm.ofs = [] ∧ hotSensor.thm.overRun.getD 7 0 = 1 ∧ 16 * hotSensor.f (F.THM.S_THR_SHDN 7) ≤ 1920 := by
  decide +kernel

theorem witness_shutdown_under_way :
    let going := { warm with thm := { warm.thm with shdn := some 900000 } }
    going.quiet ∧ going.thm.shdn = some 900000 ∧ going.now ≤ 900000 + 30 * usU ∧ warm.quiet ∧ warm.thm.shdn = none ∧ warm.mode ≠ 0 := by
  unfold State.quiet State.calm State.still
  decide +kernel

/-- Bivouac, off after a shutdown or not, with this many hot and cool readings of the always-on sensor before. -/
def bivouac (off : Bool) (h c : Nat) : State :=
  let s := ((camp.setF F.PWR.MODE_STATUS_MODE 0).setF F.THM.RESTART_CFG_RESTART_MAX 2).setF F.THM.RESTART_CFG_RESTART_T 70
  { s with thm := { s.thm with off := off, aonHot := h, aonCool := c } }

theorem witness_aon_readings : ∀ o ∈ [true, false], ∀ n ∈ [0, 1], ∀ c ∈ [0, 99],
    let s := bivouac o n c
    s.quiet ∧ s.mode = 0 ∧ s.pwr.seq = 0 ∧ s.thm.off = o ∧ s.thm.shdn = none ∧ s.pwr.restart = true ∧
    s.f F.THM.SHDN_LOG_TALLY ≤ s.f F.THM.RESTART_CFG_RESTART_MAX ∧ s.thm.aonHot = n ∧ s.thm.aonCool = c ∧ (1000 : Int) < 16 * s.f F.THM.RESTART_CFG_RESTART_T := by
  unfold State.quiet State.calm State.still
  decide +kernel

/-- Converter B runs a sequence of three entries, the last of them differential; the converters are in these states. -/
def converting (a b : HkConv) : State :=
  let s := ((((((((serve []).setF F.HKA.HK_CFG_RUN_B 1).setF F.HKA.HK_CFG_LEN_B 3).setF (F.HKA.ENTRY_CHAN 1 1) 4).setF (F.HKA.ENTRY_ACC_EN 1 1) 1).setF (F.HKA.ENTRY_ACC 1 1) 9).setF
    (F.HKA.ENTRY_DIFF 1 2) 1).setF (F.FLT.OC_CFG_EN 3) 1).setF (F.FLT.OC_CFG_CHAN 3) 47
  { (s.setF (F.FLT.OC_CFG_LIMIT 3) 1000) with now := 5000000, hk := { s.hk with conv := [a, b], plNext := 6000000, hpNext := 7000000 } }

/-- Whether c is the code of a voltage of a microvolts, and of a difference of a (R534). -/
def isCode (a c : Int) : Bool := decide (2500000 * c ≤ 8192 * a + 1250000 ∧ 8192 * a + 1250000 < 2500000 * (c + 1) ∧ 0 ≤ c ∧ c ≤ 4095)
def isDiff (a c : Int) : Bool := decide (2500000 * c ≤ 4096 * a + 1250000 ∧ 4096 * a + 1250000 < 2500000 * (c + 1) ∧ -2048 ≤ c ∧ c ≤ 2047)

theorem witness_conversions :
    let s := fun (pos : Nat) => converting {} { kind := 1, pos := pos }
    let full := { s 1 with hk := { (s 1).hk with accs := setNth (s 1).hk.accs 9 { count := 65535, sum := 7 } } }
    isCode 700000 2294 = true ∧ isDiff 354322 581 = true ∧
    (∀ k ∈ [0, 1, 2], (s k).quiet ∧ (s k).hk.conv.length = 2 ∧ (s k).flt.injs = [] ∧ (s k).domOn Dom.hk = true ∧ ((s k).hkConv 1).kind = 1 ∧ ((s k).hkConv 1).urg = [] ∧
      ((s k).hkConv 1).held = [] ∧ (s k).hk.plWant = false ∧ (s k).f (F.HKA.ENTRY_DIFF 1 k) = k / 2 ∧ (s k).f (F.HKA.ENTRY_ACC_EN 1 k) = k % 2) ∧
    ((s 1).hk.accs.getD 9 {}).count < 65535 ∧ 65535 ≤ (full.hk.accs.getD 9 {}).count := by
  unfold State.quiet State.calm State.still
  decide +kernel

/-- The second half of a plausibility pair within and beyond the tolerance; urgent conversions below and above the limit. -/
theorem witness_pairs_and_urgent_conversions :
    let s := fun (other : Option Int) (tol cnt : Nat) => ((converting { kind := 2, code := other } { kind := 2, pos := 1 }).setF F.HKA.PLAUS_CFG_TOL tol).setF F.HKA.PLAUS_CFG_COUNT cnt
    let pair : Int := 2290 - 2294
    let u := converting {} { kind := 3, urg := [(3, 7)] }
    (∀ o ∈ [none, some 2290], ∀ t ∈ [3, 4], ∀ c ∈ [1, 2], (s o t c).quiet ∧ ((s o t c).hkConv 1).kind = 2 ∧ ((s o t c).hkConv 0).code = o ∧ ((s o t c).hkConv 1).urg = [] ∧
      ((s o t c).hkConv 1).held = [] ∧ (s o t c).hk.plWant = false ∧ (s o t c).f F.HKA.PLAUS_CFG_TOL = t ∧ (s o t c).f F.HKA.PLAUS_CFG_COUNT = c ∧
      (s o t c).f F.HKA.PLAUS_STATUS_RUN = 0 ∧ (s o t c).injArmed = false) ∧ pair.natAbs ≤ 4 ∧ 3 < pair.natAbs ∧
    u.quiet ∧ (u.hkConv 1).kind = 3 ∧ (u.hkConv 1).urg = [(3, 7)] ∧ (u.hkConv 1).held = [] ∧ isCode 100000 328 = true ∧ (328 : Int) ≤ u.f (F.FLT.OC_CFG_LIMIT 3) ∧
    isCode 1000000 3277 = true ∧ (u.f (F.FLT.OC_CFG_LIMIT 3) : Int) < 3277 ∧ u.f (F.FLT.OC_CFG_EN 3) = 1 ∧ (converting {} {}).hkConv 1 = {} := by
  unfold State.quiet State.calm State.still
  decide +kernel

theorem witness_pair_starts :
    let s := fun (a b : Nat) => (converting { kind := a } { kind := b }).setF F.HKA.PLAUS_CFG_EN 1
    (∀ a ∈ [0, 1], ∀ b ∈ [0, 1, 4], (s a b).quiet ∧ (s a b).domOn Dom.hk = true ∧ (s a b).f F.HKA.PLAUS_CFG_EN = 1 ∧ ((s a b).hkConv 0).kind = a ∧
      ((s a b).hkConv 1).kind = b ∧ ((s a b).hkConv 0).urg = [] ∧ ((s a b).hkConv 1).urg = []) ∧ ((s 0 0).setF F.HKA.PLAUS_CFG_EN 0).f F.HKA.PLAUS_CFG_EN = 0 := by
  unfold State.quiet State.calm State.still
  decide +kernel

theorem witness_harvest_periods :
    let s := (converting {} {}).setF F.HKA.HK_CFG_HP 9
    let named := (s.setF F.TXP.PATH_EN_LO_EN 1).setF (F.TXP.P_PC_VCH 0) 44
    let sums := { named with hk := { named.hk with sums := [(44, 900, 3)] } }
    s.quiet ∧ s.serves 12 (A.HKA.HARVEST 9) false ∧ 9 < s.hk.accs.length ∧ s.domOn Dom.hk = true ∧ 1 ≤ s.f F.HKA.HK_CFG_HP ∧ (s.advanceTo 7000000).vchNamed = [] ∧
    (named.advanceTo 7000000).vchNamed = [44] ∧ Store.find? (named.advanceTo 7000000).hk.sums 44 = none ∧ (sums.advanceTo 7000000).vchNamed = [44] ∧
    Store.find? (sums.advanceTo 7000000).hk.sums 44 = some (900, 3) ∧ ((converting {} {}).setF F.HKA.HK_CFG_HP 0).f F.HKA.HK_CFG_HP = 0 := by
  unfold State.serves State.quiet State.calm State.still
  decide +kernel

theorem witness_urgent_requests :
    let s := fun (k : Nat) (l : List (Nat × Nat)) => converting { kind := 2, code := some 4 } { kind := k, pos := 2, urg := l }
    (∀ k ∈ [0, 1, 2, 3, 4], (s k []).quiet ∧ (s k []).domOn Dom.hk = true ∧ (s k []).f (F.FLT.OC_CFG_EN 3) = 1 ∧ (s k []).f (F.FLT.OC_CFG_CHAN 3) = 47 ∧
      ((s k []).hkConv 1).kind = k ∧ ((s k []).hkConv 0).kind = 2) ∧ 47 / 40 = 1 ∧
    5 ≤ ((s 3 [(2, 2), (1, 1), (9, 9), (9, 9), (9, 9)]).hkConv 1).urg.length ∧ ((s 3 [(2, 2), (1, 1), (9, 9)]).hkConv 1).urg = (2, 2) :: ([(1, 1)] ++ [(9, 9)]) ∧
    (serve []).f (F.FLT.OC_CFG_EN 3) = 0 ∧ (serve []).accepts 34 A.HKA.HK_INJ ∧ (serve []).injArmed = false ∧ ((serve []).setF F.FLT.INJ_STATUS_ARMED 1).injArmed = true := by
  unfold State.accepts State.serves State.quiet State.calm State.still
  decide +kernel

/-- Thermistor 1 (sensor 41, r = 9) of channel 45 is wanted, and is asked for or converted. -/
theorem witness_thermistors :
    let s := fun (x : HkConv) => ((converting {} x).setF (F.THM.S_CTRL_EN 41) 1).setF (F.THM.S_SRC_CHAN 41) 45
    let z : HkConv := { kind := 3, urg := [(9, 5)] }
    (∀ x ∈ [{}, z], (s x).quiet ∧ (s x).domOn Dom.hk = true ∧ (s x).thm.shdn = none ∧ (s x).thm.off = false ∧ (s x).f (F.THM.S_CTRL_EN 41) = 1) ∧
    (s {}).f (F.THM.S_SRC_CHAN 41) / 40 = 1 ∧ (s {}).hkConv 1 = {} ∧ (s z).hkConv 1 = z ∧ (s z).hk.plWant = false ∧ isCode 700000 2294 = true ∧
    (converting {} z).f (F.THM.S_CTRL_EN 41) = 0 := by
  unfold State.quiet State.calm State.still
  decide +kernel

theorem witness_housekeeping_off : { camp with doms := domsOfMode 0 }.quiet ∧ { camp with doms := domsOfMode 0 }.domOn Dom.hk = false := by
  unfold State.quiet State.calm State.still
  decide +kernel

/-! ## Witnesses: records, the life cycle and injection -/

/-- A valid record with an empty body, and one with this body. -/
def recordOf (id : Nat) (body : List Byte) : List Byte :=
  leBytes 4 0x4E565243 ++ leBytes 4 id ++ leBytes 4 1 ++ leBytes 4 body.length ++ leBytes 4 (crc32ieee body) ++ List.replicate 36 0 ++ leBytes 8 0xC3A55AC3C3A55AC3 ++ body

theorem witness_record_commands :
    let s := (serve []).setF F.NVM.NVM_SRC_ADDR 0x04000040
    let free := fun (x : State) => x.nvm.write = none ∧ x.nvm.auth = none ∧ x.nvm.held = false
    let valid := { s with nvm := { mem := memWrite [] 0x160000 (recordOf 5 []) } }
    s.quiet ∧ s.accepts 34 A.NVM.NVM_CMD ∧ free s ∧ ({ s with nvm := { held := true } }).accepts 34 A.NVM.NVM_CMD ∧ (recSlot 5 false).2 = 0x8000 ∧
    2 ≤ (s.setF F.NVM.LC_STATUS_STATE 2).f F.NVM.LC_STATUS_STATE ∧ s.f F.NVM.LC_STATUS_STATE < 2 ∧ (s.setF F.NVM.NVM_SRC_ADDR 64).f F.NVM.NVM_SRC_ADDR = 64 ∧
    s.f F.NVM.NVM_SRC_ADDR % 64 = 0 ∧ 0x04000000 ≤ s.f F.NVM.NVM_SRC_ADDR ∧ s.f F.NVM.NVM_SRC_ADDR + 16 ≤ 0x04200000 ∧ s.inForce 5 = none ∧
    valid.accepts 34 A.NVM.NVM_CMD ∧ valid.inForce 5 = some false ∧ s.accepts 34 A.NVM.NVM_INJ ∧ s.injArmed = false := by
  unfold State.accepts State.serves State.quiet State.calm State.still
  decide +kernel

/-- A device that quiets down. -/
def settling : State := { serve [] with pwr := { seq := 1, shdnLow := false, railLow := false } }

/-- A write of two words at every word of it, torn or not, and in a reset. -/
theorem witness_record_words :
    let w := fun (done : Nat) (torn : Bool) => { id := 5, slotB := false, seq := 1, len := 16, src := .msg 0x04000040, torn := torn, done := done : NvmWrite }
    let s := fun (x : NvmWrite) (seq : Nat) => { serve [] with nvm := { write := some x }, pwr := { (serve []).pwr with seq := seq } }
    (∀ k ∈ [0, 1, 2, 3, 9, 10], ∀ t ∈ [true, false], ∀ q ∈ [0, 1], (s (w k t) q).quiet ∧ (s (w k t) q).nvm.write = some (w k t) ∧ (s (w k t) q).pwr.seq = q ∧
      (s (w k t) q).thm.shdn = none ∧ (s (w k t) q).nvm.queue = []) ∧ (w 0 true).len / 8 = 2 ∧ (serve []).nvm.write = none := by
  unfold State.quiet State.calm State.still
  decide +kernel

/-- The records a Fielded part needs, and with KEYS and a regulatory record that permits a channel those of a Deployed one. -/
def recorded (mode lc : Nat) (keys : Bool) : State :=
  let keysBody := List.replicate 64 (0 : Byte) ++ leBytes 4 1 ++ List.replicate 12 0
  let mem := [(0x10000, recordOf 1 []), (0x60000, recordOf 4 []), (0x52000, recordOf 3 []), (0x1000, recordOf 0 (if keys then keysBody else []))].foldl
    (fun m x => memWrite m x.1 x.2) []
  { (camp.setF F.PWR.MODE_STATUS_MODE mode).setF F.NVM.LC_STATUS_STATE lc with nvm := { mem := mem } }

theorem witness_life_cycle_idle : ∀ s ∈ [recorded 5 0 false, recorded 1 1 false, recorded 1 1 true, recorded 1 2 true, camp],
    s.quiet ∧ s.accepts 34 A.NVM.LC_REQ ∧ s.nvm.write = none ∧ s.nvm.auth = none ∧ s.pwr.seq = 0 := by
  unfold State.accepts State.serves State.quiet State.calm State.still
  decide +kernel

theorem witness_quieting : settling.quiet ∧ settling.quieting = true ∧ settling.accepts 33 A.NVM.NVM_CMD ∧ settling.accepts 33 A.NVM.LC_REQ := by
  unfold State.accepts State.serves State.quiet State.calm State.still
  decide +kernel

theorem witness_life_cycle_refused : camp.f F.NVM.LC_STATUS_STATE + 1 = 1 ∧ camp.mode ≠ 5 ∧ camp.nvm.auth = none ∧ (recorded 5 0 false).quieting = false := by
  decide +kernel

theorem witness_life_cycle :
    let ok := fun (s : State) (id : Nat) => (s.inForce id).isSome = true
    (recorded 5 0 false).mode = 5 ∧ ok (recorded 5 0 false) 1 ∧ ok (recorded 5 0 false) 4 ∧ (recorded 5 0 false).f F.NVM.LC_STATUS_STATE = 0 ∧
    ok (recorded 1 1 false) 0 ∧ ok (recorded 1 1 false) 3 ∧ (recorded 1 1 false).keyLive 0 = false ∧ (recorded 1 1 false).keyLive 1 = false ∧
    ok (recorded 1 1 true) 0 ∧ (recorded 1 1 true).keyLive 0 = true ∧ bodyEmpty (((recorded 1 1 true).recBody 3).getD []) = false ∧
    (camp.inForce 1).isSome = false ∧ (serve []).accepts 34 A.NVM.LC_REQ ∧ (serve []).mode = 3 ∧
    { camp with nvm := { auth := some 3 } }.lcAuthOk = false ∧ { camp with nvm := { auth := some 3 } }.accepts 34 A.NVM.LC_REQ := by
  unfold State.accepts State.serves State.calm
  decide +kernel

/-- KEYS holds the digest of a key, and the authorisation at LC_AUTH_ADDR is signed with it: the point and the numbers were worked out from the curve of R561. -/
def authorised : State :=
  let key := beBytes 64 0xa852fa532399b0c603b1bc5104eedae160c0a5295b4f07d631f7b24b68bc8346103d15d52d0080932a6183212de30a57cd23a1fef65f81ccf9973b04981b334e
  let r := beBytes 32 0x8e396c1654a1cd1c4c3c30387498f4c579bd102041a7fd0604eb2c5e82a99f09
  let body := beBytes 32 0x661c43b576965a6f285335df4522b8a9b7d79925e6d47fae9b1495388e4c450f ++ List.replicate 32 0 ++ leBytes 4 1 ++ List.replicate 12 0
  { camp with mem := memWrite [] 0x04000000 (key ++ r ++ r), nvm := { mem := memWrite [] 0x1000 (recordOf 0 body), auth := some 3 } }.setF
    F.NVM.LC_AUTH_ADDR_ADDR 0x04000000

theorem witness_authorised : authorised.nvm.auth = some 3 ∧ authorised.nvm.queue = [] ∧ authorised.nvm.write = none ∧ authorised.pwr.seq = 0 ∧ authorised.lcAuthOk = true := by
  decide +kernel

/-- The window of injection is open until 6,000,000, core 7 runs, and overcurrent monitor 3 watches channel 47. -/
def injecting : State :=
  let s := (((serve [7]).setF F.FLT.INJ_STATUS_ARMED 1).setF (F.FLT.OC_CFG_EN 3) 1).setF (F.FLT.OC_CFG_CHAN 3) 47
  { s with flt := { s.flt with windowEnd := 6000000 } }.setF (F.TKC.C_STATUS_STATE 7) 2

theorem witness_injection_windows : ∀ s ∈ [serve [7], (serve [7]).setF F.NVM.LC_STATUS_STATE 2, injecting],
    s.quiet ∧ s.mode = 3 ∧ s.accepts 34 A.FLT.INJ_ARM ∧ s.accepts 34 A.FLT.INJ_STATUS ∧ s.accepts 34 A.FLT.INJ_CMD := by
  unfold State.accepts State.serves State.quiet State.calm State.still
  decide +kernel

theorem witness_injection_states :
    (serve [7]).f F.NVM.LC_STATUS_STATE ≠ 2 ∧ (serve [7]).injArmed = false ∧ injecting.injArmed = true ∧ injecting.mode ≠ 5 ∧ detIndices 5 = some 6 ∧ detIndices 25 = some 8 ∧
    injecting.coreState 7 = 2 ∧ injecting.domOn Dom.hk = true ∧ injecting.f (F.FLT.OC_CFG_EN 3) = 1 ∧ injecting.f (F.FLT.OC_CFG_CHAN 3) < 80 ∧ (injecting.hkConv 1).kind = 0 ∧
    (serve [7]).f (F.FLT.OC_CFG_EN 3) = 0 ∧ injecting.f F.CLK.CLK_STATUS_STATE = 0 ∧ (injecting.setF F.CLK.CLK_STATUS_STATE 2).f F.CLK.CLK_STATUS_STATE = 2 := by
  decide +kernel

theorem witness_host_ports :
    let s := serve []
    let fifo := fun (l : List (Nat × Nat)) => { s with io := { s.io with spi := l } }
    let bytes := leBytes 4 0x12345678
    s.quiet ∧ s.pwr.seq = 0 ∧ s.mode ≠ 0 ∧ ([(0x04000000, 0x12345678)] : List (Nat × Nat)).length = bytes.length / 4 ∧ ofLe ((bytes.drop 0).take 4) = 0x12345678 ∧
    s.io.spi = [] ∧ 256 ≤ (fifo (List.replicate 256 (0, 0))).io.spi.length ∧ (s.busRead 35 0x04000000 4).calm ∧ (s.busRead 35 0x04000000 4).resp.err = 0 ∧
    (s.busRead 35 0x0FFFFF00 4).calm ∧ (s.busRead 35 0x0FFFFF00 4).resp.err ≠ 0 ∧ (s.busWrite 35 0x04000000 4 7).calm ∧ (s.busWrite 35 0x04000000 4 7).resp.err = 0 ∧
    (s.busWrite 35 0x0FFFFF00 4 7).calm ∧ (s.busWrite 35 0x0FFFFF00 4 7).resp.err ≠ 0 ∧ s.f F.PWR.REST_STATUS_STATE = 0 ∧ State.reset.quiet ∧
    ¬ (State.reset.pwr.seq = 0 ∧ State.reset.mode ≠ 0) ∧ s.f F.NVM.LC_STATUS_STATE ≠ 2 ∧ s.f F.PWR.WAKE_CFG_MGMT_ADDR ≠ 127 := by
  unfold State.quiet State.calm State.still
  decide +kernel

theorem witness_management_port :
    (bivouac false 0 0).quiet ∧ (bivouac false 0 0).pwr.seq = 0 ∧ (bivouac false 0 0).mode = 0 ∧ settling.quiet ∧ settling.pwr.seq ≠ 0 ∧ settling.f F.PWR.REST_STATUS_STATE = 0 ∧
    (3 : Nat) ≠ (serve []).f F.PWR.WAKE_CFG_MGMT_ADDR ∧ ((serve []).setF F.NVM.LC_STATUS_STATE 2).f F.NVM.LC_STATUS_STATE = 2 ∧ (serve []).f F.NVM.LC_STATUS_STATE ≠ 2 := by
  unfold State.quiet State.calm State.still
  decide +kernel

/-! ## Witnesses: the block as a whole, and the rules stated whole -/

theorem witness_step_front : ({ onAir with pending := [.bypass] } : State).pending = .bypass :: [] ∧ onAir.pending = [] ∧ onAir.pwr.seq ≠ 6 ∧ onAir.calm ∧
    (match step onAir with | .next t => t.irqB | _ => true) = false := by
  unfold State.calm
  decide +kernel

theorem witness_words : (Op.alu .add 4 1 2).fits = true ∧ decodeOp 0xA0000000 = some .nop := by decide +kernel

/-- Core 3 with its block of the circular modes at a given length and step. -/
def circ (l : Nat) : State := runningWith fun c => { c with l := setNth c.l 2 l, m := setNth c.m 1 (BitVec.ofInt 32 (-20)) }

/-- Loads in the circular modes with a length of 0, within its limits and outside them. -/
theorem witness_circular_ready : ∀ l ∈ [0, 24, 22, 65540], (circ l).readyFor 3 (.load 2 false 4 2 4 15) ∧ (circ l).readyFor 3 (.load 2 false 4 2 5 1) := by
  unfold State.readyFor State.runs
  decide +kernel

theorem witness_circular_calm : ∀ l ∈ [0, 24, 22, 65540], (circ l).calm ∧ ((circ l).core 3).wait = none ∧ ((circ l).core 3).got = none ∧
    ((circ l).core 3).lReg 2 = l := by
  unfold State.calm
  decide +kernel

theorem witness_circular_local : ∀ l ∈ [0, 24, 22, 65540], localOk (((circ l).core 3).pReg 2).toNat 4 ∧
    (circ l).injEcc (localCell 3 (((circ l).core 3).pReg 2).toNat) 4 = none := by
  unfold localOk
  decide +kernel

theorem witness_circular_lengths :
    let allowed := fun (l w : Nat) (d : Int) => decide (l = 0 ∨ (l % w = 0 ∧ l ≤ 65536 ∧ d.natAbs ≤ l))
    allowed 24 4 (-20) = true ∧ 24 ≤ 2 ^ 5 ∧ allowed 22 4 (-20) = false ∧ allowed 65540 4 (-4) = false := by
  decide +kernel

theorem witness_escalated_expiry :
    let s := fun (n : Nat) => (((withCore (serve []) n 2 { wdtSince := some 77 }).setF (F.TKC.C_WDT_EXPIRE n) 9).setF F.TKC.WDT_CFG_ESC_LC0 1).setF F.TKC.WDT_CFG_ESC_LC1 1
    ∀ n < 2, (s n).calm ∧ (s n).pwr.seq = 0 ∧ (s n).f (if n = 0 then F.TKC.WDT_CFG_ESC_LC0 else F.TKC.WDT_CFG_ESC_LC1) = 1 ∧ (s n).coreState n = 2 ∧
      (s n).f (F.TKC.C_WDT_EXPIRE n) ≠ 0 ∧ ∀ m < 34, m ≠ n → (s n).coreState m ≠ 2 ∧ (s n).coreState m ≠ 3 := by
  unfold State.calm
  decide +kernel

/-- A message of core 5 for core 3 and for host MP-B, of a given epoch. -/
def posted (e : Nat) : State :=
  { running with mbx := { running.mbx with inbox := setNth (setNth running.mbx.inbox 3 [(7, 2 ^ 30 * e + 2 ^ 24 * 5 + 9)]) 35 [(7, 2 ^ 30 * e + 2 ^ 24 * 5 + 9)] } }

theorem witness_inbox_ready : ∀ s ∈ [posted 0, posted 1, running], s.readyFor 3 (.recv 8 4) ∧ s.readyFor 3 (.recvw 8 4) := by
  unfold State.readyFor State.runs
  decide +kernel

theorem witness_inbox_served : ∀ s ∈ [posted 0, posted 1, running], s.serves 35 (A.MBX.RECV_META 1) false ∧ s.serves 35 (A.MBX.RECV_PTR 1) false := by
  unfold State.serves
  decide +kernel

theorem witness_inbox_calm : ∀ s ∈ [posted 0, posted 1, running], s.calm ∧ 3 < s.mbx.inbox.length ∧ 3 < s.cores.length ∧ (s.core 3).g.length = 16 ∧
    (s.core 3).wait = none ∧ (s.core 3).got = none := by
  unfold State.calm
  decide +kernel

/-- A fresh message, a stale one, and empty inboxes. -/
theorem witness_inbox_words : (∀ e ∈ [0, 1], ∀ i ∈ [3, 35], (posted e).inboxOf i = [(7, 2 ^ 30 * e + 2 ^ 24 * 5 + 9)] ∧
      ((posted e).epochOf ((2 ^ 30 * e + 2 ^ 24 * 5 + 9) / 2 ^ 24 % 64) == (2 ^ 30 * e + 2 ^ 24 * 5 + 9) / 2 ^ 30 % 4) = (e == 0)) ∧
    running.inboxOf 3 = [] ∧ running.inboxOf 35 = [] := by
  decide +kernel

theorem witness_harvests :
    let s := { serve [] with hk := { (serve []).hk with accs := setNth (serve []).hk.accs 9 { sum := -5, count := 3, min := -4, max := 2 } } }
    s.calm ∧ 9 < s.hk.accs.length ∧ s.serves 35 (A.HKA.HARVEST 9) false ∧ s.serves 35 A.HKA.HV_CNT false ∧ s.serves 35 A.HKA.HV_MINMAX false ∧
    (s.hk.accs.getD 9 {}).count < 2 ^ 16 := by
  unfold State.serves State.calm
  decide +kernel

end Sys2Proof.Tests
end

section
/-! SUPPORT. An issue of a core whose accesses stay in its own data memory, and a core's fault (R375, R394). -/

namespace Sys2Proof.Machine
open Sys2Proof

/-! ## Cores through the end of a command -/

@[simp] theorem State.cores_settle (s : State) (h : s.calm) : s.settle.cores = s.cores := by
  have := congrArg State.cores (State.inner_settle s h)
  exact this

theorem State.core_settle (s : State) (h : s.calm) (n : Nat) : s.settle.core n = s.core n := by rw [State.core, State.cores_settle s h, State.core]

/-- The core registers of TKC lie apart from what follows every command. -/
theorem State.f_settle_tkc (s : State) (h : s.calm) (x : Fld) (hx : 0x101B0000 ≤ x.addr) : s.settle.f x = s.f x :=
  State.f_settle s h x (apart_trailing x (by omega))

/-- A core that has a pointer other than 0 is one of the cores. -/
theorem State.core_mem_of_pReg (s : State) {n p : Nat} (h : ((s.core n).pReg p).toNat ≠ 0) : n < s.cores.length ∧ p < (s.core n).p.length := by
  refine ⟨Nat.lt_of_not_le fun hn => h ?_, Nat.lt_of_not_le fun hp => h ?_⟩
  · rw [State.core, List.getD_eq_getElem?_getD, List.getElem?_eq_none hn, Option.getD_none, Core.pReg, List.getD_eq_getElem?_getD, List.getElem?_replicate]
    split <;> rfl
  · rw [Core.pReg, List.getD_eq_getElem?_getD, List.getElem?_eq_none hp]
    rfl

theorem Core.pReg_setP_self (c : Core) {p : Nat} (w : Word) (h : p < c.p.length) : (c.setP p w).pReg p = w := by
  simp [Core.pReg, Core.setP, setNth, List.getD_eq_getElem?_getD, h]

/-! ## What an issue leaves alone in its core -/

@[simp] theorem Core.advance_p (c : Core) : c.advance.p = c.p := by
  unfold Core.advance
  split <;> rfl
@[simp] theorem Core.advance_stopReq (c : Core) : c.advance.stopReq = c.stopReq := by
  unfold Core.advance
  split <;> rfl
@[simp] theorem Core.advance_stepping (c : Core) : c.advance.stepping = c.stepping := by
  unfold Core.advance
  split <;> rfl

/-- A load that is done has moved its pointer, and leaves the requests for a stop or a step. -/
theorem Core.load_done (c : Core) {w g p mode arg : Nat} {sx : Bool} {l : List Nat} {q : Word} (hp : p < c.p.length) :
    let d := ((c.withVals (.load w sx g p mode arg) l).moveAll [(p, q)]).advance
    d.pReg p = q ∧ d.stopReq = c.stopReq ∧ d.stepping = c.stepping := by
  have hv : (c.withVals (.load w sx g p mode arg) l).p = c.p ∧ (c.withVals (.load w sx g p mode arg) l).stopReq = c.stopReq ∧
      (c.withVals (.load w sx g p mode arg) l).stepping = c.stepping := by
    simp only [Core.withVals]
    split <;> exact ⟨rfl, rfl, rfl⟩
  obtain ⟨hvp, hvs, hvt⟩ := hv
  refine ⟨?_, (Core.advance_stopReq _).trans hvs, (Core.advance_stepping _).trans hvt⟩
  rw [Core.pReg, Core.advance_p]
  exact Core.pReg_setP_self _ q (by rw [hvp]; exact hp)

/-! ## An issue whose accesses stay in the own data memory (R375) -/

theorem State.modCore_modCore (s : State) {n : Nat} (f g : Core → Core) (h : n < s.cores.length) :
    (s.modCore n f).modCore n g = s.modCore n (fun c => g (f c)) := by
  simp only [State.modCore, State.core_setCore_self s n _ h]
  simp only [State.setCore, setNth_setNth]

theorem State.coreState_modCore (s : State) (n m : Nat) (f : Core → Core) : (s.modCore n f).coreState m = s.coreState m := State.coreState_setCore _ _ _ _

/-- Local accesses change the memories alone. -/
theorem State.localAccs_near (s : State) (n far : Nat) (l : List Acc) (h : ∀ x ∈ l, x.far = false) :
    ∃ m, (s.localAccs n far l).1 = { s with mem := m } := by
  induction l generalizing s with
  | nil => exact ⟨s.mem, rfl⟩
  | cons x l ih =>
    have hl : ∀ y ∈ l, y.far = false := fun y hy => h y (List.mem_cons_of_mem _ hy)
    cases hd : x.data with
    | none => simpa [State.localAccs, h x (by simp), hd] using ih s hl
    | some v =>
      simp only [State.localAccs, h x (by simp), hd, if_false, Bool.false_eq_true]
      obtain ⟨m, hm⟩ := ih { s with mem := memWrite s.mem (localCell n x.addr) (leBytes x.bytes v) } hl
      exact ⟨m, hm⟩

/-- An instruction whose accesses are all local, aligned and free of errors issues: the accesses are made, their values reach the registers, the pointers move, and
the core goes on. -/
theorem State.memIssue_near (s : State) {n : Nat} {o : Op} {pl : Plan} (hn : n < s.cores.length) (hplan : (s.core n).plan o = some pl)
    (hfar : ∀ x ∈ pl.accs, x.far = false) (hal : pl.misaligned = none) (hecc : s.localErrors n pl.accs = (s, none)) (hin : s.inIssue n = true) :
    s.memIssue n o = (s.localAccs n 0 pl.accs).1.modCore n
      (fun c => ((c.withVals o (s.localAccs n 0 pl.accs).2).moveAll pl.ups).advance) := by
  have hany : pl.accs.any Acc.far = false := by simpa using hfar
  have hflt : pl.accs.filter Acc.far = [] := by simpa using hfar
  have hfind : pl.accs.find? Acc.far = none := by simpa using hfar
  obtain ⟨m, hm⟩ := State.localAccs_near s n 0 pl.accs hfar
  have heff : s.memEffect n o pl = (s.localAccs n 0 pl.accs).1.modCore n (fun c => (c.withVals o (s.localAccs n 0 pl.accs).2).moveAll pl.ups) := by
    simp [State.memEffect, hecc, hany, State.localAccs, State.farAcc, hfind]
  have hin' : (s.memEffect n o pl).inIssue n = true := by
    rw [heff, State.inIssue, State.coreState_modCore, hm]
    exact hin
  simp only [State.memIssue, hplan, hflt, hal, hany, hin', List.length_nil, if_true, if_false, Nat.not_lt_zero, Bool.false_eq_true]
  rw [heff, State.modCore_modCore _ _ _ (by rw [hm]; exact hn)]

/-- A core that has neither a stop nor a step to take goes on after an issue. -/
theorem State.afterIssue_setCore (s : State) (n : Nat) {c : Core} (hs : c.stopReq = false) (ht : c.stepping = false) :
    (s.setCore n c).afterIssue n = s.setCore n c := by
  have h2 := State.core_setCore_flag s n c Core.stopReq hs rfl
  have h3 := State.core_setCore_flag s n c Core.stepping ht rfl
  simp [State.afterIssue, h2, h3]

@[simp] theorem State.issuing_cores_length (s : State) (n : Nat) : (s.issuing n).cores.length = s.cores.length := by
  simp [State.issuing, State.countIssues, State.modCore, State.setCore, setNth]

@[simp] theorem State.issuing_injEcc (s : State) (n a k : Nat) : (s.issuing n).injEcc a k = s.injEcc a k := by
  simp only [State.injEcc, State.issuing, State.countIssues, State.setF_flt]
  rfl

@[simp] theorem State.coreState_issuing (s : State) (n m : Nat) : (s.issuing n).coreState m = s.coreState m := by
  rw [State.issuing, State.coreState_countIssues, State.coreState_modCore]

theorem State.issuing_calm {s : State} {n : Nat} (h : s.calm) (hs : (s.core n).stepping = false) : (s.issuing n).calm :=
  State.calm_of (State.setF_cores _ _ _) (State.calm_setCore h hs)

/-! ## A fault of a core (R394) -/

@[simp] theorem State.leaveQueue_cores (s : State) (g : Nat) : (s.leaveQueue g).cores = s.cores := by
  unfold State.leaveQueue
  split <;> rfl
@[simp] theorem State.leaveQueue_now (s : State) (g : Nat) : (s.leaveQueue g).now = s.now := by
  unfold State.leaveQueue
  split <;> rfl

@[simp] theorem State.withdraw_now (s : State) (n : Nat) : (s.withdraw n).now = s.now := State.leaveQueue_now s n

theorem State.withdraw_cores (s : State) (n : Nat) : (s.withdraw n).cores = setNth s.cores n { s.core n with wait := none, got := none } := by
  simp [State.withdraw, State.modCore, State.setCore, State.leaveBarrier, State.core]

/-- A core that changes its state: its watchdog holds the time it has counted, and counts on in the states in which it counts (R388). -/
theorem State.setCoreState_cores (s : State) (n st : Nat) :
    (s.setCoreState n st).cores = setNth s.cores n { s.core n with wdtAcc := s.wdtTime n, wdtSince := if countsWdt st then some s.now else none } := by
  rw [State.setCoreState, State.setF_cores]
  rfl

/-- A fault other than ECC halts its core and leaves the others. -/
theorem State.coreFault_cores (s : State) {n cause : Nat} (addr : Nat) (inj : Bool) (hn : n < s.cores.length) (hc : cause ≠ CoreFault.ecc) :
    (s.coreFault n cause addr inj).cores = setNth s.cores n (s.halted n (s.core n)) := by
  have hw : (s.withdraw n).core n = { s.core n with wait := none, got := none } := by
    simp [State.core, State.withdraw_cores, setNth, List.getD_eq_getElem?_getD, hn]
  have hl : n < (s.withdraw n).cores.length := by simpa [State.withdraw_cores, setNth] using hn
  simp only [State.coreFault, hc, if_false, State.raise_cores, State.setF_cores, State.setCoreState_cores]
  simp only [State.modCore, State.wdtTime, State.core_setCore_self _ _ _ hl, hw]
  simp only [State.setCore, setNth_setNth, State.withdraw_cores, State.withdraw_now, State.halted, State.wdtTime]
  rfl

/-- A fault other than ECC shows FAULT and its cause in C_STATUS. -/
theorem State.coreFault_fields (s : State) {n cause : Nat} (addr : Nat) (inj : Bool) (hc : cause < 16) (he : cause ≠ CoreFault.ecc) :
    (s.coreFault n cause addr inj).coreState n = CoreState.fault ∧ (s.coreFault n cause addr inj).f (F.TKC.C_STATUS_CAUSE n) = cause := by
  have ho : (F.TKC.C_STATUS_CAUSE n).ok := Fld.ok_of _ rfl
  have hs : (F.TKC.C_STATUS_STATE n).ok := Fld.ok_of _ rfl
  have below : (F.TKC.C_STATUS_CAUSE n).apart (F.TKC.C_STATUS_STATE n) := .inr (.inr (show 27 < 28 by decide))
  have later : ∀ (u : State) (v : Nat) (x : Fld), x.addr = 0x101B1004 + 0x40 * n → ((u.setF (F.TKC.C_FAULT_ADDR_ADDR n) v).raise F.TKC.EVT_FAULT).f x = u.f x := by
    intro u v x hx
    rw [State.f_raise_ne _ _ _ (Fld.ok_of _ rfl) (.inl (by rw [hx]; simp only [F.TKC.EVT_FAULT]; omega)),
      State.f_setF_ne _ _ _ _ (Fld.ok_of _ rfl) (.inl (by rw [hx]; simp only [F.TKC.C_FAULT_ADDR_ADDR]; omega))]
  simp only [State.coreFault, he, if_false, State.coreState]
  constructor
  · rw [later _ _ _ rfl, State.f_setF_ne _ _ _ _ ho below, State.setCoreState, State.f_setF_self _ _ _ hs]
    rfl
  · rw [later _ _ _ rfl, State.f_setF_self _ _ _ ho]
    exact Nat.mod_eq_of_lt hc

/-- A core that stands in a fault has no issue to go on from. -/
theorem State.afterIssue_fault (s : State) {n : Nat} (h : s.coreState n = CoreState.fault) : s.afterIssue n = s := by
  simp [State.afterIssue, h, CoreState.fault, CoreState.running]

theorem State.calm_of_set {s t : State} {n : Nat} {c : Core} (hs : s.calm) (h : t.cores = setNth s.cores n c) (hc : c.stepping = false) : t.calm :=
  State.calm_of (s := s.setCore n c) h (State.calm_setCore hs hc)

end Sys2Proof.Machine
end

section
/-! PROOFS. The circular post-update of a pointer and the loads that make it (R376, R377). -/

namespace Sys2Proof.Machine
open Sys2Proof

/-! ## The circular post-update (R377) -/

/-- The model's power of two over a length is the least one that is not below it. -/
theorem powTwoAbove_eq {l e : Nat} (hl : l ≤ 65536) (he : l ≤ 2 ^ e) (hmin : ∀ k, l ≤ 2 ^ k → e ≤ k) : powTwoAbove l = 2 ^ e := by
  have hlt : e < 18 := by
    have := hmin 16 hl
    omega
  have hfind : (List.range 18).find? (fun k => decide (l ≤ 2 ^ k)) = some e := by
    rw [List.find?_range_eq_some]
    refine ⟨by simpa using he, List.mem_range.2 hlt, fun k hk => ?_⟩
    have := fun h => Nat.not_le_of_lt hk (hmin k h)
    simpa using this
  simp only [powTwoAbove, List.find?_map]
  have : (fun x : Nat => decide (l ≤ x)) ∘ (fun x => 2 ^ x) = fun k => decide (l ≤ 2 ^ k) := rfl
  rw [this, hfind]
  rfl

/-- With a length of 0 the update is linear. -/
theorem Core.circular_linear (c : Core) {i w : Nat} {d : Int} (h : c.lReg i = 0) : c.circular i w d = some (c.pReg i + BitVec.ofInt 32 d) := by
  simp [Core.circular, h]

/-- The two limits of R377 on a length that is not 0. -/
def circularOk (l w : Nat) (d : Int) : Prop := l % w = 0 ∧ l ≤ 65536 ∧ d.natAbs ≤ l

/-- Outside its limits the update is ILLEGAL. -/
theorem Core.circular_illegal (c : Core) {i w : Nat} {d : Int} (h : c.lReg i ≠ 0) (hbad : ¬ circularOk (c.lReg i) w d) : c.circular i w d = none := by
  have : c.lReg i % w ≠ 0 ∨ 65536 < c.lReg i ∨ c.lReg i < d.natAbs := by
    simp only [circularOk] at hbad
    omega
  simp only [Core.circular, h, if_false, this, if_true]

/-- Within its limits the update wraps in the buffer of the pointer, which the pointer's own address keeps below 2^32. -/
theorem Core.circular_wraps (c : Core) {i w e : Nat} {d : Int} (h : c.lReg i ≠ 0) (hok : circularOk (c.lReg i) w d) (he : c.lReg i ≤ 2 ^ e)
    (hmin : ∀ k, c.lReg i ≤ 2 ^ k → e ≤ k) (hp : (c.pReg i).toNat < 2 ^ 31) :
    ∃ q, c.circular i w d = some q ∧
      ((q.toNat : Nat) : Int) = ((c.pReg i).toNat / 2 ^ e * 2 ^ e : Nat) + (((c.pReg i).toNat : Int) - ((c.pReg i).toNat / 2 ^ e * 2 ^ e : Nat) + d) % (c.lReg i) := by
  obtain ⟨hw, hl, hd⟩ := hok
  have hgood : ¬ (c.lReg i % w ≠ 0 ∨ 65536 < c.lReg i ∨ c.lReg i < d.natAbs) := by omega
  refine ⟨_, by simp only [Core.circular, h, if_false, hgood]; rfl, ?_⟩
  rw [powTwoAbove_eq hl he hmin]
  have hbase : (c.pReg i).toNat / 2 ^ e * 2 ^ e ≤ (c.pReg i).toNat := Nat.div_mul_le_self _ _
  generalize (c.pReg i).toNat / 2 ^ e * 2 ^ e = base at hbase ⊢
  have hlpos : (0 : Int) < c.lReg i := by omega
  rw [Int.ofNat_sub hbase]
  have h0 := Int.emod_nonneg (((c.pReg i).toNat : Int) - base + d) (Int.ne_of_gt hlpos)
  have h1 := Int.emod_lt_of_pos (((c.pReg i).toNat : Int) - base + d) hlpos
  generalize (((c.pReg i).toNat : Int) - base + d) % (c.lReg i) = r at h0 h1 ⊢
  rw [BitVec.toNat_ofNat, Nat.mod_eq_of_lt (by omega)]
  omega

/-- Four bits read as a signed number. -/
theorem signed_four (x : Nat) : signed 4 (x % 16) = (BitVec.ofNat 4 x).toInt := by
  rw [BitVec.toInt_eq_toNat_cond, BitVec.toNat_ofNat]
  simp only [signed]
  omega

/-- The amount of a circular post-update of an access of w bytes: the increment of mode 4, or the modifier of mode 5 (R376, R409). -/
def Core.circularBy (c : Core) (w mode arg : Nat) : Int := if mode = 4 then (BitVec.ofNat 4 arg).toInt * w else (c.mReg (arg % 4)).toInt

theorem Core.afterMode_circular (c : Core) {p w mode arg : Nat} (h : mode = 4 ∨ mode = 5) :
    c.afterMode p w mode arg = c.circular p w (c.circularBy w mode arg) := by
  rcases h with rfl | rfl
  · simp only [Core.afterMode, Core.circularBy, signed_four, if_true]
  · rfl

/-- The access itself is at the pointer. -/
theorem Core.addrMode_circular (c : Core) {p w mode arg : Nat} (h : mode = 4 ∨ mode = 5) : c.addrMode p w mode arg = (c.pReg p).toNat := by
  have : mode ≠ 1 := by omega
  simp [Core.addrMode, this]

theorem Core.plan_load_circular (c : Core) {w g p mode arg : Nat} {sx : Bool} (h : mode = 4 ∨ mode = 5) :
    c.plan (.load w sx g p mode arg) = (c.circular p (2 ^ w) (c.circularBy (2 ^ w) mode arg)).map (fun q =>
      ({ accs := [{ addr := (c.pReg p).toNat, bytes := 2 ^ w }], ups := [(p, q)] } : Plan)) := by
  simp only [Core.plan, Core.afterMode_circular c h, Core.addrMode_circular c h]

/-! ## A load in a circular mode (R376, R377) -/

theorem exec_iLoad (n w g p mode arg : Nat) (sx : Bool) (s : State) :
    exec (.iLoad n w sx g p mode arg) s = .next (s.coreIssue n (.load w sx g p mode arg)).settle := rfl

/-- A pointer into the own data memory is not 0 and lies below 2^31. -/
theorem localOk_bounds {a w : Nat} (h : localOk a w) : a ≠ 0 ∧ a < 2 ^ 31 := by
  obtain ⟨hl, _⟩ := h
  simp only [isLocal, Bool.and_eq_true, decide_eq_true_eq] at hl
  omega

/-- A circular load of a ready core that meets no error: where the update is legal, the pointer takes its value. -/
theorem State.circularLoad_moves (s : State) {n w g p mode arg : Nat} {sx : Bool} {q : Word} (hm : mode = 4 ∨ mode = 5) (hc : s.calm)
    (hr : s.readyFor n (.load w sx g p mode arg)) (hl : localOk ((s.core n).pReg p).toNat (2 ^ w))
    (he : s.injEcc (localCell n ((s.core n).pReg p).toNat) (2 ^ w) = none)
    (hq : (s.core n).circular p (2 ^ w) ((s.core n).circularBy (2 ^ w) mode arg) = some q) :
    ∃ t, exec (.iLoad n w sx g p mode arg) s = .next t ∧ (t.core n).pReg p = q := by
  obtain ⟨hn, hp⟩ := State.core_mem_of_pReg s (localOk_bounds hl).1
  obtain ⟨-, hrun, -, -, -, -, -, hstep, hstop⟩ := hr.1
  have hn' : n < (s.issuing n).cores.length := by simpa using hn
  have hplan : ((s.issuing n).core n).plan (.load w sx g p mode arg) =
      some { accs := [{ addr := ((s.core n).pReg p).toNat, bytes := 2 ^ w }], ups := [(p, q)] } := by
    rw [Core.plan_load_circular _ hm, State.core_issuing]
    exact congrArg (Option.map _) hq
  have hgo := State.memIssue_near (s.issuing n) hn' hplan (by simpa [Acc.far] using hl.1) (by simp [Plan.misaligned, hl.2])
    (by simp [State.localErrors, State.coreEcc, he]) (by simp [State.inIssue, hrun, CoreState.running, countsWdt])
  simp only [State.localAccs, Acc.far, hl.1, Bool.not_true, Bool.false_eq_true, if_false, State.modCore, State.core_issuing] at hgo
  obtain ⟨hq', hs', ht'⟩ := ((s.core n).passIssues 1).load_done (w := w) (g := g) (mode := mode) (arg := arg) (sx := sx)
    (l := [ofLe (memRead (s.issuing n).mem (localCell n ((s.core n).pReg p).toNat) (2 ^ w))]) (q := q) hp
  have hi : s.coreIssue n (.load w sx g p mode arg) = _ :=
    (State.coreIssueWith_ready s n _ false hr).trans ((congrArg (State.afterIssue · n) hgo).trans
      (State.afterIssue_setCore _ n (hs'.trans hstop) (ht'.trans hstep)))
  refine ⟨_, exec_iLoad .., ?_⟩
  rw [hi, State.core_settle _ (State.calm_setCore (State.issuing_calm hc hstep) (ht'.trans hstep)), State.core_setCore_self _ _ _ hn', hq']

/-- A circular load whose update breaks a limit faults with ILLEGAL before it moves the pointer (R377, R394). -/
theorem State.circularLoad_faults (s : State) {n w g p mode arg : Nat} {sx : Bool} (hm : mode = 4 ∨ mode = 5) (hc : s.calm)
    (hr : s.readyFor n (.load w sx g p mode arg)) (hn : n < s.cores.length)
    (hq : (s.core n).circular p (2 ^ w) ((s.core n).circularBy (2 ^ w) mode arg) = none) :
    ∃ t, exec (.iLoad n w sx g p mode arg) s = .next t ∧ t.coreState n = CoreState.fault ∧ t.f (F.TKC.C_STATUS_CAUSE n) = CoreFault.illegal ∧
      (t.core n).pReg p = (s.core n).pReg p := by
  obtain ⟨-, -, -, -, -, -, -, hstep, -⟩ := hr.1
  have hplan : ((s.issuing n).core n).plan (.load w sx g p mode arg) = none := by
    rw [Core.plan_load_circular _ hm, State.core_issuing]
    exact congrArg (Option.map _) hq
  have hgo : (s.issuing n).memIssue n (.load w sx g p mode arg) = (s.issuing n).coreFault n CoreFault.illegal 0 false := by
    simp only [State.memIssue, hplan]
  obtain ⟨hst, hca⟩ := State.coreFault_fields (s.issuing n) (n := n) (cause := CoreFault.illegal) 0 false (by decide) (by decide)
  have hi : s.coreIssue n (.load w sx g p mode arg) = (s.issuing n).coreFault n CoreFault.illegal 0 false :=
    (State.coreIssueWith_ready s n _ false hr).trans ((congrArg (State.afterIssue · n) hgo).trans (State.afterIssue_fault _ hst))
  have hco := State.coreFault_cores (s.issuing n) (cause := CoreFault.illegal) 0 false (by simpa using hn) (by decide)
  have hcalm := State.calm_of_set (State.issuing_calm hc hstep) hco rfl
  refine ⟨_, exec_iLoad .., ?_⟩
  rw [hi]
  refine ⟨(State.f_settle_tkc _ hcalm _ (by simp only [F.TKC.C_STATUS_STATE]; omega)).trans hst,
    (State.f_settle_tkc _ hcalm _ (by simp only [F.TKC.C_STATUS_CAUSE]; omega)).trans hca, ?_⟩
  have hset : ((s.issuing n).coreFault n CoreFault.illegal 0 false).core n = (s.issuing n).halted n ((s.issuing n).core n) := by
    rw [State.core, hco]
    exact State.core_setCore_self (s.issuing n) n _ (by simpa using hn)
  rw [State.core_settle _ hcalm, hset, State.core_issuing]
  rfl

/-- Settles O56: the three cases of R377 are those of `Core.circular`, and a load carries its answer to the pointer or into a fault. -/
theorem circularUpdates : Obligations.CircularUpdates := by
  unfold Obligations.CircularUpdates
  intro s n g p mode arg w e hm c l a width d i o allowed hc hr _ _ _ hl he
  have hn := (State.core_mem_of_pReg s (localOk_bounds hl).1).1
  refine ⟨fun h0 => ?_, fun h0 hok hle hmin => ?_, fun hbad => ?_⟩
  · exact s.circularLoad_moves hm hc hr hl he (c.circular_linear h0)
  · obtain ⟨q, hq, hval⟩ := c.circular_wraps (w := width) (d := d) h0 (hok.resolve_left h0) hle hmin (localOk_bounds hl).2
    obtain ⟨t, ht, hp⟩ := s.circularLoad_moves hm hc hr hl he hq
    exact ⟨t, ht, by rw [hp]; exact hval⟩
  · obtain ⟨h0, hlim⟩ := not_or.1 hbad
    exact s.circularLoad_faults hm hc hr hn (c.circular_illegal h0 hlim)

end Sys2Proof.Machine
end

section
/-! SUPPORT. What the passing of time leaves alone, and views of the state that repeated updates keep (R172, R183). -/

namespace Sys2Proof.Machine
open Sys2Proof

/-! ## Repeated updates -/

/-- A view of the state that every member's update keeps is kept by all of them. -/
theorem State.each_keeps {α β : Type} (view : State → β) (g : State → α → State) (l : List α) (h : ∀ (s : State) a, a ∈ l → view (g s a) = view s) :
    ∀ s : State, view (s.each l g) = view s := by
  induction l with
  | nil => exact fun s => rfl
  | cons a l ih => exact fun s => (ih (fun s b hb => h s b (by simp [hb])) (g s a)).trans (h s a (by simp))

/-- What one member's update brings about, and every member's keeps, holds once all are done. -/
theorem State.each_reaches {α : Type} (P : State → Prop) (g : State → α → State) (l : List α) {a : α} (ha : a ∈ l) (hset : ∀ s : State, P (g s a))
    (hkeep : ∀ (s : State) b, b ∈ l → P s → P (g s b)) : ∀ s : State, P (s.each l g) := by
  have keeps : ∀ (m : List α), (∀ b ∈ m, b ∈ l) → ∀ s : State, P s → P (s.each m g) := by
    intro m
    induction m with
    | nil => exact fun _ s hs => hs
    | cons b m ih => exact fun hm s hs => ih (fun c hc => hm c (by simp [hc])) _ (hkeep s b (hm b (by simp)) hs)
  intro s
  obtain ⟨l₁, l₂, rfl⟩ := List.append_of_mem ha
  rw [State.each, List.foldl_append]
  exact keeps l₂ (fun b hb => by simp [hb]) _ (hset _)

/-- A view that an update keeps is kept where the update is made only under a condition. -/
theorem State.when_keeps {β : Type} (view : State → β) (s : State) (c : Bool) (g : State → State) (h : view (g s) = view s) : view (s.when c g) = view s := by
  unfold State.when
  split
  · exact h
  · rfl

/-! ## Time that passes (R172, R183) -/

/-- The state without the instant, the time bases, the register file, and the frames and records that events send. -/
def State.besideTime (s : State) : State := { s with regs := [], now := 0, tim := {}, outbox := [], crossed := [], crossLost := [] }

@[simp] theorem State.besideTime_setF (s : State) (x : Fld) (v : Nat) : (s.setF x v).besideTime = s.besideTime := by cases s; rfl
@[simp] theorem State.besideTime_setFi (s : State) (x : Fld) (i : Int) : (s.setFi x i).besideTime = s.besideTime := State.besideTime_setF _ _ _
@[simp] theorem State.besideTime_showFi (s : State) (x : Fld) (i : Int) : (s.showFi x i).besideTime = s.besideTime := by
  unfold State.showFi
  extract_lets h
  split
  · exact State.besideTime_setFi _ _ _
  · exact State.besideTime_setF _ _ _

@[simp] theorem State.besideTime_raise (s : State) (e : Fld) : (s.raise e).besideTime = s.besideTime := by
  have sends : ∀ (u : State) (c : Bool), (u.when c (·.eventFrame (blkOf e.addr) (2 ^ e.lo))).besideTime = u.besideTime :=
    fun u c => State.when_keeps State.besideTime u c _ rfl
  simp only [State.raise, State.cross]
  split
  · rw [sends, State.besideTime_setF]
  · split
    · exact (sends _ _).trans (State.besideTime_setF s e 1)
    · exact State.besideTime_setF s e 1

@[simp] theorem State.besideTime_tbMove (s : State) (n : Nat) (v : Int) : (s.tbMove n v).besideTime = s.besideTime := by
  unfold State.tbMove
  extract_lets old wraps halves u
  rw [State.when_keeps State.besideTime _ _ _ (State.besideTime_raise _ _), State.when_keeps State.besideTime _ _ _ (State.besideTime_raise _ _)]
  rfl

@[simp] theorem State.besideTime_span (s : State) (e : Nat) : (s.span e).besideTime = s.besideTime := by
  unfold State.span
  extract_lets ctl s1 err' res' gap _ s2 phase16 s3 s4
  have h1 : s1.besideTime = s.besideTime := by
    unfold s1
    split
    · exact State.each_keeps State.besideTime _ _ (fun u n _ => State.besideTime_tbMove u n _) s
    · rfl
  have h2 : s2.besideTime = s1.besideTime := rfl
  have h3 : s3.besideTime = s2.besideTime := by simp only [s3, State.besideTime_setF, State.besideTime_showFi, State.besideTime_setFi]
  have h4 : s4.besideTime = s3.besideTime := State.when_keeps State.besideTime _ _ _ (State.besideTime_raise _ _)
  rw [State.when_keeps State.besideTime _ _ _ (State.besideTime_raise _ _), h4, h3, h2, h1]

/-- A view of the state that every steered span keeps is kept as time runs on to an instant. -/
theorem State.advanceTo_keeps {β : Type} (view : State → β) (h : ∀ (s : State) e, view (s.span e) = view s) (s : State) (t : Nat) :
    view (s.advanceTo t) = view s := by
  have elapse : ∀ e, view (s.elapse e) = view s := by
    intro e
    unfold State.elapse
    split
    · split
      · exact (h _ _).trans (h _ _)
      · exact h _ _
    · exact h _ _
  unfold State.advanceTo
  split
  · exact elapse _
  · rfl

/-- Time that passes changes nothing beside the time bases, the registers, and what their events send. -/
theorem State.besideTime_advanceTo (s : State) (t : Nat) : (s.advanceTo t).besideTime = s.besideTime :=
  State.advanceTo_keeps State.besideTime State.besideTime_span s t

theorem State.advanceTo_cores (s : State) (t : Nat) : (s.advanceTo t).cores = s.cores := by
  have := congrArg State.cores (s.besideTime_advanceTo t)
  exact this
theorem State.advanceTo_pwr (s : State) (t : Nat) : (s.advanceTo t).pwr = s.pwr := by
  have := congrArg State.pwr (s.besideTime_advanceTo t)
  exact this
theorem State.advanceTo_aux (s : State) (t : Nat) : (s.advanceTo t).aux = s.aux := by
  have := congrArg State.aux (s.besideTime_advanceTo t)
  exact this

/-- A register outside TIM is none of TIM. -/
theorem reg_addr_ne {a b : Nat} (ha : blkOf a ≠ 3) (hb : blkOf b = 3) : a ≠ b := fun h => ha (h ▸ hb)

theorem State.reg_tbMove (s : State) (n : Nat) (v : Int) {a : Nat} (ha : blkOf a ≠ 3) : (s.tbMove n v).reg a = s.reg a := by
  unfold State.tbMove
  extract_lets old wraps halves u
  rw [State.when_keeps (State.reg · a) _ _ _ (State.reg_raise_ne _ _ (reg_addr_ne ha (rfl : blkOf 0x10030000 = 3))),
    State.when_keeps (State.reg · a) _ _ _ (State.reg_raise_ne _ _ (reg_addr_ne ha (rfl : blkOf 0x10030000 = 3)))]
  rfl

theorem State.reg_showFi (s : State) (x : Fld) (i : Int) {a : Nat} (h : a ≠ x.addr) : (s.showFi x i).reg a = s.reg a := by
  unfold State.showFi
  extract_lets m
  split <;> exact State.reg_setF_ne _ _ _ h

theorem State.reg_span (s : State) (e : Nat) {a : Nat} (ha : blkOf a ≠ 3) : (s.span e).reg a = s.reg a := by
  unfold State.span
  extract_lets ctl s1 err' res' gap _ s2 phase16 s3 s4
  have h1 : s1.reg a = s.reg a := by
    unfold s1
    split
    · exact State.each_keeps (State.reg · a) _ _ (fun u n _ => State.reg_tbMove u n _ ha) s
    · rfl
  have h2 : s2.reg a = s1.reg a := rfl
  have h3 : s3.reg a = s2.reg a := by
    rw [State.reg_setF_ne _ _ _ (reg_addr_ne ha rfl), State.reg_showFi _ _ _ (reg_addr_ne ha rfl)]
    exact State.reg_setF_ne _ _ _ (reg_addr_ne ha rfl)
  have h4 : s4.reg a = s3.reg a := State.when_keeps (State.reg · a) _ _ _ (State.reg_raise_ne _ _ (reg_addr_ne ha rfl))
  rw [State.when_keeps (State.reg · a) _ _ _ (State.reg_raise_ne _ _ (reg_addr_ne ha rfl)), h4, h3, h2, h1]

/-- Fields outside TIM keep their values as time passes. -/
theorem State.f_advanceTo (s : State) (t : Nat) (x : Fld) (hx : blkOf x.addr ≠ 3) : (s.advanceTo t).f x = s.f x := by
  rw [State.f, State.advanceTo_keeps (State.reg · x.addr) (fun u e => State.reg_span u e hx) s t, State.f]

end Sys2Proof.Machine
end

section
/-! SUPPORT. The pins and the bias DACs through what follows every command (R499 to R503). -/

namespace Sys2Proof.Machine
open Sys2Proof

/-! ## The pins and the bias DACs through the end of a command -/

theorem State.aux_ite {c : Prop} [Decidable c] {s t u : State} (h : t.aux = s.aux) (k : u.aux = s.aux) : (if c then t else u).aux = s.aux := by
  split
  · exact h
  · exact k

@[simp] theorem State.aux_reqDeparts (s : State) (pl : List Byte) (t : Nat) : (s.reqDeparts pl t).aux = s.aux := State.aux_ite rfl rfl

@[simp] theorem State.aux_injTake (s : State) (d p : Nat) : (s.injTake d p).aux = s.aux := rfl

@[simp] theorem State.aux_setPort (s : State) (p : Nat) (x : PortSt) : (s.setPort p x).aux = s.aux := rfl

@[simp] theorem State.aux_depart (s : State) (p : Nat) (l : LineFrame) : (s.depart p l).1.aux = s.aux := by
  unfold State.depart
  split
  · extract_lets timed s1 _ l1 t pl s2 _ l2
    have h1 : s1.aux = s.aux := State.aux_ite rfl rfl
    have h2 : s2.aux = s.aux := (State.aux_ite (State.aux_reqDeparts _ _ _) rfl).trans h1
    split
    · exact h2
    · split <;> exact h2
  · rfl

@[simp] theorem State.aux_startNext (s : State) (o : Nat) : (s.startNext o).aux = s.aux := by
  unfold State.startNext
  simp only
  split
  · split
    · rfl
    · exact State.aux_depart _ _ _
  · rfl

@[simp] theorem State.aux_setTxDir (s : State) (p d : Nat) : (s.setTxDir p d).aux = s.aux := State.aux_ite rfl (by simp)
@[simp] theorem State.aux_setRxDir (s : State) (p d : Nat) : (s.setRxDir p d).aux = s.aux := State.aux_ite rfl (by simp)
@[simp] theorem State.aux_refuseTx (s : State) (p c : Nat) : (s.refuseTx p c).aux = s.aux := by simp [State.refuseTx, State.sleepCode]

@[simp] theorem State.aux_txWake (s : State) (p : Nat) : (s.txWake p).aux = s.aux :=
  State.aux_ite (by simp) (State.aux_ite rfl (State.aux_ite rfl (by simp)))

@[simp] theorem State.aux_enterTxIdle (s : State) (p : Nat) : (s.enterTxIdle p).aux = s.aux := by
  unfold State.enterTxIdle
  extract_lets x s1 s2
  have h : s2.aux = s.aux := by simp [s2, s1]
  exact State.aux_ite ((State.aux_txWake _ _).trans h) h

@[simp] theorem State.aux_trySleep (s : State) (p : Nat) : (s.trySleep p).aux = s.aux := State.aux_ite (State.aux_enterTxIdle _ _) rfl

@[simp] theorem State.aux_enterRxIdle (s : State) (p : Nat) : (s.enterRxIdle p).aux = s.aux := by simp [State.enterRxIdle]

@[simp] theorem State.aux_queueWakes (s : State) (p : Nat) : (s.queueWakes p).aux = s.aux := by
  unfold State.queueWakes
  extract_lets u
  have h : u.aux = s.aux := State.aux_ite (State.aux_refuseTx _ _ _) rfl
  exact State.aux_ite ((State.aux_txWake _ _).trans h) h

@[simp] theorem State.aux_enqueue (s : State) (o : Nat) (l : LineFrame) : (s.enqueue o l).aux = s.aux := by
  refine State.aux_ite rfl ?_
  rw [State.aux_startNext, State.each_keeps State.aux _ _ (fun u p _ => State.aux_queueWakes u p), State.aux_setPort]

@[simp] theorem State.aux_flushOut (s : State) : s.flushOut.aux = s.aux := by
  unfold State.flushOut
  simp only
  rw [State.each_keeps State.aux, State.each_keeps State.aux]
  · exact fun u a _ => State.aux_enqueue _ _ _
  · intro u f _
    split
    · simp [State.noRoute, State.seqNext]
    · exact State.each_keeps State.aux _ _ (fun v o _ => State.aux_enqueue v o _) _

@[simp] theorem State.aux_bondSent (s : State) (p : Nat) : (s.bondSent p).aux = s.aux := by
  have active : ∀ (u : State) (m : Nat), (u.setActive m true).aux = u.aux := fun u m =>
    State.aux_ite rfl ((State.when_keeps State.aux _ _ _ (State.raise_aux _ _)).trans (State.setF_aux _ _ _))
  exact State.aux_ite rfl (State.aux_ite (active _ _) rfl)

@[simp] theorem State.aux_sigSent (s : State) (p : Nat) : (s.sigSent p).aux = s.aux := by
  unfold State.sigSent
  extract_lets x u _ v
  have hu : u.aux = s.aux := State.aux_ite (State.aux_enterRxIdle _ _) rfl
  have hv : v.aux = u.aux := State.aux_ite rfl rfl
  rw [State.aux_trySleep, hv, hu]

@[simp] theorem State.aux_txPeriod (s : State) (p : Nat) : (s.txPeriod p).aux = s.aux := by
  unfold State.txPeriod
  extract_lets x train per u o _ v
  have hv : v.aux = s.aux := State.aux_ite rfl rfl
  rw [State.aux_sigSent, State.aux_bondSent, hv]

@[simp] theorem State.aux_txPeriods (p n : Nat) : ∀ s : State, (s.txPeriods p n).aux = s.aux := by
  induction n with
  | zero => exact fun s => rfl
  | succ n ih => exact fun s => State.aux_ite ((ih _).trans (State.aux_txPeriod _ _)) rfl

@[simp] theorem State.aux_txIdles (s : State) (p : Nat) : (s.txIdles p).aux = s.aux := State.aux_ite (State.aux_txPeriod _ _) rfl

@[simp] theorem State.aux_txAwake (s : State) (p : Nat) : (s.txAwake p).aux = s.aux := by simp [State.txAwake]

@[simp] theorem State.aux_ropeRun (s : State) : s.ropeRun.aux = s.aux := by
  refine State.each_keeps State.aux _ _ (fun u p _ => ?_) s
  extract_lets v
  have hv : v.aux = u.aux := State.aux_ite (State.aux_txAwake _ _) rfl
  exact State.aux_ite (by simp [hv]) hv

@[simp] theorem State.aux_throttleHolds (s : State) : s.throttleHolds.aux = s.aux := by
  refine State.aux_ite (State.aux_ite rfl ?_) rfl
  simp

/-- What follows a command reaches the pins and the DACs by `pinsFollow`, `biasFollow` and `coexFollow` alone. -/
theorem State.aux_settle (s : State) (h : s.calm) : s.settle.aux = s.pinsFollow.biasFollow.coexFollow.aux := by
  rw [State.settle, State.stepRun_calm s h]
  show (State.flushOut _).aux = _
  rw [State.aux_flushOut, State.aux_ropeRun, State.aux_throttleHolds]

/-- A view that no field and no amplifier DAC reaches is kept as safe-holds begin and end (R501, R502). -/
theorem State.biasFollow_keeps {β : Type} (view : State → β) (hf : ∀ (s : State) x v, view (s.setF x v) = view s)
    (hd : ∀ (s : State) n x, n < 128 → view (s.setDac n x) = view s) (s : State) : view s.biasFollow = view s := by
  refine State.each_keeps view _ _ (fun u n hn => ?_) s
  have hn := List.mem_range.1 hn
  have apply : ∀ (u : State) v, view (u.biasApply n v) = view u := by
    intro u v
    simp only [State.biasApply]
    split
    · exact hd _ _ _ hn
    · exact (hf _ _ _).trans (hd _ _ _ hn)
  split
  · split
    · rfl
    · exact (hf _ _ _).trans ((hf _ _ _).trans (hd _ _ _ hn))
  · split
    · exact (apply _ _).trans (hf _ _ _)
    · rfl

/-- Coexistence requests reach neither the amplifiers nor the DACs (R503). -/
theorem State.coexFollow_keeps {β : Type} (view : AuxState → β) (h : ∀ (x : AuxState) r, view { x with coexReq := r } = view x) (s : State) :
    view s.coexFollow.aux = view s.aux := by
  refine State.each_keeps (fun u => view u.aux) _ _ (fun u n _ => ?_) s
  split
  · rfl
  · exact h _ _

/-- While quiet-down runs the amplifiers are off (R499). -/
theorem State.pa_pinsFollow_quieting (s : State) (hq : s.quieting = true) : s.pinsFollow.aux.pa = 0 := by
  unfold State.pinsFollow
  extract_lets _ u
  have hu : u.quieting = true := by
    unfold u
    split <;> exact hq
  rw [if_pos hu]

@[simp] theorem State.dacs_pinsFollow (s : State) : s.pinsFollow.aux.dacs = s.aux.dacs := by
  unfold State.pinsFollow
  extract_lets _ u
  have hu : u.aux.dacs = s.aux.dacs := congrArg AuxState.dacs (State.aux_ite rfl rfl)
  split
  · exact hu
  · split <;> exact hu

/-- The amplifiers stay off through what follows a command while quiet-down runs. -/
theorem State.pa_settle_quieting (s : State) (h : s.calm) (hq : s.quieting = true) : s.settle.aux.pa = 0 := by
  rw [State.aux_settle s h, State.coexFollow_keeps AuxState.pa (fun _ _ => rfl),
    State.biasFollow_keeps (·.aux.pa) (fun u x v => congrArg AuxState.pa (State.setF_aux u x v)) (fun _ _ _ _ => rfl), State.pa_pinsFollow_quieting s hq]

/-- The DACs beside those of the amplifiers keep their outputs through what follows a command. -/
theorem State.dac_settle (s : State) (h : s.calm) {k : Nat} (hk : 128 ≤ k) : s.settle.dac k = s.dac k := by
  have other : ∀ (u : State) n x, n < 128 → (u.setDac n x).dac k = u.dac k := by
    intro u n x hn
    have hne : n ≠ k := by omega
    simp [State.dac, State.setDac, setNth, List.getD_eq_getElem?_getD, hne]
  have field : ∀ (u : State) x v, (u.setF x v).dac k = u.dac k := fun u x v => by simp only [State.dac, State.setF_aux]
  have bias := State.biasFollow_keeps (·.dac k) field other s.pinsFollow
  simp only [State.dac, State.dacs_pinsFollow] at bias
  rw [State.dac, State.aux_settle s h, State.coexFollow_keeps AuxState.dacs (fun _ _ => rfl), bias, State.dac]

end Sys2Proof.Machine
end

section
/-! PROOFS. Quiet-down, and the expiry of a watchdog that escalates to a reset of the device (R83, R389). -/

namespace Sys2Proof.Machine
open Sys2Proof

/-! ## Quiet-down (R83) -/

theorem State.f_setTxp (s : State) (p : Nat) (x : TxPath) (y : Fld) : (s.setTxp p x).f y = s.f y := State.f_congr rfl y
theorem State.f_setDac (s : State) (n : Nat) (x : BiasDac) (y : Fld) : (s.setDac n x).f y = s.f y := State.f_congr rfl y

theorem switch_apart {p q : Nat} (h : p ≠ q) : (F.TXP.P_STATUS_SWITCH p).apart (F.TXP.P_STATUS_SWITCH q) := .inl (by simp only [F.TXP.P_STATUS_SWITCH]; omega)

/-- Quiet outputs have every switch open. -/
theorem State.switch_txQuiet (s : State) (d : Nat) {p : Nat} (hp : p < 64) : (s.txQuiet d).f (F.TXP.P_STATUS_SWITCH p) = 0 := by
  have opens : ∀ u : State, (u.setF (F.TXP.P_STATUS_SWITCH p) 0).f (F.TXP.P_STATUS_SWITCH p) = 0 := fun u => State.f_setF_self u _ _ (Fld.ok_of _ rfl)
  unfold State.txQuiet
  refine State.each_reaches (fun u => u.f (F.TXP.P_STATUS_SWITCH p) = 0) _ _ (List.mem_range.2 hp) (fun _ => ?_) (fun _ q _ hu => ?_) s
  · exact opens _
  · by_cases h : q = p
    · rw [h]
      exact opens _
    · exact (State.f_setF_ne _ _ _ _ (Fld.ok_of _ rfl) (switch_apart h)).trans ((State.f_setTxp _ _ _ _).trans hu)

/-- Quiet outputs leave every other field. -/
theorem State.f_txQuiet (s : State) (d : Nat) (x : Fld) (hx : ∀ p < 64, (F.TXP.P_STATUS_SWITCH p).apart x) : (s.txQuiet d).f x = s.f x :=
  State.each_keeps (·.f x) _ _ (fun _ p hp =>
    (State.f_setF_ne _ _ _ _ (Fld.ok_of _ rfl) (hx p (List.mem_range.1 hp))).trans (State.f_setTxp _ _ _ _)) s

/-- A view that neither a field nor a transmit path reaches is kept. -/
theorem State.txQuiet_keeps {β : Type} (view : State → β) (hf : ∀ (s : State) x v, view (s.setF x v) = view s)
    (hp : ∀ (s : State) p x, view (s.setTxp p x) = view s) (s : State) (d : Nat) : view (s.txQuiet d) = view s :=
  State.each_keeps view _ _ (fun _ _ _ => (hf _ _ _).trans (hp _ _ _)) s

/-- Safe values of the bias DACs leave every field but BUSY. -/
theorem State.f_biasAllSafe (s : State) (x : Fld) (hx : ∀ n < 136, (F.AUX.BIAS_BUSY n).apart x) : s.biasAllSafe.f x = s.f x :=
  State.each_keeps (·.f x) _ _ (fun _ n hn =>
    (State.f_setF_ne _ _ _ _ (Fld.ok_of _ rfl) (hx n (List.mem_range.1 hn))).trans (State.f_setDac _ _ _ _)) s

theorem State.biasAllSafe_keeps {β : Type} (view : State → β) (hf : ∀ (s : State) x v, view (s.setF x v) = view s)
    (hd : ∀ (s : State) n x, view (s.setDac n x) = view s) (s : State) : view s.biasAllSafe = view s :=
  State.each_keeps view _ _ (fun _ _ _ => (hf _ _ _).trans (hd _ _ _)) s

/-- The output a DAC has at its safe range and code (R502). -/
def State.safeOut (s : State) (k : Nat) : Nat := 4096 * s.f (F.AUX.BIAS_SAFE_RANGE k) + s.f (F.AUX.BIAS_SAFE_CODE k)

theorem busy_apart_safe {n : Nat} (hn : n < 136) (k : Nat) :
    (F.AUX.BIAS_BUSY n).apart (F.AUX.BIAS_SAFE_RANGE k) ∧ (F.AUX.BIAS_BUSY n).apart (F.AUX.BIAS_SAFE_CODE k) :=
  ⟨.inl (by simp only [F.AUX.BIAS_BUSY, F.AUX.BIAS_SAFE_RANGE]; omega), .inl (by simp only [F.AUX.BIAS_BUSY, F.AUX.BIAS_SAFE_CODE]; omega)⟩

theorem State.safeOut_biasSafe (s : State) {n : Nat} (hn : n < 136) (k : Nat) : (s.biasSafe n).safeOut k = s.safeOut k := by
  obtain ⟨hr, hc⟩ := busy_apart_safe hn k
  have ho : (F.AUX.BIAS_BUSY n).ok := Fld.ok_of _ rfl
  simp only [State.safeOut, State.biasSafe, State.f_setF_ne _ _ _ _ ho hr, State.f_setF_ne _ _ _ _ ho hc, State.f_setDac]

theorem State.dac_biasSafe (s : State) (n k : Nat) (hk : k < s.aux.dacs.length) :
    (s.biasSafe n).dac k = if k = n then { out := s.safeOut n } else s.dac k := by
  simp only [State.biasSafe, State.dac, State.setF_aux, State.setDac, setNth, List.getD_eq_getElem?_getD, List.getElem?_set, State.safeOut]
  grind

/-- Every DAC there is takes its safe value. -/
theorem State.dac_biasAllSafe (s : State) {k : Nat} (hk : k < 136) (hl : k < s.aux.dacs.length) : (s.biasAllSafe.dac k).out = s.safeOut k := by
  have len : ∀ (u : State) n, (u.biasSafe n).aux.dacs.length = u.aux.dacs.length := fun u n => by simp [State.biasSafe, State.setDac, setNth]
  have safe := State.each_reaches (fun u => k < u.aux.dacs.length → (u.dac k).out = u.safeOut k) State.biasSafe (List.range 136) (List.mem_range.2 hk)
    (fun u hu => by
      rw [len] at hu
      rw [State.dac_biasSafe u k k hu, State.safeOut_biasSafe u hk, if_pos rfl])
    (fun u n hn hu hul => by
      rw [len] at hul
      rw [State.dac_biasSafe u n k hul, State.safeOut_biasSafe u (List.mem_range.1 hn)]
      split
      · rename_i h
        rw [h]
      · exact hu hul) s
  have hlen := State.each_keeps (·.aux.dacs.length) State.biasSafe (List.range 136) (fun u n _ => len u n) s
  have hout := State.each_keeps (·.safeOut k) State.biasSafe (List.range 136) (fun u n hn => State.safeOut_biasSafe u (List.mem_range.1 hn) k) s
  rw [State.biasAllSafe, safe (by rw [hlen]; exact hl), hout]

/-- PA_EN of every path low, and TRSW with it. -/
def State.pinsLow (s : State) : State := { s with aux := { s.aux with pa := 0, trsw := 0 } }

theorem State.quietDown_eq (s : State) : s.quietDown = (s.txQuiet 1).biasAllSafe.pinsLow := rfl

theorem State.pinsLow_regs (s : State) : s.pinsLow.regs = s.regs := rfl
@[simp] theorem State.pinsLow_pwr (s : State) : s.pinsLow.pwr = s.pwr := rfl
@[simp] theorem State.pinsLow_cores (s : State) : s.pinsLow.cores = s.cores := rfl
@[simp] theorem State.pinsLow_dac (s : State) (k : Nat) : s.pinsLow.dac k = s.dac k := rfl
@[simp] theorem State.f_pinsLow (s : State) (x : Fld) : s.pinsLow.f x = s.f x := State.f_congr s.pinsLow_regs x

@[simp] theorem State.pwr_quietDown (s : State) : s.quietDown.pwr = s.pwr := by
  rw [State.quietDown_eq, State.pinsLow_pwr, State.biasAllSafe_keeps State.pwr (fun _ _ _ => State.setF_pwr _ _ _) (fun _ _ _ => rfl),
    State.txQuiet_keeps State.pwr (fun _ _ _ => State.setF_pwr _ _ _) (fun _ _ _ => rfl)]

@[simp] theorem State.cores_quietDown (s : State) : s.quietDown.cores = s.cores := by
  rw [State.quietDown_eq, State.pinsLow_cores, State.biasAllSafe_keeps State.cores (fun _ _ _ => State.setF_cores _ _ _) (fun _ _ _ => rfl),
    State.txQuiet_keeps State.cores (fun _ _ _ => State.setF_cores _ _ _) (fun _ _ _ => rfl)]

/-- Quiet-down leaves the fields beyond TXP and AUX. -/
theorem State.f_quietDown (s : State) (x : Fld) (hx : 0x10170000 ≤ x.addr) : s.quietDown.f x = s.f x := by
  rw [State.quietDown_eq, State.f_pinsLow, State.f_biasAllSafe _ x (fun n hn => .inl (by simp only [F.AUX.BIAS_BUSY]; omega)),
    State.f_txQuiet s 1 x (fun p hp => .inl (by simp only [F.TXP.P_STATUS_SWITCH]; omega))]

theorem State.switch_quietDown (s : State) {p : Nat} (hp : p < 64) : s.quietDown.f (F.TXP.P_STATUS_SWITCH p) = 0 := by
  rw [State.quietDown_eq, State.f_pinsLow, State.f_biasAllSafe _ _ (fun n _ => .inl (by simp only [F.AUX.BIAS_BUSY, F.TXP.P_STATUS_SWITCH]; omega)),
    State.switch_txQuiet s 1 hp]

theorem State.dac_quietDown (s : State) {k : Nat} (hk : k < 136) (hl : k < s.aux.dacs.length) : (s.quietDown.dac k).out = s.safeOut k := by
  have haux : (s.txQuiet 1).aux = s.aux := State.txQuiet_keeps State.aux (fun _ _ _ => State.setF_aux _ _ _) (fun _ _ _ => rfl) s 1
  rw [State.quietDown_eq, State.pinsLow_dac, State.dac_biasAllSafe _ hk (by rw [haux]; exact hl)]
  simp only [State.safeOut]
  rw [State.f_txQuiet _ _ _ (fun p hp => .inl (by simp only [F.AUX.BIAS_SAFE_RANGE, F.TXP.P_STATUS_SWITCH]; omega)),
    State.f_txQuiet _ _ _ (fun p hp => .inl (by simp only [F.AUX.BIAS_SAFE_CODE, F.TXP.P_STATUS_SWITCH]; omega))]

/-! ## The escalated expiry (R389) -/

theorem exec_wdtExpire (s : State) : exec .wdtExpire s = .next s.wdtExpireDue.settle := rfl

/-- The watchdog that alone counts towards an expiry is the one that expires. -/
theorem State.wdtExpireDue_alone (s : State) {n : Nat} (hn : n < 34) (hon : countsWdt (s.coreState n) = true) (hx : s.f (F.TKC.C_WDT_EXPIRE n) ≠ 0)
    (hoff : ∀ m < 34, m ≠ n → countsWdt (s.coreState m) = false) :
    s.wdtExpireDue = (s.advanceTo (s.wdtInstant n (s.f (F.TKC.C_WDT_EXPIRE n)))).wdtExpire n false := by
  have hone : (List.range 34).filter (fun m => countsWdt (s.coreState m) && s.f (F.TKC.C_WDT_EXPIRE m) != 0) = [n] := by
    have hsame : ∀ m ∈ List.range 34, (countsWdt (s.coreState m) && s.f (F.TKC.C_WDT_EXPIRE m) != 0) = (m == n) := by
      intro m hm
      by_cases h : m = n
      · simp [h, hon, hx]
      · simp [h, hoff m (List.mem_range.1 hm) h]
    rw [List.filter_congr hsame, List.filter_beq, List.count_range, if_pos hn]
    rfl
  simp only [State.wdtExpireDue, hone]
  rfl

/-- The expiry of a leader core whose ESC bit is set escalates. -/
theorem State.wdtEscalates_of_esc (s : State) {n : Nat} (hn : n < 2) (h : s.f (if n = 0 then F.TKC.WDT_CFG_ESC_LC0 else F.TKC.WDT_CFG_ESC_LC1) = 1) :
    s.wdtEscalates n = true := by
  obtain rfl | rfl : n = 0 ∨ n = 1 := by omega
  · simp only [if_true] at h
    simp [State.wdtEscalates, State.on, h]
  · simp only [Nat.one_ne_zero, if_false] at h
    simp [State.wdtEscalates, State.on, h]

/-- A reset source with quiet-down, while no reset is under way: its cause is recorded, quiet-down runs, and the reset waits to be applied. -/
theorem State.resetTrigger_idle (s : State) (c : Nat) (h : s.pwr.seq = 0) :
    (s.resetTrigger c).regs = (s.addCause c).quietDown.regs ∧ (s.resetTrigger c).aux = (s.addCause c).quietDown.aux ∧
      (s.resetTrigger c).cores = s.cores ∧ (s.resetTrigger c).pwr.seq = 1 ∧ (s.resetTrigger c).pwr.cause = s.pwr.cause ||| 2 ^ c := by
  have hseq : ¬ ((s.addCause c).pwr.seq = 2 ∨ (s.addCause c).pwr.seq = 1) := by
    show ¬ (s.pwr.seq = 2 ∨ s.pwr.seq = 1)
    omega
  have hcause := congrArg PwrState.cause (s.addCause c).pwr_quietDown
  have hcores := (s.addCause c).cores_quietDown
  rw [State.resetTrigger, if_neg hseq]
  generalize (s.addCause c).quietDown = u at hcause hcores
  exact ⟨rfl, rfl, hcores, rfl, hcause⟩

/-- What such a reset source shows once its command has ended: the fields beyond TXP and AUX are as they were, the amplifiers are off, every switch is open, and the DACs
beside those of the amplifiers stand at their safe values. -/
theorem State.resetTrigger_settled (s : State) (c : Nat) (hc : s.calm) (h : s.pwr.seq = 0) :
    let t := (s.resetTrigger c).settle
    t.pwr.seq = 1 ∧ t.pwr.cause = s.pwr.cause ||| 2 ^ c ∧ (∀ x : Fld, 0x10170000 ≤ x.addr → t.f x = s.f x) ∧ t.aux.pa = 0 ∧
      (∀ p < 64, t.f (F.TXP.P_STATUS_SWITCH p) = 0) ∧ ∀ k, 128 ≤ k → k < 136 → k < s.aux.dacs.length → (t.dac k).out = s.safeOut k := by
  obtain ⟨hregs, haux, hcores, hseq, hcause⟩ := s.resetTrigger_idle c h
  have hcalm : (s.resetTrigger c).calm := State.calm_of hcores hc
  have hpwr : (s.resetTrigger c).settle.pwr = (s.resetTrigger c).pwr := by
    have := congrArg State.pwr (State.inner_settle _ hcalm)
    exact this
  refine ⟨by rw [hpwr, hseq], by rw [hpwr, hcause], fun x hx => ?_, ?_, fun p hp => ?_, fun k h1 h2 h3 => ?_⟩
  · rw [State.f_settle _ hcalm x (apart_trailing x (by omega)), State.f_congr hregs, State.f_quietDown _ x hx]
    rfl
  · exact State.pa_settle_quieting _ hcalm (by simp [State.quieting, hseq])
  · rw [State.f_settle _ hcalm _ (apart_trailing _ (by simp only [F.TXP.P_STATUS_SWITCH]; omega)), State.f_congr hregs, State.switch_quietDown _ hp]
  · rw [State.dac_settle _ hcalm h1, State.dac, haux]
    exact State.dac_quietDown (s.addCause c) h2 h3

/-- The states of a core in which its watchdog counts. -/
theorem countsWdt_iff (st : Nat) : countsWdt st = true ↔ st = 2 ∨ st = 3 := by simp [countsWdt]

/-- Settles O57: the one counting watchdog is that of the leader core; time that passes until its expiry keeps all that the statement names, and the
expiry is a reset source with quiet-down. -/
theorem escalatedExpiry : Obligations.EscalatedExpiry := by
  unfold Obligations.EscalatedExpiry
  intro s n hn hc hseq hesc hst hx halone
  have hoff : ∀ m < 34, m ≠ n → countsWdt (s.coreState m) = false := fun m hm hne => by
    rw [Bool.eq_false_iff, ne_eq, countsWdt_iff]
    exact not_or.2 (halone m hm hne)
  have hdue := s.wdtExpireDue_alone (by omega) ((countsWdt_iff _).2 hst) hx hoff
  generalize s.wdtInstant n (s.f (F.TKC.C_WDT_EXPIRE n)) = due at hdue
  have hblk : ∀ x : Fld, 0x10040000 ≤ x.addr → x.addr < 0x101C0000 → (s.advanceTo due).f x = s.f x := fun x h1 h2 =>
    s.f_advanceTo due x (by simp only [blkOf]; omega)
  have hgo : (s.advanceTo due).wdtEscalates n = true := by
    refine State.wdtEscalates_of_esc _ hn ?_
    rw [hblk _ (by split <;> decide) (by split <;> decide), hesc]
  obtain ⟨h1, h2, h3, h4, h5, h6⟩ := State.resetTrigger_settled (s.advanceTo due) ResetCause.wdt (State.calm_of (s.advanceTo_cores due) hc)
    (by rw [State.advanceTo_pwr]; exact hseq)
  refine ⟨_, exec_wdtExpire s, ?_⟩
  rw [hdue, State.wdtExpire, if_pos hgo]
  refine ⟨h1, by rw [h2, State.advanceTo_pwr], ?_, ?_, h4, h5, fun k hk hk' hl => ?_⟩
  · exact (h3 _ (by simp only [F.TKC.C_STATUS_STATE]; omega)).trans (hblk _ (by simp only [F.TKC.C_STATUS_STATE]; omega) (by simp only [F.TKC.C_STATUS_STATE]; omega))
  · exact (h3 _ (by decide)).trans (hblk _ (by decide) (by decide))
  · rw [h6 k hk hk' (by rw [State.advanceTo_aux]; exact hl), State.safeOut,
      hblk _ (by simp only [F.AUX.BIAS_SAFE_RANGE]; omega) (by simp only [F.AUX.BIAS_SAFE_RANGE]; omega),
      hblk _ (by simp only [F.AUX.BIAS_SAFE_CODE]; omega) (by simp only [F.AUX.BIAS_SAFE_CODE]; omega)]

end Sys2Proof.Machine
end

section
/-! SUPPORT. A message taken from an inbox, and the registers that show it in a core that reads (R417, R451). -/

namespace Sys2Proof.Machine
open Sys2Proof

/-! ## The read that takes a message (R451) -/

/-- The status of a read that takes a message with second word w1 (R447, R451). -/
def State.readStatus (s : State) (w1 : Nat) : Nat := if s.epochOf (w1 / 2 ^ 24 % 64) = w1 / 2 ^ 30 % 4 then Sync.ok else Sync.stale

/-- STALE_CNT after a read that takes a message with second word w1. -/
def State.staleCntAfter (s : State) (w1 : Nat) : Nat :=
  if s.epochOf (w1 / 2 ^ 24 % 64) = w1 / 2 ^ 30 % 4 then s.f F.MBX.MBX_CNT0_STALE_CNT else min (s.f F.MBX.MBX_CNT0_STALE_CNT + 1) 0xFFFF

/-- A message that carries an epoch other than its sender's answers STALE and is counted; another answers OK and is not. -/
theorem State.readStatus_cases (s : State) (w1 : Nat) (P : Nat → Nat → Prop) (h : P (s.readStatus w1) (s.staleCntAfter w1)) :
    (s.epochOf (w1 / 2 ^ 24 % 64) ≠ w1 / 2 ^ 30 % 4 → P 5 (min (s.f F.MBX.MBX_CNT0_STALE_CNT + 1) 0xFFFF)) ∧
      (¬ s.epochOf (w1 / 2 ^ 24 % 64) ≠ w1 / 2 ^ 30 % 4 → P 0 (s.f F.MBX.MBX_CNT0_STALE_CNT)) := by
  unfold State.readStatus State.staleCntAfter at h
  refine ⟨fun hs => ?_, fun hs => ?_⟩
  · rwa [if_neg hs, if_neg hs] at h
  · rwa [if_pos (Classical.not_not.1 hs), if_pos (Classical.not_not.1 hs)] at h

/-- A read that takes a message does not answer EMPTY. -/
theorem State.readStatus_ne_empty (s : State) (w1 : Nat) : s.readStatus w1 ≠ Sync.empty := by
  unfold State.readStatus
  split <;> decide

/-- The status fits RECV_STATUS. -/
theorem State.readStatus_lt (s : State) (w1 : Nat) : s.readStatus w1 < 16 := by
  unfold State.readStatus
  split <;> decide

@[simp] theorem State.inboxOf_setInbox_self (s : State) {g : Nat} (l : List (Nat × Nat)) (h : g < s.mbx.inbox.length) : (s.setInbox g l).inboxOf g = l := by
  simp [State.inboxOf, State.setInbox, setNth, List.getD_eq_getElem?_getD, h]

theorem State.inboxOf_congr {s t : State} (h : t.mbx = s.mbx) (g : Nat) : t.inboxOf g = s.inboxOf g := by rw [State.inboxOf, h, State.inboxOf]

/-- A read of an empty inbox answers EMPTY and changes nothing. -/
theorem State.recvTake_empty {s : State} {g : Nat} (h : s.inboxOf g = []) : s.recvTake g = (s, Sync.empty, 0, 0) := by
  simp only [State.recvTake, h]

/-- A read of an inbox that is not empty takes its oldest message whole. -/
theorem State.recvTake_oldest {s : State} {g w0 w1 : Nat} {l : List (Nat × Nat)} (h : s.inboxOf g = (w0, w1) :: l) :
    s.recvTake g = if s.epochOf (w1 / 2 ^ 24 % 64) = w1 / 2 ^ 30 % 4 then (s.setInbox g l, Sync.ok, w0, w1)
      else (((s.setInbox g l).inc F.MBX.MBX_CNT0_STALE_CNT).raise F.MBX.EVT_STALE, Sync.stale, w0, w1) := by
  have hb : bits w1 31 30 = w1 / 2 ^ 30 % 4 := rfl
  have hs : (s.setInbox g l).epochOf (bits w1 29 24) = s.epochOf (w1 / 2 ^ 24 % 64) := State.f_congr rfl _
  simp only [State.recvTake, h, hb, hs, beq_iff_eq, eq_comm (a := w1 / 2 ^ 30 % 4)]

/-- What a read that takes a message answers. -/
theorem State.recvTake_answer {s : State} {g w0 w1 : Nat} {l : List (Nat × Nat)} (h : s.inboxOf g = (w0, w1) :: l) :
    (s.recvTake g).2 = (s.readStatus w1, w0, w1) := by
  rw [State.recvTake_oldest h, State.readStatus]
  split <;> rfl

/-- A read that takes a message removes it from its inbox, and counts it where it is stale. -/
theorem State.recvTake_state {s : State} {g w0 w1 : Nat} {l : List (Nat × Nat)} (h : s.inboxOf g = (w0, w1) :: l) (hg : g < s.mbx.inbox.length) :
    (s.recvTake g).1.inboxOf g = l ∧ (s.recvTake g).1.f F.MBX.MBX_CNT0_STALE_CNT = s.staleCntAfter w1 := by
  have hf : (s.setInbox g l).f F.MBX.MBX_CNT0_STALE_CNT = s.f F.MBX.MBX_CNT0_STALE_CNT := State.f_congr rfl _
  rw [State.recvTake_oldest h, State.staleCntAfter]
  split
  · exact ⟨s.inboxOf_setInbox_self l hg, hf⟩
  · refine ⟨?_, ?_⟩
    · rw [State.inboxOf_congr (s := s.setInbox g l) (by simp), s.inboxOf_setInbox_self l hg]
    · rw [State.f_raise_ne _ _ _ (by decide) (by decide), State.f_inc_self _ _ (by decide), hf]
      rfl

/-- No read of an inbox reaches a core. -/
@[simp] theorem State.recvTake_cores (s : State) (g : Nat) : (s.recvTake g).1.cores = s.cores := by
  unfold State.recvTake
  split
  · rfl
  · extract_lets u
    split <;> simp [u, State.setInbox]

@[simp] theorem State.recvTake_core (s : State) (g n : Nat) : (s.recvTake g).1.core n = s.core n := by simp only [State.core, State.recvTake_cores]

/-! ## The registers of a receive (R417) -/

theorem Core.gReg_setG (c : Core) {i : Nat} (w : Word) (h : i < c.g.length) (j : Nat) : (c.setG i w).gReg j = if j = i then w else c.gReg j := by
  simp only [Core.gReg, Core.setG, setNth, List.getD_eq_getElem?_getD, List.getElem?_set, h, eq_comm (a := i), if_true]
  split <;> rfl

@[simp] theorem Core.setG_g_length (c : Core) (i : Nat) (w : Word) : (c.setG i w).g.length = c.g.length := List.length_set

@[simp] theorem Core.advance_gReg (c : Core) (i : Nat) : c.advance.gReg i = c.gReg i := by
  unfold Core.advance
  split <;> rfl

/-- A message shows its words in the pair and its status beside them. -/
theorem Core.recvRegs_message (c : Core) {gs ga st : Nat} (w0 w1 : Nat) (hl : c.g.length = 16) (hs : gs < 16) (ha : ga < 15) (h0 : gs ≠ ga) (h1 : gs ≠ ga + 1)
    (hst : st ≠ Sync.empty) :
    let d := c.recvRegs gs ga st w0 w1
    d.gReg gs = BitVec.ofNat 32 st ∧ d.gReg ga = BitVec.ofNat 32 w0 ∧ d.gReg (ga + 1) = BitVec.ofNat 32 w1 := by
  have hga : ga < c.g.length := by omega
  have hgb : ga + 1 < c.g.length := by omega
  have hgs : gs < c.g.length := by omega
  simp [Core.recvRegs, hst, Core.gReg_setG, hga, hgb, hgs, h0.symm, h1.symm]

/-- EMPTY leaves every register but that of the status. -/
theorem Core.recvRegs_empty (c : Core) {gs : Nat} (ga w0 w1 : Nat) (hs : gs < c.g.length) (j : Nat) :
    (c.recvRegs gs ga Sync.empty w0 w1).gReg j = if j = gs then 1 else c.gReg j := by
  simp only [Core.recvRegs, if_true, Core.gReg_setG _ _ hs]
  rfl

theorem Core.recvRegs_requests (c : Core) (gs ga st w0 w1 : Nat) :
    (c.recvRegs gs ga st w0 w1).stopReq = c.stopReq ∧ (c.recvRegs gs ga st w0 w1).stepping = c.stepping := by
  unfold Core.recvRegs
  split <;> exact ⟨rfl, rfl⟩

/-! ## The state in which an instruction has its effect -/

@[simp] theorem State.mbx_issuing (s : State) (n : Nat) : (s.issuing n).mbx = s.mbx := State.setF_mbx _ _ _

/-- Counting an issue leaves every field but that count. -/
theorem State.f_issuing (s : State) (n : Nat) (x : Fld) (h : (F.TKC.C_CNT0_ISSUE_CNT n).apart x) : (s.issuing n).f x = s.f x :=
  (State.f_setF_ne _ _ _ _ (Fld.ok_of _ rfl) h).trans (State.f_congr rfl x)

/-- No issue changes an epoch. -/
@[simp] theorem State.epochOf_issuing (s : State) (n g : Nat) : (s.issuing n).epochOf g = s.epochOf g := by
  refine s.f_issuing n _ (.inl ?_)
  unfold epochFld
  split
  · simp only [F.TKC.C_STATUS_EPOCH, F.TKC.C_CNT0_ISSUE_CNT]
    omega
  · simp only [F.MBX.HOST_CTRL_EPOCH, F.TKC.C_CNT0_ISSUE_CNT]
    omega

@[simp] theorem State.staleCnt_issuing (s : State) (n : Nat) : (s.issuing n).f F.MBX.MBX_CNT0_STALE_CNT = s.f F.MBX.MBX_CNT0_STALE_CNT :=
  s.f_issuing n _ (.inl (by simp only [F.MBX.MBX_CNT0_STALE_CNT, F.TKC.C_CNT0_ISSUE_CNT]; omega))

@[simp] theorem State.readStatus_issuing (s : State) (n w1 : Nat) : (s.issuing n).readStatus w1 = s.readStatus w1 := by simp [State.readStatus]

@[simp] theorem State.staleCntAfter_issuing (s : State) (n w1 : Nat) : (s.issuing n).staleCntAfter w1 = s.staleCntAfter w1 := by simp [State.staleCntAfter]

/-! ## What the end of a command leaves of the mailboxes -/

theorem State.mbx_settle (s : State) (h : s.calm) : s.settle.mbx = s.mbx := by
  have := congrArg State.mbx (State.inner_settle s h)
  exact this

theorem State.resp_settle (s : State) (h : s.calm) : s.settle.resp = s.resp := by
  have := congrArg State.resp (State.inner_settle s h)
  exact this

/-- The fields of MBX lie apart from what follows every command. -/
theorem State.f_settle_mbx (s : State) (h : s.calm) (x : Fld) (h1 : 0x100C0000 ≤ x.addr) (h2 : x.addr < 0x100D0000) : s.settle.f x = s.f x :=
  State.f_settle s h x (apart_trailing x (by omega))

end Sys2Proof.Machine
end

section
/-! PROOFS. The reads of an inbox by RECV and RECVW of a core, and by a host (R451, R467). -/

namespace Sys2Proof.Machine
open Sys2Proof

/-! ## Reads by a core -/

theorem exec_iRecv (n gs ga : Nat) (s : State) : exec (.iRecv n gs ga) s = .next (s.coreIssue n (.recv gs ga)).settle := rfl
theorem exec_iRecvw (n gs ga : Nat) (s : State) : exec (.iRecvw n gs ga) s = .next (s.coreIssue n (.recvw gs ga)).settle := rfl

/-- RECVW of a core that resumes no wait takes a message as RECV does. -/
theorem State.issueRecvw_eq_issueRecv (s : State) {n : Nat} (gs ga : Nat) (hw : (s.core n).wait = none) (hg : (s.core n).got = none) (hb : s.inboxOf n ≠ []) :
    s.issueRecvw n gs ga = s.issueRecv n gs ga := by
  have hsame : ({ s.core n with wait := none, got := none } : Core) = s.core n := by rw [← hw, ← hg]
  simp only [State.issueRecvw, State.issueRecv, State.modCore, hg, ite_self, hb, Bool.not_eq_true', State.recvTake_core, hsame,
    List.isEmpty_eq_false_iff, ne_eq, not_false_eq_true, if_true]

/-- RECV and RECVW by a core that stands in no wait, whose inbox holds a message, have one effect. -/
theorem State.reads_alike (s : State) {n gs ga : Nat} (hw : (s.core n).wait = none) (hg : (s.core n).got = none) (hb : s.inboxOf n ≠ []) :
    ∀ x ∈ [(Instr.iRecv n gs ga, Op.recv gs ga), (.iRecvw n gs ga, .recvw gs ga)],
      exec x.1 s = .next (s.coreIssue n x.2).settle ∧ (s.issuing n).execOp n x.2 false = (s.issuing n).issueRecv n gs ga := by
  intro x hx
  simp only [List.mem_cons, List.not_mem_nil, or_false] at hx
  rcases hx with rfl | rfl
  · exact ⟨exec_iRecv .., rfl⟩
  · refine ⟨exec_iRecvw .., State.issueRecvw_eq_issueRecv _ gs ga ?_ ?_ ?_⟩
    · exact (congrArg Core.wait (s.core_issuing n)).trans hw
    · exact (congrArg Core.got (s.core_issuing n)).trans hg
    · rwa [State.inboxOf_congr (s.mbx_issuing n)]

/-- Core n after a receive that answered r. -/
def State.received (s : State) (n gs ga : Nat) (r : Nat × Nat × Nat) : Core := (((s.core n).passIssues 1).recvRegs gs ga r.1 r.2.1 r.2.2).advance

/-- A ready core that receives ends its issue with the inbox read and the answer in its registers. -/
theorem State.coreIssue_recv (s : State) {n gs ga : Nat} {o : Op} (hr : s.readyFor n o) (ho : (s.issuing n).execOp n o false = (s.issuing n).issueRecv n gs ga) :
    s.coreIssue n o = ((s.issuing n).recvTake n).1.setCore n (s.received n gs ga ((s.issuing n).recvTake n).2) ∧
      ∀ r, (s.received n gs ga r).stepping = false := by
  obtain ⟨-, -, -, -, -, -, -, hstep, hstop⟩ := hr.1
  have hreq : ∀ r, (s.received n gs ga r).stopReq = false ∧ (s.received n gs ga r).stepping = false := fun r => by
    obtain ⟨h1, h2⟩ := ((s.core n).passIssues 1).recvRegs_requests gs ga r.1 r.2.1 r.2.2
    exact ⟨(Core.advance_stopReq _).trans (h1.trans hstop), (Core.advance_stepping _).trans (h2.trans hstep)⟩
  refine ⟨?_, fun r => (hreq r).2⟩
  calc s.coreIssue n o = ((s.issuing n).execOp n o false).afterIssue n := State.coreIssueWith_ready s n o false hr
    _ = (((s.issuing n).recvTake n).1.setCore n (s.received n gs ga ((s.issuing n).recvTake n).2)).afterIssue n := by
      rw [ho, State.issueRecv, State.modCore, State.recvTake_core, State.core_issuing, State.received]
    _ = _ := State.afterIssue_setCore _ n (hreq _).1 (hreq _).2

/-- How such a command ends: the core holds the answer, and the mailboxes and their fields are those that the read of the inbox left. -/
theorem State.settle_recv (s : State) {n gs ga : Nat} {o : Op} (hc : s.calm) (hn : n < s.cores.length) (hr : s.readyFor n o)
    (ho : (s.issuing n).execOp n o false = (s.issuing n).issueRecv n gs ga) :
    let t := (s.coreIssue n o).settle
    let r := (s.issuing n).recvTake n
    t.core n = s.received n gs ga r.2 ∧ t.mbx = r.1.mbx ∧ t.f F.MBX.MBX_CNT0_STALE_CNT = r.1.f F.MBX.MBX_CNT0_STALE_CNT := by
  obtain ⟨hi, hstep⟩ := s.coreIssue_recv hr ho
  obtain ⟨-, -, -, -, -, -, -, hs, -⟩ := hr.1
  have hcalm := State.calm_setCore (n := n) (State.calm_of ((s.issuing n).recvTake_cores n) (State.issuing_calm hc hs)) (hstep ((s.issuing n).recvTake n).2)
  simp only [hi]
  refine ⟨?_, State.mbx_settle _ hcalm, ?_⟩
  · rw [State.core_settle _ hcalm, State.core_setCore_self _ _ _ (by simpa using hn)]
  · exact (State.f_settle_mbx _ hcalm _ (by decide) (by decide)).trans (State.f_congr rfl _)

/-- A receive that takes a message: it comes whole with its status, is removed, and is counted where it is stale. -/
theorem State.recv_message (s : State) {n gs ga w0 w1 : Nat} {rest : List (Nat × Nat)} {o : Op} (hc : s.calm) (hn : n < s.cores.length)
    (hb : n < s.mbx.inbox.length) (hl : (s.core n).g.length = 16) (hgs : gs < 16) (hga : ga < 15) (h0 : gs ≠ ga) (h1 : gs ≠ ga + 1) (hr : s.readyFor n o)
    (hm : s.inboxOf n = (w0, w1) :: rest) (ho : (s.issuing n).execOp n o false = (s.issuing n).issueRecv n gs ga) :
    let t := (s.coreIssue n o).settle
    (t.core n).gReg gs = BitVec.ofNat 32 (s.readStatus w1) ∧ (t.core n).gReg ga = BitVec.ofNat 32 w0 ∧ (t.core n).gReg (ga + 1) = BitVec.ofNat 32 w1 ∧
      t.inboxOf n = rest ∧ t.f F.MBX.MBX_CNT0_STALE_CNT = s.staleCntAfter w1 := by
  have hm' : (s.issuing n).inboxOf n = (w0, w1) :: rest := (State.inboxOf_congr (s.mbx_issuing n) n).trans hm
  obtain ⟨hcore, hmbx, hcnt⟩ := s.settle_recv hc hn hr ho
  obtain ⟨hrest, hstale⟩ := State.recvTake_state hm' (by simpa using hb)
  obtain ⟨hs, ha, hb⟩ := ((s.core n).passIssues 1).recvRegs_message w0 w1 hl hgs hga h0 h1 (s.readStatus_ne_empty w1)
  refine ⟨?_, ?_, ?_, (State.inboxOf_congr hmbx n).trans hrest, hcnt.trans (hstale.trans (s.staleCntAfter_issuing n w1))⟩ <;>
    simp only [hcore, State.received, State.recvTake_answer hm', State.readStatus_issuing, Core.advance_gReg]
  · exact hs
  · exact ha
  · exact hb

/-- RECV of an empty inbox: its status register says EMPTY, and every other register and the mailboxes stay. -/
theorem State.recv_empty (s : State) {n gs ga : Nat} (hc : s.calm) (hn : n < s.cores.length) (hl : gs < (s.core n).g.length) (hr : s.readyFor n (.recv gs ga))
    (he : s.inboxOf n = []) :
    let t := (s.coreIssue n (.recv gs ga)).settle
    (∀ j, (t.core n).gReg j = if j = gs then 1 else (s.core n).gReg j) ∧ t.f F.MBX.MBX_CNT0_STALE_CNT = s.f F.MBX.MBX_CNT0_STALE_CNT ∧ t.mbx = s.mbx := by
  have hr0 := State.recvTake_empty ((State.inboxOf_congr (s.mbx_issuing n) n).trans he)
  obtain ⟨hcore, hmbx, hcnt⟩ := s.settle_recv hc hn hr rfl
  rw [hr0] at hcore hmbx hcnt
  refine ⟨fun j => ?_, hcnt.trans (s.staleCnt_issuing n), hmbx.trans (s.mbx_issuing n)⟩
  rw [hcore, State.received, Core.advance_gReg]
  exact ((s.core n).passIssues 1).recvRegs_empty ga 0 0 hl j

/-! ## Reads by a host (R467) -/

/-- A read of RECV_META by the host that owns it: the status shows in RECV_STATUS, and the word is that of the message. -/
theorem exec_hostRecv_own (s : State) {h : Nat} (hh : h < 2) (hs : s.serves (34 + h) (A.MBX.RECV_META h) false) :
    exec (.hostRecv (34 + h) h) s =
      .next ((((s.recvTake (34 + h)).1.setF (F.MBX.RECV_STATUS_CODE h) (s.recvTake (34 + h)).2.1).ok (s.recvTake (34 + h)).2.2.2).settle) := by
  have hx : exec (.hostRecv (34 + h) h) s = s.rd (decide (h < 2)) (34 + h) (A.MBX.RECV_META h) (·.hostRecv (34 + h) h) := rfl
  rw [hx, State.rd_serves s _ _ _ _ (decide_eq_true hh) hs, State.hostRecv, if_pos rfl]

/-- How such a command ends: the status shows in RECV_STATUS beside the answer, and what the read of the inbox left stays. -/
theorem State.settle_hostRecv (u : State) {h code w : Nat} (hc : u.calm) (hh : h < 2) (hcode : code < 16) :
    let t := ((u.setF (F.MBX.RECV_STATUS_CODE h) code).ok w).settle
    t.f (F.MBX.RECV_STATUS_CODE h) = code ∧ t.resp = { err := 0, data := w } ∧ t.mbx = u.mbx ∧
      t.f F.MBX.MBX_CNT0_STALE_CNT = u.f F.MBX.MBX_CNT0_STALE_CNT := by
  have hcalm := State.calm_of ((State.ok_cores (u.setF (F.MBX.RECV_STATUS_CODE h) code) w).trans (State.setF_cores _ _ _)) hc
  have hok : (F.MBX.RECV_STATUS_CODE h).ok := Fld.ok_of _ rfl
  refine ⟨?_, ?_, ?_, ?_⟩
  · rw [State.f_settle_mbx _ hcalm _ (by simp only [F.MBX.RECV_STATUS_CODE]; omega) (by simp only [F.MBX.RECV_STATUS_CODE]; omega),
      State.f_congr (State.ok_regs _ w), State.f_setF_self u _ code hok]
    exact Nat.mod_eq_of_lt hcode
  · rw [State.resp_settle _ hcalm, State.ok]
  · rw [State.mbx_settle _ hcalm, State.ok_mbx, State.setF_mbx]
  · rw [State.f_settle_mbx _ hcalm _ (by decide) (by decide), State.f_congr (State.ok_regs _ w)]
    exact State.f_setF_ne u _ _ _ hok (.inl (by simp only [F.MBX.RECV_STATUS_CODE, F.MBX.MBX_CNT0_STALE_CNT]; omega))

/-- A register access of an agent that is served passes the gate. -/
theorem State.gate_serves {s : State} {agent a : Nat} {write : Bool} (g : State → State) (h : s.serves agent a write) : s.gate agent a 4 write g = g s := by
  obtain ⟨-, hun, hca⟩ := h
  simp [State.gate, hun, hca]

theorem State.readReg_recvPtr (s : State) (agent : Nat) {h : Nat} (hh : h < 2) :
    s.readReg agent (A.MBX.RECV_PTR h) = s.ok (((s.inboxOf (34 + h)).head?.map (·.1)).getD 0) := by
  have hcase : h = 0 ∨ h = 1 := by omega
  rcases hcase with rfl | rfl <;> rfl

/-- RECV_PTR reads the first word of the oldest message. -/
theorem State.busRead_recvPtr (s : State) {agent h w0 w1 : Nat} {l : List (Nat × Nat)} (hh : h < 2) (hs : s.serves agent (A.MBX.RECV_PTR h) false)
    (hm : s.inboxOf (34 + h) = (w0, w1) :: l) : (s.busRead agent (A.MBX.RECV_PTR h) 4).resp = { err := 0, data := w0 } := by
  have ha : A.MBX.RECV_PTR h = 0x100C010C + 0x40 * h := rfl
  have hown : ownData agent (A.MBX.RECV_PTR h) = A.MBX.RECV_PTR h := if_neg (by omega)
  have hin : inRegs (A.MBX.RECV_PTR h) = true := by
    simp only [inRegs, Bool.and_eq_true, decide_eq_true_eq]
    omega
  simp only [State.busRead, hown, hin, if_true, State.gate_serves _ hs, s.readReg_recvPtr agent hh, hm]
  rfl

/-- A host that takes a message: RECV_STATUS shows its status, the answer is its second word, it is removed, and it is counted where it is stale. -/
theorem State.hostRecv_message (s : State) {h w0 w1 : Nat} {rest : List (Nat × Nat)} (hc : s.calm) (hh : h < 2) (hb : 34 + h < s.mbx.inbox.length)
    (hs : s.serves (34 + h) (A.MBX.RECV_META h) false) (hm : s.inboxOf (34 + h) = (w0, w1) :: rest) :
    ∃ t, exec (.hostRecv (34 + h) h) s = .next t ∧ t.f (F.MBX.RECV_STATUS_CODE h) = s.readStatus w1 ∧ t.resp = { err := 0, data := w1 } ∧
      t.inboxOf (34 + h) = rest ∧ t.f F.MBX.MBX_CNT0_STALE_CNT = s.staleCntAfter w1 := by
  obtain ⟨hrest, hstale⟩ := State.recvTake_state hm hb
  obtain ⟨h1, h2, h3, h4⟩ := (s.recvTake (34 + h)).1.settle_hostRecv (w := w1) (State.calm_of (s.recvTake_cores _) hc) hh (s.readStatus_lt w1)
  refine ⟨_, exec_hostRecv_own s hh hs, ?_⟩
  rw [State.recvTake_answer hm]
  exact ⟨h1, h2, (State.inboxOf_congr h3 _).trans hrest, h4.trans hstale⟩

/-- A host that reads its empty inbox: RECV_STATUS shows EMPTY, and the mailboxes stay. -/
theorem State.hostRecv_empty (s : State) {h : Nat} (hc : s.calm) (hh : h < 2) (hs : s.serves (34 + h) (A.MBX.RECV_META h) false)
    (he : s.inboxOf (34 + h) = []) :
    ∃ t, exec (.hostRecv (34 + h) h) s = .next t ∧ t.f (F.MBX.RECV_STATUS_CODE h) = 1 ∧ t.mbx = s.mbx ∧
      t.f F.MBX.MBX_CNT0_STALE_CNT = s.f F.MBX.MBX_CNT0_STALE_CNT := by
  obtain ⟨h1, -, h3, h4⟩ := s.settle_hostRecv (h := h) (code := Sync.empty) (w := 0) hc hh (by decide)
  refine ⟨_, exec_hostRecv_own s hh hs, ?_⟩
  rw [State.recvTake_empty he]
  exact ⟨h1, h3, h4⟩

/-- Settles O58: RECV and RECVW reach the inbox by one read, that of `recvTake`, and so does the host; what it leaves lasts through the end of the command. -/
theorem inboxReads : Obligations.InboxReads := by
  unfold Obligations.InboxReads
  intro s n h gs ga w0 w1 rest g stale counted same whole reads me hc hb hn hl hgs hga h0 h1
  refine ⟨fun x hx hr hw hg hm => ?_, fun hr _ _ he => ?_, fun hh hb' hs hp => ⟨fun hm => ⟨s.busRead_recvPtr hh hp hm, ?_⟩, s.hostRecv_empty hc hh hs⟩⟩
  · obtain ⟨hx, ho⟩ := s.reads_alike hw hg (by simp [hm]) x hx
    obtain ⟨hgs', hga', hgb', hrest, hcnt⟩ := s.recv_message hc hn hb hl hgs hga h0 h1 hr hm ho
    exact s.readStatus_cases w1 (fun st cnt => ∃ t, exec x.1 s = .next t ∧ g t gs = BitVec.ofNat 32 st ∧ whole t ∧ t.f F.MBX.MBX_CNT0_STALE_CNT = cnt)
      ⟨_, hx, hgs', ⟨hga', hgb', hrest⟩, hcnt⟩
  · obtain ⟨hreg, hcnt, hmbx⟩ := s.recv_empty hc hn (by omega) hr he
    exact ⟨_, exec_iRecv .., (hreg gs).trans (if_pos rfl), (hreg ga).trans (if_neg h0.symm), (hreg _).trans (if_neg h1.symm), hcnt, hmbx⟩
  · exact s.readStatus_cases w1 (fun st cnt => ∃ t, exec (.hostRecv me h) s = .next t ∧ t.f (F.MBX.RECV_STATUS_CODE h) = st ∧
      t.resp = { err := 0, data := w1 } ∧ t.inboxOf me = rest ∧ t.f F.MBX.MBX_CNT0_STALE_CNT = cnt) (s.hostRecv_message hc hh hb' hs hm)

end Sys2Proof.Machine
end

section
/-! SUPPORT. A word as a bit vector, and an agent that is served through the end of a command (R574, R575, R606). -/

namespace Sys2Proof.Machine
open Sys2Proof

/-- The two's-complement code of an integer is the bit vector of that width. -/
theorem code_eq_ofInt (w : Nat) (i : Int) : code w i = (BitVec.ofInt w i).toNat := (BitVec.toNat_ofInt i).symm

/-- Whether an agent is served, and at which registers, rests on the sequences of the power controller, the domains, and the fields of PWR. -/
theorem State.serves_congr {s t : State} (hp : t.pwr = s.pwr) (hd : t.doms = s.doms) (hf : ∀ x : Fld, blkOf x.addr = 1 → t.f x = s.f x)
    (agent a : Nat) (write : Bool) : t.serves agent a write ↔ s.serves agent a write := by
  have hmode : t.mode = s.mode := hf _ rfl
  have hdepth : t.depth = s.depth := hf _ rfl
  have hrest : t.f F.PWR.REST_STATUS_STATE = s.f F.PWR.REST_STATUS_STATE := hf _ rfl
  have hdom : ∀ d, t.domOn d = s.domOn d := fun d => by rw [State.domOn, hd, State.domOn]
  have hlost : ∀ d, t.domLost agent d = s.domLost agent d := fun d => by
    rw [State.domLost, hdom, State.bivouacCommitted, hrest, hdepth, State.domLost, State.bivouacCommitted]
  have hun : t.unserved agent = s.unserved agent := by rw [State.unserved, hp, hmode, State.unserved]
  have hcause : t.regCause agent a 4 write = s.regCause agent a 4 write := by rw [State.regCause, hlost, hdom, State.regCause]
  rw [State.serves, hun, hcause, State.serves]

theorem State.pwr_settle (s : State) (h : s.calm) : s.settle.pwr = s.pwr := by
  have := congrArg State.pwr (State.inner_settle s h)
  exact this

theorem State.doms_settle (s : State) (h : s.calm) : s.settle.doms = s.doms := by
  have := congrArg State.doms (State.inner_settle s h)
  exact this

theorem State.hk_settle (s : State) (h : s.calm) : s.settle.hk = s.hk := by
  have := congrArg State.hk (State.inner_settle s h)
  exact this

/-- What follows every command takes no service from an agent, and gives it none. -/
theorem State.serves_settle (s : State) (h : s.calm) (agent a : Nat) (write : Bool) : s.settle.serves agent a write ↔ s.serves agent a write := by
  refine State.serves_congr (s.pwr_settle h) (s.doms_settle h) (fun x hx => State.f_settle s h x (apart_trailing x ?_)) agent a write
  simp only [blkOf] at hx
  omega

/-- A direct read of a register of the blocks by an agent that is served there is the read of the register. -/
theorem State.busRead_serves {s : State} {agent a : Nat} (hlo : 0x10000000 ≤ a) (hhi : a < 0x101C0000) (hs : s.serves agent a false) :
    s.busRead agent a 4 = s.readReg agent a := by
  have hown : ownData agent a = a := if_neg (by omega)
  have hin : inRegs a = true := by simp [inRegs, hlo, hhi]
  simp only [State.busRead, hown, hin, if_true, State.gate_serves _ hs]

end Sys2Proof.Machine
end

section
/-! PROOFS. A harvest reads and clears its accumulator and fills the latch of the reading agent (R538). -/

namespace Sys2Proof.Machine
open Sys2Proof

/-! ## What a harvest does -/

/-- What a harvest of accumulator k copies into the latch of its reader. -/
def State.harvestLatch (s : State) (k : Nat) : HkLatch :=
  let a := s.hk.accs.getD k {}
  { acc := k, count := a.count, ovf := a.ovf, min := if a.count = 0 then 0 else a.min, max := if a.count = 0 then 0 else a.max }

theorem State.harvest_resp (s : State) (agent k : Nat) :
    (s.harvest agent k).resp = { err := 0, data := (BitVec.ofInt 32 (s.hk.accs.getD k {}).sum).toNat } := by
  rw [← code_eq_ofInt]
  rfl

theorem State.harvest_accs (s : State) (agent k : Nat) : (s.harvest agent k).hk.accs = setNth s.hk.accs k {} := rfl

theorem State.harvest_latch (s : State) (agent k : Nat) : (s.harvest agent k).hk.latch = Store.insert s.hk.latch agent (s.harvestLatch k) := rfl

theorem State.harvest_calm {s : State} (h : s.calm) (agent k : Nat) : (s.harvest agent k).calm := State.calm_of (s := s) rfl h

theorem State.serves_harvest (s : State) (reader k agent a : Nat) (write : Bool) :
    (s.harvest reader k).serves agent a write ↔ s.serves agent a write :=
  State.serves_congr (s := s) rfl rfl (fun x _ => State.f_congr rfl x) agent a write

/-! ## What the latches show -/

/-- The latch of the reader holds what the harvest copied. -/
theorem State.harvest_latch_reader (s : State) (agent k : Nat) : Store.get (s.harvest agent k).hk.latch {} agent = s.harvestLatch k := by
  rw [State.harvest_latch, Store.get, Store.find?_insert_self, Option.getD_some]

/-- The latch of another agent stays. -/
theorem State.harvest_latch_other (s : State) {agent other : Nat} (k : Nat) (h : other ≠ agent) :
    Store.get (s.harvest agent k).hk.latch {} other = Store.get s.hk.latch {} other := by
  rw [State.harvest_latch, Store.get, Store.find?_insert_ne _ _ h, Store.get]

theorem State.hvCnt_congr {s t : State} {g : Nat} (h : Store.get t.hk.latch {} g = Store.get s.hk.latch {} g) : t.hvCnt g = s.hvCnt g := by
  simp only [State.hvCnt, h]

theorem State.hvMinMax_congr {s t : State} {g : Nat} (h : Store.get t.hk.latch {} g = Store.get s.hk.latch {} g) : t.hvMinMax g = s.hvMinMax g := by
  simp only [State.hvMinMax, h]

/-- HV_CNT of the reader shows OVF, the accumulator and COUNT. -/
theorem State.hvCnt_harvest (s : State) (agent k : Nat) :
    (s.harvest agent k).hvCnt agent = (if (s.hk.accs.getD k {}).ovf then 2 ^ 31 else 0) + 2 ^ 24 * k + (s.hk.accs.getD k {}).count := by
  simp only [State.hvCnt, State.harvest_latch_reader, State.harvestLatch, b2n]
  split
  · rfl
  · rfl

/-- HV_MINMAX of the reader shows MAX and MIN, and 0 where nothing was counted. -/
theorem State.hvMinMax_harvest (s : State) (agent k : Nat) :
    let a := s.hk.accs.getD k {}
    (s.harvest agent k).hvMinMax agent = if a.count = 0 then 0 else 2 ^ 16 * (BitVec.ofInt 16 a.max).toNat + (BitVec.ofInt 16 a.min).toNat := by
  simp only [State.hvMinMax, State.harvest_latch_reader, State.harvestLatch, code_eq_ofInt]
  split
  · rfl
  · rfl

theorem State.readReg_hvCnt (s : State) (agent : Nat) : s.readReg agent A.HKA.HV_CNT = s.ok (s.hvCnt agent) := rfl

theorem State.readReg_hvMinMax (s : State) (agent : Nat) : s.readReg agent A.HKA.HV_MINMAX = s.ok (s.hvMinMax agent) := rfl

/-! ## The command -/

/-- A harvest by an agent that is served acts. -/
theorem exec_harvest_serves (s : State) {agent k : Nat} (hk : k < 64) (hs : s.serves agent (A.HKA.HARVEST k) false) :
    exec (.harvest agent k) s = .next (s.harvest agent k).settle := by
  have hx : exec (.harvest agent k) s = s.rd (decide (k < 64)) agent (A.HKA.HARVEST k) (·.harvest agent k) := rfl
  rw [hx, State.rd_serves s _ _ _ _ (decide_eq_true hk) hs]

/-- Settles O59: the accumulators and latches that a harvest leaves last through the end of the command, and so does the service of its reader. -/
theorem harvests : Obligations.Harvests := by
  unfold Obligations.Harvests
  intro s agent other k hc hk _ hs hcnt hmm a half _
  have hcalm := State.harvest_calm hc agent k
  have hhk := State.hk_settle _ hcalm
  have latch : ∀ g, Store.get (s.harvest agent k).settle.hk.latch {} g = Store.get (s.harvest agent k).hk.latch {} g := fun g => by rw [hhk]
  have served : ∀ r, s.serves agent r false → (s.harvest agent k).settle.serves agent r false := fun r h =>
    (State.serves_settle _ hcalm agent r false).2 ((s.serves_harvest agent k agent r false).2 h)
  refine ⟨_, exec_harvest_serves s hk hs, ?_, ?_, ?_, ?_, fun hne => ?_⟩
  · rw [State.resp_settle _ hcalm, State.harvest_resp]
  · rw [hhk, State.harvest_accs]
  · rw [State.busRead_serves (by decide) (by decide) (served _ hcnt), State.readReg_hvCnt, State.hvCnt_congr (latch agent), State.hvCnt_harvest, State.ok]
  · rw [State.busRead_serves (by decide) (by decide) (served _ hmm), State.readReg_hvMinMax, State.hvMinMax_congr (latch agent), State.hvMinMax_harvest, State.ok]
  · have hother := (latch other).trans (s.harvest_latch_other k hne)
    exact ⟨State.hvCnt_congr hother, State.hvMinMax_congr hother⟩

end Sys2Proof.Machine
end
